-- ==== Sys2Proof/Word.lean ====
section
/-! DEFINITION. The byte and word types of the JXG-7264 and their plainest arithmetic (spec/00 R4-R7). -/
namespace Sys2Proof

/-- One byte of a packet, a record or a memory. -/
abbrev Byte := BitVec 8

/-- 2^16, 2^32 and 2^64: the moduli of the u16, u32 and u64 encodings (R6). -/
abbrev m16 : Nat := 65536
abbrev m32 : Nat := 4294967296
abbrev m64 : Nat := 18446744073709551616

/-- A counter that saturates at the largest u32 (R23, R30). -/
def satAdd32 (a b : Nat) : Nat := min (a + b) (m32 - 1)

/-- A counter that saturates at the largest u16. -/
def satAdd16 (a b : Nat) : Nat := min (a + b) (m16 - 1)

/-- A value saturated at the largest u16 (DETAIL fields of Table 4-25). -/
def sat16 (a : Nat) : Nat := min a (m16 - 1)

/-- A value saturated at the largest u32. -/
def sat32 (a : Nat) : Nat := min a (m32 - 1)

/-- Bit `i` of `n` (R5). -/
def bit (n i : Nat) : Bool := n.testBit i

/-- Bits [hi:lo] of `n`, both ends included (R5). -/
def bits (n hi lo : Nat) : Nat := (n >>> lo) % 2 ^ (hi - lo + 1)

/-- 1 or 0. -/
def b2n (b : Bool) : Nat := if b then 1 else 0

/-- Ceiling division. -/
def ceilDiv (a b : Nat) : Nat := (a + b - 1) / b

/-- The two's complement reading of a `w`-bit field (R113, "Signed quantity"). -/
def signed (w n : Nat) : Int := if n % 2 ^ w < 2 ^ (w - 1) then Int.ofNat (n % 2 ^ w) else Int.ofNat (n % 2 ^ w) - Int.ofNat (2 ^ w)

/-- The `w`-bit two's complement field of an integer. -/
def unsigned (w : Nat) (i : Int) : Nat := (i % (2 ^ w : Int)).toNat

/-- Saturate an integer to the `w`-bit signed range. -/
def satS (w : Nat) (i : Int) : Int := max (-(2 ^ (w - 1) : Int)) (min i ((2 ^ (w - 1) : Int) - 1))

/-- Nanoseconds in a second, and in a Stitch (R16). -/
abbrev nsPerSec : Nat := 1000000000
abbrev stitchNs : Nat := 500000

end Sys2Proof
end

