-- ==== Sys2Proof/Syntax.lean ====
section
/-! DEFINITION. The commands of the block: one constructor per row of spec/opcode_table.json.
Every row carries the elapsed instant `t` (ns on the counter of R325) at which it happens. A row of a host command
carries the request packet; a row of an event carries what only the outside can tell (packet contents, measured values,
pin levels, samples of coded pictures). -/
namespace Sys2Proof

/-- The transports of spec/03: PCIe rings, the SPI command port, the SAFETY SPI port and the UDP channel. -/
inductive Transport where
  | pcie | spi | safetySpi | network
deriving DecidableEq, Repr

/-- A request packet (Table 3-1) and the place it came from. LEN is 16 + the payload's length. -/
structure Request where
  transport : Transport := .spi
  /-- PCIe: the submission queue it is taken from. -/
  queue : Nat := 0
  /-- Network: source address, source UDP port, receiving network port (0-4), and SEQ. -/
  peer : Nat := 0
  udp : Nat := 0
  port : Nat := 0
  seq : Nat := 0
  tag : Nat := 0
  txn : Nat := 0
  flags : Nat := 1
  session : Nat := 0
  stitch : Nat := 0
  payload : List Byte := []
deriving DecidableEq, Repr

/-- A submission entry (Table 3-3) as the device reads it from host memory, with the packet it points to. -/
structure SqEntry where
  control : Nat
  length : Nat
  address : Nat
  inline : List Byte
  /-- The bytes at ADDRESS, when INDIRECT. -/
  indirect : List Byte
deriving DecidableEq, Repr

/-! ### Ingest operands (spec/06) -/

/-- What a sequence parameter set declares (R168, R518). -/
structure SpsInfo where
  /-- H.264: profile_idc, constraint_set0/1; HEVC: general_profile_idc, compatibility flags 1 and 2. -/
  profileIdc : Nat
  flagA : Bool
  flagB : Bool
  level : Nat
  bitDepth : Nat
  width : Nat
  height : Nat
  /-- Output size after the conformance window. -/
  cropX : Nat
  cropY : Nat
  outWidth : Nat
  outHeight : Nat
  /-- The DPB size it declares, if it declares one. -/
  dpb : Option Nat
  frameMbsOnly : Bool
  /-- A coding tool outside Table 7-1 (its code), 0 = none. -/
  tool : Nat
  /-- chroma_format_idc: 0 4:0:0, 1 4:2:0, 2 4:2:2, 3 4:4:4 (R167). -/
  chroma : Nat := 1
  /-- Pictures that may precede a picture in decoding order and follow it in output order, and the limit of its output
  latency in pictures, if there is one (the bumping process, R177). -/
  reorder : Nat := 0
  maxLatency : Option Nat := none
  /-- What its VUI says of colour (Table 9-3): chroma sample location type, matrix (0 BT.709, 1 BT.601, 2 BT.2020), full range. -/
  chromaLoc : Nat := 0
  matrix : Nat := 0
  fullRange : Bool := false
deriving DecidableEq, Repr

/-- Samples of a picture or of some of its rows in raster order. -/
structure Samples where
  y : List Nat := []
  cb : List Nat := []
  cr : List Nat := []
deriving DecidableEq, Repr

/-- An SEI message of an access unit: its payloadType and its payload (R199). -/
structure SeiMsg where
  payloadType : Nat
  bytes : List Byte
deriving DecidableEq, Repr

/-- What the bitstream of an access unit says of its picture; the spec refers to the codecs' standards for its syntax. -/
structure AuInfo where
  bytes : Nat
  sps : Option SpsInfo
  /-- A parameter set it refers to and that was not received: kind of Table 7-12 code 4, identifier. -/
  missingPs : Option (Nat × Nat)
  /-- IDR or IRAP picture; CRA; RASL of the CRA before it. -/
  start : Bool
  cra : Bool
  rasl : Bool
  /-- Recovery point SEI: frame_num (H.264) or POC (HEVC) of R. -/
  recovery : Option Int
  poc : Int
  frameNum : Int
  /-- Used for reference: 0 no, 1 short-term, 2 long-term. -/
  refKind : Nat
  /-- Pictures it needs, by frame_num (H.264) or POC (HEVC), with the POC each precedes or follows. -/
  refs : List (Int × Int)
  /-- POCs that stop being references before it is decoded. -/
  dropRefs : List Int
  /-- It empties the DPB before it is decoded (an IDR picture, an IRAP picture that starts a sequence): whether pictures not
  yet output are then discarded. And whether it is output at all (R177). -/
  emptiesDpb : Option Bool := none
  output : Bool := true
  /-- TemporalId above 0 (HEVC) or nal_ref_idc 0 (H.264): skipped under R181. -/
  skippable : Bool
  field : Bool
  /-- Bins of each CTU or macroblock row in decode order (R180). -/
  rowBins : List Nat
  /-- CTU size in luma samples (16 for macroblocks). -/
  ctu : Nat
  /-- First CTU row and number of CTU rows of each slice; whether each slice covers whole rows of a single tile; whether the
  stream reorders pictures (R277). -/
  slices : List (Nat × Nat)
  byRows : Bool
  reorders : Bool
  /-- The SEI messages of its SEI NAL units, in their order (R199). -/
  seis : List SeiMsg
deriving DecidableEq, Repr

/-- An RTP packet's header (the parts the spec reads) and what of the picture it carries. -/
structure RtpPkt where
  pt : Nat
  ssrc : Nat
  seq : Nat
  ts : Nat
  marker : Bool
  au : Option AuInfo
  /-- The slice of its picture that it belongs to, and whether it ends it (R282). -/
  slice : Nat
  endsSlice : Bool
  /-- TYPE 4: the samples, frame by frame, each a list over the channels. -/
  audio : List (List Int)
  /-- Its place in a fragmentation unit: 0 none, 1 first, 2 middle, 3 last (R154). -/
  fragment : Nat := 0
  /-- TYPE 3: the payload after the RTP header (RFC 4175, R157). -/
  raw : List Byte := []
deriving DecidableEq, Repr

/-- What an arriving frame carries above UDP. -/
inductive PktBody where
  | rtp (p : RtpPkt)
  /-- RTCP: sender SSRC; sender report with NTP time (ns in the NTP era) and RTP timestamp. -/
  | rtcp (ssrc : Nat) (sr : Option (Nat × Nat))
  /-- Another frame: known to a control protocol or not. -/
  | other (known : Bool)
  /-- A Pdelay_Req of a PTP node (R318): domainNumber, transport (0 IPv4, 1 IPv6, 2 802.3) and the requester's identity. -/
  | pdelayReq (number transport requester : Nat)
deriving DecidableEq, Repr

/-- A frame arriving on an ETH or RGMII port. Its raw time-stamp is the instant of the row. -/
structure Packet where
  port : Nat
  frameLen : Nat
  fcsOk : Bool
  /-- 0 = untagged. -/
  vlan : Nat
  dst : Nat
  udpDst : Nat
  src : Nat
  udpSrc : Nat
  /-- RS-FEC on this frame: corrected codewords, uncorrectable codewords, symbols corrected. -/
  fec : Nat × Nat × Nat
  body : PktBody
deriving DecidableEq, Repr

/-- The end of a port's search window (R140): the port, and when the block lock that holds then was acquired. -/
structure LockWindow where
  port : Nat
  lock : Option Nat
deriving DecidableEq, Repr

/-- Block lock of a link: the rate's code, and when it was acquired (R140). -/
structure BlockLock where
  rate : Nat
  since : Nat
deriving DecidableEq, Repr

/-- A membership query (R162): version 1-3 for IGMP, 1-2 for MLD; group 0 = general. -/
structure MemberQuery where
  port : Nat
  v6 : Bool
  version : Nat
  group : Nat
  frameLen : Nat
deriving DecidableEq, Repr

/-- An ARP request, a neighbour solicitation or an echo request (R138): kind 0 ARP, 1 NDP, 2 ICMP echo, 3 ICMPv6 echo. -/
structure NeighbourQuery where
  port : Nat
  kind : Nat
  target : Nat
  sender : Nat
  bytes : List Byte
  frameLen : Nat
deriving DecidableEq, Repr

/-! ### Decode operands (spec/07) -/

/-- One list of an inter prediction: reference by frame_num or POC, motion vector in quarter luma samples. -/
structure InterList where
  ref : Int
  mvx : Int
  mvy : Int
  zeroWeight : Bool
deriving DecidableEq, Repr

/-- How a block was predicted (Table 7-8). -/
inductive Pred where
  | concealed
  | pcm
  /-- 4x4 units of the current picture holding the reference samples used, after substitution. -/
  | intra (units : List Nat)
  /-- Lists used, and the collocated picture and unit a temporal predictor used. -/
  | inter (lists : List InterList) (col : Option (Int × Nat))
deriving DecidableEq, Repr

/-- A prediction block of the picture under reconstruction, in luma samples. `copied`: its samples are the prediction itself, with no
residual and no weights, and a vector from a temporal predictor is that predictor. -/
structure Block where
  x : Nat
  y : Nat
  w : Nat
  h : Nat
  pred : Pred
  copied : Bool := false
deriving DecidableEq, Repr

/-- A completed CTU or macroblock row: its index, blocks, a concealment (reason, first address, count), and its samples as
reconstructed and filtered, over the coded width. -/
structure RowInfo where
  row : Nat
  blocks : List Block
  concealed : Option (Nat × Nat × Nat)
  samples : Samples := {}
deriving DecidableEq, Repr

/-- A completed picture. -/
structure DoneInfo where
  /-- Pairs of units on either side of filtered edges, vertical then horizontal; units SAO changed with their neighbours. -/
  vEdges : List (Nat × Nat)
  hEdges : List (Nat × Nat)
  sao : List (Nat × List Nat)
  allSkip : Bool
  /-- POCs that stop being references. -/
  dropRefs : List Int
deriving DecidableEq, Repr

/-! ### Fabric, console and link operands (spec/17, spec/19, spec/20) -/

/-- An access presented to a Guard unit: master (Table 17-1), sub-id, address, bytes written or the length read. -/
structure Access where
  unit : Nat
  sub : Nat
  address : Nat
  write : Bool
  data : List Byte
  length : Nat
  /-- The access is to the control data of the engine that makes it (R395). -/
  control : Bool := false
  /-- Clusters (Table 1-2's order) whose SRAM held a single-bit error that this access corrected on read (R21). -/
  corrected : List Nat := []
deriving DecidableEq, Repr

/-- A console-bus frame: source address, EtherType and what follows it. -/
structure ConsoleFrame where
  src : Nat
  etherType : Nat
  bytes : List Byte
deriving DecidableEq, Repr

/-- What a link training found (Tables 19-6, 19-7): RESULT, failed lanes, skew, figures of merit, peer identity, its credit
split, the round trip in ns, and what a tap search measured. -/
structure LinkTrainResult where
  result : Nat
  failLanes : Nat
  skew : Nat
  fom : List Nat
  peerId : Nat
  peerSerial : Nat
  peerCredits : List Nat
  roundTrip : Nat
  /-- When the search ran: for each lane the peer's figure of merit of every candidate of R441, PRE rising, then POST rising. -/
  search : List (List Nat)
deriving DecidableEq, Repr

/-- A received flit's 64 bytes. -/
structure Flit where
  bytes : List Byte
deriving DecidableEq, Repr

/-- A beacon (R451): the sender's time in ns, its Stitch number, flags and U_dev in ns. -/
structure Beacon where
  timeNs : Nat
  stitch : Nat
  established : Bool
  unproven : Bool
  uDev : Nat
deriving DecidableEq, Repr

/-- A forwarded message as reassembled (Table 19-11), with the arrival of its first flit (elapsed ns), whether all of it
arrived, and its body: samples and tainted cells of a band, or an access unit. -/
structure FwdMsg where
  stream : Nat
  msg : Nat
  depth : Nat
  seq : Nat
  captureNs : Nat
  ageUs : Nat
  evidence : Nat
  uncert : Nat
  counter : Nat
  firstRow : Nat
  rows : Nat
  width : Nat
  height : Nat
  firstAt : Nat
  complete : Bool
  samples : Samples
  cells : List Nat
  au : Option AuInfo
  /-- Slices of an access unit cut short of which nothing has come (R453). -/
  lostSlices : List Nat := []
deriving DecidableEq, Repr

/-! ### Time operands (spec/13) -/

/-- A Sync, completed by its Follow_Up on a two-step master: the domain that receives it, its sender, the master's
time of its sending in ns with all corrections, and whether it was two-step. -/
structure SyncMsg where
  domain : Nat
  sender : Nat
  origin : Nat
  twoStep : Bool
  frameLen : Nat
deriving DecidableEq, Repr

/-- An Announce message's dataset (R318). -/
structure AnnounceMsg where
  sender : Nat
  gmId : Nat
  priority1 : Nat
  clockClass : Nat
  accuracy : Nat
  variance : Nat
  priority2 : Nat
  stepsRemoved : Nat
  utcOffset : Int
  logInterval : Int
  frameLen : Nat
deriving DecidableEq, Repr

/-! ### Display operands (spec/10, spec/11, spec/12) -/

/-- What a DisplayPort training found: whether it succeeded, its rate code and lanes, and the sink's DPCD fields. -/
structure TrainResult where
  ok : Bool
  rate : Nat
  lanes : Nat
  dpcdRev : Nat
  sinkRate : Nat
  sinkLanes : Nat
  mst : Bool
  psr : Bool
  psr2 : Bool
  psrTrain : Bool
deriving DecidableEq, Repr

/-- Link status of one DisplayPort lane in DPCD: clock recovery, channel equalisation and symbol lock done (R268). -/
structure LaneStatus where
  cr : Bool
  eq : Bool
  symbol : Bool
deriving DecidableEq, Repr

/-- A sink's automated test request (R276): the pattern it asks for, with rate, lanes, swing and pre-emphasis, coded as in
DP_PATTERN. -/
structure TestRequest where
  pattern : Nat
  rate : Nat
  lanes : Nat
  swing : Nat
  pre : Nat
deriving DecidableEq, Repr

/-- What DPCD holds when the device reads it on a short pulse of HPD (R268, R276). -/
structure DpcdStatus where
  lanes : List LaneStatus
  aligned : Bool
  test : Option TestRequest
deriving DecidableEq, Repr

/-- DRAM traffic in bytes: moved in the Stitch that ends, and forecast by its work order for the Stitch planned now at each
ladder position 0-30 (a missing entry repeats the last; the spec gives no rule for the traffic of work). -/
structure StitchObs where
  dramBytes : Nat
  dramForecast : List Nat
deriving DecidableEq, Repr

/-- At a tile's first line: the mean luminance that the device takes in parts per million when the tile was not scanned in the
previous head frame, so that R66 has nothing to measure (log entry 71). -/
structure VerdictObs where
  lumaMean : Nat
deriving DecidableEq, Repr

/-- Faults of the output stage in a scanned frame (R250): the pixels, by their number in raster order, that were sent with another
code value than the one composed, each with the 30-bit code value sent. -/
structure ScanObs where
  faults : List (Nat × Nat)
deriving DecidableEq, Repr

/-- A picture the encoder coded: for every row its bytes as coded at the QP that rate control gives, and as coded all-skip; the NAL
units before the SEIs that the device writes itself (the parameter sets); the header of each slice's NAL unit. -/
structure EncObs where
  rows : List (List Byte × List Byte)
  before : List (List Byte)
  heads : List (List Byte)
deriving DecidableEq, Repr

/-! ### Hoop operands (spec/01 R21-R25, spec/18, spec/21) -/

/-- An uncorrectable error in control data: the engine that owns the data as an origin (R13), its address, the syndrome, and
the Gimp quota (object) that a record of the Gimp table belonged to, 0 = another kind of data. -/
structure EccInfo where
  origin : Nat
  address : Nat
  syndrome : Nat
  gimp : Nat
deriving DecidableEq, Repr

/-- An uncorrectable error in pixel data: origin and address, the Gimp object and SEQ of the picture that held it (0 = none; an
encode channel: its reconstruction buffer) and the 32x32 cells of its grid that the word contributes to. -/
structure EccPixel where
  origin : Nat
  address : Nat
  object : Nat
  seq : Nat
  cells : List Nat
deriving DecidableEq, Repr

/-- What a scrub pass found (R23, R25): single-bit errors corrected by cluster in Table 1-2's order, and uncorrectable errors
in control data and in pixel data. -/
structure ScrubObs where
  corrected : List Nat
  control : List EccInfo := []
  pixel : List EccPixel := []
deriving DecidableEq, Repr

/-- What a BIST run found: for each cluster of Table 1-2, in its order, the signatures of its blocks; and the failures, each a
path, a kind, a bit and data (Table 21-6). -/
structure BistObs where
  blocks : List (List Nat)
  failures : List (List Nat)
  durationMs : Nat
deriving DecidableEq, Repr

/-- Readings of the thermal sensors in thousandths of a degree, of the eleven supply monitors in mV, the VDD_CORE setpoint that
the adaptive control asks for in mV (the spec gives it no rule), and of the PMBus rails: voltage in mV, current in mA, power in
mW and status word, or no valid reading. -/
structure SensorObs where
  temps : List Int
  supplies : List Nat
  wantMv : Nat := 750
  rails : List (Option (List Nat))
deriving DecidableEq, Repr

/-- The rows of spec/opcode_table.json, in its order. -/
inductive Instr where
  | nop (t : Nat) (r : Request)
  | identify (t : Nat) (r : Request)
  | getStatus (t : Nat) (r : Request)
  | setEventMask (t : Nat) (r : Request)
  | resetBlock (t : Nat) (r : Request)
  | engineResetDone (t : Nat) (origin : Nat)
  | peek (t : Nat) (r : Request)
  | poke (t : Nat) (r : Request)
  | sessionOpen (t : Nat) (r : Request)
  | sessionClose (t : Nat) (r : Request)
  | networkSessionIdleClose (t : Nat) (session : Nat)
  | safetyHeartbeat (t : Nat) (r : Request)
  | heartbeatLost (t : Nat)
  | txnBegin (t : Nat) (r : Request)
  | txnCommit (t : Nat) (r : Request)
  | txnRollback (t : Nat) (r : Request)
  | txnQuery (t : Nat) (r : Request)
  | txnIdleExpiry (t : Nat) (handle : Nat)
  | txnFenceTimeout (t : Nat) (handle : Nat)
  | txnApplyGlobal (t : Nat) (handle : Nat)
  | deferredCommandExecute (t : Nat)
  | heldEventsDiscard (t : Nat)
  | srcOpen (t : Nat) (r : Request)
  | srcClose (t : Nat) (r : Request)
  | srcSetFilter (t : Nat) (r : Request)
  | srcJoin (t : Nat) (r : Request)
  | srcLeave (t : Nat) (r : Request)
  | srcGetStats (t : Nat) (r : Request)
  | srcSetJitter (t : Nat) (r : Request)
  | srcSetCredit (t : Nat) (r : Request)
  | netPortConfig (t : Nat) (r : Request)
  | netAddr (t : Nat) (r : Request)
  | netStats (t : Nat) (r : Request)
  | netLoop (t : Nat) (r : Request)
  | netLoopExpiry (t : Nat) (port : Nat)
  | packetReceive (t : Nat) (pkt : Packet)
  | reorderWindowExpiry (t : Nat) (src : Nat)
  | candidateTimeout (t : Nat) (src : Nat)
  | channelSilent (t : Nat) (src : Nat)
  | contestClear (t : Nat) (src : Nat)
  | pathDown (t : Nat) (src path : Nat)
  | ethSpeedWindowExpiry (t : Nat) (o : LockWindow)
  | ethLinkUp (t : Nat) (port : Nat) (o : BlockLock)
  | ethLinkDown (t : Nat) (port : Nat)
  | membershipQuery (t : Nat) (q : MemberQuery)
  | membershipReportRetransmit (t : Nat) (port : Nat)
  | arpNdpIcmpRequest (t : Nat) (q : NeighbourQuery)
  | decConfig (t : Nat) (r : Request)
  | decStart (t : Nat) (r : Request)
  | decStop (t : Nat) (r : Request)
  | decFlush (t : Nat) (r : Request)
  | decGetPool (t : Nat) (r : Request)
  | decSetConceal (t : Nat) (r : Request)
  | decodeRowComplete (t : Nat) (ch : Nat) (row : RowInfo)
  | decodeDone (t : Nat) (ch : Nat) (info : DoneInfo)
  | freshSetPolicy (t : Nat) (r : Request)
  | freshGetState (t : Nat) (r : Request)
  | freezeSet (t : Nat) (r : Request)
  | freshSetTreatment (t : Nat) (r : Request)
  | provRead (t : Nat) (r : Request)
  | tilePause (t : Nat) (r : Request)
  | tileResume (t : Nat) (r : Request)
  | layerBind (t : Nat) (r : Request)
  | layerPlace (t : Nat) (r : Request)
  | layerScale (t : Nat) (r : Request)
  | layerFlip (t : Nat) (r : Request)
  | layerEnable (t : Nat) (r : Request)
  | layerDisable (t : Nat) (r : Request)
  | blendOrder (t : Nat) (r : Request)
  | layerAlpha (t : Nat) (r : Request)
  | coefLoad (t : Nat) (r : Request)
  | lutLoadPre (t : Nat) (r : Request)
  | lutLoadPost (t : Nat) (r : Request)
  | tableRead (t : Nat) (r : Request)
  | shadowTimeout (t : Nat) (table : Nat)
  | fenceCreate (t : Nat) (r : Request)
  | fenceSignal (t : Nat) (r : Request)
  | fenceDestroy (t : Nat) (r : Request)
  | applStyleLoad (t : Nat) (r : Request)
  | applBanner (t : Nat) (r : Request)
  | applSafeMap (t : Nat) (r : Request)
  | applStatus (t : Nat) (r : Request)
  | headTiming (t : Nat) (r : Request)
  | headBindPort (t : Nat) (r : Request)
  | headApplyLine (t : Nat) (r : Request)
  | headGenlock (t : Nat) (r : Request)
  | headSelfRefresh (t : Nat) (r : Request)
  | headEnable (t : Nat) (r : Request)
  | headDisable (t : Nat) (r : Request)
  | headGetCrc (t : Nat) (r : Request)
  | portTrain (t : Nat) (r : Request)
  | portTrainingComplete (t : Nat) (port : Nat) (res : TrainResult)
  | hpdShortPulse (t : Nat) (port : Nat) (dpcd : DpcdStatus)
  | hpdLongLow (t : Nat) (port : Nat)
  | hpdRise (t : Nat) (port : Nat)
  | sliceLock (t : Nat) (r : Request)
  | stitchBoundary (t : Nat) (obs : StitchObs)
  | headFrameStart (t : Nat) (head : Nat)
  | applyLineReached (t : Nat) (head : Nat)
  | flipAbandon (t : Nat) (layer head : Nat)
  | tileVerdict (t : Nat) (head layer : Nat) (obs : VerdictObs)
  | tileStateCoalesce (t : Nat) (layer head : Nat)
  | sliceCheckLine (t : Nat) (ch slice : Nat)
  | sliceLockReturn (t : Nat) (ch : Nat)
  | lastActiveLineEnd (t : Nat) (head : Nat) (obs : ScanObs)
  | attestRecordComplete (t : Nat) (head : Nat)
  | encConfig (t : Nat) (r : Request)
  | encStart (t : Nat) (r : Request)
  | encStop (t : Nat) (r : Request)
  | encSetRate (t : Nat) (r : Request)
  | attestConfig (t : Nat) (r : Request)
  | attestRead (t : Nat) (r : Request)
  | encodePictureDone (t : Nat) (ec : Nat) (obs : EncObs)
  | rtcpSenderReport (t : Nat) (ec : Nat)
  | audPortConfig (t : Nat) (r : Request)
  | audRoute (t : Nat) (r : Request)
  | audGroup (t : Nat) (r : Request)
  | audTone (t : Nat) (r : Request)
  | audStats (t : Nat) (r : Request)
  | tonePhaseChange (t : Nat) (tone : Nat)
  | toneDurationExpiry (t : Nat) (tone : Nat)
  | nonPcmDetect (t : Nat) (src pair reason : Nat)
  | nonPcmClear (t : Nat) (src pair : Nat)
  | steerLimit (t : Nat) (group : Nat) (reached : Bool)
  | timeConfig (t : Nat) (r : Request)
  | timeGet (t : Nat) (r : Request)
  | timeSet (t : Nat) (r : Request)
  | timeSlewLimit (t : Nat) (r : Request)
  | timeAsym (t : Nat) (r : Request)
  | timeStats (t : Nat) (r : Request)
  | timeLegacyMode (t : Nat) (r : Request)
  | ptpSync (t : Nat) (msg : SyncMsg)
  | ptpAnnounce (t : Nat) (domain : Nat) (m : AnnounceMsg)
  | ptpMasterTimeout (t : Nat) (domain : Nat)
  | domainEvaluation (t : Nat)
  | rtcLoad (t : Nat)
  | touchConfig (t : Nat) (r : Request)
  | touchStatus (t : Nat) (r : Request)
  | touchRecal (t : Nat) (r : Request)
  | gpioConfig (t : Nat) (r : Request)
  | gpioStatus (t : Nat) (r : Request)
  | safeStatus (t : Nat) (r : Request)
  | cbusConfig (t : Nat) (r : Request)
  | cbusSend (t : Nat) (r : Request)
  | cbusFrameSent (t : Nat) (port collisions lateCollisions : Nat)
  | cbusSendTimeout (t : Nat) (port : Nat)
  | consoleFrameReceive (t : Nat) (port : Nat) (f : ConsoleFrame)
  | plcaLost (t : Nat) (port : Nat)
  | plcaBeacon (t : Nat) (port : Nat)
  | touchScan (t : Nat) (raw : List Nat)
  | touchHoldLimit (t : Nat) (electrode : Nat)
  | approachScan (t : Nat) (signals : List Int)
  | inputDebouncedChange (t : Nat) (input : Nat)
  | inputRawTransition (t : Nat) (input : Nat) (level : Bool)
  | chatterClear (t : Nat) (input : Nat)
  | inputStuck (t : Nat) (input : Nat)
  | pairFault (t : Nat) (pair : Nat)
  | pairOk (t : Nat) (pair : Nat)
  | linkConfig (t : Nat) (r : Request)
  | linkTrain (t : Nat) (r : Request)
  | linkStatus (t : Nat) (r : Request)
  | linkPrbs (t : Nat) (r : Request)
  | linkLoop (t : Nat) (r : Request)
  | linkLoopExpiry (t : Nat) (link : Nat)
  | linkTxeq (t : Nat) (r : Request)
  | linkLowpower (t : Nat) (r : Request)
  | linkTrainingComplete (t : Nat) (link : Nat) (res : LinkTrainResult)
  | linkRetryTimer (t : Nat) (link : Nat)
  | linkRetrainTrigger (t : Nat) (link cause lane : Nat)
  | linkActiveLossTimeout (t : Nat) (link : Nat)
  | flitReceive (t : Nat) (link : Nat) (f : Flit)
  | llcReceive (t : Nat) (link : Nat) (bytes : List Byte)
  | replayTimeout (t : Nat) (link : Nat)
  | forwardMessageSend (t : Nat) (link stream msg firstRow rows bodyLen : Nat)
  | forwardedMessageReceive (t : Nat) (link : Nat) (m : FwdMsg)
  | beaconReceive (t : Nat) (link : Nat) (b : Beacon)
  | linkMisaligned (t : Nat) (link : Nat)
  | marginMeasure (t : Nat) (link : Nat) (margins : List Nat)
  | linkIdleEntry (t : Nat) (link : Nat)
  | linkSleepEntry (t : Nat) (link : Nat)
  | energySetBudget (t : Nat) (r : Request)
  | energyGet (t : Nat) (r : Request)
  | energySetClass (t : Nat) (r : Request)
  | energyCorrectionUpdate (t : Nat) (railsUJ : List Nat)
  | pmbusLost (t : Nat)
  | pstateRequest (t : Nat) (r : Request)
  | pstateStatus (t : Nat) (r : Request)
  | wakeConfig (t : Nat) (r : Request)
  | refusalLog (t : Nat) (r : Request)
  | scheduledEntry (t : Nat)
  | pstateEntryComplete (t : Nat)
  | wakeEvent (t : Nat) (source : Nat)
  | rtcAlarm (t : Nat)
  | wakeComplete (t : Nat)
  | guardUpdate (t : Nat) (r : Request)
  | guardUpdateReopen (t : Nat) (unit : Nat)
  | guardRead (t : Nat) (r : Request)
  | guardFaults (t : Nat) (r : Request)
  | guardLock (t : Nat) (r : Request)
  | guardAccessCheck (t : Nat) (a : Access)
  | eccUncorrectableControl (t : Nat) (e : EccInfo)
  | eccUncorrectablePixel (t : Nat) (e : EccPixel)
  | scrubPass (t : Nat) (obs : ScrubObs)
  | bistRun (t : Nat) (r : Request)
  | bistComplete (t : Nat) (res : BistObs)
  | bistResult (t : Nat) (r : Request)
  | dpPattern (t : Nat) (r : Request)
  | logRead (t : Nat) (r : Request)
  | samplerRead (t : Nat) (r : Request)
  | samplerArm (t : Nat) (r : Request)
  | samplerTrigger (t : Nat) (r : Request)
  | samplerFreeze (t : Nat)
  | samplerCopyDone (t : Nat) (ok : Bool)
  | sensorRead (t : Nat) (r : Request)
  | sensorSample (t : Nat) (o : SensorObs)
  | gradientClear (t : Nat)
  | thermalTrip (t : Nat) (sensor : Nat) (mC : Int)
  | thermalTripRecovery (t : Nat)
  | bobbinWatchdogMiss (t : Nat) (bobbin : Nat)
  | hoopWatchdogExpiry (t : Nat)
  | brownOut (t : Nat) (lowestMv : Nat)
  | updBegin (t : Nat) (r : Request)
  | updChunk (t : Nat) (r : Request)
  | updChunkProgrammed (t : Nat)
  | updVerify (t : Nat) (r : Request)
  | updActivate (t : Nat) (r : Request)
  | updRollback (t : Nat) (r : Request)
  | updStatus (t : Nat) (r : Request)
  | trialHealthy (t : Nat)
  | trialTimeout (t : Nat)
  | delayedWarmReset (t : Nat)
  | debugUnlockResponse (t : Nat) (sig : List Byte)
  | fieldReturnResponse (t : Nat) (sig : List Byte)
  | clockMonitorFinding (t : Nat) (input kind freq : Nat)
  | clockGoodAgain (t : Nat) (input : Nat)
  | clockFaultBanner (t : Nat)
  | refclkRecoveryEnd (t : Nat)
  | porstAssert (t : Nat)
  | porstRelease (t : Nat)
  | warmReset (t : Nat)
  | deviceReady (t : Nat)
  | hifCtrlEnableSet (t : Nat)
  | hifCtrlEnableClear (t : Nat)
  | hifStitchLoRead (t : Nat)
  | sqTailDoorbell (t : Nat) (queue value : Nat)
  | cqHeadDoorbell (t : Nat) (queue value : Nat)
  | eqHeadDoorbell (t : Nat) (value : Nat)
  | rbufProdWrite (t : Nat) (value : Nat)
  | hifFenceSignalWrite (t : Nat) (value : Nat) (wide : Bool)
  | irqStatusClear (t : Nat) (value : Nat)
  | apertureBaseWrite (t : Nat) (high : Bool) (value : Nat)
  | registerWrite (t : Nat) (offset value : Nat)
  | apertureAccess (t : Nat) (offset : Nat) (write : Bool) (data : List Byte) (len : Nat)
  | sqEntryTake (t : Nat) (entry : SqEntry)
  | networkDatagramReceive (t : Nat) (port peer udp : Nat) (bytes : List Byte)
  | spiWritePacket (t : Nat) (safety : Bool) (bytes : List Byte)
  | spiReadReply (t : Nat) (safety : Bool)
  | frameSyncEdge (t : Nat) (port : Nat) (samples : List Int)
  | samplePlayTime (t : Nat) (group : Nat)
  | llcAckTimer (t : Nat) (link : Nat)
  | ptpDelayReqInterval (t : Nat) (domain : Nat)
  | ptpDelayResponse (t : Nat) (domain remote frameLen : Nat)
  | debugUnlockChallenge (t : Nat)
  | fieldReturnChallenge (t : Nat)
deriving DecidableEq, Repr

end Sys2Proof
end

