-- ==== Sys2Proof/Decode.lean ====
section
/-! DEFINITION. The table gives no row of this block any bits: a word spells no command (log entry 7). -/
namespace Sys2Proof

/-- The command that a word of `nbits` bits spells by spec/opcode_table.json: none, because no row of the table has bits. -/
def decodeTableWord (_nbits _w : Nat) : Option Instr := none

end Sys2Proof
end

