-- ==== Sys2Proof/Machine/Bytes.lean ====
section
/-! DEFINITION. Byte order, fields of byte strings, and the check codes the spec names (R6, R92, R90). -/
namespace Sys2Proof.Machine

/-- The little-endian value of a byte string (R6). -/
def leVal : List Byte → Nat
  | [] => 0
  | b :: bs => b.toNat + 256 * leVal bs

/-- The most-significant-first value of a byte string (R6: headers of published standards). -/
def beVal (bs : List Byte) : Nat := leVal bs.reverse

/-- `n` little-endian bytes of `v` (R6). -/
def leBytes : Nat → Nat → List Byte
  | 0, _ => []
  | n + 1, v => BitVec.ofNat 8 v :: leBytes n (v / 256)

/-- `n` bytes of `v`, most significant first. -/
def beBytes (n v : Nat) : List Byte := (leBytes n v).reverse

/-- Byte `i` of a byte string, zero past its end. -/
def byteAt (bs : List Byte) (i : Nat) : Nat := (bs.getD i 0).toNat

/-- The unsigned field of `n` bytes at offset `off`. -/
def uAt (bs : List Byte) (off n : Nat) : Nat := leVal ((bs.drop off).take n)

/-- Zero bytes: reserved fields the device produces (R9). -/
def zeros (n : Nat) : List Byte := List.replicate n 0

/-- A byte string cut or zero-padded to `n` bytes. -/
def padTo (n : Nat) (bs : List Byte) : List Byte := (bs ++ zeros (n - bs.length)).take n

/-- Overwrite bytes of `bs` from offset `off`. -/
def putAt (bs : List Byte) (off : Nat) (new : List Byte) : List Byte :=
  bs.take off ++ new ++ bs.drop (off + new.length)

/-- One step of a most-significant-bit-first CRC of width `w`. -/
def crcBitMsb (w poly crc : Nat) : Nat :=
  if crc.testBit (w - 1) then ((crc <<< 1) % 2 ^ w) ^^^ poly else (crc <<< 1) % 2 ^ w

/-- Repeat a function `n` times. -/
def iter {α : Type} (f : α → α) : Nat → α → α
  | 0, a => a
  | n + 1, a => iter f n (f a)

/-- A most-significant-bit-first CRC of width `w` over bytes. -/
def crcMsb (w poly init : Nat) (bs : List Byte) : Nat :=
  bs.foldl (fun c b => iter (crcBitMsb w poly) 8 (c ^^^ (b.toNat <<< (w - 8)))) init

/-- One step of a least-significant-bit-first CRC. -/
def crcBitLsb (poly crc : Nat) : Nat := if crc.testBit 0 then (crc >>> 1) ^^^ poly else crc >>> 1

/-- A reflected CRC over bytes. -/
def crcLsb (poly init : Nat) (bs : List Byte) : Nat :=
  bs.foldl (fun c b => iter (crcBitLsb poly) 8 (c ^^^ b.toNat)) init

/-- CRC-16/CCITT-FALSE (R92). PRESUMED parameters of the published code, log entry 9. -/
def crc16 (bs : List Byte) : Nat := crcMsb 16 0x1021 0xFFFF bs

/-- CRC-32/ISO-HDLC. PRESUMED parameters, log entry 9. -/
def crc32 (bs : List Byte) : Nat := crcLsb 0xEDB88320 0xFFFFFFFF bs ^^^ 0xFFFFFFFF

/-- CRC-32C. PRESUMED parameters, log entry 9. -/
def crc32c (bs : List Byte) : Nat := crcLsb 0x82F63B78 0xFFFFFFFF bs ^^^ 0xFFFFFFFF

/-- CRC-64/ECMA-182. PRESUMED parameters, log entry 9. -/
def crc64 (bs : List Byte) : Nat := crcMsb 64 0x42F0E1EBA9EA3693 0 bs

/-- The integer square root, for values below 2^96. -/
def isqrt (n : Nat) : Nat := (List.range 48).reverse.foldl (fun r i => if (r + 2 ^ i) * (r + 2 ^ i) ≤ n then r + 2 ^ i else r) 0

/-- The mean of integers, rounded down; 0 of none. -/
def mean (l : List Int) : Int := if l.isEmpty then 0 else l.sum / (l.length : Int)

/-- Three standard deviations (of the population), rounded down. -/
def sigma3 (l : List Int) : Nat :=
  if l.isEmpty then 0 else
  let n : Int := l.length
  isqrt ((9 * (n * (l.map fun x => x * x).sum - l.sum * l.sum) / (n * n)).toNat)

end Sys2Proof.Machine
end

