-- ==== Sys2Proof/Machine/Crypto.lean ====
section
/-! DEFINITION. SHA-256, SHA-384 and HMAC-SHA-256, which the spec names and does not define
(R90, R95, R312, Table 18-4). PRESUMED: the published standards FIPS 180-4 and RFC 2104, log entry 9.
The round constants are computed from their definition: fractional parts of roots of primes. -/
namespace Sys2Proof.Machine

/-- The largest `x < 2^n + acc` with `x^k <= v`, built bit by bit. -/
def intRoot (k v : Nat) : Nat → Nat → Nat
  | 0, acc => acc
  | n + 1, acc => if (acc + 2 ^ n) ^ k ≤ v then intRoot k v n (acc + 2 ^ n) else intRoot k v n acc

/-- The first `n` primes of a list of candidates. -/
def primesIn (cs : List Nat) : List Nat :=
  cs.filter fun p => 2 ≤ p && (List.range p).all fun d => d < 2 || p % d != 0

/-- The first 80 primes. -/
def primes80 : List Nat := primesIn (List.range 410)

/-- The first `w` bits of the fractional part of the `k`-th root of `p`. -/
def rootFrac (w k p : Nat) : Nat := intRoot k (p * 2 ^ (k * w)) (w + 4) 0 % 2 ^ w

/-- The parameters in which SHA-256 and SHA-384 differ. -/
structure Sha where
  w : Nat
  rounds : Nat
  big0 : Nat × Nat × Nat
  big1 : Nat × Nat × Nat
  small0 : Nat × Nat × Nat
  small1 : Nat × Nat × Nat
  init : List Nat

def sha256p : Sha :=
  { w := 32, rounds := 64, big0 := (2, 13, 22), big1 := (6, 11, 25), small0 := (7, 18, 3), small1 := (17, 19, 10),
    init := (primes80.take 8).map (rootFrac 32 2) }

def sha384p : Sha :=
  { w := 64, rounds := 80, big0 := (28, 34, 39), big1 := (14, 18, 41), small0 := (1, 8, 7), small1 := (19, 61, 6),
    init := ((primes80.drop 8).take 8).map (rootFrac 64 2) }

/-- Rotate right in `w` bits. -/
def rotr (w n x : Nat) : Nat := (x >>> n) ||| ((x <<< (w - n)) % 2 ^ w)

def bigSig (w : Nat) (r : Nat × Nat × Nat) (x : Nat) : Nat := rotr w r.1 x ^^^ rotr w r.2.1 x ^^^ rotr w r.2.2 x
def smallSig (w : Nat) (r : Nat × Nat × Nat) (x : Nat) : Nat := rotr w r.1 x ^^^ rotr w r.2.1 x ^^^ (x >>> r.2.2)

/-- Split into chunks of `n`; the fuel is the list's length. -/
def chunks {α : Type} (n : Nat) : Nat → List α → List (List α)
  | 0, _ => []
  | f + 1, l => match l with
    | [] => []
    | _ :: _ => l.take n :: chunks n f (l.drop n)

/-- The message schedule, newest word first. -/
def shaSchedule (p : Sha) : Nat → List Nat → List Nat
  | 0, ws => ws
  | n + 1, ws =>
    let v := (smallSig p.w p.small1 (ws.getD 1 0) + ws.getD 6 0 + smallSig p.w p.small0 (ws.getD 14 0) + ws.getD 15 0) % 2 ^ p.w
    shaSchedule p n (v :: ws)

/-- One round on the working variables a..h. -/
def shaRound (p : Sha) (v : List Nat) (kw : Nat × Nat) : List Nat :=
  match v with
  | [a, b, c, d, e, f, g, h] =>
    let t1 := h + bigSig p.w p.big1 e + ((e &&& f) ^^^ ((2 ^ p.w - 1 - e) &&& g)) + kw.1 + kw.2
    let t2 := bigSig p.w p.big0 a + ((a &&& b) ^^^ (a &&& c) ^^^ (b &&& c))
    [(t1 + t2) % 2 ^ p.w, a, b, c, (d + t1) % 2 ^ p.w, e, f, g]
  | v => v

/-- One block. -/
def shaBlock (p : Sha) (ks h : List Nat) (block : List Byte) : List Nat :=
  let ws := ((chunks (p.w / 8) block.length block).map beVal).reverse
  let sched := (shaSchedule p (p.rounds - 16) ws).reverse
  let v := (ks.zip sched).foldl (shaRound p) h
  (h.zip v).map fun (x, y) => (x + y) % 2 ^ p.w

/-- The padded message. -/
def shaPad (p : Sha) (m : List Byte) : List Byte :=
  let blk := 2 * p.w
  let len := p.w / 4
  let z := (blk - (m.length + 1 + len) % blk) % blk
  m ++ [0x80#8] ++ zeros z ++ beBytes len (8 * m.length)

/-- The digest words. -/
def shaWords (p : Sha) (m : List Byte) : List Nat :=
  let pm := shaPad p m
  (chunks (2 * p.w) pm.length pm).foldl (shaBlock p ((primes80.take p.rounds).map (rootFrac p.w 3))) p.init

def sha256 (m : List Byte) : List Byte := (shaWords sha256p m).flatMap (beBytes 4)
def sha384 (m : List Byte) : List Byte := ((shaWords sha384p m).take 6).flatMap (beBytes 8)

/-- HMAC-SHA-256. -/
def hmacSha256 (key m : List Byte) : List Byte :=
  let k := padTo 64 (if key.length > 64 then sha256 key else key)
  sha256 (k.map (· ^^^ 0x5C#8) ++ sha256 (k.map (· ^^^ 0x36#8) ++ m))

end Sys2Proof.Machine
end

