-- ==== Sys2Proof/Config.lean ====
section
/-! DEFINITION. What an implementation fixes and the free values: values the spec leaves open. -/
namespace Sys2Proof.Config

/-- A value the spec does not state (log entry 8): free value number `n`, unconstrained. -/
opaque freeNat (n : Nat) : Nat

/-- A byte string of the given length that the spec calls random or fresh (R95, R415, R416), free value number `n`. -/
opaque freeBytes (n len : Nat) : List Byte

/-- Whether an ECDSA P-384 signature (r then s) verifies over a message under boot-ROM key `key`:
0-3 the image signing keys, 4 the unlock key, 5 the field-return key (R415, R416, R418). The keys are not in the spec. -/
opaque ecdsaP384Verify (key : Nat) (message signature : List Byte) : Bool

/-- AES-256-KW unwrapping of a KEYS section under the device's key-encryption key (R413): the key entries, or none. -/
opaque unwrapKeys (section_ : List Byte) : Option (List (List Byte))

/-- Whether the product of a sample and a gain in 0.1 dB, which is no integer, is rounded up in magnitude (R343): the spec gives no
rounding. -/
opaque gainUp (tenthDb value : Int) : Bool

/-- Whether a sample of a tone is rounded up (R348): level in dBFS, frequency in Hz, ns since the tone began. The spec gives no
rounding. -/
opaque toneUp (level : Int) (freq ns : Nat) : Bool

/-- Proportional and integral gain of the AUD PLL's second-order loop at a LOOP_BW (R345), in 10^-6 ppb per ns of fill error: the spec
gives the bandwidth alone. -/
opaque loopGains (bw : Nat) : Int × Int

/-- Whether bits [3:0] of a subframe mark the first frame of a 192-frame block (R336, R346): the spec does not code the preambles. -/
opaque blockStart (nibble : Nat) : Bool

/-- Taps of a phase of the windowed-sinc filter built into the device, horizontal (table 0) or vertical (table 1) (R230): the spec
does not list them. -/
opaque sincTaps (table phase : Nat) : List Int

/-- Coefficient of the built-in 4-tap horizontal filter of R229: phase and tap. The spec does not list them. -/
opaque coefFour (phase tap : Nat) : Int

/-- A pixel of the font ROM (R243): size, character code, column and row of its cell. The spec draws no glyph. -/
opaque fontBit (size code col row : Nat) : Bool

/-- A sample of a row that the scan reads where no picture has it (R223): quota object and SEQ of the picture, component, column and
line. -/
opaque unreadSample (object seq comp x y : Nat) : Nat

/-- Address and length in which a line of a component of a channel's picture lies: quota object and SEQ of the picture, component, line.
The spec lays out neither the frame heap nor the row rings (R174, R284). -/
opaque pictureLine (object seq comp line : Nat) : Nat × Nat

/-- The power domain (Table 4-28 order) in which each of the thermal sensors 0-17 lies (R356): the spec gives no map. -/
opaque sensorDomain (sensor : Nat) : Nat

/-- The bank of shared SRAM (0-15) that holds the Gimp table (R196, R375): the spec places it in none. -/
opaque gimpBank : Nat

/-- Index, base and size of the device region of GU_TAMB that holds the Appliqué memory and working memory (R241, R391), and of that of
GU_BOB that holds the attestation rings (R314): the spec places neither. -/
opaque appliqueMemory : Nat × Nat × Nat
opaque attestRings : Nat × Nat × Nat

/-- What a board configuration section of an image sets (R420): scrub period in hours, frame heap in GiB, address and rail of the
PMBus rails, LIFECYCLE request, key revocation mask, and the Guard regions as unit, index, base, size exponent, permission bits (read, write, lock), role and
owner. The spec gives the section no layout. -/
opaque boardConfig (section_ : List Byte) : Nat × Nat × List (Nat × Nat) × Nat × Nat × List (List Nat)

end Sys2Proof.Config
end

