-- ==== Sys2Proof/Machine/State.lean ====
section
/-! DEFINITION. The state of the block: every register, table, queue, timer and mode the spec gives it, as plain data.
The default value of a field is its value right after `PORST_B` (spec/22 R495, R499); where the spec states none it is
zero, empty, off or absent (DESIGN CHOICE, log entries 1-3, UNSAFE). Times are nanoseconds of elapsed time unless said. -/
namespace Sys2Proof.Machine

/-- Reasons for which the block would stop with a fault. No meaning raises one: every error the spec describes is a
reply (Table 4-25), an event, a log record or a reset. Safe. -/
inductive Fault where
  /-- Raised by nobody. Safe. -/
  | none
deriving DecidableEq, Repr

/-- Reasons for which a row is refused. -/
inductive Refusal where
  /-- Raised by exec's arm of a row that has no meaning yet. Safe: nothing is claimed of it. -/
  | notModelled (mnemonic : String)
deriving DecidableEq, Repr

/-! ### What leaves the device (model's own trace, newest first) -/

/-- Addresses and header fields of an IP/UDP packet that the device sends: destination, its port, source port, DSCP, hop limit. -/
structure IpOut where
  dest : Nat
  port : Nat
  src : Nat
  dscp : Nat
  hop : Nat
deriving DecidableEq, Repr

/-- A coded picture: its Y′CbCr 4:2:0 samples with the choices that its VUI signals (R300: bits per sample, matrix 1 = BT.709, range,
chroma sample location type), and its coding (R301, R303): CTU size, size after cropping, IDR, POC or frame_num, first row and rows of
each slice, cells of the intra band, count of its recovery point SEI. -/
structure CodedFacts where
  samples : Samples
  depth : Nat
  matrix : Nat
  fullRange : Bool
  chromaLoc : Nat
  ctu : Nat
  size : Nat × Nat
  idr : Bool
  order : Nat
  slices : List (Nat × Nat)
  band : Option (Nat × Nat)
  recovery : Option Nat
  reference : Option Nat
  dpb : Nat
  reorder : Nat
  constrainedIntra : Bool
  refreshed : Nat
deriving DecidableEq, Repr

/-- A fabric response (R28, R395): good, an error with the first failing address, or DOMAIN_OFF of a power domain. -/
inductive Response where
  | good
  | error (address : Nat)
  | domainOff (domain : Nat)
deriving DecidableEq, Repr

/-- One thing the device has put on one of its interfaces, or shown. -/
inductive Output where
  /-- A submission entry (Table 3-3) fetched from a host address (R82). -/
  | entryRead (queue address : Nat)
  /-- A completion entry (Table 3-4) of a queue written to a host address. -/
  | completion (queue address : Nat) (entry : List Byte)
  /-- A reply written whole to a reply buffer, which lies at a host address (R79, R81). -/
  | replyBuffer (index address : Nat) (bytes : List Byte)
  /-- An event entry (Table 4-23) written to a host address. -/
  | eventEntry (address : Nat) (bytes : List Byte)
  /-- An MSI-X message (R87). -/
  | msix (vector : Nat)
  /-- A datagram of the command channel (Table 3-9). -/
  | datagram (port peer udp : Nat) (bytes : List Byte)
  /-- The status byte shifted out while an SPI port takes a command byte (R92). -/
  | spiStatus (safety : Bool) (status : Nat)
  /-- A packet shifted out of an SPI port (R92). -/
  | spiPacket (safety : Bool) (status : Nat) (bytes : List Byte)
  /-- A value read from a host register or through the aperture. -/
  | readValue (value : Nat)
  /-- What a fabric access is answered through a Guard unit: the bytes of a read, and the response (R395). -/
  | fabricAnswer (unit sub : Nat) (bytes : List Byte) (response : Response)
  /-- A membership report on a group (R162): group records of RFC 3376 (type 1-6, sources), or under an older querier a
  message of that version that joins (type 4) or leaves (type 3) the whole group. -/
  | membership (port : Nat) (group : Nat) (records : List (Nat × List Nat)) (compat : Option Nat)
  /-- An answer to ARP, neighbour discovery or ICMP echo (R138). -/
  | linkAnswer (port kind target : Nat) (bytes : List Byte)
  /-- A PTP Delay_Req or Pdelay_Req (R318). -/
  | ptpRequest (domain port : Nat)
  /-- A Pdelay_Resp to a peer's Pdelay_Req, over a transport (R318). -/
  | ptpResponse (port transport requester : Nat)
  /-- An RTP datagram of an encode channel (R311). -/
  | rtp (ip : IpOut) (seq ts : Nat) (bytes : List Byte)
  /-- An RTCP packet of an encode channel. -/
  | rtcp (ip : IpOut) (bytes : List Byte)
  /-- An attestation record sent on the network (R314). -/
  | attest (head : Nat) (ip : IpOut) (bytes : List Byte)
  /-- A Lacing flit (Table 19-1) or low-level control word. -/
  | flit (link : Nat) (bytes : List Byte)
  /-- A console-bus frame (R473). -/
  | consoleFrame (port : Nat) (node : Nat) (bytes : List Byte)
  /-- A tile as rendered in one frame: state byte, Picot position, hatch, flags. -/
  | tileShown (head layer : Nat) (shown : List Nat)
  /-- A banner or device banner drawn in the frame that starts. -/
  | bannerShown (head banner : Nat) (text : List Byte)
  /-- A head frame that starts: its count and whether it is the closing frame. -/
  | frame (head count : Nat) (closing : Bool)
  /-- The pixels that a head has sent in a frame, in raster order: 30-bit code values R[29:20] G[19:10] B[9:0]. -/
  | picture (head count : Nat) (pixels : List Nat)
  /-- What a picture of an encode channel carries. -/
  | coded (channel frame : Nat) (facts : CodedFacts)
  /-- A sample played on an audio output. -/
  | sample (port : Nat) (channel : Nat) (value : Int)
  /-- The level of a DisplayPort transmitter: pattern, training result or state. -/
  | dpSignal (port : Nat) (kind value : Nat)
  /-- A VOUT_COMMAND to the VDD_CORE regulator, in mV (R507). -/
  | vout (mv : Nat)
  /-- The level of an output pin. -/
  | pin (name : String) (level : Bool)
  /-- An answer on the debug port (challenge, response accepted). -/
  | debugPort (bytes : List Byte)
deriving DecidableEq, Repr

/-! ### Time and Stitch (spec/13, spec/01 R16) -/

/-- Domain servo states (Table 13-1). -/
inductive DomState where
  | disabled | listening | uncalibrated | locked | holdover
deriving DecidableEq, Repr

/-- What a domain knows of its chosen master (Tables 13-6, R318). -/
structure Master where
  gmId : Nat := 0
  priority1 : Nat := 0
  clockClass : Nat := 0
  accuracy : Nat := 0
  variance : Nat := 0
  priority2 : Nat := 0
  stepsRemoved : Nat := 0
  utcOffset : Int := 0
  /-- logMessageInterval of its Announce messages. -/
  logAnnounce : Int := 0
  /-- The sender's port identity (address), to tell masters apart. -/
  sender : Nat := 0
deriving DecidableEq, Repr

/-- One IEEE 1588 slave instance, TA or TB (R318, R319, Tables 13-4 and 13-6). -/
structure Domain where
  st : DomState := .disabled
  port : Nat := 0
  number : Nat := 0
  delay : Nat := 0
  transport : Nat := 0
  logSync : Int := 0
  logDelay : Int := 0
  master : Option Master := none
  twoStep : Bool := false
  lastAnnounce : Nat := 0
  lastSync : Nat := 0
  lastSyncLocal : Nat := 0
  /-- The last 64 offset estimates, newest first, less the clock's own corrections (`Clk.corr`). -/
  ests : List Int := []
  lockRun : Nat := 0
  pathDelay : Nat := 0
  /-- Sending and receiving instants of the last Sync, and the sending stamp of the last delay request (R318, R329). -/
  syncTimes : Option (Int × Int) := none
  reqStamp : Int := 0
  lastDelayReq : Nat := 0
  delayReqPending : Bool := false
  holdoverSince : Nat := 0
  syncRx : Nat := 0
  followUpRx : Nat := 0
  delayReqTx : Nat := 0
  delayRespRx : Nat := 0
  announceRx : Nat := 0
  timeouts : Nat := 0
  relocks : Nat := 0
deriving DecidableEq, Repr

/-- Board corrections of a port's stamps in units of 1/16 ns (Table 13-3). -/
structure Asym where
  ingress : Int := 0
  egress : Int := 0
  asym : Int := 0
deriving DecidableEq, Repr

structure Clk where
  /-- The elapsed counter of R325 in ns; only differences of it are used. -/
  elapsed : Nat := 0
  /-- Local time in ns (R321). -/
  localNs : Nat := 0
  stitch : Nat := 0
  /-- Local time of the last Stitch boundary served, a multiple of 500,000 ns (R16). -/
  boundary : Nat := 0
  /-- A forward step has crossed the boundary of the current Stitch, whose work is still to be served (R324). -/
  stepDue : Bool := false
  established : Bool := false
  domains : List Domain := [{}, {}]
  active : Option Nat := none
  betterRun : Nat := 0
  lastEval : Nat := 0
  switchSlew : Bool := false
  /-- o_res at `resAt`; it falls towards zero at the slew bound (R322). -/
  res0 : Int := 0
  resAt : Nat := 0
  /-- Corrections made to the local clock before `resAt`, steps and slews. -/
  corr0 : Int := 0
  /-- The frequency that the active domain last gave the clock, as the parts in 10^12 by which local time runs faster than the elapsed
  counter (R319, R322; log entry 5). -/
  freq : Int := 0
  /-- Instant at which the first domain became active since reset (R320). -/
  firstAt : Option Nat := none
  lastSteer : Nat := 0
  /-- UNCERT of a TIME_SET with no domain locked since, in us, and its instant (R327). -/
  setUncert : Option Nat := none
  setAt : Nat := 0
  large : Bool := false
  disagree : Bool := false
  lastForward : Option Nat := none
  /-- A reference has been seen since the latest instant of R326 case 4. -/
  referenceSeen : Bool := false
  thetaUs : Nat := 100000
  oscPpb : Nat := 2000
  slewPpm : Nat := 100
  switches : Nat := 0
  steps : Nat := 0
  rtcSec : Nat := 0
  rtcSub : Nat := 0
  /-- Elapsed instant at which the RTC had that reading. -/
  rtcAt : Nat := 0
  legacy : List Bool := List.replicate 5 false
  legacyPending : List (Nat × Bool) := []
  asym : List Asym := List.replicate 5 {}
  asymPending : List (Nat × Asym) := []
  /-- Faults of the clock inputs of R486: (input, last finding). -/
  faults : List (Nat × Nat) := []
  refLost : Bool := false
  refLostAt : Nat := 0
  refGoodAt : Option Nat := none
  clockFault : Bool := false
deriving DecidableEq, Repr

/-! ### Command transports (spec/03) -/

/-- A command the device has taken and not completed (R78), with what its reply needs. -/
structure Job where
  req : Request
  cls : Nat := 0
  op : Nat := 0
  /-- Executed under R76 as a deferred command: it has no reply, a failure raises EVT_TXN. -/
  deferred : Bool := false
  /-- The paired submission queue's head after this command was taken (Table 3-4). -/
  sqHead : Nat := 0
  /-- A reply buffer is reserved for it (R82). -/
  buf : Bool := false
deriving DecidableEq, Repr

/-- A submission queue (Table 3-5, R82). -/
structure Sq where
  base : Nat := 0
  size : Nat := 0
  tail : Nat := 0
  head : Nat := 0
deriving DecidableEq, Repr

/-- A completion queue: `posted` entries not yet consumed, `reserved` slots (R82). -/
structure Cq where
  base : Nat := 0
  size : Nat := 0
  head : Nat := 0
  tail : Nat := 0
  phase : Bool := true
  posted : Nat := 0
  reserved : Nat := 0
deriving DecidableEq, Repr

/-- The reply-buffer pool (R81). -/
structure Rbuf where
  base : Nat := 0
  count : Nat := 0
  prod : Nat := 0
  cons : Nat := 0
  reserved : Nat := 0
deriving DecidableEq, Repr

/-- One SPI port (R92, R93). -/
structure Spi where
  held : Nat := 0
  waiting : List (List Byte) := []
  crcErr : Bool := false
  discarded : Nat := 0
  eventsLost : Nat := 0
deriving DecidableEq, Repr

/-- BAR0 registers and the state behind them (Tables 3-5 to 3-8). -/
structure Hif where
  ready : Bool := false
  hoopState : Nat := 0
  panic : Bool := false
  panicCode : Nat := 0
  cfgErr : Bool := false
  enable : Bool := false
  irqStatus : Nat := 0
  irqMask : Nat := 0
  /-- MSI-X is enabled in configuration space (R87), and the PCIe link is up (R85). DESIGN CHOICE (log entry 88): both hold at reset and
  after the exit from REST; the spec gives neither a value there. -/
  msix : Bool := true
  pcieUp : Bool := true
  sqs : List Sq := List.replicate 4 {}
  cqs : List Cq := List.replicate 4 {}
  eq : Cq := {}
  eqLost : Nat := 0
  rbuf : Rbuf := {}
  latchStitch : Nat := 0
  latchTimeS : Nat := 0
  latchTimeNs : Nat := 0
  fenceValue : Nat := 0
  apertureBase : Nat := 0
  scratch : Nat := 0
  rrNext : Nat := 0
  spi : Spi := {}
  safetySpi : Spi := {}
  inflight : List Job := []
  held : List Job := []
deriving DecidableEq, Repr

/-- An open session 1-15 (R94-R97, R110, R379). -/
structure Session where
  number : Nat
  role : Nat
  transport : Transport
  peer : Nat := 0
  udp : Nat := 0
  port : Nat := 0
  key : List Byte := []
  seqIn : Nat := 0
  seqOut : Nat := 0
  lastAccepted : Nat := 0
  mask : Nat := 0xFFFE
  veto : Bool := false
  evSeq : Nat := 0
  evLoss : Bool := false
deriving DecidableEq, Repr

/-- An outstanding SESSION_OPEN challenge (R96). -/
structure Challenge where
  transport : Transport
  peer : Nat := 0
  udp : Nat := 0
  bytes : List Byte
  issued : Nat
deriving DecidableEq, Repr

/-- A delivery stream's counters (R108). -/
structure Stream where
  opened : Bool := false
  evSeq : Nat := 0
  loss : Bool := false
deriving DecidableEq, Repr

/-- An event the device raises (Table 4-23), before it is addressed to a stream. -/
structure Event where
  op : Nat
  source : Nat
  stitch : Nat
  data : List Byte
deriving DecidableEq, Repr

/-- Sessions, challenges, the safety heartbeat and the event streams. -/
structure Ses where
  sessions : List Session := []
  challenges : List Challenge := []
  /-- Masks and vetoes of session 0 of PCIe, the SPI command port and the SAFETY SPI port, in this order. -/
  masks0 : List Nat := [0xFFFE, 0xFFFE, 0xFFFE]
  vetoes0 : List Bool := [false, false, false]
  proofFailures : Nat := 0
  supervised : Bool := false
  hbPeriodMs : Nat := 100
  hbDeadline : Nat := 0
  hbLost : Bool := false
  hbLostAt : Nat := 0
  hbSuspended : Bool := false
  pcieStream : Stream := {}
  spiStream : Stream := {}
  safetyStream : Stream := {}
  /-- Events of R137 held after a reset and the instant at which they are discarded. -/
  heldEvents : List Event := []
  heldUntil : Nat := 0
  heldGivenPcie : Bool := false
  /-- Events already raised in the current Stitch: (opcode, source, code), for the once-per-Stitch rules. -/
  onceThisStitch : List (Nat × Nat × Nat) := []
deriving DecidableEq, Repr

/-! ### Transactions (spec/05) -/

inductive TxnState where
  | open_ | committing | fixed | applying | applied | rolledBack
deriving DecidableEq, Repr

/-- One Pricking transaction (Tables 5-1 to 5-4). -/
structure Txn where
  handle : Nat
  session : Nat
  transport : Transport
  peer : Nat := 0
  /-- Its session has closed while it was FIXED or APPLYING: it completes, and belongs to no session (R120, R121). -/
  orphan : Bool := false
  st : TxnState := .open_
  reason : Nat := 0
  staged : List Job := []
  /-- Every identifier named in a staged command (R124). -/
  objects : List Nat := []
  idleNs : Nat := 10000000000
  idleSince : Nat := 0
  /-- The commit: fences with targets, S_c, timeout, acceptance instant, LATE_APPLY, the waiting request. -/
  fences : List (Nat × Nat) := []
  sc : Nat := 0
  timeoutNs : Nat := 0
  acceptedAt : Nat := 0
  lateApply : Bool := false
  commit : Option Job := none
  sa : Nat := 0
  /-- Heads that were UNTIMED, disabled or in self-refresh at the start of S_a (R133). -/
  atOnce : List Nat := []
  failIndex : Nat := 0
  failStatus : Nat := 0
deriving DecidableEq, Repr

/-- A deferred command (R76) and the Stitch at whose start it executes. -/
structure Deferred where
  job : Job
  stitch : Nat
deriving DecidableEq, Repr

/-- A head-affecting change that waits for an apply line, or a layer change that waits for a Stitch boundary
(R131, R517). `op` numbers it in order of acceptance; the change itself is carried by the request's own bytes. -/
structure Change where
  /-- The head whose apply line it waits for; none = the next Stitch boundary. -/
  head : Option Nat
  job : Job
  txn : Nat := 0
deriving DecidableEq, Repr

structure TxnUnit where
  lastHandle : Nat := 0
  live : List Txn := []
  /-- The 16 most recently finished, newest first (R136). -/
  finished : List Txn := []
  deferred : List Deferred := []
  changes : List Change := []
deriving DecidableEq, Repr

/-! ### Ingest and the camera network (spec/06) -/

/-- Port counters of Table 6-10. -/
structure NetCounters where
  rxFrames : Nat := 0
  rxOctets : Nat := 0
  rxFcsErr : Nat := 0
  rxLengthErr : Nat := 0
  rxVlanDrop : Nat := 0
  rxUnmatched : Nat := 0
  rxStranger : Nat := 0
  rxContention : Nat := 0
  txFrames : Nat := 0
  txOctets : Nat := 0
  fecCorrected : Nat := 0
  fecUncorrected : Nat := 0
  fecSymbolErr : Nat := 0
  blockLockLoss : Nat := 0
  linkDown : Nat := 0
  fallback : Nat := 0
  cmdAccepted : Nat := 0
  cmdDiscarded : Nat := 0
  membershipTx : Nat := 0
  queriesRx : Nat := 0
  rxOverload : Nat := 0
deriving DecidableEq, Repr

/-- A network port: ETH0-ETH3, RGMII, CB0, CB1 (Tables 6-1, 6-2, 6-10, 6-11). -/
structure NetPort where
  enable : Bool := false
  speed : Nat := 0
  fec : Bool := true
  command : Bool := false
  mtu : Nat := 1500
  vlan : Nat := 0
  addrFlags : Nat := 0
  prefix4 : Nat := 0
  mac : Nat := 0
  prefix6 : Nat := 0
  ipv4 : Nat := 0
  ipv6 : Nat := 0
  gateway : Nat := 0
  link : Bool := false
  curSpeed : Nat := 0
  fecActive : Bool := false
  /-- AUTO search (R140): rate sought (1 or 2) and when its window began. -/
  searchRate : Nat := 1
  searchSince : Nat := 0
  /-- Block lock that held when the window ended, acquired inside it (R140). -/
  lockSince : Option Nat := none
  loop : Nat := 0
  loopUntil : Option Nat := none

  ctr : NetCounters := {}
  fecEvtAt : Option Nat := none
  fecSinceEvt : Nat := 0
  /-- Repeats of state-change reports due: (group, records, due) (R162). -/
  retransmit : List (Nat × List (Nat × List Nat) × Nat) := []
  /-- Older queriers present: IPv6, version and until when (R162). -/
  olderQuerier : List (Bool × Nat × Nat) := []
deriving DecidableEq, Repr

structure PathFilter where
  sources : List Nat := []
  srcPort : Nat := 0
  ssrcFixed : Bool := false
  ssrc : Nat := 0
deriving DecidableEq, Repr

structure PathState where
  port : Nat := 0
  dst : Nat := 0
  udp : Nat := 0
  filter : PathFilter := {}
  /-- A new filter takes effect at the next Stitch boundary (R146); the filter and owned SSRC before it, for packets stamped
  before that instant. -/
  pendingFilter : Option PathFilter := none
  before : Option (PathFilter × Option Nat × Nat) := none
  /-- When the channel was opened. -/
  since : Nat := 0
  owned : Option Nat := none
  ownedLast : Nat := 0
  lastAccepted : Option Nat := none
  down : Bool := false
  accepted : Nat := 0
deriving DecidableEq, Repr

structure Join where
  path : Nat
  mode : Nat
  group : Nat
  source : Nat
deriving DecidableEq, Repr

/-- An accepted packet not yet delivered. `arrival` is local time and `at_` the same instant on the elapsed counter; DEPTH
and REORDER in force at its arrival. -/
structure PktRec where
  ext : Int
  ts : Nat
  marker : Bool
  arrival : Nat
  at_ : Nat
  legacy : Bool
  path : Nat
  port : Nat
  ssrc : Nat
  src : Nat
  au : Option AuInfo
  slice : Nat
  endsSlice : Bool
  audio : List (List Int)
  fragment : Nat := 0
  raw : List Byte := []
  depthNs : Nat
  reorder : Nat
deriving DecidableEq, Repr

/-- A candidate sequence space (R149). -/
structure Candidate where
  pkts : List PktRec
  hc : Int
  lastAt : Nat
  /-- In-window packets of the established space since its first packet. -/
  established : Nat
  /-- Interleaved with the established space: its packets are contention (R149). -/
  inter : Bool := false
deriving DecidableEq, Repr

/-- Channel counters of Table 6-9. -/
structure SrcCounters where
  delivered : Nat := 0
  duplicates : Nat := 0
  lost : Nat := 0
  late : Nat := 0
  reordered : Nat := 0
  strangers : Nat := 0
  contention : Nat := 0
  frames : Nat := 0
  incomplete : Nat := 0
  strays : Nat := 0
  seiIgnored : Nat := 0
  /-- Frames demoted under R38. -/
  demoted : Nat := 0
deriving DecidableEq, Repr

/-- An access unit that is being delivered slice by slice: RTP timestamp, SEQ of its record, arrival of its earliest packet on
the elapsed counter, its window, and the next slice. -/
structure PartUnit where
  ts : Nat
  seq : Nat
  firstAt : Nat
  depthNs : Nat
  next : Nat
deriving DecidableEq, Repr

inductive SrcState where
  | closed | waiting | active | silent
deriving DecidableEq, Repr

/-- A sender report (R204): NTP time in ns, RTP timestamp, local time of acceptance. -/
structure SenderReport where
  ntpNs : Nat
  rtp : Nat
  at_ : Nat
deriving DecidableEq, Repr

/-- An ingest channel (0-63) or network audio stream (64-95). -/
structure Src where
  st : SrcState := .closed
  /-- Its filter entries are installed, at the Stitch boundary after SRC_OPEN (Table 6-4). -/
  installed : Bool := false
  typ : Nat := 0
  dual : Bool := false
  rtcpMux : Bool := false
  paths : List PathState := [{}, {}]
  pt : Nat := 0
  p1 : Nat := 0
  p2 : Nat := 0
  p3 : Nat := 0
  p4 : Nat := 0
  joins : List Join := []
  depthUs : Nat := 20000
  reorder : Nat := 64
  pendingJitter : Option (Nat × Nat) := none
  creditUs : Nat := 0
  /-- Highest extended sequence number accepted, and first number of the next access unit. -/
  h : Option Int := none
  nextE : Option Int := none
  /-- Timestamp of the unit delivered last, when its marker packet had not been received. -/
  tail : Option Nat := none
  /-- Accepted numbers still comparable: timestamp, path, arrival. -/
  seen : List (Int × Nat × Nat × Nat) := []
  /-- Ranges (lowest, highest, timestamp) of the 64 units delivered most recently, newest first. -/
  delivered : List (Int × Int × Nat) := []
  wait : List PktRec := []
  /-- The unit being delivered slice by slice (R282). -/
  part : Option PartUnit := none
  cand : Option Candidate := none
  /-- Contested interval and the silences, on the elapsed counter (R325). -/
  contestedUntil : Nat := 0
  contestedSince : Nat := 0
  contested : Bool := false
  /-- Contested intervals before that one, newest first. -/
  pastContests : List (Nat × Nat) := []
  contestCount : Nat := 0
  ctr : SrcCounters := {}
  /-- Local arrival of the last accepted packet. -/
  lastArrival : Nat := 0
  lastAccepted : Nat := 0
  jitterNs : Nat := 0
  jitterRef : Option (Nat × Nat) := none
  skews : List (Nat × Int) := []
  waitPeakNs : Nat := 0
  sr : Option SenderReport := none
deriving DecidableEq, Repr

structure Net where
  ports : List NetPort := [{}, {}, {}, {}, { command := true }, {}, {}]
  srcs : List Src := List.replicate 96 {}
  /-- Packets passed to each ingest Bobbin in this Stitch, those dropped, and the port of the first drop (R159). -/
  bobbinPkts : List Nat := List.replicate 8 0
  bobbinDrops : List Nat := List.replicate 8 0
  dropPorts : List Nat := List.replicate 8 0
deriving DecidableEq, Repr
/-! ### Guard units (spec/17) and memory (spec/01 R19-R30) -/

/-- A region entry (Table 17-2); `sizeExp` 0 = disabled. -/
structure Region where
  base : Nat := 0
  sizeExp : Nat := 0
  read : Bool := false
  write : Bool := false
  lock : Bool := false
  role : Nat := 0
  owner : Nat := 0
deriving DecidableEq, Repr

/-- A violation record (Table 17-3). -/
structure Violation where
  address : Nat
  stitch : Nat
  unit : Nat
  write : Bool
  length : Nat
  sub : Nat
  region : Nat
  cause : Nat
  flags : Nat
  lockUnit : Nat
deriving DecidableEq, Repr

/-- What stalls at a closed unit: an access, or a PEEK or POKE at GU_HOOP. -/
inductive Stalled where
  | access (x : Access)
  | job (j : Job)
deriving DecidableEq, Repr

/-- A unit closed for an update (Table 17-6): the new program, the command, the close cycle, and what stalls, in arrival order. -/
structure GuardUpdate where
  program : List Region
  job : Job
  closedAt : Nat := 0
  stalled : List Stalled := []
deriving DecidableEq, Repr

/-- A Guard unit (R389, R390, Table 17-1). -/
structure GuardUnit where
  regions : List Region := List.replicate 16 {}
  violations : List Violation := []
  total : Nat := 0
  update : Option GuardUpdate := none
deriving DecidableEq, Repr


/-! ### Decoding, Gimp records and freeze detection (spec/07, spec/08) -/

/-- A Gimp record (Table 8-1) with whether it is live and what it keeps beside the taint map. -/
structure GimpRec where
  object : Nat
  flags : Nat := 0
  seq : Nat
  captureNs : Nat := 0
  arrivalNs : Nat := 0
  /-- The arrival on the elapsed counter (R325). -/
  arrivalAt : Nat := 0
  decodeDone : Nat := 0
  evidence : Nat := 4
  activity : Nat := 0xFFFF
  counter : Nat := 0
  signature : Nat := 0
  taintMap : Nat := 0
  tainted : Nat := 0
  uncert : Nat := 0
  live : Bool := true
  /-- Released for R50: its frame is gone. -/
  released : Bool := false
  /-- The cell-state map as received, and its verdict: columns, rows, non-live cells with states (R202). -/
  mapRaw : Option (List Byte) := none
  mapCells : List (Nat × Nat) := []
  /-- Tainted 32x32 cells (R184) of the picture. -/
  cells : List Nat := []
  width : Nat := 0
  height : Nat := 0
  /-- What a later setting of CLOCK and SRC_UNCERT judges again (R209): ARRIVAL at delivery, RTP timestamp, capture time and uncertainty of its SEI,
  capture time under the sender report at delivery, U_dev then, time-stamped on a legacy port, settings used. -/
  filledNs : Nat := 0
  ts : Nat := 0
  seiTime : Option (Nat × Nat) := none
  srTime : Option Nat := none
  uDev : Nat := 0
  legacy : Bool := false
  clockUsed : Nat := 0
  srcUsed : Nat := 0
  /-- ENABLES in force at its decode-done (R209). -/
  enables : Nat := 0
deriving DecidableEq, Repr

/-- One quota of the Gimp table (R196): records newest first. -/
structure Quota where
  recs : List GimpRec := []
  nextSeq : Nat := 1
  /-- Highest SEQ at a backward step (R326). -/
  backSeq : Nat := 0
  /-- Losses of REFCLK: the highest SEQ at each loss, and at its return (R487). -/
  lost : List (Nat × Option Nat) := []
deriving DecidableEq, Repr

inductive DecState where
  | unconfigured | configured | seeking | recovering | decoding | shed
deriving DecidableEq, Repr

/-- Taint of one 4x4 unit: FIRM, REC (R184). Clean units are not listed. -/
structure UnitTaint where
  unit : Nat
  firm : Bool
  rec_ : Bool
deriving DecidableEq, Repr

/-- A slice delivered under R282: its number, local arrival of its newest packet, Stitch of delivery, whether packets of it
were lost, whether it is dispatched, and whether its ring slot was not free (R284). -/
structure SliceIn where
  n : Nat
  arrival : Nat
  stitch : Nat
  lost : Bool
  started : Bool := false
  spilled : Bool := false
deriving DecidableEq, Repr

/-- Freeze settings (Table 8-9). -/
structure Freeze where
  enables : Nat := 0x0F
  noise : Bool := false
  sigN : Nat := 24
  counterN : Nat := 8
  skipN : Nat := 48
  floor_ : Nat := 2
  stillUs : Nat := 2000000
  clock : Nat := 0
  srcUncertUs : Nat := 1000
deriving DecidableEq, Repr

/-- A frame buffer of a pool (Table 7-5). -/
structure Buf where
  shortRef : Bool := false
  longRef : Bool := false
  /-- Decoded, not used for reference, and awaiting output or the latest output picture. -/
  decoding : Bool := false
  awaitOutput : Bool := false
  /-- Tiles (layer, head) that hold it on DisplayPort heads, and on virtual heads. -/
  dispHolds : List (Nat × Nat) := []
  encHolds : List (Nat × Nat) := []
  poc : Int := 0
  frameNum : Int := 0
  order : Nat := 0
  seq : Nat := 0
  taint : List UnitTaint := []
  width : Nat := 0
  height : Nat := 0
  bitDepth : Nat := 8
  /-- Conformance window: the place and size of the output picture in it; chroma_format_idc of what is stored. -/
  cropX : Nat := 0
  cropY : Nat := 0
  outW : Nat := 0
  outH : Nat := 0
  chroma : Nat := 1
  /-- Chroma sample location type, matrix and range of its VUI (Table 9-3). -/
  chromaLoc : Nat := 0
  matrix : Nat := 0
  fullRange : Bool := false
  /-- Samples of the rows that are there, over the coded width, each under its number. -/
  rowPix : List (Nat × Samples) := []
  /-- Rows published with their completion instants (R179). -/
  rows : List (Nat × Nat) := []
  /-- Slice-locked path: the slices as CTU rows (first, count), those delivered, CTU size, and eligibility (R277). -/
  plan : List (Nat × Nat) := []
  slices : List SliceIn := []
  ctu : Nat := 16
  eligible : Bool := true
  /-- Freeze settings in force at its decode-done (R209). -/
  judge : Freeze := {}
deriving DecidableEq, Repr

/-- An access unit waiting in the CPB. -/
structure CpbUnit where
  seq : Nat
  info : AuInfo
  /-- The sequence parameter set it refers to: its own, or the one last received before it (R518). -/
  sps : Option SpsInfo := none
  /-- Slices of which no packet is left (R154, R183), and those that lost some of their packets. -/
  gone : List Nat := []
  hurt : List Nat := []
  arrival : Nat
  /-- Stitch of delivery, and whether data was declared lost. -/
  stitch : Nat
  lost : Bool
  /-- Slices delivered so far on a slice-locked channel, and whether no more follow (R282). -/
  slices : List SliceIn := []
  whole : Bool := true
  /-- Number, among the IRAP pictures delivered to the channel, of the one that it is or follows (R189). -/
  irap : Nat := 0
deriving DecidableEq, Repr

/-- A row of a picture not yet complete (R179, R180): its luma samples, those left after this Stitch, the bins of the
picture up to its end, its core, and the instants at which it has started (0 = not yet) and at which it completes when
nothing is left of it. -/
structure RowLeft where
  row : Nat
  samples : Nat
  rem : Nat
  bins : Nat
  core : Nat
  due : Nat
  start : Nat := 0
  /-- Luma samples already charged to the Stitches in which they ran (R358). -/
  charged : Nat := 0
deriving DecidableEq, Repr

/-- A missing reference and what stands in for it (R182): its frame_num or POC, REC (true) or FIRM taint, and the samples of
the substitute picture, whose motion field counts as zero. -/
structure Missing where
  id : Int
  rec_ : Bool
  grey : Bool
  pic : Buf := {}
deriving DecidableEq, Repr

/-- The picture under reconstruction. -/
structure CurPic where
  unit : CpbUnit
  buf : Nat
  rowsLeft : List RowLeft
  /-- Bins parsed by the end of this Stitch, and the cores it is dealt to. -/
  parsed : Nat := 0
  cores : List Nat := []
  missing : List Missing := []
  /-- The conceal mode it is decoded with (R171), and the slices in which damage has been met (R183). -/
  conceal : Nat := 0
  damaged : List Nat := []
  /-- TYPE 5: luma rows received (first, count) (R449, R453). -/
  bands : List (Nat × Nat) := []
deriving DecidableEq, Repr

/-- A recovery window (R188): decode order and POC of P, identifier of R. -/
structure Window where
  order : Nat
  pPoc : Int
  target : Int
deriving DecidableEq, Repr

/-- The decode context, pool and freeze state of one ingest channel. -/
structure Ctx where
  st : DecState := .unconfigured
  codec : Nat := 0
  profile : Nat := 0
  level : Nat := 0
  conceal : Nat := 0
  joinAny : Bool := false
  maxW : Nat := 0
  maxH : Nat := 0
  cpbKib : Nat := 0
  bitDepth : Nat := 8
  cpb : List CpbUnit := []
  bufs : List Buf := []
  cur : Option CurPic := none
  order : Nat := 0
  latest : Option Nat := none
  /-- The output picture before the latest one (R287). -/
  prevOut : Option Buf := none
  /-- The picture decoded last since the context entered SEEKING (NEAREST, R182, R183). -/
  lastPic : Option Buf := none
  window : Option Window := none
  /-- REC taint is dropped in pictures at or after this POC (R188). -/
  recDrop : Option Int := none
  dpbNeeded : Nat := 0
  stalls : Nat := 0
  waiting : Nat := 0
  discarded : Nat := 0
  ignoredSei : Nat := 0
  lastTainted : Nat := 0
  sinceTainted : Nat := 0
  /-- IRAP pictures delivered, and the number of the CRA picture at which decoding has started (R189). -/
  iraps : Nat := 0
  craStart : Option Nat := none
  /-- EVT_DECODE occurrences that were not raised, by code less one (R190). -/
  evMissed : List Nat := List.replicate 10 0
  /-- The sequence parameter set last received. -/
  sps : Option SpsInfo := none
  freeze : Freeze := {}
  pendingFreeze : Option Freeze := none
  sigRun : Nat := 0
  ctrRun : Nat := 0
  skipRun : Nat := 0
  /-- Local ARRIVAL of the first frame of a stillness run, moved by steps (R325). -/
  stillStart : Option Int := none
  /-- Facts of the predecessor of R205: SEQ, and its luma for ACTIVITY. -/
  prevSeq : Option Nat := none
  prevLuma : List Nat := []
  prevW : Nat := 0
  prevH : Nat := 0
  prevDepth : Nat := 0
  /-- Pictures delivered in the last second, for the planner: instant, charge in luma samples, the greater of parsing and
  reconstruction (R180), luma samples, and whether it lies above sub-layer 0. -/
  recent : List (Nat × Nat × Nat × Bool) := []
  /-- The plan holds the channel to temporal sub-layer 0 (R181). -/
  sub0 : Bool := false
deriving DecidableEq, Repr

structure Dec where
  ctxs : List Ctx := List.replicate 64 {}
  /-- Capacity left of each of the 8 cores in this Stitch, in luma samples. -/
  cores : List Nat := List.replicate 8 500000
  /-- Overruns of DEC0-DEC3 and ENC0 (R18). -/
  overruns : List Nat := List.replicate 5 0
  gimpCh : List Quota := List.replicate 64 {}
  gimpG : List Quota := List.replicate 64 {}
deriving DecidableEq, Repr

/-! ### Layers, tiles, tables, fences (spec/02, spec/08, spec/09) -/

structure Rect where
  x : Nat := 0
  y : Nat := 0
  w : Nat := 0
  h : Nat := 0
deriving DecidableEq, Repr

/-- A freshness policy (Table 2-1). Freeze overrides are masks in the bit order of ENABLES. -/
structure Policy where
  boundUs : Nat := 250000
  late : Nat := 0x8000
  minEvidence : Nat := 4
  uMaxUs : Nat := 5000
  freezeOn : Nat := 0
  freezeOff : Nat := 0
  impaired : Nat := 0x4000
  style : Nat := 0
  cls : Nat := 4
deriving DecidableEq, Repr

/-- What commands set on a layer (R219-R235, R31-R35, R211, R68, R369). -/
structure LayerCfg where
  dest : Rect := {}
  z : Nat := 0
  enable : Bool := false
  /-- Video: the bound channel. -/
  source : Option Nat := none
  format : Nat := 0
  rowLatch : Bool := false
  alpha : Nat := 255
  crop : Rect := {}
  coef : Nat := 0
  phaseH : Int := 0
  phaseV : Int := 0
  nearest : Bool := false
  guarded : Bool := false
  policy : Policy := {}
  /-- Styles chosen for states (R211). -/
  treatments : List (Nat × Nat) := []
  paused : Bool := false
  cls : Nat := 4
  /-- Pre-blend LUT: entries that differ from the reset curve (R234), as (4096 × component + index, value). -/
  preLut : List (Nat × Nat) := []
deriving DecidableEq, Repr

/-- A queued or applied flip of a graphic layer (Tables 9-10, 9-11). -/
structure Flip where
  seq : Nat
  /-- Elapsed instant of acceptance (R238): of a staged flip the start of S_a, whose apply lines include one exactly then (R132). -/
  accepted : Nat := 0
  staged : Bool := false
  fence : Nat := 0
  target : Nat := 0
  address : Nat := 0
  pitch : Nat := 0
  w : Nat := 0
  h : Nat := 0
  /-- Stitches counted at the front of the queue, an apply line counting 33 (R238). -/
  fronts : Nat := 0
  /-- Staged with the placement of its layer on this head: it waits for the head's apply line (R131). -/
  onHead : Option Nat := none
deriving DecidableEq, Repr

/-- A direct flip that waits for its reply, and whether it was applied or retired in some queue (R239). -/
structure FlipJob where
  seq : Nat
  job : Job
  ok : Bool := false
deriving DecidableEq, Repr

/-- A video layer (0-127) or graphic layer (128-191), as accepted; its tiles hold what is in force on each head. -/
structure Layer where
  head : Option Nat := none
  cfg : LayerCfg := {}
  /-- What is in force while the layer is on no head (R517), and the snapshot its next tile starts from (R134). -/
  base : LayerCfg := {}
  snap : LayerCfg := {}
  /-- The Picot position kept while the layer is on no head. -/
  picot : Nat := 0
  everBound : Bool := false
  /-- Queue and applied buffer while the layer is on no head. -/
  queue : List Flip := []
  applied : Option Flip := none
  flipJobs : List FlipJob := []
  futureContent : Nat := 0
deriving DecidableEq, Repr

/-- One layer on one head: what is in force there, what it has latched and its last verdict (R31, R69-R71). -/
structure Tile where
  layer : Nat
  head : Nat
  /-- Order of placement, the newest highest (R212). -/
  placed : Nat := 0
  cfg : LayerCfg := {}
  queue : List Flip := []
  applied : Option Flip := none
  /-- Latched picture: Gimp quota object and SEQ. -/
  latched : Option (Nat × Nat) := none
  /-- The buffer of a graphic layer that it has latched (R223). -/
  buffer : Option Flip := none
  /-- The channel's previous output picture, held beside it on a slice-locked tile (R287). -/
  prevHeld : Option (Nat × Nat) := none
  hold : Bool := false
  state : Nat := 0x07
  notScanned : Bool := true
  clipped : Bool := false
  evidence : Nat := 0
  picot : Nat := 0
  picotShown : Bool := false
  ageUs : Nat := 0xFFFFFFFF
  uncertNs : Nat := 0
  tainted : Nat := 0
  fired : Nat := 0
  seq : Nat := 0
  headFrame : Nat := 0
  /-- The head frame in which the layer last latched. -/
  latchFrame : Option Nat := none
  /-- A verdict has been taken since the tile was guarded (R71). -/
  judged : Bool := false
  /-- The frame shown in the previous scanned head frame (R63), and the state byte there (R71). -/
  shown : Option (Nat × Nat) := none
  scannedByte : Nat := 0
  /-- The state byte of the last verdict (R288). -/
  verdictByte : Nat := 0
  /-- The record of the latched picture as the latch found it (R225). -/
  seen : Option GimpRec := none
  /-- After a wake from DOZE or REST, until a verdict on a frame received since: the elapsed instant of the wake (R35). -/
  freshFrom : Option Nat := none
  /-- Predicted scan time and effective age of the last verdict, in ns (R39, R44). -/
  scanNs : Nat := 0
  ageNs : Nat := 0
  /-- Luminance of the treated picture in the tile's last scanned frame, as a fraction of 1,000,000, and that frame (R66). -/
  lumaMean : Nat := 0
  lumaFrame : Option Nat := none
  /-- The mean against which this head frame's hatch is drawn (R66). -/
  hatchMean : Nat := 0
  /-- EVT_TILE_STATE window (R215): last event instant, state byte last reported, changes since, held. -/
  evtAt : Option Nat := none
  reported : Nat := 0
  changes : Nat := 0
  heldEvt : Bool := false
  /-- Tainted cells of this head frame only (R223, R288), and the first line on which each is hatched (R288). -/
  frameCells : List Nat := []
  frameLines : List (Nat × Nat) := []
  /-- The pictures that the scan reads: the latched one, and the channel's previous output picture for rows that are not there in
  time (R223, R288). -/
  pic : Option Buf := none
  prevPic : Option Buf := none
deriving DecidableEq, Repr

/-- A style entry (Table 9-13, R65). -/
structure Style where
  picotSize : Nat := 16
  corner : Nat := 1
  hatchW : Nat := 2
  hatchSpacing : Nat := 12
  borderW : Nat := 3
  dotGap : Nat := 4
  textSize : Nat := 1
  glyph : Bool := false
  /-- LIT, UNLIT, AMBER, FOOTPRINT, HATCH, HATCH_ALT, DARK_FILL as R[29:20] G[19:10] B[9:0]. -/
  colours : List Nat := [0x3FFFFFFF, 51 * 1049601, 1023 * 1048576 + 384 * 1024, 0, 700 * 1049601, 20 * 1049601, 0]
deriving DecidableEq, Repr

/-- A shadow copy with unpublished writes (R231). `table`: the identifier of the set, layer or head. -/
structure Shadow where
  table : Nat
  session : Nat
  transport : Transport
  lastWrite : Nat
  coef : List (Nat × Int) := []
  lut : List (Nat × Nat) := []
deriving DecidableEq, Repr

structure Fence where
  made : Bool := false
  value : Nat := 0
  /-- Value before the last write, and the elapsed instant of that write (R238). -/
  before : Nat := 0
  written : Nat := 0
  timeout : Nat := 3
deriving DecidableEq, Repr

structure Lay where
  layers : List Layer := List.replicate 192 {}
  tiles : List Tile := []
  placeCount : Nat := 0
  /-- Coefficient sets as published (R230): coefficients that differ from the built-in filter, as (512 × table + index,
  value). -/
  coefs : List (List (Nat × Int)) := List.replicate 16 []
  shadows : List Shadow := []
  styles : List Style := List.replicate 16 {}
  fences : List Fence := List.replicate 256 {}
  /-- SAFE input n maps to (banner identifier, sense), as accepted (R248). -/
  safeMap : List (Option (Nat × Bool)) := List.replicate 8 none
deriving DecidableEq, Repr

/-! ### Heads and DisplayPort (spec/10), Applique integrity (R250, R251), attestation rings (spec/12) -/

/-- Head timing (Table 10-1). -/
structure Timing where
  flags : Nat := 0
  format : Nat := 1
  pclkKhz : Nat := 0
  hAct : Nat := 0
  hFp : Nat := 0
  hSync : Nat := 0
  hBp : Nat := 0
  vAct : Nat := 0
  vFp : Nat := 0
  vSync : Nat := 0
  vBp : Nat := 0
  num : Nat := 60
  den : Nat := 1
  sinkUs : Nat := 0
deriving DecidableEq, Repr

inductive HeadState where
  | untimed | disabled | scanning | closing | srEntry | selfRefresh
deriving DecidableEq, Repr

inductive LockState where
  | free | acquiring | locked
deriving DecidableEq, Repr

structure Genlock where
  mode : Nat := 0
  epochNs : Nat := 0
  phaseNs : Nat := 0
  st : LockState := .free
  goodRun : Nat := 0
  badRun : Nat := 0
deriving DecidableEq, Repr

/-- A host banner in force on a head (R247). -/
structure Banner where
  shown : Bool := false
  position : Nat := 0
  style : Nat := 0
  flash : Bool := false
  text : Option (List Byte) := none
deriving DecidableEq, Repr

/-- Attestation settings (Table 12-6). -/
structure AttestCfg where
  record : Bool := true
  send : Bool := false
  port : Nat := 0
  udpDst : Nat := 0
  dest : Nat := 0
  udpSrc : Nat := 0
  dscp : Nat := 0
  hop : Nat := 0
deriving DecidableEq, Repr

structure Head where
  st : HeadState := .untimed
  /-- In force, and accepted but waiting for the apply line. -/
  timing : Timing := {}
  accTiming : Option Timing := none
  /-- Enable as accepted (R252, R266 judge it). -/
  accEnable : Bool := false
  target : Nat := 0
  stream : Nat := 0
  accTarget : Nat := 0
  accStream : Nat := 0
  applyLine : Option Nat := none
  accApplyLine : Option Nat := none
  genlock : Genlock := {}
  accGenlockMode : Nat := 0
  accPostLut : List (Nat × Nat) := []
  /-- t_F of the current frame, and of the next once fixed, in local time in units of 2^-32 ns (log entry 45). -/
  tF : Nat := 0
  nextTF : Option Nat := none
  /-- Steering ratio of the current frame in parts per 10^9. -/
  steerPpb : Int := 0
  /-- Timing that starts with the next frame (R256). -/
  nextTiming : Option Timing := none
  frame : Nat := 0
  applied : Bool := false
  /-- Half refresh wanted by the planner, and in force (R260). -/
  halfWanted : Bool := false
  /-- Ladder position that the head has applied (R360). -/
  ladder : Nat := 0
  half : Bool := false
  /-- The next frame start goes on a target (Table 10-3, a disabled head). -/
  placeNext : Bool := false
  /-- The last active line of the current frame has ended. -/
  ended : Bool := false
  /-- Active lines of the current frame whose composition has been charged (R358). -/
  charged : Nat := 0
  /-- A TILE_RESUME came during SR_ENTRY (R272). -/
  srFail : Bool := false
  closingFrame : Bool := false
  /-- A self-refresh entry waits: its request. -/
  srJob : Option Job := none
  exitSr : Bool := false
  programmable : Bool := false
  order : List Nat := []
  postLut : List (Nat × Nat) := []
  coefs : List (List (Nat × Int)) := List.replicate 16 []
  styles : List Style := List.replicate 16 {}
  banners : List Banner := List.replicate 8 {}
  safeMap : List (Option (Nat × Bool)) := List.replicate 8 none
  /-- "SAFETY LINK LOST" as the last apply line found it, and as the current frame shows it (R99). -/
  linkNext : Bool := false
  linkLost : Bool := false
  clockFault : Bool := false
  /-- Host banners drawn in the current frame (R248). -/
  bannerMask : Nat := 0
  /-- The pixels composed in the current frame in raster order, once its active lines have been fetched: 30-bit code value, and 1
  where the Appliqué stage has painted, 2 where it has desaturated (R242, R250). -/
  shot : Option (List (Nat × Nat)) := none
  appliqueFault : Bool := false
  mismatchRun : Nat := 0
  matchRun : Nat := 0
  mismatches : Nat := 0
  faults : Nat := 0
  crcFrame : Nat := 0
  crcRender : Nat := 0
  crcOutput : Nat := 0
  /-- HEAD_GET_CRC: selection in force, pending with its requests, results of the last frame (R275). -/
  crcSel : Option Nat := none
  crcPending : Option (Nat × List Job) := none
  crcWaiting : List Job := []
  crcOut : List Nat := []
  crcOutFrame : Nat := 0
  attest : AttestCfg := {}
  attestPending : Option AttestCfg := none
  attestDrops : Nat := 0
  /-- Whether the current frame is composed (R298), and the record under construction. -/
  composed : Bool := false
  /-- The current frame has an attestation record (R312). -/
  recDue : Bool := false
  /-- Records not yet complete: head frame and bytes 0-239, oldest first. -/
  recs : List (Nat × List Byte) := []
  ring : List (Nat × List Byte) := []
  lastAllPaused : Bool := true
deriving DecidableEq, Repr

/-- A DisplayPort port (Table 10-6). -/
structure DpPort where
  st : Nat := 0
  hpd : Bool := false
  mst : Bool := false
  psr : Bool := false
  psr2 : Bool := false
  psrTrain : Bool := false
  dpcdRev : Nat := 0
  sinkRate : Nat := 0
  sinkLanes : Nat := 0
  rate : Nat := 0
  lanes : Nat := 0
  lastRate : Nat := 0
  lastLanes : Nat := 0
  retrains : Nat := 0
  training : Bool := false
  job : Option Job := none
  /-- The compliance pattern that the port sends, 0 none, and its lanes (R276). -/
  pattern : Nat := 0
  patternLanes : Nat := 0
deriving DecidableEq, Repr

inductive SlkMode where
  | off | locked | dropped
deriving DecidableEq, Repr

/-- The slice-locked path of one ingest channel (spec/11). -/
structure Slk where
  mode : SlkMode := .off
  /-- Locked as accepted, with the layer and head of the lock accepted last. -/
  acc : Bool := false
  accLayer : Nat := 0
  accHead : Nat := 0
  accReserve : Nat := 262144
  /-- The lock in force. -/
  layer : Nat := 0
  head : Nat := 0
  noReturn : Bool := false
  reserve : Nat := 262144
  justLocked : Bool := false
  /-- Elapsed instants of recent late slices, newest first. -/
  lateAt : List Nat := []
  cleanSince : Nat := 0
  /-- End of a window of 2 s that has passed clean (R291). -/
  cleanPassed : Option Nat := none
  pendingDrop : Option Nat := none
  reserveFrom : Nat := 0
  freeAt : Option Nat := none
  late : Nat := 0
  early : Nat := 0
  spill : Nat := 0
  /-- SEQ of the picture that the check lines of the current head frame judge, 0 = none, its head frame, and the slices
  judged in it. -/
  pic : Nat := 0
  picFrame : Nat := 0
  checked : List Nat := []
  /-- Slices judged late in it (R288). -/
  lateNow : List Nat := []
deriving DecidableEq, Repr

/-! ### Encoding (spec/12) -/

inductive EncState where
  | unconfigured | configured | running | idle
deriving DecidableEq, Repr

/-- ENC_CONFIG (Table 12-1). -/
structure EncCfg where
  codec : Nat := 1
  profile : Nat := 3
  level : Nat := 0
  sweep : Nat := 0
  period : Nat := 8
  divider : Nat := 1
  sliceRows : Nat := 0
  port : Nat := 0
  udpDst : Nat := 0
  dest : Nat := 0
  ssrc : Nat := 0
  pt : Nat := 96
  dscp : Nat := 0
  hop : Nat := 1
  udpSrc : Nat := 0
  payload : Nat := 512
deriving DecidableEq, Repr

/-- A picture of a virtual head that is composed or being coded: its head and head frame, size, t_F in ns, RTP timestamp, the
rate settings (TARGET_QP, QP_MAX, WINDOW, MAX_PIC, PEAK_KBPS), divider and IDR reason it is coded with, and, once its last
active line has ended, the cells of its map (R309) and the capture time of its SEI (R308). -/
structure EncPic where
  head : Nat
  frame : Nat
  w : Nat
  h : Nat
  num : Nat
  den : Nat
  tF : Nat
  ts : Nat
  uncertNs : Nat
  established : Bool
  rate : List Nat
  idr : Option Nat
  ended : Bool := false
  cells : List Nat := []
  captureNs : Nat := 0
  /-- The picture as converted for the encoder (R300). -/
  yuv : Samples := {}
  /-- Stitch in which its last active line ended. -/
  endStitch : Nat := 0
  /-- Luma lines already charged to the Stitches in which they were coded (R358). -/
  charged : Nat := 0
deriving DecidableEq, Repr

structure Enc where
  st : EncState := .unconfigured
  cfg : EncCfg := {}
  targetQp : Nat := 28
  qpMax : Nat := 42
  window : Nat := 30
  maxPic : Nat := 1048576
  peakKbps : Nat := 0
  core : Nat := 0
  load : Nat := 0
  halved : Bool := false
  idr : Option Nat := none
  /-- Pictures composed and not yet coded, oldest first. -/
  pics : List EncPic := []
  stopping : Option Nat := none
  /-- CODEC, PROFILE or LEVEL has changed since the last run (R302). -/
  reconfigured : Bool := false
  /-- Size and QP of the rows of the previous coded picture; QP 255 = skipped. -/
  prevRows : List (Nat × Nat) := []
  /-- Sizes of the last pictures, newest first, at most 239. -/
  sizes : List Nat := []
  /-- The refresh sweep: position and pictures since it began; none = the next picture begins one (R303). -/
  sweep : Option (Nat × Nat) := none
  seqNo : Nat := 0
  pictures : Nat := 0
  octets : Nat := 0
  packets : Nat := 0
  lastSr : Nat := 0
  /-- Head frame encoded last since the channel began to run. -/
  lastFrame : Option Nat := none
  /-- Tainted cells of its reconstruction buffer (R24). -/
  taint : List Nat := []
  /-- POC or frame_num of the next picture, an IDR apart (R301). -/
  order : Nat := 0
  /-- EVT_ENCODE occurrences that were not raised, by code less one (R317; log entry 85). -/
  evMissed : List Nat := List.replicate 8 0
  /-- Head frame of the picture coded last: what the next P picture predicts from (R301). -/
  lastCoded : Option Nat := none
deriving DecidableEq, Repr
/-! ### Audio (spec/14) -/

/-- Counters of Table 14-5, cleared when the object is opened, configured or regrouped (R350). -/
structure AudCtr where
  samples : Nat := 0
  silence : Nat := 0
  late : Nat := 0
  overrun : Nat := 0
  nonPcm : Nat := 0
  mutedNs : Nat := 0
deriving DecidableEq, Repr

/-- A channel pair of an input (R346): whether the last sample was Pa, whether a burst was found since, the frames since
the last indication, and the mute. -/
structure AudPair where
  src : Nat
  pair : Nat
  pa : Bool := false
  found : Bool := false
  clean : Nat := 0
  muted : Bool := false
  /-- Media time of the last sample seen, and of the first sample of the burst. -/
  lastN : Int := 0
  burstN : Int := 0
  /-- Frame of the channel-status block under way and the media time of its first, its non-PCM bit, and whether a complete block had
  it set, with the first media time of that block. -/
  blockAt : Option Nat := none
  blockN : Int := 0
  nonAudio : Bool := false
  status : Bool := false
  statusN : Int := 0
deriving DecidableEq, Repr

/-- Serial audio port (Table 14-1). -/
structure AudPort where
  enable : Bool := false
  master : Bool := false
  format : Nat := 0
  output : Bool := false
  slots : Nat := 2
  word : Nat := 16
  rate : Nat := 0
  clock : Nat := 0
  ratio : Nat := 0
  fault : Bool := false
  /-- Local instant of the last frame-sync edge. -/
  lastEdge : Nat := 0
  ctr : AudCtr := {}
deriving DecidableEq, Repr

/-- A linear 1 ms fade of a route: whether it fades to zero, and the instant at which it begins (Local ns). -/
structure Fade where
  down : Bool
  start : Nat
deriving DecidableEq, Repr

/-- A route (Table 14-2). -/
structure Route where
  number : Nat
  source : Nat
  srcCh : Nat
  dst : Nat
  dstCh : Nat
  follow : Nat
  gain : Int
  folMuted : Bool := false
  folFade : Option Fade := none
  /-- Local instant from which it counts as muted by FOLLOW. -/
  folSince : Nat := 0
  /-- Its layer has become unguarded: it stays muted until it is removed or changed. -/
  folDead : Bool := false
  npFade : Option Fade := none
  faultFade : Option Fade := none
deriving DecidableEq, Repr

/-- One buffered sample frame of a source: media time and one 32-bit value per channel. -/
structure AudFrame where
  src : Nat
  n : Int
  values : List Int
deriving DecidableEq, Repr

/-- An aligned group (Table 14-3). -/
structure Group where
  made : Bool := false
  clock : Nat := 0
  playout : Nat := 0
  loopBw : Nat := 0
  members : List Nat := []
  /-- Local instant from which destinations play (R344: PLAYOUT after the change). -/
  openAt : Nat := 0
  /-- Samples of a foreign reference numbered so far, and the local instant of its first (R340). -/
  refCount : Nat := 0
  refFirst : Option Nat := none
  /-- RTP timestamp of a foreign stream's latest sample, and its number. -/
  refTs : Nat := 0
  refN : Int := 0
  buffer : List AudFrame := []
  /-- Last media time played, and when, in units of 2^-32 ns. -/
  played : Option Int := none
  playedAt : Nat := 0
  /-- The loop of a foreign group (R345): the sum of its fill errors in ns, the PLL's correction in ppb, the elapsed instant since which
  the correction is at a limit, and whether that has been reported. -/
  fillSum : Int := 0
  ppb : Int := 0
  limitAt : Option Nat := none
  limit : Bool := false
  ctr : AudCtr := {}
deriving DecidableEq, Repr

structure Tone where
  playing : Bool := false
  owned : Bool := false
  level : Int := 0
  freq : Nat := 0
  onMs : Nat := 0
  offMs : Nat := 0
  dst : Nat := 0
  channels : Nat := 0
  duration : Nat := 0
  startAt : Nat := 0
  phaseOn : Bool := false
  phaseAt : Nat := 0
  /-- A sounding on-phase was stopped at this elapsed instant, and fades (R348). -/
  stopAt : Option Nat := none
deriving DecidableEq, Repr

/-- Samples of one event code and source in this Stitch (R350): count and first media time. -/
structure AudTally where
  code : Nat
  source : Nat
  count : Nat
  first : Nat
deriving DecidableEq, Repr

structure Aud where
  ports : List AudPort := List.replicate 8 {}
  streams : List AudCtr := List.replicate 32 {}
  routes : List Route := []
  groups : List Group := List.replicate 8 {}
  tones : List Tone := List.replicate 8 {}
  pairs : List AudPair := []
  tallies : List AudTally := []
deriving DecidableEq, Repr

/-! ### Energy (spec/15). Energies are in picojoules. -/

/-- The energy of one completed Stitch: the correction factor then in force and the model energy of each domain. -/
structure EnergyRec where
  c : Nat
  model : List Nat
deriving DecidableEq, Repr

/-- The plan of one Stitch (R17, R359): ladder position, corrected forecast in pJ, luma samples reserved for each channel, those
spare, and DRAM bytes. -/
structure Plan where
  pos : Nat
  energy : Nat
  reserved : List Nat := []
  spare : Nat := 0
  dram : Nat := 0
  /-- The decode cores of the plan, with the time each takes for a luma sample in ns (R361). -/
  cores : List (Nat × Nat) := []
deriving DecidableEq, Repr

structure Nrg where
  pSus : Nat := 34000
  /-- E_RES in microjoules. -/
  eRes : Nat := 0
  /-- The reservoir level R in picojoules. -/
  r : Nat := 0
  /-- The correction factor c times 2^32 (log entry 20). -/
  c : Nat := m32
  /-- The planner's ladder position, and the position in force in this Stitch. -/
  ladder : Nat := 0
  inForce : Nat := 0
  /-- The plans of the present Stitch and of the next, once two have been made; one until then. -/
  planned : List Plan := []
  descRun : Nat := 0
  breach : Bool := false
  breachCount : Nat := 0
  clearRun : Nat := 0
  drawing : Bool := false
  chClass : List Nat := List.replicate 64 4
  headClass : List Nat := List.replicate 32 4
  encClass : List Nat := List.replicate 16 4
  pmbusLost : Bool := false
  boardMw : Nat := 0
  lastRail : Nat := 0
  corrLimit : Bool := false
  /-- Completed Stitches, newest first, at most 120,000 (Table 15-6). -/
  hist : List EnergyRec := []
  /-- DRAM bytes forecast at each ladder position by the last work order. -/
  dram : List Nat := []
  /-- Model energy of the work that has run in this Stitch so far, by power domain. -/
  work : List Nat := List.replicate 21 0
deriving DecidableEq, Repr


/-! ### Hoop, log, Sampler, update, keys (spec/18, spec/21) -/

/-- A Sampler or log record (Table 18-8): bytes 28-31 are a CRC in the Sampler and SEQ in the log. -/
structure Rec where
  stitch : Nat := 0
  code : Nat := 0
  origin : Nat := 0
  args : List Nat := []
  seq : Nat := 0
deriving DecidableEq, Repr

inductive SamplerState where
  | armed | postTrigger | frozen | copying
deriving DecidableEq, Repr

/-- A copied incident (R427, R411). -/
structure Incident where
  number : Nat
  stitch : Nat
  code : Nat
  origin : Nat
  position : Nat
  slot : Nat
  valid : Bool
  records : List Rec
deriving DecidableEq, Repr

structure Sampler where
  st : SamplerState := .armed
  post : Nat := 256
  remaining : Nat := 0
  /-- Records held, oldest first, at most 4,096. -/
  ring : List Rec := []
  trigger : Option Rec := none
  triggerPos : Option Nat := none
  lost : Nat := 0
  incident : Nat := 0
  copyFailed : Bool := false
  incidents : List Incident := []
deriving DecidableEq, Repr

inductive SlotKind where
  | bundle | hoop | bobbin
deriving DecidableEq, Repr

/-- One image slot of the external flash: whether it holds a valid bundle, its version, ARB and contents. -/
structure Slot where
  valid : Bool := false
  version : Nat := 0
  arb : Nat := 0
  bytes : List Byte := []
deriving DecidableEq, Repr

inductive UpdState where
  | idle | receiving | verified | activated | trial
deriving DecidableEq, Repr

structure Upd where
  st : UpdState := .idle
  session : Nat := 0
  transport : Transport := .pcie
  length : Nat := 0
  crc : Nat := 0
  received : List Byte := []
  imgType : Nat := 3
  imgArb : Nat := 0
  imgVersion : Nat := 0
  lastResult : Nat := 0
  /-- Slot that a trial returns to. -/
  previous : Nat := 0
  trialUntil : Nat := 0
  /-- Chunks taken and not yet programmed, oldest first (R422). -/
  chunks : List (Nat × List Byte × Job) := []
  /-- An image activated by the recovery loader: it boots without a trial and is confirmed when healthy (R420). -/
  noTrial : Bool := false
  /-- A recovery HOOP image runs from SRAM (R420). -/
  recoveryHoop : Bool := false
deriving DecidableEq, Repr

/-- One failure entry of Table 21-6. -/
structure BistFail where
  path : Nat
  fkind : Nat
  bit : Nat
  data : Nat
deriving DecidableEq, Repr

/-- The BIST run and its results (Tables 21-3 and 21-6). `st`: 0 never run, 1 running, 2 done, 3 aborted. -/
structure Bist where
  st : Nat := 0
  kind : Nat := 0
  config : Nat := 0
  origin : Nat := 0
  failures : Nat := 0
  records : List BistFail := []
  dieSig : Nat := 0
  durationMs : Nat := 0
  misr : List Nat := []
  /-- A die run waits for its warm reset (R479). -/
  diePending : Bool := false
  job : Option Job := none
deriving DecidableEq, Repr

/-- One thermal sensor (R403-R405). -/
structure Sensor where
  mC : Int := 25000
  faulty : Bool := false
  okRun : Nat := 0
  warned : Bool := false
deriving DecidableEq, Repr

structure Otp where
  serial : Nat := 0
  lifecycle : Nat := 1
  arb : Nat := 0
  revoked : Nat := 0
  rev : Nat := 0xA0
  dramGib : Nat := 16
  macs : List Nat := List.replicate 7 0
  /-- Calibrated costs of Table 15-1, in the table's order. -/
  costs : List Nat := [550, 650, 800, 250, 180, 100, 60, 30, 10, 33000000, 34700000, 3500000, 350000, 60000000, 30000000,
    40000000]
  /-- Leakage at 85 °C and clocked base of every power domain in mW (Table 15-2). -/
  leakMw : List Nat := [1, 99, 800, 250, 250, 250, 250, 200, 200, 200, 200, 200, 300, 40, 40, 40, 40, 50, 40, 30, 20]
  baseMw : List Nat := [280, 120, 1950, 0, 0, 0, 0, 0, 0, 0, 0, 0, 1450, 0, 0, 0, 0, 0, 250, 150, 300]
  /-- Leakage factor at -40 °C to 110 °C in steps of 5 °C, times 65,536 (R356, nominal). -/
  leakTable : List Nat := [2048, 2353, 2702, 3104, 3566, 4096, 4705, 5405, 6208, 7132, 8192, 9410, 10809, 12417, 14263, 16384,
    18820, 21619, 24834, 28526, 32768, 37641, 43238, 49667, 57052, 65536, 75281, 86475, 99334, 114105, 131072]
  touchRef : List (Option Nat) := List.replicate 32 none
deriving DecidableEq, Repr

structure Hoop where
  sensors : List Sensor := List.replicate 18 {}
  sampleStitch : Nat := 0
  supplies : List Nat := List.replicate 11 0
  /-- The VDD_CORE setpoint in mV, and the instant at which it last moved (R507). -/
  coreMv : Nat := 750
  coreMvAt : Nat := 0
  supplyOut : List Bool := List.replicate 12 false
  rails : List (Option (List Nat)) := List.replicate 4 none
  gradient : Bool := false
  gradientSensor : Nat := 0
  gradientOkSince : Option Nat := none
  /-- Power domain throttled to half clock from the next Stitch boundary (R494): pending and in force. -/
  throttlePending : Option Nat := none
  throttle : Option Nat := none
  tripped : Bool := false
  /-- What TRIPPED reports after READY: the sensor, its reading and the incident (R407). -/
  trippedReport : Option (Nat × Int × Nat) := none
  log : List Rec := []
  logSeq : Nat := 1
  summary : List Rec := []
  sampler : Sampler := {}
  keys : List (Option (List Byte)) := List.replicate 5 none
  flashKeys : List (Option (List Byte)) := List.replicate 5 none
  otp : Otp := {}
  scrubHours : Nat := 24
  heapGib : Nat := 8
  flashPresent : Bool := true
  /-- PMBus address and rail of each configured rail, at most four (R352, R406). -/
  pmbus : List (Nat × Nat) := [(0, 0), (0, 1), (0, 2), (0, 3)]
  /-- Guard programs of the board configuration and the firmware's device regions: (unit, index, region) (R391). -/
  boardGuard : List (Nat × Nat × Region) := []
  slots : List Slot := [{ valid := true, version := 0x01000000 }, {}]
  bootSlot : Nat := 0
  running : Nat := 0
  /-- Versions of the firmware that runs (Table 4-29). -/
  fwHoop : Nat := 0x01000000
  fwBobbin : Nat := 0x01000000
  upd : Upd := {}
  debugOpen : Bool := false
  unlock : Option (List Byte × Nat) := none
  fieldReturn : Option (List Byte × Nat) := none
  warmAt : Option Nat := none
  /-- PORST_B is released and the boot ROM waits for REFCLK (step 2 of Table 22-4). -/
  awaitRef : Bool := false
  bobbinDown : List Nat := []
  bobbinOkSince : Nat := 0
  /-- Datagrams that Bobbins 8 and 9 dropped while they restarted (R408). -/
  egressDrops : List Nat := [0, 0]
  /-- Engines in reset with the requests that wait for them (R118). -/
  resetting : List (Nat × Option Job) := []
  bist : Bist := {}
  samplerSinceReset : Bool := false
  releasedAt : Nat := 0
deriving DecidableEq, Repr

/-! ### Power states (spec/16, spec/01 R27-R30) -/

structure Wake where
  sources : Nat := 0x0045
  target : Nat := 0
  gpioMask : Nat := 0
  alarm : Nat := 0
  retain : Nat := 0x01FFFFFF
  safeMask : Nat := 0
  touchGroups : Nat := 0
deriving DecidableEq, Repr

/-- A transition in progress (Table 16-5): its target, the instant of the sleep request (origin), the waiting request. -/
structure Transition where
  target : Nat
  waking : Bool
  /-- Instant of step 4, once the request has replied. -/
  origin : Option Nat := none
  job : Option Job := none
  source : Nat := 0
  /-- Stitch in which the request was accepted. -/
  stitch : Nat := 0
  /-- RTC count at the start of an exit, up to which residency is measured (R382, Table 16-11). -/
  rtc : Nat := 0
deriving DecidableEq, Repr

structure Pwr where
  pstate : Nat := 0
  trans : Option Transition := none
  /-- A wake latched during a transition, to be replayed (R382), and the events latched during exits (R384). -/
  latched : Option Nat := none
  exitEvents : Nat := 0
  scheduled : Option (Nat × Nat) := none
  lastWake : Nat := 0
  lastStitch : Nat := 0
  wake : Wake := {}
  refTotal : Nat := 0
  refCount : List Nat := List.replicate 10 0
  refLast : List Nat := List.replicate 10 0
  enteredRtc : Nat := 0
  sealLocal : Nat := 0
  sealRtc : Nat := 0
  /-- Power domains 0-20 of Table 4-28: powered, and fabric port open (R27-R29). -/
  on : List Bool := List.replicate 21 true
  portOpen : List Bool := List.replicate 21 true
  domainOff : List Nat := List.replicate 21 0
  offLogged : List Nat := []
  /-- ECC counts per cluster, corrected and uncorrectable (R23, R24). -/
  eccCorr : List Nat := List.replicate 18 0
  eccUnc : List Nat := List.replicate 18 0
  /-- Instant at which the current scrub period began (R23), and pixel errors found whose words have not been read since (R25). -/
  scrubAt : Nat := 0
  scrubFound : List EccPixel := []
deriving DecidableEq, Repr
/-! ### Lacing links (spec/19) -/

structure Taps where
  pre : Nat := 4
  main : Nat := 49
  post : Nat := 10
deriving DecidableEq, Repr

/-- A DATA flit in the replay buffer (R436). -/
structure SentFlit where
  seq : Nat
  vc : Nat
  bytes : List Byte
deriving DecidableEq, Repr

/-- A forward entry (R449) and the last record sent for it. -/
structure FwdEntry where
  channel : Nat
  stream : Nat
  kind : Nat
deriving DecidableEq, Repr

/-- A forwarded message that waits for credit (R449, R450): its VC, what its header names, whether the header has left, and the
body bytes left. -/
structure FwdTx where
  vc : Nat
  channel : Nat
  stream : Nat
  msg : Nat
  seq : Nat
  firstRow : Nat
  rows : Nat
  bodyLen : Nat
  started : Bool := false
  left : Nat
  /-- The end of the body: a band's taint bitmap (R450). -/
  tail : List Byte := []
deriving DecidableEq, Repr

/-- The LINK_PRBS generator and checker (R454). -/
structure Prbs where
  generate : Bool := false
  check : Bool := false
  pattern : Nat := 7
  lanes : Nat := 0
  /-- n of an injected error ratio of 10^-n; 0 = none. -/
  rate : Nat := 0
  since : Nat := 0
  errors : List Nat := List.replicate 8 0
  injected : List Nat := List.replicate 8 0
  lock : List Bool := List.replicate 8 false
deriving DecidableEq, Repr

structure Lk where
  enable : Bool := false
  /-- Code of Table 19-5. -/
  st : Nat := 0
  peerCfg : Nat := 0xFF
  credits : List Nat := [16, 16, 320, 160]
  taps : List Taps := List.replicate 8 {}
  policy : Nat := 0
  idleNs : Nat := 1000
  sleepUs : Nat := 100
  txPower : Nat := 0
  rxPower : Nat := 0
  /-- Instant from which there has been nothing to send, and of the entry to IDLE. -/
  quietSince : Nat := 0
  idleSince : Nat := 0
  shedSleep : Bool := false
  /-- Energy of its lanes in this Stitch up to `laneAt`, times 500,000 (R447). -/
  laneWork : Nat := 0
  laneAt : Nat := 0
  peerId : Nat := 0xFF
  peerSerial : Nat := 0
  peerPresent : Bool := false
  transit : Nat := 0
  peerCredits : List Nat := [16, 16, 320, 160]
  /-- Next SEQ sent, flits in the replay buffer, credits used and freed by the peer per VC. -/
  txSeq : Nat := 0
  replay : List SentFlit := []
  used : List Nat := List.replicate 4 0
  peerFreed : List Nat := List.replicate 4 0
  resendRun : Nat := 0
  oldestAt : Nat := 0
  /-- Expected SEQ, whether a flit has been accepted since its sequence began, accepted flits not yet acknowledged and since when,
  NAK state, flits freed per VC. -/
  rxSeq : Nat := 0
  rxAny : Bool := false
  unacked : Nat := 0
  unackedAt : Nat := 0
  discarding : Bool := false
  freed : List Nat := List.replicate 4 0
  /-- Training: since when, with tap search, the command that waits; instant at which ACTIVE was left; retry instant. -/
  trainingAt : Nat := 0
  tapSearch : Bool := false
  job : Option Job := none
  leftActive : Option Nat := none
  retryAt : Nat := 0
  /-- o_link of the last 64 beacons, newest first; last beacon; peer's Stitch, flags and U_dev. -/
  offsets : List Int := []
  lastBeacon : Option Nat := none
  stitchDelta : Int := 0
  peerEstablished : Bool := false
  peerUnproven : Bool := false
  peerUdev : Nat := 0
  aligned : Bool := false
  lastTxBeacon : Nat := 0
  fom : List Nat := List.replicate 8 0
  eyeW : Nat := 0
  eyeH : Nat := 0
  marginLow : List Bool := List.replicate 8 false
  badRun : List Nat := List.replicate 8 0
  skew : Nat := 0
  los : Nat := 0
  lol : Nat := 0
  retrains : Nat := 0
  resends : Nat := 0
  crcErrors : Nat := 0
  txFlits : Nat := 0
  rxFlits : Nat := 0
  creditStalls : Nat := 0
  stalled : Bool := false
  /-- Stitch in which a VC2 or VC3 flit was last carried, by direction: transmit, receive. -/
  lastTx23 : Nat := 0
  lastRx23 : Nat := 0
  dropped : Nat := 0
  prbs : Prbs := {}
  loop : Nat := 0
  loopUntil : Option Nat := none
  fwds : List FwdEntry := []
  /-- Messages waiting, oldest first, and flits sent since one of VC3 while VC2 and VC3 were both ready (R434). -/
  queue : List FwdTx := []
  turn : Nat := 0
deriving DecidableEq, Repr

structure Lnk where
  localId : Nat := 0
  links : List Lk := List.replicate 4 {}
deriving DecidableEq, Repr

/-! ### Console inputs, touch keys and the console bus (spec/20) -/

/-- A touch electrode (Table 20-1). `st` is the table's code; the baseline is in 1/65,536 counts. -/
structure Electrode where
  enabled : Bool := true
  t : Nat := 100
  n : Nat := 48
  st : Nat := 0
  baseline : Option Int := none
  /-- Scans taken towards the first baseline (R461), their sum, and whether the held baseline is the reference. -/
  startCount : Nat := 0
  startSum : Nat := 0
  heldRef : Bool := false
  above : Nat := 0
  below : Nat := 0
  neg : Nat := 0
  pressAt : Nat := 0
  signal : Int := 0
  raw : Nat := 0
  recal : Bool := false
deriving DecidableEq, Repr

/-- A GPIO (0-47) or SAFE (48-55) input or output. Levels are after ACTIVE_LOW. -/
structure Inp where
  mode : Nat := 1
  flags : Nat := 0
  debounce : Nat := 10
  chatterK : Nat := 0
  chatterW : Nat := 10
  stuckMs : Nat := 0
  raw : Bool := false
  rawAt : Nat := 0
  level : Bool := false
  levelAt : Nat := 0
  chatter : Bool := false
  stuck : Bool := false
  /-- Instants of recent raw transitions, newest first. -/
  edges : List Nat := []
deriving DecidableEq, Repr

/-- A SAFE pair (R467). -/
structure Pair where
  fault : Bool := false
  disagreeAt : Option Nat := none
  okSince : Option Nat := none
deriving DecidableEq, Repr

/-- An EVT_IO that waits for the end of its Stitch (R469). -/
structure IoPend where
  source : Nat
  input : Nat
  code : Nat
  level : Nat
  merged : Nat := 0
  arg0 : Nat := 0
  arg1 : Nat := 0
deriving DecidableEq, Repr

/-- A queued console-bus frame. -/
structure CbFrame where
  job : Job
  bytes : List Byte
  since : Nat
deriving DecidableEq, Repr

/-- A console-bus port (Table 20-8). -/
structure Cbus where
  mode : Nat := 0
  node : Nat := 0
  nodes : Nat := 0
  allowed : List Nat := []
  queue : List CbFrame := []
  seq : Nat := 0
  plcaLost : Bool := false
  lastBeacon : Nat := 0
deriving DecidableEq, Repr

structure Io where
  touchOn : Bool := true
  holdS : Nat := 20
  approachThr : Nat := 40
  baseTc : Nat := 10
  scans : Nat := 0
  electrodes : List Electrode := List.replicate 32 {}
  approachRun : List Nat := List.replicate 4 0
  approach : List Bool := List.replicate 4 false
  inputs : List Inp := List.replicate 48 ({} : Inp) ++ List.replicate 8 ({ debounce := 5, chatterK := 8, chatterW := 100 } : Inp)
  pairs : List Pair := List.replicate 4 {}
  pairFaults : Nat := 0
  merged : Nat := 0
  pend : List IoPend := []
  cbus : List Cbus := [{}, {}]
deriving DecidableEq, Repr


/-! ### The whole state -/

structure State where
  clk : Clk := {}
  hif : Hif := {}
  ses : Ses := {}
  txn : TxnUnit := {}
  hoop : Hoop := {}
  pwr : Pwr := {}
  net : Net := {}
  dec : Dec := {}
  lay : Lay := {}
  heads : List Head := List.replicate 32 {}
  ports : List DpPort := List.replicate 16 {}
  slk : List Slk := List.replicate 64 {}
  enc : List Enc := List.replicate 16 {}
  aud : Aud := {}
  nrg : Nrg := {}
  grd : List GuardUnit := List.replicate 9 {}
  lnk : Lnk := {}
  io : Io := {}
  /-- DRAM and shared SRAM (R19): listed bytes by rising address; an unlisted byte reads 0 (log entry 3). -/
  mem : List Host.Cell := []
  /-- What has left the device, newest first (the model's own trace). -/
  out : List Output := []
  /-- MODEL'S OWN: index of the next free value (log entry 8). No statement rests on it. -/
  free : Nat := 0
  /-- Rows waiting, first in first out (the block's queue). -/
  pending : List Instr := []
deriving DecidableEq, Repr

/-- The machine right after `PORST_B` (spec/22 R495, R499 and the reset values of every chapter). -/
def State.reset : State := {}

end Sys2Proof.Machine
end

