-- ==== Sys2Proof/Machine/Ops.lean ====
section
/-! DEFINITION. The operations every meaning is written from: time, list entries, outputs, interrupts, events,
the log and the Sampler, replies, identifiers and power domains. -/
namespace Sys2Proof.Machine

/-- The outcome of a row. -/
abbrev Result := Host.Outcome State Fault Refusal

/-! ### Time -/

/-- The residual o_res at an elapsed instant: the last one acted on, reduced at the slew bound since (R322). -/
def Clk.residualAt (c : Clk) (t : Nat) : Int :=
  let moved : Int := (t - c.resAt) * c.slewPpm / 1000000
  if c.res0 ≥ 0 then max 0 (c.res0 - moved) else min 0 (c.res0 + moved)

/-- Local time that passes in `n` ns of elapsed time at the clock's frequency; it never runs backwards (R321). -/
def Clk.advance (c : Clk) (n : Nat) : Nat := ((n : Int) + n * c.freq / 1000000000000).toNat

/-- Time moves to the elapsed instant `t`; an instant already past counts as now (log entry 4). Local time advances with the
elapsed counter at the frequency of the active reference, and by what the slew has removed of the residual (R319, R322, R325; log
entry 5). -/
def State.tick (s : State) (t : Nat) : State :=
  let c := s.clk
  let e := c.elapsed + (t - c.elapsed)
  { s with clk := { c with
      elapsed := e
      localNs := ((c.localNs : Int) + c.advance (t - c.elapsed) - (c.residualAt c.elapsed - c.residualAt e)).toNat } }

def State.now (s : State) : Nat := s.clk.elapsed
/-- The residual now. -/
def State.residual (s : State) : Int := s.clk.residualAt s.clk.elapsed
def State.local (s : State) : Nat := s.clk.localNs
/-- The Stitch number (R16). -/
def State.stitch (s : State) : Nat := s.clk.stitch
/-- The Stitch number's low 32 bits, as packets carry it. -/
def State.stitch32 (s : State) : Nat := s.clk.stitch % m32

/-- 12 bytes of a Time (Table 4-26). -/
def timeBytes (ns : Nat) : List Byte := leBytes 8 (ns / nsPerSec % 2 ^ 48) ++ leBytes 4 (ns % nsPerSec)

/-- RTC seconds and sub-second count now (R331): the counter runs on the crystal from its last load. -/
def State.rtc (s : State) : Nat × Nat :=
  let ticks := s.clk.rtcSub + (s.clk.elapsed - s.clk.rtcAt) * 32768 / nsPerSec
  ((s.clk.rtcSec + ticks / 32768) % 2 ^ 48, ticks % 32768)

/-! ### Power domains -/

/-- A power domain is on (R27). -/
def State.domainOn (s : State) (d : Nat) : Bool := s.pwr.on.getD d true

/-- A domain answers accesses: it is on and its fabric port is open (R28, R29). -/
def State.reachable (s : State) (d : Nat) : Bool := s.domainOn d && s.pwr.portOpen.getD d true

/-- A network port has power: PD_ETH is on, and in DOZE it keeps ETH0 only (Table 16-2). -/
def State.portPowered (s : State) (p : Nat) : Bool := s.domainOn 18 && (s.pwr.pstate ≠ 2 || p = 0)

/-- The transmitters of PD_DPm that hold a DisplayPort port have power (R27, Table 1-9). -/
def State.dpOn (s : State) (p : Nat) : Bool := s.domainOn (13 + p / 4)

/-- The host reaches the device over PCIe: the link is up and its endpoint answers. -/
def State.pcieOn (s : State) : Bool := s.hif.pcieUp && s.domainOn 19

/-! ### Free values -/

/-- Take the next free value: the state moves its counter on (log entry 8). -/
def State.takeFree (s : State) : Nat × State := (Config.freeNat s.free, { s with free := s.free + 1 })

/-- Take the next free integer. -/
def State.takeInt (s : State) : Int × State :=
  let n := Config.freeNat s.free
  (if n % 2 = 0 then (n / 2 : Nat) else -((n / 2 : Nat) : Int) - 1, { s with free := s.free + 1 })

/-- Take the next free byte string of `n` bytes. -/
def State.takeBytes (s : State) (n : Nat) : List Byte × State :=
  (padTo n (Config.freeBytes s.free n), { s with free := s.free + 1 })

/-! ### Outputs and interrupts -/

def State.emit (s : State) (o : Output) : State := { s with out := o :: s.out }

/-- Apply `f` when `b` holds. -/
def State.when (s : State) (b : Bool) (f : State → State) : State := if b then f s else s

/-- Fold a state transformer over a list. -/
def State.forEach {α : Type} (s : State) (l : List α) (f : α → State → State) : State := l.foldl (fun s a => f a s) s

/-- The MSI-X vector of an interrupt cause (R87). -/
def irqVector (cause : Nat) : Nat := if cause < 4 then cause + 1 else if cause ≤ 5 then 5 else 0

/-- Set interrupt cause `c`; a message goes out when an enabled cause rises (R87). -/
def State.raiseIrq (s : State) (c : Nat) : State :=
  if s.hif.irqStatus.testBit c then s else
  let s1 := { s with hif := { s.hif with irqStatus := s.hif.irqStatus ||| 2 ^ c } }
  if s.hif.irqMask.testBit c && s.hif.msix && s.hif.pcieUp then s1.emit (.msix (irqVector c)) else s1

/-- Free reply buffers (R81). -/
def Rbuf.free (b : Rbuf) : Nat := (b.prod + m16 - b.cons) % m16

/-- The ring after posting one entry at its tail (R83). -/
def Cq.post (q : Cq) : Cq :=
  { q with tail := if q.tail + 1 < q.size then q.tail + 1 else 0,
           phase := if q.tail + 1 < q.size then q.phase else !q.phase,
           posted := q.posted + 1, reserved := q.reserved - 1 }

/-- The entries the host consumes when it moves a ring's head (R83). A head equal to the old one consumes the whole of a full
ring, and nothing of any other (log entry 10). -/
def Cq.consumed (q : Cq) (h : Nat) : Nat := if h = q.head && q.posted = q.size then q.size else (h + q.size - q.head) % q.size

/-- The ring after the host has moved its head (R83). -/
def Cq.consume (q : Cq) (h : Nat) : Cq := { q with head := h, posted := q.posted - q.consumed h }

/-- Host address of entry `i` of a ring with entries of `n` bytes (R79, Tables 3-3, 3-4, 4-23). -/
def slotAt (base n i : Nat) : Nat := base + n * i

/-! ### The log and the Sampler (R410, R425, R426) -/

/-- Keep the newest `n` of a list held oldest first. -/
def keepNewest {α : Type} (n : Nat) (l : List α) : List α := l.drop (l.length - n)

def Sampler.push (m : Sampler) (r : Rec) : Sampler :=
  { m with ring := keepNewest 4096 (m.ring ++ [r]),
           triggerPos := if m.ring.length < 4096 then m.triggerPos else m.triggerPos.map (· - 1) }

/-- Offer an ordinary record to the Sampler (R426). -/
def Sampler.offer (m : Sampler) (r : Rec) : Sampler :=
  match m.st with
  | .armed => m.push r
  | .postTrigger => if m.remaining = 0 then m else { m.push r with remaining := m.remaining - 1 }
  | .frozen => m
  | .copying => m

def State.sample (s : State) (code origin : Nat) (args : List Nat) : State :=
  { s with hoop := { s.hoop with sampler := s.hoop.sampler.offer { stitch := s.clk.stitch, code, origin, args } } }

/-- Write one log entry (R410). -/
def State.logOnly (s : State) (code origin : Nat) (args : List Nat) : State :=
  { s with hoop := { s.hoop with
      log := keepNewest 2048 (s.hoop.log ++ [{ stitch := s.clk.stitch, code, origin, args, seq := s.hoop.logSeq }]),
      logSeq := (s.hoop.logSeq + 1) % m32 } }

/-- Write one entry of Table 18-9 to the log and the Sampler. -/
def State.record (s : State) (code origin : Nat) (args : List Nat) : State :=
  (s.sample code origin args).logOnly code origin args

/-! ### Delivery of packets to the host -/

/-- The command transports are up: READY, and Bobbin 11 not restarting (R408). -/
def State.transportUp (s : State) : Bool := s.hif.ready && !s.hoop.bobbinDown.contains 11

/-- Σ of fractions n ÷ d, as numerator and denominator. -/
def fracSum (l : List (Nat × Nat)) : Nat × Nat :=
  l.foldl (fun (a : Nat × Nat) x => (a.1 * max 1 x.2 + x.1 * a.2, a.2 * max 1 x.2)) (0, 1)

/-- Σ of fractions n ÷ d is at most `limit`. -/
def fracSumLe (l : List (Nat × Nat)) (limit : Nat) : Bool := decide ((fracSum l).1 ≤ limit * (fracSum l).2)

/-- The session with a number. -/
def State.session? (s : State) (n : Nat) : Option Session := s.ses.sessions.find? fun x => x.number = n

def State.modSession (s : State) (n : Nat) (f : Session → Session) : State :=
  { s with ses := { s.ses with sessions := s.ses.sessions.map fun x => if x.number = n then f x else x } }

/-- Index of a transport's session 0 in `masks0` and `vetoes0`. -/
def index0 : Transport → Nat
  | .pcie => 0 | .spi => 1 | .safetySpi => 2 | .network => 3

/-- Octets of an Ethernet frame with `n` bytes above its header and tag (minimum 64). -/
def frameOctets (vlan n : Nat) : Nat := max 64 (18 + n + (if vlan = 0 then 0 else 4))

/-- Octets of IP and UDP headers towards an address (IPv4-mapped or IPv6). -/
def ipUdp (addr : Nat) : Nat := if addr / m32 = 0xFFFF then 28 else 48

/-- Octets that a PTP transport of Table 13-4 puts between the Ethernet header and the message: IPv4, IPv6, IEEE 802.3. -/
def ptpHeaders (transport : Nat) : Nat := if transport = 0 then 28 else if transport = 1 then 48 else 0

/-- A frame leaves a network port with `n` bytes above its Ethernet header; in a near-end loopback it is received again
(Tables 6-10, 6-11). -/
def State.txFrame (s : State) (port n : Nat) : State :=
  let f (p : NetPort) : NetPort :=
    let o := frameOctets p.vlan n
    let c := { p.ctr with txFrames := p.ctr.txFrames + 1, txOctets := p.ctr.txOctets + o }
    { p with ctr := if p.loop = 1 || p.loop = 2 then { c with rxFrames := c.rxFrames + 1, rxOctets := c.rxOctets + o } else c }
  { s with net := { s.net with ports := s.net.ports.mapIdx fun i p => if i = port then f p else p } }

/-- The network transport can send on a port: its block has power and its fabric port is open (R374, R388). -/
def State.netOpen (s : State) (port : Nat) : Bool := s.portPowered port && s.reachable 18

/-- A datagram to an open network session, numbered and authenticated (R91); none leaves a port that is off (R374). -/
def State.sendDatagram (s : State) (n : Nat) (packet : List Byte) : State :=
  match s.session? n with
  | none => s
  | some x =>
    if !s.netOpen x.port then s else
    let body := leBytes 8 (x.seqOut + 1) ++ packet
    ((s.modSession n fun x => { x with seqOut := x.seqOut + 1 }).txFrame x.port (ipUdp x.peer + body.length + 16)).emit
      (.datagram x.port x.peer x.udp (body ++ (hmacSha256 x.key body).take 16))

def State.spiPort (s : State) (safety : Bool) : Spi := if safety then s.hif.safetySpi else s.hif.spi
/-- `TX_PENDING` (R92): a reply or an event waits. `SPI_IRQ_B` or `SAFE_IRQ_B` is asserted, that is low, while it is 1. -/
def Spi.txPending (p : Spi) : Bool := !p.waiting.isEmpty

/-- The interrupt pin of an SPI port (R92). -/
def spiIrqPin (safety : Bool) : String := if safety then "SAFE_IRQ_B" else "SPI_IRQ_B"

/-- An SPI port changes; its interrupt pin follows TX_PENDING (R92). -/
def State.setSpiPort (s : State) (safety : Bool) (p : Spi) : State :=
  let s1 := if safety then { s with hif := { s.hif with safetySpi := p } } else { s with hif := { s.hif with spi := p } }
  s1.when (p.txPending != (s.spiPort safety).txPending) (·.emit (.pin (spiIrqPin safety) (!p.txPending)))

/-- The SPI status byte (R92). -/
def State.spiStatus (s : State) (safety : Bool) : Nat :=
  let p := s.spiPort safety
  b2n (p.held < 4) + 2 * b2n p.txPending + 4 * b2n p.crcErr

/-- Event packet bytes (Table 4-23). -/
def eventBytes (e : Event) (seq flags : Nat) : List Byte :=
  [0x7F, BitVec.ofNat 8 e.op] ++ leBytes 2 32 ++ leBytes 4 seq ++ leBytes 2 e.source ++ leBytes 2 flags ++
    leBytes 4 e.stitch ++ padTo 16 e.data

/-- Some open session of the transport has the event's bit set in its mask (R110). -/
def State.wants (s : State) (tr : Transport) (op : Nat) : Bool :=
  (s.ses.masks0.getD (index0 tr) 0).testBit op ||
  s.ses.sessions.any fun x => x.transport = tr && x.mask.testBit op

/-- Offer an event to the PCIe event queue (R84, R108); one that finds the transport closed is discarded (R388). -/
def State.offerPcie (s : State) (e : Event) : State :=
  let st := s.ses.pcieStream
  let seq := (st.evSeq + 1) % m32
  if !s.transportUp || !s.pcieOn || !s.reachable 19 || s.hif.eq.posted ≥ s.hif.eq.size then
    ({ s with ses := { s.ses with pcieStream := { st with evSeq := seq, loss := true } },
              hif := { s.hif with eqLost := satAdd32 s.hif.eqLost 1 } }).raiseIrq 5
  else
    let flags := b2n s.hif.eq.phase + 2 * b2n st.loss
    (({ s with ses := { s.ses with pcieStream := { st with evSeq := seq, loss := false } },
               hif := { s.hif with eq := { s.hif.eq with reserved := s.hif.eq.reserved + 1 }.post } }).emit
      (.eventEntry (slotAt s.hif.eq.base 32 s.hif.eq.tail) (eventBytes e seq flags))).raiseIrq 4

/-- Offer an event to an SPI port (R93). -/
def State.offerSpi (s : State) (safety : Bool) (e : Event) : State :=
  let st := if safety then s.ses.safetyStream else s.ses.spiStream
  let setSt (s : State) (x : Stream) : State :=
    if safety then { s with ses := { s.ses with safetyStream := x } } else { s with ses := { s.ses with spiStream := x } }
  let p := s.spiPort safety
  let seq := (st.evSeq + 1) % m32
  if !s.transportUp || p.waiting.length ≥ 8 then
    (setSt s { st with evSeq := seq, loss := true }).setSpiPort safety { p with eventsLost := satAdd32 p.eventsLost 1 }
  else
    (setSt s { st with evSeq := seq, loss := false }).setSpiPort safety
      { p with waiting := p.waiting ++ [eventBytes e seq (2 * b2n st.loss)] }

/-- Offer an event to one network session (R91, R108); one that finds the transport closed is discarded (R388). -/
def State.offerNet (s : State) (n : Nat) (e : Event) : State :=
  match s.session? n with
  | none => s
  | some x =>
    let seq := (x.evSeq + 1) % m32
    if !s.transportUp || !s.netOpen x.port then s.modSession n fun x => { x with evSeq := seq, evLoss := true }
    else (s.modSession n fun x => { x with evSeq := seq, evLoss := false }).sendDatagram n
      (eventBytes e seq (2 * b2n x.evLoss))

/-- Offer an event to every delivery stream whose mask admits it (R108, R110). -/
def State.offer (s : State) (e : Event) : State :=
  let s := s.when (s.hif.enable && s.wants .pcie e.op) (·.offerPcie e)
  let s := s.when (s.ses.spiStream.opened && s.wants .spi e.op) (·.offerSpi false e)
  let s := s.when (s.ses.safetyStream.opened && s.wants .safetySpi e.op) (·.offerSpi true e)
  s.forEach (s.ses.sessions.filter fun x => x.transport = .network && x.mask.testBit e.op) fun x s => s.offerNet x.number e

/-- Raise an event (R107): a Sampler record 0x20nn and one offer to each stream. -/
def State.raise (s : State) (op source : Nat) (data : List Byte) : State :=
  let d := padTo 16 data
  (s.sample (0x2000 + op) 0 [uAt d 0 4, uAt d 4 4, uAt d 8 4, uAt d 12 4]).offer
    { op, source, stitch := s.stitch32, data := d }

/-- Raise an event at most once per (opcode, source, code) in a Stitch (R166, R335, R405). -/
def State.raiseOnce (s : State) (op source code : Nat) (data : List Byte) : State :=
  if s.ses.onceThisStitch.contains (op, source, code) then s
  else ({ s with ses := { s.ses with onceThisStitch := (op, source, code) :: s.ses.onceThisStitch } }).raise op source data

/-- EVT_SAMPLER (Table 18-10). -/
def State.evtSampler (s : State) (code trig origin : Nat) : State :=
  s.raise 0x0C 0xF3FF (leBytes 1 code ++ zeros 1 ++ leBytes 2 trig ++ leBytes 2 origin ++ zeros 2 ++
    leBytes 4 s.hoop.sampler.incident ++ leBytes 4 s.hoop.sampler.lost)

/-- A trigger (R426): it is stored and starts the post-trigger phase, or is counted as lost. -/
def State.trigger (s : State) (code origin : Nat) (args : List Nat) : State :=
  let r : Rec := { stitch := s.clk.stitch, code, origin, args }
  let s0 := { s with hoop := { s.hoop with samplerSinceReset := true } }
  let m := s0.hoop.sampler
  match m.st with
  | .armed =>
    let m1 := m.push r
    let m2 := { m1 with st := .postTrigger, remaining := m.post, trigger := some r,
                        triggerPos := some (m1.ring.length - 1), incident := m.incident + 1 }
    (({ s0 with hoop := { s0.hoop with sampler := m2 } }).logOnly code origin args).evtSampler 1 code origin
  | .postTrigger => s0.record code origin args
  | .frozen | .copying =>
    (({ s0 with hoop := { s0.hoop with sampler := { m with lost := satAdd32 m.lost 1 } } }).logOnly code origin args).evtSampler
      5 code origin

/-! ### Replies (R73, R75, R81) -/

/-- A failure reply: status and DETAIL (Table 4-25). -/
structure Err where
  status : Nat
  detail : Nat
deriving DecidableEq, Repr

/-- Reply header bytes (Table 3-2). -/
def replyHeader (j : Job) (len status detail stitch : Nat) : List Byte :=
  leBytes 1 j.cls ++ leBytes 1 j.op ++ leBytes 2 len ++ leBytes 4 j.req.tag ++ leBytes 2 status ++ leBytes 2 detail ++
    leBytes 4 stitch

/-- Post the completion of a PCIe command (R75, R81, R83): exactly one entry; a payload goes to a reply buffer. -/
def State.complete (s : State) (j : Job) (status detail stitch : Nat) (payload : List Byte) : State :=
  let q := s.hif.cqs.getD j.req.queue {}
  let rb := s.hif.rbuf
  let useBuf := j.buf && !payload.isEmpty
  let hdr := replyHeader j (16 + payload.length) status detail stitch
  let entry := hdr ++ leBytes 4 (if useBuf then rb.cons % rb.count else 0xFFFFFFFF) ++ leBytes 2 j.sqHead ++
    leBytes 2 (b2n q.phase) ++ zeros 8
  let rb1 := { rb with reserved := rb.reserved - b2n j.buf, cons := if useBuf then (rb.cons + 1) % m16 else rb.cons }
  if !s.hif.pcieUp then
    { s with hif := { s.hif with rbuf := { rb with reserved := rb.reserved - b2n j.buf }
                                 cqs := s.hif.cqs.set j.req.queue { q with reserved := q.reserved - 1 } } }
  else
    let s := s.when useBuf (·.emit (.replyBuffer (rb.cons % rb.count) (slotAt rb.base 1024 (rb.cons % rb.count)) (hdr ++ payload)))
    let s := (({ s with hif := { s.hif with rbuf := rb1, cqs := s.hif.cqs.set j.req.queue q.post } }).emit
      (.completion j.req.queue (slotAt q.base 32 q.tail) entry)).raiseIrq j.req.queue
    s.when (useBuf && rb1.free < 4) (·.raiseIrq 7)

/-- The first identifier a command names, for the Sampler's COMMAND record (Table 18-9): the first payload word. -/
def Job.firstId (j : Job) : Nat := uAt j.req.payload 0 2

/-- Bit 0 of FLAGS. -/
def Job.wanted (j : Job) : Bool := j.req.flags.testBit 0
/-- Bit 1 of FLAGS. -/
def Job.ordered (j : Job) : Bool := j.req.flags.testBit 1

/-- EVT_TXN (Table 5-6). -/
def State.evtTxn (s : State) (handle code reason status failIndex tag : Nat) : State :=
  s.raise 0x0B 0 (leBytes 2 handle ++ leBytes 1 code ++ leBytes 1 reason ++ leBytes 2 status ++ leBytes 2 failIndex ++
    leBytes 4 tag ++ zeros 4)

/-- Reply to a command (R75), with the Stitch the reply names, and record it in the Sampler. A deferred command has no
reply; its failure raises EVT_TXN (R76). -/
def State.replyAt (s : State) (j : Job) (status detail stitch : Nat) (payload : List Byte) : State :=
  let s := s.sample 0x1001 0 [j.cls + 256 * j.op + 65536 * status, j.req.tag, j.req.session, j.firstId]
  let bad := status.testBit 15
  let body := if bad || !j.wanted then [] else payload
  if j.deferred then s.when bad (·.evtTxn 0 4 0 status 0 j.req.tag) else
  match j.req.transport with
  | .pcie => s.complete j status detail stitch body
  | .network =>
    if !bad && !j.wanted then s else
    let packet := replyHeader j (16 + body.length) status detail stitch ++ body
    if j.req.session = 0 then if !s.netOpen j.req.port then s else (s.txFrame j.req.port (ipUdp j.req.peer + packet.length + 24)).emit
        (.datagram j.req.port j.req.peer j.req.udp (zeros 8 ++ packet ++ zeros 16))
    else s.sendDatagram j.req.session packet
  | .spi | .safetySpi =>
    let safety := j.req.transport = .safetySpi
    let p := s.spiPort safety
    let p1 := { p with held := p.held - 1 }
    if !bad && !j.wanted then s.setSpiPort safety p1 else
    s.setSpiPort safety { p1 with
      waiting := p.waiting ++ [replyHeader j (16 + body.length) status detail stitch ++ body] }

/-- Reply in the current Stitch. -/
def State.reply (s : State) (j : Job) (status detail : Nat) (payload : List Byte) : State :=
  s.replyAt j status detail s.stitch32 payload

/-- Reply late: the command leaves the set of commands in progress (R78). One that has already been answered (R112) is not
answered again. -/
def State.finish (s : State) (j : Job) (status detail : Nat) (payload : List Byte) : State :=
  if s.hif.inflight.contains j then
    ({ s with hif := { s.hif with inflight := s.hif.inflight.erase j } }).reply j status detail payload
  else s

/-- Finish a waiting request, if there is one. -/
def State.finish? (s : State) (j : Option Job) (status detail : Nat) (payload : List Byte) : State :=
  match j with
  | none => s
  | some j => s.finish j status detail payload

/-- A write of a fence at an elapsed instant. -/
def Fence.write (f : Fence) (now v : Nat) : Fence :=
  { f with value := v, before := if f.written = now then f.before else f.value, written := now }

end Sys2Proof.Machine
end

