-- ==== Sys2Proof/Machine/Operands.lean ====
section
/-! DEFINITION. Operand forms of commands: payload fields, their checks (R8, R9, R113) and object identifiers (R114). -/
namespace Sys2Proof.Machine

/-! ### Payload fields. Offsets count from the first payload byte; DETAIL offsets count from byte 0 of the packet. -/

def Job.len (j : Job) : Nat := j.req.payload.length
def Job.u8 (j : Job) (off : Nat) : Nat := uAt j.req.payload off 1
def Job.u16 (j : Job) (off : Nat) : Nat := uAt j.req.payload off 2
def Job.u32 (j : Job) (off : Nat) : Nat := uAt j.req.payload off 4
def Job.u64 (j : Job) (off : Nat) : Nat := uAt j.req.payload off 8
def Job.s8 (j : Job) (off : Nat) : Int := signed 8 (j.u8 off)
def Job.s16 (j : Job) (off : Nat) : Int := signed 16 (j.u16 off)
def Job.s32 (j : Job) (off : Nat) : Int := signed 32 (j.u32 off)
/-- `n` bytes at `off`. -/
def Job.bytes (j : Job) (off n : Nat) : List Byte := (j.req.payload.drop off).take n
/-- A Time (Table 4-26) in nanoseconds. -/
def Job.time (j : Job) (off : Nat) : Nat := j.u64 off * nsPerSec + j.u32 (off + 8)
/-- A Rectangle (Table 4-26). -/
def Job.rect (j : Job) (off : Nat) : Rect := { x := j.u16 off, y := j.u16 (off + 2), w := j.u16 (off + 4), h := j.u16 (off + 6) }

/-- A field check: the packet offset of the field when it fails (R8). -/
def chk (off : Nat) (ok : Bool) : List Nat := if ok then [] else [16 + off]

/-- Reserved bytes `off` to `off + n - 1`: the packet offset of the first non-zero one (R9). -/
def rsv (j : Job) (off n : Nat) : List Nat :=
  match (List.range n).find? fun i => byteAt j.req.payload (off + i) ≠ 0 with
  | some i => [16 + off + i]
  | none => []

/-- Reserved bits, a mask, of the `n`-byte field at `off`: the packet offset of the first byte in which one is set (R9). -/
def rsvBits (j : Job) (off n mask : Nat) : List Nat :=
  match (List.range n).find? fun i => uAt j.req.payload (off + i) 1 &&& (mask / 256 ^ i % 256) ≠ 0 with
  | some i => [16 + off + i]
  | none => []

/-- A Rectangle whose w and h lie in 1-65,535 (Table 4-26). -/
def chkRect (j : Job) (off : Nat) : List Nat := chk (off + 4) (j.u16 (off + 4) ≠ 0) ++ chk (off + 6) (j.u16 (off + 6) ≠ 0)

/-- A Time field (Table 4-26). -/
def chkTime (j : Job) (off : Nat) : List Nat := chk off (j.u64 off < 2 ^ 48) ++ chk (off + 8) (j.u32 (off + 8) < nsPerSec)

/-- A text field (Table 4-26): 0x20-0x7E, then zeros. -/
def textOk (b : List Byte) : Bool :=
  (b.reverse.dropWhile (· = 0)).all fun c => decide (0x20 ≤ c.toNat ∧ c.toNat ≤ 0x7E)

/-- The characters of a text field. -/
def textOf (b : List Byte) : List Byte := (b.reverse.dropWhile (· = 0)).reverse

/-! ### Object identifiers (Tables 4-27 and 4-28) -/

def idType (id : Nat) : Nat := id / 4096 % 16
def idIndex (id : Nat) : Nat := id % 4096

/-! ### Domains by power state (Table 16-2) -/

/-- A head is kept in self-refresh through an entry to HUSH (R378). -/
def State.kept (s : State) (target h : Nat) : Bool := target = 1 && h < 8 && (s.heads.getD h {}).st = .selfRefresh

/-- A DisplayPort domain stays on in HUSH: a kept head uses one of its ports (Table 16-2). -/
def State.dpKept (s : State) (m : Nat) : Bool :=
  (List.range 8).any fun h =>
    let x := s.heads.getD h {}
    s.kept 1 h && idType x.target = 7 && idIndex x.target / 4 = m

/-- Table 16-2: a domain is on in a state. In DOZE the rest of PD_CORE is gated, and so are its objects. -/
def State.onIn (s : State) (st d : Nat) : Bool :=
  match st with
  | 0 => true
  | 1 => [0, 1, 2, 3, 8, 12, 18, 19, 20].contains d || (13 ≤ d && d < 17 && s.dpKept (d - 13))
  | 2 => [0, 1, 18, 19].contains d
  | _ => d = 0

/-- An entry asked for in Stitch n gates domain `d`, and from Stitch n + 3 on no work is planned for it: Bobbin 10 leaves it out
from the boundary after the request, whose plan is that of the Stitch after next (R17, R381 step 1). -/
def State.leaving (s : State) (stitch d : Nat) : Bool :=
  s.pwr.trans.any fun t => !t.waking && t.stitch + 3 ≤ stitch && !s.onIn t.target d

/-- The index lies in the range of its type. -/
def idInRange (id : Nat) : Bool :=
  let i := idIndex id
  match idType id with
  | 0x0 => i = 0
  | 0x1 => i < 64
  | 0x3 => i < 128
  | 0x4 => i < 64
  | 0x5 => i < 32
  | 0x6 => i < 32
  | 0x7 => i < 16
  | 0x8 => i < 16
  | 0x9 => i < 8
  | 0xA => i < 32 || (0x100 ≤ i && i < 0x108)
  | 0xB => i < 256
  | 0xC => i < 4
  | 0xD => i < 7
  | 0xE => i < 9
  | 0xF => i < 0x20 || (0x40 ≤ i && i < 0x70) || (0x80 ≤ i && i < 0x88) || (0xA0 ≤ i && i < 0xA8) ||
      (0xC0 ≤ i && i < 0xD0) || (0xE0 ≤ i && i < 0xF0) || (0x100 ≤ i && i < 0x200) || (0x200 ≤ i && i < 0x215) ||
      (0x300 ≤ i && i < 0x312) || i = 0x3FF
  | _ => false

/-- An object that must be created first has been (R114): fences, channels and network audio streams. -/
def State.objExists (s : State) (id : Nat) : Bool :=
  let i := idIndex id
  match idType id with
  | 0x1 => (s.net.srcs.getD i {}).st ≠ .closed
  | 0xA => if i < 32 then (s.net.srcs.getD (64 + i) {}).st ≠ .closed else true
  | 0xB => (s.lay.fences.getD i {}).made
  | _ => true

/-- The power domain (Table 4-28 order) an object lies in (Table 1-9); layers, channels' contexts and fences lie in PD_CORE
as objects of the Bobbins, and so do the Guard units. -/
def idDomain (id : Nat) : Option Nat :=
  let i := idIndex id
  match idType id with
  | 0x1 | 0x3 | 0x4 | 0xB | 0xE => some 2
  | 0x5 | 0x6 => some (8 + i / 8)
  | 0x7 => some (13 + i / 4)
  | 0x8 => some 7
  | 0x9 | 0xA => some 20
  | 0xC => some 17
  | 0xD => some 18
  | 0xF =>
    if i < 0xA0 then some (if 0x48 ≤ i && i < 0x70 then 1 else 0) else if i < 0xC0 then some 20 else if i < 0x100 then some 2
    else if i < 0x200 then some (8 + (i - 0x100) / 64) else none
  | _ => none

/-- The power domain that keeps an object's block from answering: off, or its fabric port closed (R28, R29, Table 16-2). -/
def State.objOff (s : State) (id : Nat) : Option Nat :=
  (idDomain id).filter fun d => !s.reachable d || (idType id = 0xD && !s.portPowered (idIndex id))

/-- The cluster and engine an object lies in, as an origin (Table 1-2); none for objects of firmware tables. -/
def idOrigin (id : Nat) : Option Nat :=
  let i := idIndex id
  match idType id with
  | 0x5 | 0x6 => some ((0x20 + i / 8) * 256 + i % 8)
  | 0x7 => some (0x5000 + i)
  | 0x8 => some (0x1800 + i % 2)
  | 0x9 => some (0x6000 + i)
  | 0xC => some (0x4800 + i)
  | 0xD => some (0x4000 + i)
  | 0xF =>
    if i < 0x20 then some 0x7002 else if 0x80 ≤ i && i < 0x88 then some 0x7003
    else if 0x100 ≤ i && i < 0x200 then some ((0x20 + (i - 0x100) / 64) * 256 + (i - 0x100) / 8 % 8) else none
  | _ => none

/-- An origin covers another: equal, or the whole of its cluster. -/
def originCovers (a b : Nat) : Bool := a = b || (a % 256 = 0xFF && a / 256 = b / 256)

/-- A targeted BIST run holds the object (R478). -/
def State.underTest (s : State) (id : Nat) : Bool :=
  s.hoop.bist.st = 1 && match idOrigin id with
    | some o => originCovers s.hoop.bist.origin o
    | none => false

/-- An identifier field of an accepted type, at payload offset `off`; `none` also accepts 0x0000. -/
def chkId (j : Job) (off : Nat) (types : List Nat) (orNone : Bool := false) : List Nat :=
  let id := j.u16 off
  if id = 0 then chk off orNone else chk off (types.contains (idType id))

/-- The identifier at payload offset `off` as a named object, when it is not "none". -/
def nameAt (j : Job) (off : Nat) : List (Nat × Nat) := if j.u16 off = 0 then [] else [(16 + off, j.u16 off)]

/-- A field that names a miscellaneous object (type 0xF) of one kind; an index outside every range is left to E_NO_OBJECT. -/
def chkMisc (j : Job) (off lo hi : Nat) : List Nat :=
  let id := j.u16 off
  chk off (idType id = 15 && ((lo ≤ idIndex id && idIndex id ≤ hi) || !idInRange id))

/-- A field that names an Ethernet port, ETH0-ETH3 or RGMII; an index outside every range is left to E_NO_OBJECT. -/
def chkNetPort (j : Job) (off : Nat) : List Nat :=
  chk off (idType (j.u16 off) = 13 && (idIndex (j.u16 off) < 5 || idIndex (j.u16 off) > 6))

/-- Index of a layer in the layer table: video 0-127, graphic 128-191. -/
def layerIndex (id : Nat) : Nat := if idType id = 3 then idIndex id else 128 + idIndex id

/-- Identifier of a layer. -/
def layerId (n : Nat) : Nat := if n < 128 then 0x3000 + n else 0x4000 + (n - 128)

/-- Index in `net.srcs` of a channel or network audio stream. -/
def srcIndex (id : Nat) : Nat := if idType id = 1 then idIndex id else 64 + idIndex id

/-- Identifier of a channel or stream. -/
def srcId (n : Nat) : Nat := if n < 64 then 0x1000 + n else 0xA000 + (n - 64)

/-! ### Lists indexed by number -/

/-- Change entry `i` of a table. -/
def modAt {α : Type} (l : List α) (i : Nat) (f : α → α) : List α := l.mapIdx fun k a => if k = i then f a else a

/-! ### Egress (Table 1-3) -/

/-- The Bobbin that serves the egress of half `k` of the encode channels, heads or forwarded channels (Table 1-3, R314; log
entry 67). -/
def egressBobbin (k : Nat) : Nat := 8 + k % 2

/-- A datagram that Bobbin 8 or 9 was to send is dropped while it restarts (R408). -/
def State.egressDrop (s : State) (b n : Nat) : State :=
  { s with hoop := { s.hoop with egressDrops := modAt s.hoop.egressDrops (b - 8) fun x => satAdd32 x n } }

/-! ### Tiles -/

/-- The newest placement of a layer (R212, R347). -/
def State.newestTile (s : State) (layer : Nat) : Option Tile :=
  (s.lay.tiles.filter fun t => t.layer = layer).foldl (fun a t => match a with
    | none => some t
    | some b => if b.placed < t.placed then some t else some b) none

/-- Heads that a command naming a layer affects (R131). -/
def State.layerHeads (s : State) (i : Nat) : List Nat :=
  (((s.lay.tiles.filter fun t => t.layer = i).map (·.head)) ++ (s.lay.layers.getD i {}).head.toList).eraseDups

/-- An accepted command that takes effect at the next Stitch boundary (R517). -/
def State.atBoundary (s : State) (j : Job) : State :=
  let c : Change := { head := none, job := j }
  { s with txn := { s.txn with changes := s.txn.changes ++ [c] } }

/-- The tile's last verdict is LIVE (Table 2-8). -/
def Tile.live (t : Tile) : Bool := t.judged && t.state % 16 = 1

end Sys2Proof.Machine
end

