-- ==== Sys2Proof/Machine/Cmd.lean ====
section
/-! DEFINITION. What every command has in common: its index entry (R105), the checks (R74, R76, R104), staging (R77,
R123), deferral (R76), ordering (R78), intake on each transport (R82, R91, R93) and the reply (R75). -/
namespace Sys2Proof.Machine

/-- Accepted payload lengths (R100): `lo`, `lo + step`, … up to `hi`. -/
structure LenRule where
  lo : Nat
  hi : Nat
  step : Nat
deriving DecidableEq, Repr

/-- An entry of the index (R105): class, opcode, request lengths, whether it has a reply payload, roles, staged. -/
structure CmdSpec where
  cls : Nat
  op : Nat
  len : LenRule
  reply : Bool
  roles : List Nat
  staged : Bool
deriving DecidableEq, Repr

/-- What executing a command gives. -/
inductive CmdResult where
  /-- Refused with a status and DETAIL. -/
  | fail (status detail : Nat)
  /-- Refused, and the attempt leaves a count or a record in the state. -/
  | failWith (s : State) (status detail : Nat)
  /-- Executed; the reply payload follows. -/
  | ok (s : State) (payload : List Byte)
  /-- `OK_PARTIAL` with `n` items. -/
  | part (s : State) (n : Nat) (payload : List Byte)
  /-- Executing: the reply follows later. -/
  | later (s : State)
  /-- Executed, and already replied to. -/
  | done (s : State)

/-- A command: its index entry, its payload checks (offsets of the fields at fault), the identifiers it names with their
packet offsets, its protection check (R106) and its execution. -/
structure Cmd where
  spec : CmdSpec
  param : Job → State → List Nat := fun _ _ => []
  names : Job → List (Nat × Nat) := fun _ => []
  /-- Objects that this command may name before they exist (R114: SRC_OPEN). -/
  creates : Bool := false
  /-- A narrower role than the index gives, for this form of the command: R102's DETAIL. -/
  denied : Job → State → Option Nat := fun _ _ => none
  protect : Job → State → Option Nat := fun _ _ => none
  run : Job → State → CmdResult

/-! ### Status codes (Table 4-25) -/

abbrev eClass : Nat := 0x8001
abbrev eOpcode : Nat := 0x8002
abbrev eLength : Nat := 0x8003
abbrev eParam : Nat := 0x8004
abbrev eState : Nat := 0x8005
abbrev eNoObject : Nat := 0x8006
abbrev eNoResource : Nat := 0x8007
abbrev eBusy : Nat := 0x8008
abbrev eDomainOff : Nat := 0x8009
abbrev eDenied : Nat := 0x800A
abbrev eTxnUnknown : Nat := 0x800B
abbrev eTxnConflict : Nat := 0x800C
abbrev eTxnFull : Nat := 0x800D
abbrev eFenceTimeout : Nat := 0x800E
abbrev eDeadline : Nat := 0x800F
abbrev eBudget : Nat := 0x8010
abbrev eCpbSmall : Nat := 0x8011
abbrev eIntegrity : Nat := 0x8012
abbrev eVersion : Nat := 0x8013
abbrev eOverlap : Nat := 0x8014
abbrev eTimeout : Nat := 0x8015
abbrev eProtected : Nat := 0x8016
abbrev eSession : Nat := 0x8017
abbrev eRefused : Nat := 0x8018
abbrev eInternal : Nat := 0x80FF

/-! ### Checks -/

/-- The recovery loader serves the SPI command port (R420). -/
def State.loader (s : State) : Bool := s.hif.hoopState = 0 && s.hif.panic

/-- Opcodes the recovery loader accepts (R420). -/
def CmdSpec.loaderServes (c : CmdSpec) : Bool :=
  c.cls = 0x52 || (c.cls = 0x01 && [0x01, 0x02, 0x07, 0x08].contains c.op)

/-- Role of a request's session (Table 3-10); 0 = none. -/
def State.roleOf (s : State) (r : Request) : Nat :=
  if r.session = 0 then
    match r.transport with
    | .pcie => 1 | .spi => 1 | .safetySpi => 3 | .network => 0
  else match s.session? r.session with
    | some x => x.role
    | none => 0

/-- The request's session is open on its transport (R74 step 4, R94). -/
def State.sessionOpen (s : State) (r : Request) : Bool :=
  r.session = 0 || match s.session? r.session with
    | some x => x.transport = r.transport
    | none => false

/-- R102's bitmap of accepted roles. -/
def CmdSpec.roleBits (c : CmdSpec) : Nat := (c.roles.map (2 ^ ·)).sum

def State.roleOk (s : State) (c : CmdSpec) (r : Request) : Bool :=
  c.roles.length = 4 || c.roles.contains (s.roleOf r) ||
  -- R420: in lifecycle MANUFACTURE the loader takes UPD commands on session 0 while the SERVICE key is absent.
  (s.loader && c.cls = 0x52 && r.session = 0 && s.hoop.otp.lifecycle = 0 && s.hoop.keys.getD 3 none = none)

/-- The signed distance d of R76 from the current Stitch to the one the field names. -/
def State.stitchDist (s : State) (field : Nat) : Int := signed 32 (field + m32 - s.stitch32)

def atStitch (r : Request) : Bool := r.flags.testBit 2

/-- R76: the deadline has passed, or the scheduled Stitch has. -/
def State.deadlinePassed (s : State) (r : Request) : Bool :=
  if atStitch r then s.stitchDist r.stitch < 0 else r.stitch ≠ 0 && s.stitchDist r.stitch < 0

/-- R100: a length is accepted. -/
def LenRule.ok (l : LenRule) (n : Nat) : Bool := l.lo ≤ n && n ≤ l.hi && (n - l.lo) % l.step = 0

/-- R100: DETAIL of E_LENGTH. -/
def LenRule.nearest (l : LenRule) (n : Nat) : Nat :=
  if n < l.lo then 16 + l.lo else if l.hi < n then 16 + l.hi else 16 + (n - (n - l.lo) % l.step)

/-- The lowest offset in a list of fields at fault. -/
def firstOffset (l : List Nat) : Option Nat := l.min?

/-- Steps 4 to 8 of R74, R77, R103 and R420. -/
def check (c : Cmd) (j : Job) (s : State) : Option Err :=
  if j.len > 1008 then some ⟨eLength, c.spec.len.nearest j.len⟩
  else if s.loader && !c.spec.loaderServes then some ⟨eState, 0⟩
  else if !s.sessionOpen j.req then some ⟨eSession, j.req.session⟩
  else if !s.roleOk c.spec j.req then some ⟨eDenied, c.spec.roleBits⟩
  else if j.req.flags ≥ 8 || (j.req.txn ≠ 0 && atStitch j.req) then some ⟨eParam, 10⟩
  else if s.deadlinePassed j.req then some ⟨eDeadline, 0⟩
  else if !c.spec.len.ok j.len then some ⟨eLength, c.spec.len.nearest j.len⟩
  else (firstOffset (c.param j s)).map fun o => ⟨eParam, o⟩

/-- The first four checks of R104, before the command's own. -/
def checkObjects (c : Cmd) (j : Job) (s : State) : Option Err :=
  match (c.names j).find? fun n => !(idInRange n.2 && (c.creates || s.objExists n.2)) with
  | some n => some ⟨eNoObject, n.1⟩
  | none =>
  match (c.names j).findSome? fun n => s.objOff n.2 with
  | some d => some ⟨eDomainOff, 0xF200 + d⟩
  | none =>
  match c.protect j s with
  | some o => some ⟨eProtected, o⟩
  | none =>
  match (c.names j).find? fun n => s.underTest n.2 with
  | some n => some ⟨eBusy, n.2⟩
  | none => none

/-- Execute a command that has passed R74: R104, then its own meaning. -/
def execCmd (c : Cmd) (j : Job) (s : State) : CmdResult :=
  match checkObjects c j s with
  | some e => .fail e.status e.detail
  | none => c.run j s

/-! ### Staging (R123, R124) -/

def State.txn? (s : State) (h : Nat) : Option Txn := s.txn.live.find? fun x => x.handle = h

def State.modTxn (s : State) (h : Nat) (f : Txn → Txn) : State :=
  { s with txn := { s.txn with live := s.txn.live.map fun x => if x.handle = h then f x else x } }

/-- The transaction belongs to the request's session (R120); one whose session has closed belongs to none. -/
def Txn.owned (x : Txn) (r : Request) : Bool := !x.orphan && x.session = r.session && x.transport = r.transport

def stage (c : Cmd) (j : Job) (s : State) : State :=
  let h := j.req.txn
  match s.txn? h with
  | none => s.reply j eTxnUnknown h []
  | some x =>
  if !(x.st = .open_ && x.owned j.req) then s.reply j eTxnUnknown h [] else
  match (c.names j).find? fun n => !idInRange n.2 with
  | some n => s.reply j eNoObject n.1 []
  | none =>
  match c.protect j s with
  | some o => s.reply j eProtected o []
  | none =>
  match s.txn.live.find? fun y => y.handle ≠ h && (c.names j).any fun n => y.objects.contains n.2 with
  | some y => s.reply j eTxnConflict y.handle []
  | none =>
  if x.staged.length ≥ 512 then s.reply j eTxnFull 2 [] else
  (s.modTxn h fun x => { x with staged := x.staged ++ [j], idleSince := s.now
                                objects := x.objects ++ (c.names j).map (·.2) }).reply j 1 (x.staged.length + 1) []

/-! ### Beginning a command -/

/-- Carry out the result of a command on the state it began in (R75). -/
def conclude (j : Job) (s : State) (r : CmdResult) : State :=
  match r with
  | .fail st d => s.reply j st d []
  | .failWith s1 st d => s1.reply j st d []
  | .ok s1 p => s1.replyAt j 0 0 s.stitch32 p
  | .part s1 n p => s1.replyAt j 3 (sat16 n) s.stitch32 p
  | .later s1 => { s1 with hif := { s1.hif with inflight := s1.hif.inflight ++ [j] } }
  | .done s1 => s1

/-- Defer a command to the Stitch it names (R76). -/
def defer (j : Job) (s : State) : State :=
  if s.txn.deferred.length ≥ 256 then s.reply j eNoResource 0 [] else
  let at_ := s.stitch + (s.stitchDist j.req.stitch).toNat
  let d : Deferred := { job := { j with deferred := true }, stitch := at_ }
  ({ s with txn := { s.txn with deferred := s.txn.deferred ++ [d] } }).replyAt j 2 0 at_ []

/-- The failures that the checks of R74 and R104 answer, which a command that will be deferred meets at once (R76). -/
def checkStatuses : List Nat := [eParam, eNoObject, eDomainOff, eProtected, eBusy, eState, eNoResource, eBudget]

/-- A command to be deferred is checked at once (R76): as if it executed now, with no effect. -/
def deferCheck (c : Cmd) (j : Job) (s : State) : Option Err :=
  match execCmd c j s with
  | .fail st d | .failWith _ st d => if checkStatuses.contains st then some ⟨st, d⟩ else none
  | .ok _ _ | .part _ _ _ | .later _ | .done _ => none

/-- Begin a command: its checks, then staging, deferral or execution. The check of R103 follows those of R74 (log entry 61). -/
def begin_ (c : Cmd) (j : Job) (s : State) : State :=
  match check c j s with
  | some e => s.reply j e.status e.detail []
  | none =>
  match c.denied j s with
  | some d => s.reply j eDenied d []
  | none =>
  if j.req.txn ≠ 0 then
    if c.spec.staged then stage c j s else s.reply j eParam 8 []
  else if atStitch j.req && s.stitchDist j.req.stitch > 0 then
    match deferCheck c j s with
    | some e => s.reply j e.status e.detail []
    | none => defer j s
  else conclude j s (execCmd c j s)

/-! ### Ordering (R78) -/

/-- Two commands come from the same source. -/
def sameSource (a b : Job) : Bool :=
  a.req.transport = b.req.transport && match a.req.transport with
    | .pcie => a.req.queue = b.req.queue
    | .spi | .safetySpi => true
    | .network => a.req.session = b.req.session && (a.req.session ≠ 0 || (a.req.peer = b.req.peer && a.req.udp = b.req.udp))

/-- A command of this source may not begin yet. -/
def mustWait (j : Job) (s : State) : Bool :=
  let fl := s.hif.inflight.filter fun k => sameSource j k && !k.deferred
  (!fl.isEmpty && (j.ordered || fl.any Job.ordered)) || s.hif.held.any fun k => sameSource j k

/-- Begin a command, or hold it until its source lets it begin. -/
def takeUp (c : Cmd) (j : Job) (s : State) : State :=
  if mustWait j s then { s with hif := { s.hif with held := s.hif.held ++ [j] } } else begin_ c j s

/-! ### Intake -/

/-- A completion slot of queue `n` can be reserved (R82). -/
def Cq.slotFree (q : Cq) : Bool := q.reserved + q.posted < q.size

/-- The queue whose turn it is (R78, R82): the first from `rrNext` with an entry and a completion slot. -/
def State.nextQueue (s : State) : Option Nat :=
  ((List.range 4).map fun k => (s.hif.rrNext + k) % 4).find? fun q =>
    let x := s.hif.sqs.getD q {}
    x.head ≠ x.tail && (s.hif.cqs.getD q {}).slotFree

/-- A reply buffer can be reserved (R81, R82). -/
def Rbuf.canReserve (b : Rbuf) : Bool := b.reserved < b.free

/-- Take an entry from the submission queue whose turn it is (R78, R82): reserve and move the head on. A queue whose entry has
no reply buffer yet passes its turn on (log entry 17). -/
def takeEntry (cls op : Nat) (reply : Bool) (r : Request) (s : State) : State × Option Job :=
  let q := s.hif.sqs.getD r.queue {}
  let cq := s.hif.cqs.getD r.queue {}
  let needBuf := r.flags.testBit 0 && reply
  if !(s.transportUp && s.hif.pcieUp && s.hif.enable && s.nextQueue = some r.queue) then (s, none)
  else if needBuf && !s.hif.rbuf.canReserve then ({ s with hif := { s.hif with rrNext := (r.queue + 1) % 4 } }, none)
  else
    let hd := if q.head + 1 < q.size then q.head + 1 else 0
    (({ s with hif := { s.hif with
        sqs := s.hif.sqs.set r.queue { q with head := hd },
        cqs := s.hif.cqs.set r.queue { cq with reserved := cq.reserved + 1 },
        rbuf := { s.hif.rbuf with reserved := s.hif.rbuf.reserved + b2n needBuf },
        rrNext := (r.queue + 1) % 4 } }).emit (.entryRead r.queue (slotAt q.base 64 q.head)),
     some { req := r, cls, op, sqHead := hd, buf := needBuf })

/-- Take a packet from an SPI port (R93). -/
def takeSpi (cls op : Nat) (r : Request) (s : State) : State × Option Job :=
  let safety := r.transport = .safetySpi
  let p := s.spiPort safety
  if !(s.transportUp || (s.loader && !safety)) then (s, none)
  else
    let s := s.emit (.spiStatus safety (s.spiStatus safety))
    if p.held ≥ 4 then (s.setSpiPort safety { p with discarded := satAdd32 p.discarded 1 }, none)
    else (s.setSpiPort safety { p with held := p.held + 1, crcErr := false }, some { req := r, cls, op })

def State.modPort (s : State) (n : Nat) (f : NetPort → NetPort) : State :=
  { s with net := { s.net with ports := modAt s.net.ports n f } }

/-- The network transport runs on a port (R90, R141). -/
def State.netCommand (s : State) (port : Nat) : Bool :=
  let p := s.net.ports.getD port {}
  p.enable && p.command && s.portPowered port

/-- A network port receives frames: enabled, its link up, in no loopback, PD_ETH on (R141, R142, R165). -/
def State.portRx (s : State) (p : Nat) : Bool :=
  let x := s.net.ports.getD p {}
  p < 5 && x.enable && x.link && x.loop = 0 && s.portPowered p

/-- A good frame received on a port (Table 6-10). -/
def State.rxFrame (s : State) (port len : Nat) : State :=
  s.modPort port fun p => { p with ctr := { p.ctr with rxFrames := p.ctr.rxFrames + 1, rxOctets := p.ctr.rxOctets + len } }

/-- A frame's length is one the port takes: no runt, and no longer than MTU with its Ethernet header and FCS (R142). -/
def State.goodLength (s : State) (port vlan len : Nat) : Bool :=
  64 ≤ len && len ≤ (s.net.ports.getD port {}).mtu + 18 + (if vlan = 0 then 0 else 4)

/-- A frame with a good FCS arrives on a port, with the tag `vlan` (0 = none): it is counted, and dropped and counted in
RX_LENGTH_ERR where its length is none that the port takes, or in RX_VLAN_DROP where its tag is not the port's (R142). -/
def State.takeFrame (s : State) (port vlan len : Nat) : State × Bool :=
  let s1 := s.rxFrame port len
  let count (f : NetCounters → NetCounters) : State := s1.modPort port fun p => { p with ctr := f p.ctr }
  if !s.goodLength port vlan len then (count fun c => { c with rxLengthErr := c.rxLengthErr + 1 }, false)
  else if vlan ≠ (s.net.ports.getD port {}).vlan then (count fun c => { c with rxVlanDrop := c.rxVlanDrop + 1 }, false)
  else (s1, true)

/-- The tag that a port's own frames carry. A row that names no tag brings a frame with this one; a frame with another tag
comes as PACKET_RECEIVE (R142). -/
def State.ownTag (s : State) (port : Nat) : Nat := (s.net.ports.getD port {}).vlan

/-- A command datagram with a packet of `len` bytes arrives on a port: whether the transport takes it up (R90, R164). -/
def State.rxDatagram (s : State) (port peer len : Nat) : State × Bool :=
  if !s.portRx port then (s, false) else
  let (s, good) := s.takeFrame port (s.ownTag port) (frameOctets (s.ownTag port) (ipUdp peer + len + 24))
  if !good then (s, false)
  else if !s.netCommand port then
    (s.modPort port fun p => { p with ctr := { p.ctr with rxUnmatched := p.ctr.rxUnmatched + 1 } }, false)
  else if !s.transportUp then
    (s.modPort port fun p => { p with ctr := { p.ctr with cmdDiscarded := p.ctr.cmdDiscarded + 1 } }, false)
  else (s, true)

/-- Take a datagram that has been received and whose MAC has been judged (R91). -/
def takeNet (cls op : Nat) (macOk : Bool) (r : Request) (s : State) : State × Option Job :=
  let drop := (s.modPort r.port fun p => { p with ctr := { p.ctr with cmdDiscarded := p.ctr.cmdDiscarded + 1 } }, none)
  let took := s.modPort r.port fun p => { p with ctr := { p.ctr with cmdAccepted := p.ctr.cmdAccepted + 1 } }
  let j : Job := { req := r, cls, op }
  if r.session = 0 then
    if cls = 0x01 && op = 0x07 && macOk then (took, some j) else drop
  else match s.session? r.session with
  | none => drop
  | some x =>
    if x.transport = .network && macOk && r.seq > x.seqIn then
      (took.modSession r.session fun x => { x with seqIn := r.seq, lastAccepted := s.now, peer := r.peer, udp := r.udp,
                                                   port := r.port }, some j)
    else drop

/-- Take a request from its transport. -/
def intake (cls op : Nat) (reply macOk : Bool) (r : Request) (s : State) : State × Option Job :=
  match r.transport with
  | .pcie => takeEntry cls op reply r s
  | .spi | .safetySpi => takeSpi cls op r s
  | .network => match s.rxDatagram r.port r.peer (16 + r.payload.length) with
    | (s1, false) => (s1, none)
    | (s1, true) => takeNet cls op macOk r s1

end Sys2Proof.Machine
end

