-- ==== Sys2Proof/Machine/Index.lean ====
section
/-! DEFINITION. The command index: class, opcode, lengths, roles and staging of every command (spec/04 R105, Tables 4-2 to 4-22). -/
namespace Sys2Proof.Machine

def specNop : CmdSpec := ⟨0x01, 0x00, ⟨0, 1008, 1⟩, true, [1, 2, 3, 4], false⟩
def specIdentify : CmdSpec := ⟨0x01, 0x01, ⟨0, 0, 1⟩, true, [1, 2, 3, 4], false⟩
def specGetStatus : CmdSpec := ⟨0x01, 0x02, ⟨4, 4, 1⟩, true, [1, 2, 3, 4], false⟩
def specSetEventMask : CmdSpec := ⟨0x01, 0x03, ⟨8, 8, 1⟩, false, [1, 2, 3, 4], false⟩
def specResetBlock : CmdSpec := ⟨0x01, 0x04, ⟨4, 4, 1⟩, false, [2, 4], false⟩
def specPeek : CmdSpec := ⟨0x01, 0x05, ⟨12, 12, 1⟩, true, [4], false⟩
def specPoke : CmdSpec := ⟨0x01, 0x06, ⟨16, 1008, 4⟩, false, [4], false⟩
def specSessionOpen : CmdSpec := ⟨0x01, 0x07, ⟨36, 36, 1⟩, true, [1, 2, 3, 4], false⟩
def specSessionClose : CmdSpec := ⟨0x01, 0x08, ⟨4, 4, 1⟩, false, [1, 2, 3, 4], false⟩
def specSafetyHeartbeat : CmdSpec := ⟨0x23, 0x05, ⟨8, 8, 1⟩, true, [3], false⟩
def specTxnBegin : CmdSpec := ⟨0x02, 0x01, ⟨4, 4, 1⟩, true, [1, 2, 3, 4], false⟩
def specTxnCommit : CmdSpec := ⟨0x02, 0x02, ⟨20, 212, 12⟩, true, [1, 2, 3, 4], false⟩
def specTxnRollback : CmdSpec := ⟨0x02, 0x03, ⟨4, 4, 1⟩, false, [1, 2, 3, 4], false⟩
def specTxnQuery : CmdSpec := ⟨0x02, 0x04, ⟨4, 4, 1⟩, true, [1, 2, 3, 4], false⟩
def specSrcOpen : CmdSpec := ⟨0x10, 0x01, ⟨56, 56, 1⟩, false, [1, 2], true⟩
def specSrcClose : CmdSpec := ⟨0x10, 0x02, ⟨4, 4, 1⟩, false, [1, 2], true⟩
def specSrcSetFilter : CmdSpec := ⟨0x10, 0x03, ⟨16, 272, 16⟩, false, [1, 2], true⟩
def specSrcJoin : CmdSpec := ⟨0x10, 0x04, ⟨40, 40, 1⟩, false, [1, 2], true⟩
def specSrcLeave : CmdSpec := ⟨0x10, 0x05, ⟨40, 40, 1⟩, false, [1, 2], true⟩
def specSrcGetStats : CmdSpec := ⟨0x10, 0x06, ⟨4, 4, 1⟩, true, [1, 2, 3, 4], false⟩
def specSrcSetJitter : CmdSpec := ⟨0x10, 0x07, ⟨12, 12, 1⟩, false, [1, 2], true⟩
def specSrcSetCredit : CmdSpec := ⟨0x10, 0x08, ⟨8, 8, 1⟩, false, [1, 2], true⟩
def specNetPortConfig : CmdSpec := ⟨0x34, 0x01, ⟨16, 16, 1⟩, false, [2], false⟩
def specNetAddr : CmdSpec := ⟨0x34, 0x02, ⟨48, 48, 1⟩, false, [2], false⟩
def specNetStats : CmdSpec := ⟨0x34, 0x03, ⟨4, 4, 1⟩, true, [1, 2, 3, 4], false⟩
def specNetLoop : CmdSpec := ⟨0x34, 0x04, ⟨8, 8, 1⟩, false, [4], false⟩
def specDecConfig : CmdSpec := ⟨0x11, 0x01, ⟨32, 32, 1⟩, false, [1, 2], true⟩
def specDecStart : CmdSpec := ⟨0x11, 0x02, ⟨4, 4, 1⟩, false, [1, 2], true⟩
def specDecStop : CmdSpec := ⟨0x11, 0x03, ⟨4, 4, 1⟩, false, [1, 2], true⟩
def specDecFlush : CmdSpec := ⟨0x11, 0x04, ⟨4, 4, 1⟩, false, [1, 2], true⟩
def specDecGetPool : CmdSpec := ⟨0x11, 0x05, ⟨4, 4, 1⟩, true, [1, 2, 3, 4], false⟩
def specDecSetConceal : CmdSpec := ⟨0x11, 0x06, ⟨4, 4, 1⟩, false, [1, 2], true⟩
def specFreshSetPolicy : CmdSpec := ⟨0x12, 0x01, ⟨28, 28, 1⟩, false, [3], true⟩
def specFreshGetState : CmdSpec := ⟨0x12, 0x02, ⟨4, 4, 1⟩, true, [1, 2, 3, 4], false⟩
def specFreezeSet : CmdSpec := ⟨0x12, 0x03, ⟨24, 24, 1⟩, false, [3], true⟩
def specFreshSetTreatment : CmdSpec := ⟨0x12, 0x04, ⟨8, 8, 1⟩, false, [3], true⟩
def specProvRead : CmdSpec := ⟨0x12, 0x05, ⟨8, 8, 1⟩, true, [1, 2, 3, 4], false⟩
def specTilePause : CmdSpec := ⟨0x12, 0x06, ⟨4, 4, 1⟩, false, [1, 2, 3], true⟩
def specTileResume : CmdSpec := ⟨0x12, 0x07, ⟨4, 4, 1⟩, false, [1, 2, 3], true⟩
def specLayerBind : CmdSpec := ⟨0x20, 0x01, ⟨8, 8, 1⟩, false, [1, 2, 3], true⟩
def specLayerPlace : CmdSpec := ⟨0x20, 0x02, ⟨16, 16, 1⟩, false, [1, 2, 3], true⟩
def specLayerScale : CmdSpec := ⟨0x20, 0x03, ⟨24, 24, 1⟩, false, [1, 2, 3], true⟩
def specLayerFlip : CmdSpec := ⟨0x20, 0x04, ⟨28, 40, 12⟩, false, [1, 2, 3], true⟩
def specLayerEnable : CmdSpec := ⟨0x20, 0x05, ⟨4, 4, 1⟩, false, [1, 2, 3], true⟩
def specLayerDisable : CmdSpec := ⟨0x20, 0x06, ⟨4, 4, 1⟩, false, [1, 2, 3], true⟩
def specBlendOrder : CmdSpec := ⟨0x20, 0x07, ⟨4, 36, 2⟩, false, [1, 2, 3], true⟩
def specLayerAlpha : CmdSpec := ⟨0x20, 0x08, ⟨4, 4, 1⟩, false, [1, 2, 3], true⟩
def specCoefLoad : CmdSpec := ⟨0x22, 0x01, ⟨8, 1008, 2⟩, false, [1, 2, 3], true⟩
def specLutLoadPre : CmdSpec := ⟨0x22, 0x02, ⟨8, 1008, 2⟩, false, [1, 2, 3], true⟩
def specLutLoadPost : CmdSpec := ⟨0x22, 0x03, ⟨8, 1008, 2⟩, false, [1, 2, 3], true⟩
def specTableRead : CmdSpec := ⟨0x22, 0x04, ⟨8, 8, 1⟩, true, [1, 2, 3, 4], false⟩
def specFenceCreate : CmdSpec := ⟨0x24, 0x01, ⟨12, 12, 1⟩, true, [1, 2, 3], false⟩
def specFenceSignal : CmdSpec := ⟨0x24, 0x02, ⟨12, 12, 1⟩, false, [1, 2, 3], false⟩
def specFenceDestroy : CmdSpec := ⟨0x24, 0x03, ⟨4, 4, 1⟩, false, [1, 2, 3], false⟩
def specApplStyleLoad : CmdSpec := ⟨0x23, 0x01, ⟨48, 48, 1⟩, false, [3], true⟩
def specApplBanner : CmdSpec := ⟨0x23, 0x02, ⟨8, 72, 4⟩, false, [3], true⟩
def specApplSafeMap : CmdSpec := ⟨0x23, 0x03, ⟨8, 8, 1⟩, false, [3], true⟩
def specApplStatus : CmdSpec := ⟨0x23, 0x04, ⟨4, 4, 1⟩, true, [1, 2, 3, 4], false⟩
def specHeadTiming : CmdSpec := ⟨0x21, 0x01, ⟨40, 40, 1⟩, false, [1, 2], true⟩
def specHeadBindPort : CmdSpec := ⟨0x21, 0x02, ⟨8, 8, 1⟩, false, [1, 2], true⟩
def specHeadApplyLine : CmdSpec := ⟨0x21, 0x03, ⟨4, 4, 1⟩, false, [1, 2], true⟩
def specHeadGenlock : CmdSpec := ⟨0x21, 0x04, ⟨32, 32, 1⟩, false, [1, 2], true⟩
def specHeadSelfRefresh : CmdSpec := ⟨0x21, 0x05, ⟨4, 4, 1⟩, false, [1, 2], false⟩
def specHeadEnable : CmdSpec := ⟨0x21, 0x06, ⟨4, 4, 1⟩, false, [1, 2], true⟩
def specHeadDisable : CmdSpec := ⟨0x21, 0x07, ⟨4, 4, 1⟩, false, [1, 2], true⟩
def specHeadGetCrc : CmdSpec := ⟨0x21, 0x08, ⟨4, 4, 1⟩, true, [1, 2, 3, 4], false⟩
def specPortTrain : CmdSpec := ⟨0x21, 0x09, ⟨4, 4, 1⟩, true, [1, 2], false⟩
def specSliceLock : CmdSpec := ⟨0x21, 0x0A, ⟨12, 12, 1⟩, false, [1, 2], true⟩
def specEncConfig : CmdSpec := ⟨0x25, 0x01, ⟨48, 48, 1⟩, false, [1, 2], true⟩
def specEncStart : CmdSpec := ⟨0x25, 0x02, ⟨4, 4, 1⟩, false, [1, 2], true⟩
def specEncStop : CmdSpec := ⟨0x25, 0x03, ⟨4, 4, 1⟩, false, [1, 2], true⟩
def specEncSetRate : CmdSpec := ⟨0x25, 0x04, ⟨20, 20, 1⟩, false, [1, 2], true⟩
def specAttestConfig : CmdSpec := ⟨0x25, 0x05, ⟨48, 48, 1⟩, false, [3], false⟩
def specAttestRead : CmdSpec := ⟨0x25, 0x06, ⟨12, 12, 1⟩, true, [1, 2, 3, 4], false⟩
def specAudPortConfig : CmdSpec := ⟨0x30, 0x01, ⟨16, 16, 1⟩, false, [1, 2], true⟩
def specAudRoute : CmdSpec := ⟨0x30, 0x02, ⟨16, 16, 1⟩, false, [1, 2], true⟩
def specAudGroup : CmdSpec := ⟨0x30, 0x03, ⟨8, 40, 2⟩, false, [1, 2], true⟩
def specAudTone : CmdSpec := ⟨0x30, 0x04, ⟨16, 16, 1⟩, false, [1, 2, 3], false⟩
def specAudStats : CmdSpec := ⟨0x30, 0x05, ⟨4, 4, 1⟩, true, [1, 2, 3, 4], false⟩
def specTimeConfig : CmdSpec := ⟨0x31, 0x01, ⟨24, 24, 1⟩, false, [2], true⟩
def specTimeGet : CmdSpec := ⟨0x31, 0x02, ⟨0, 0, 1⟩, true, [1, 2, 3, 4], false⟩
def specTimeSet : CmdSpec := ⟨0x31, 0x03, ⟨16, 16, 1⟩, false, [2], false⟩
def specTimeSlewLimit : CmdSpec := ⟨0x31, 0x04, ⟨4, 4, 1⟩, false, [2], true⟩
def specTimeAsym : CmdSpec := ⟨0x31, 0x05, ⟨12, 12, 1⟩, false, [2], true⟩
def specTimeStats : CmdSpec := ⟨0x31, 0x06, ⟨4, 4, 1⟩, true, [1, 2, 3, 4], false⟩
def specTimeLegacyMode : CmdSpec := ⟨0x31, 0x07, ⟨4, 4, 1⟩, false, [2], false⟩
def specTouchConfig : CmdSpec := ⟨0x32, 0x01, ⟨16, 144, 4⟩, false, [2], true⟩
def specTouchStatus : CmdSpec := ⟨0x32, 0x02, ⟨0, 0, 1⟩, true, [1, 2, 3, 4], false⟩
def specTouchRecal : CmdSpec := ⟨0x32, 0x03, ⟨4, 4, 1⟩, false, [2], false⟩
def specGpioConfig : CmdSpec := ⟨0x32, 0x04, ⟨12, 12, 1⟩, false, [2], true⟩
def specGpioStatus : CmdSpec := ⟨0x32, 0x05, ⟨0, 0, 1⟩, true, [1, 2, 3, 4], false⟩
def specSafeStatus : CmdSpec := ⟨0x32, 0x06, ⟨0, 0, 1⟩, true, [1, 2, 3, 4], false⟩
def specCbusConfig : CmdSpec := ⟨0x32, 0x07, ⟨8, 136, 8⟩, false, [2], false⟩
def specCbusSend : CmdSpec := ⟨0x32, 0x08, ⟨12, 256, 1⟩, false, [1, 2], false⟩
def specLinkConfig : CmdSpec := ⟨0x33, 0x01, ⟨16, 16, 1⟩, false, [2], false⟩
def specLinkTrain : CmdSpec := ⟨0x33, 0x02, ⟨4, 4, 1⟩, true, [2], false⟩
def specLinkStatus : CmdSpec := ⟨0x33, 0x03, ⟨4, 4, 1⟩, true, [1, 2, 3, 4], false⟩
def specLinkPrbs : CmdSpec := ⟨0x33, 0x04, ⟨12, 12, 1⟩, true, [4], false⟩
def specLinkLoop : CmdSpec := ⟨0x33, 0x05, ⟨8, 8, 1⟩, false, [4], false⟩
def specLinkTxeq : CmdSpec := ⟨0x33, 0x06, ⟨8, 40, 4⟩, false, [2, 4], false⟩
def specLinkLowpower : CmdSpec := ⟨0x33, 0x07, ⟨8, 8, 1⟩, false, [2], false⟩
def specEnergySetBudget : CmdSpec := ⟨0x40, 0x01, ⟨8, 8, 1⟩, false, [2], false⟩
def specEnergyGet : CmdSpec := ⟨0x40, 0x02, ⟨4, 4, 1⟩, true, [1, 2, 3, 4], false⟩
def specEnergySetClass : CmdSpec := ⟨0x40, 0x03, ⟨4, 4, 1⟩, false, [2], true⟩
def specPstateRequest : CmdSpec := ⟨0x40, 0x04, ⟨8, 8, 1⟩, false, [2], false⟩
def specPstateStatus : CmdSpec := ⟨0x40, 0x05, ⟨0, 0, 1⟩, true, [1, 2, 3, 4], false⟩
def specWakeConfig : CmdSpec := ⟨0x40, 0x06, ⟨16, 16, 1⟩, false, [2], false⟩
def specRefusalLog : CmdSpec := ⟨0x40, 0x07, ⟨0, 0, 1⟩, true, [1, 2, 3, 4], false⟩
def specGuardUpdate : CmdSpec := ⟨0x41, 0x01, ⟨8, 264, 16⟩, false, [4], false⟩
def specGuardRead : CmdSpec := ⟨0x41, 0x02, ⟨4, 4, 1⟩, true, [4], false⟩
def specGuardFaults : CmdSpec := ⟨0x41, 0x03, ⟨4, 4, 1⟩, true, [2, 4], false⟩
def specGuardLock : CmdSpec := ⟨0x41, 0x04, ⟨4, 4, 1⟩, false, [4], false⟩
def specBistRun : CmdSpec := ⟨0x50, 0x01, ⟨8, 8, 1⟩, false, [4], false⟩
def specBistResult : CmdSpec := ⟨0x50, 0x02, ⟨4, 4, 1⟩, true, [4], false⟩
def specDpPattern : CmdSpec := ⟨0x50, 0x03, ⟨8, 8, 1⟩, false, [4], false⟩
def specLogRead : CmdSpec := ⟨0x51, 0x01, ⟨8, 8, 1⟩, true, [1, 2, 3, 4], false⟩
def specSamplerRead : CmdSpec := ⟨0x51, 0x02, ⟨8, 8, 1⟩, true, [2, 4], false⟩
def specSamplerArm : CmdSpec := ⟨0x51, 0x03, ⟨4, 4, 1⟩, false, [4], false⟩
def specSamplerTrigger : CmdSpec := ⟨0x51, 0x04, ⟨4, 4, 1⟩, false, [2, 4], false⟩
def specSensorRead : CmdSpec := ⟨0x51, 0x05, ⟨4, 4, 1⟩, true, [1, 2, 3, 4], false⟩
def specUpdBegin : CmdSpec := ⟨0x52, 0x01, ⟨16, 16, 1⟩, false, [4], false⟩
def specUpdChunk : CmdSpec := ⟨0x52, 0x02, ⟨8, 1008, 1⟩, false, [4], false⟩
def specUpdVerify : CmdSpec := ⟨0x52, 0x03, ⟨4, 4, 1⟩, true, [4], false⟩
def specUpdActivate : CmdSpec := ⟨0x52, 0x04, ⟨4, 4, 1⟩, false, [4], false⟩
def specUpdRollback : CmdSpec := ⟨0x52, 0x05, ⟨4, 4, 1⟩, false, [4], false⟩
def specUpdStatus : CmdSpec := ⟨0x52, 0x06, ⟨0, 0, 1⟩, true, [1, 2, 3, 4], false⟩

end Sys2Proof.Machine
end

