-- ==== Sys2Proof/Machine/Audio.lean ====
section
/-! DEFINITION. Audio ports, streams, groups, routes and tones (spec/14). -/
namespace Sys2Proof.Machine

def audHz (code : Nat) : Nat := if code = 0 then 48000 else if code = 1 then 96000 else 44100

def State.audPort (s : State) (i : Nat) : AudPort := s.aud.ports.getD i {}
def State.group (s : State) (i : Nat) : Group := s.aud.groups.getD i {}
def State.modAud (s : State) (f : Aud → Aud) : State := { s with aud := f s.aud }
def State.modGroup (s : State) (i : Nat) (f : Group → Group) : State :=
  s.modAud fun a => { a with groups := modAt a.groups i f }

/-- Foreign-clocked (R337). -/
def AudPort.foreign (p : AudPort) : Bool := !p.master || p.clock ≠ 0

/-- Counters of a port, stream or group. -/
def State.audCtr (s : State) (id : Nat) : AudCtr :=
  if idType id = 9 then (s.audPort (idIndex id)).ctr
  else if idIndex id < 0x100 then s.aud.streams.getD (idIndex id) {} else (s.group (idIndex id - 0x100)).ctr

def State.modAudCtr (s : State) (id : Nat) (f : AudCtr → AudCtr) : State :=
  if idType id = 9 then s.modAud fun a => { a with ports := modAt a.ports (idIndex id) fun p => { p with ctr := f p.ctr } }
  else if idType id ≠ 0xA then s
  else if idIndex id < 0x100 then s.modAud fun a => { a with streams := modAt a.streams (idIndex id) f }
  else s.modGroup (idIndex id - 0x100) fun g => { g with ctr := f g.ctr }

/-- Rate code of a member; none for a head, which takes its group's rate (R339). -/
def State.memberRate (s : State) (id : Nat) : Option Nat :=
  match idType id with
  | 9 => some (s.audPort (idIndex id)).rate
  | 0xA => some (s.net.srcs.getD (srcIndex id) {}).p2
  | _ => none

/-- Channels of a member: slots, stream channels, or 8 on a head (R339; log entry 12). -/
def State.memberChannels (s : State) (id : Nat) : Nat :=
  match idType id with
  | 9 => (s.audPort (idIndex id)).slots
  | 0xA => (s.net.srcs.getD (srcIndex id) {}).p1
  | _ => 8

/-- A member is an input: an input port or a network stream. -/
def State.isInput (s : State) (id : Nat) : Bool := idType id = 0xA || (idType id = 9 && !(s.audPort (idIndex id)).output)

/-- The group that holds a member. -/
def State.groupOf (s : State) (id : Nat) : Option Nat :=
  (List.range 8).find? fun i => (s.group i).made && (s.group i).members.contains id

/-- Nominal rate of a group: its first member that has one. -/
def State.groupHz (s : State) (g : Group) : Nat := audHz ((g.members.findSome? s.memberRate).getD 0)

/-- An audio event, at most once per code and source in a Stitch (R350). -/
def State.evtAudio (s : State) (source code reason arg0 arg1 : Nat) : State :=
  s.raiseOnce 0x0E source code (leBytes 1 code ++ leBytes 1 reason ++ zeros 2 ++ leBytes 4 arg0 ++ leBytes 4 arg1)

/-- Count `k` samples towards an event raised at the Stitch boundary (R350). -/
def State.tally (s : State) (code source first : Nat) (k : Nat := 1) : State :=
  s.modAud fun a =>
    if a.tallies.any (fun t => t.code = code && t.source = source) then
      { a with tallies := a.tallies.map fun t =>
          if t.code = code && t.source = source then { t with count := t.count + k } else t }
    else { a with tallies := a.tallies ++ [{ code, source, count := k, first := first % m32 }] }

/-- R350 at a Stitch boundary: UNDERRUN, LATE and OVERRUN of the Stitch that ends. -/
def State.audBoundary (s : State) : State :=
  let ts := s.aud.tallies
  (s.modAud fun a => { a with tallies := [] }).forEach ts fun t s =>
    s.evtAudio t.source t.code 0 (sat32 t.count) (if t.code = 3 then 0 else t.first)

/-! ### Buffers and play times (R340-R342) -/

/-- Play time of sample `n` (R341), times the rate. A foreign reference counts from its first sample, and its clock is not local time
(R345): once it plays, later samples follow the last one played at the nominal rate. -/
def playScaled (g : Group) (hz : Nat) (n : Int) : Int :=
  if g.clock = 0 then n * nsPerSec + (g.playout * 1000 * hz : Nat) else
  match g.played with
  | some m => (n - m) * nsPerSec + (g.playedAt * hz / m32 : Nat)
  | none => n * nsPerSec + ((g.playout * 1000 + g.refFirst.getD 0) * hz : Nat)

/-- Play time of sample `n` in local ns, rounded down. -/
def playAt (g : Group) (hz : Nat) (n : Int) : Nat := (playScaled g hz n / hz).toNat

/-- A source sample written to a group's buffer: late, beyond the buffer, or buffered (R341, R342). -/
def State.writeSample (s : State) (gi : Nat) (f : AudFrame) : State :=
  let g := s.group gi
  let hz := s.groupHz g
  let p := playScaled g hz f.n
  let here : Int := (s.local * hz : Nat)
  let low := unsigned 32 f.n
  if here + (125000 * hz : Nat) ≥ p then
    ((s.modAudCtr f.src fun c => { c with late := c.late + 1 }).modAudCtr (0xA100 + gi) fun c => { c with late := c.late + 1 }).tally 2 f.src low
  else if p > here + ((g.playout * 1000 + 10000000) * hz : Nat) then
    ((s.modAudCtr f.src fun c => { c with overrun := c.overrun + 1 }).modAudCtr (0xA100 + gi)
      fun c => { c with overrun := c.overrun + 1 }).tally 3 f.src low
  else if g.buffer.any fun b => b.src = f.src && b.n = f.n then s
  else s.modGroup gi fun g => { g with buffer := g.buffer ++ [f] }

/-- Preamble search in a channel pair (R346): `w` are the pair's two samples in order. -/
def AudPair.sample (p : AudPair) (n v : Int) : AudPair :=
  let top := unsigned 32 v / 65536
  if p.pa && top = 0x4E1F then { p with pa := false, found := true, clean := 0 }
  else if top = 0xF872 then { p with pa := true, burstN := n } else { p with pa := false }

/-- One frame of a pair's channel status (R346): whether a block starts with it, and its bit C. Bit 1 of byte 0 is the second bit of a
block, and counts once all 192 frames have come. -/
def AudPair.channelStatus (p : AudPair) (n : Int) (first c : Bool) : AudPair :=
  let k := if first then some 0 else p.blockAt.map (· + 1)
  let start := if first then n else p.blockN
  let bit := if k = some 1 then c else !first && p.nonAudio
  let done := k = some 191 && bit
  { p with blockAt := k.filter (· < 191), blockN := start, nonAudio := bit, status := p.status || done
           statusN := if done then start else p.statusN, clean := if done then 0 else p.clean }

/-- Follow the pairs of an input through one sample frame (R346). `words`: the subframes of a FORMAT 2 port, else none. -/
def State.watchPairs (s : State) (src : Nat) (n : Int) (vs words : List Int) : State :=
  s.forEach (List.range (vs.length / 2)) fun k s =>
    let old := (s.aud.pairs.find? fun p => p.src = src && p.pair = k).getD { src, pair := k }
    let p := ({ old with clean := old.clean + 1, lastN := n }.sample n (vs.getD (2 * k) 0)).sample n (vs.getD (2 * k + 1) 0)
    let sub (i : Nat) : Nat := unsigned 32 (words.getD (2 * k + i) 0)
    let p := if words.isEmpty then p
      else p.channelStatus n (Config.blockStart (sub 0 % 16)) ((sub 0).testBit 30 || (sub 1).testBit 30)
    s.modAud fun a => { a with pairs := a.pairs.filter (fun q => !(q.src = src && q.pair = k)) ++ [p] }

/-- The samples of a slot word as 32-bit values (R336). -/
def slotValue (p : AudPort) (w : Int) : Int :=
  let u := unsigned 32 w
  if p.format = 2 then signed 32 ((u / 16 % 2 ^ 24) * 256) else signed 32 (u / 2 ^ (32 - p.word) * 2 ^ (32 - p.word))

/-- FRAME_SYNC_EDGE: an input port's sample frame (R340). -/
def audFrameSync (port : Nat) (slots : List Int) (s : State) : State :=
  let p := s.audPort port
  let id := 0x9000 + port
  if !(port < 8 && p.enable && !p.output && !p.fault && s.domainOn 20) then s else
  let s := (s.modAud fun a => { a with ports := modAt a.ports port fun p => { p with lastEdge := s.local } }).modAudCtr id
    fun c => { c with samples := c.samples + 1 }
  let vs := (slots.take p.slots).map (slotValue p)
  let words := if p.format = 2 then slots.take p.slots else []
  let t : Int := (s.local * audHz p.rate / nsPerSec : Nat)
  match s.groupOf id with
  | none => s.watchPairs id t vs words
  | some gi =>
    let g := s.group gi
    let n : Int := if g.clock = id then g.refCount else t
    let s := if g.clock = id then s.modGroup gi fun g =>
      { g with refCount := g.refCount + 1, refFirst := some (g.refFirst.getD s.local) } else s
    (s.watchPairs id n vs words).writeSample gi { src := id, n, values := vs }

/-- A packet of a network stream (R338, R340): its frames are numbered from the RTP timestamp. -/
def State.audPacket (s : State) (stream ts : Nat) (frames : List (List Int)) : State :=
  let id := 0xA000 + stream
  let hz := audHz (s.net.srcs.getD (64 + stream) {}).p2
  let top := s.local * hz / nsPerSec
  let media : Int := (top : Int) - ((top + m32 - ts % m32) % m32 : Nat)
  if frames.length * 1000 > 4 * hz then
    let lose (s : State) (o : Nat) : State := s.modAudCtr o fun c => { c with overrun := c.overrun + frames.length }
    let s := (lose s id).tally 3 id ts frames.length
    match s.groupOf id with
    | none => s
    | some gi => lose s (0xA100 + gi)
  else
  let s := s.modAudCtr id fun c => { c with samples := c.samples + frames.length }
  match s.groupOf id with
  | none => s.forEach frames.zipIdx fun (vs, i) s => s.watchPairs id (media + i) vs []
  | some gi =>
    let s := if (s.group gi).clock = id && (s.group gi).refFirst = none then
      s.modGroup gi fun g => { g with refFirst := some s.local, refTs := ts, refN := 0 } else s
    let g := s.group gi
    -- The numbers of a foreign stream follow its latest one past the wrap of the timestamp.
    let base : Int := if g.clock = id then g.refN + signed 32 (ts + m32 - g.refTs % m32) else media
    let s := if g.clock = id then s.modGroup gi fun g =>
      { g with refCount := g.refCount + frames.length, refTs := if g.refN < base then ts else g.refTs, refN := max g.refN base } else s
    s.forEach frames.zipIdx fun (vs, i) s => (s.watchPairs id (base + i) vs []).writeSample gi { src := id, n := base + i, values := vs }

/-- A foreign group follows its reference, not local time: its instants are renamed by a step; the silence after a change keeps its
length (R325, R344). -/
def moveGroup (δ : Int) (g : Group) : Group :=
  let move (n : Nat) : Nat := ((n : Int) + δ).toNat
  { g with openAt := move g.openAt, playedAt := ((g.playedAt : Int) + δ * m32).toNat, refFirst := g.refFirst.map move }

/-- The mutes of a route keep their lengths (R325): what follows a verdict always, what ends at a play time when `all` holds, since the
play times of a PTP group keep their local instants. -/
def Route.move (δ : Int) (all : Bool) (r : Route) : Route :=
  let fade (f : Fade) : Fade := { f with start := ((f.start : Int) + δ).toNat }
  { r with folSince := ((r.folSince : Int) + δ).toNat, folFade := r.folFade.map fade
           npFade := if all then r.npFade.map fade else r.npFade, faultFade := if all then r.faultFade.map fade else r.faultFade }

/-- A step of local time makes buffered samples late (R345, R342). -/
def State.audTimeStep (s : State) (δ : Int) : State :=
  let foreign (r : Route) : Bool := (s.groupOf r.source).any fun gi => (s.group gi).clock ≠ 0
  let s := s.modAud fun a => { a with
    groups := a.groups.map (moveGroup δ), routes := a.routes.map fun r => r.move δ (foreign r)
    ports := a.ports.map fun p => { p with lastEdge := ((p.lastEdge : Int) + δ).toNat } }
  s.forEach (List.range 8) fun gi s =>
    let g := s.group gi
    let hz := s.groupHz g
    let isLate (f : AudFrame) : Bool := decide (((s.local + 125000) * hz : Nat) ≥ playScaled g hz f.n)
    let lost := if g.made && g.clock = 0 then g.buffer.filter isLate else []
    (s.modGroup gi fun g => { g with buffer := if g.clock = 0 then g.buffer.filter (!isLate ·) else g.buffer }).forEach lost
      fun f s => ((s.modAudCtr f.src fun c => { c with late := c.late + 1 }).modAudCtr (0xA100 + gi)
        fun c => { c with late := c.late + 1 }).tally 2 f.src (unsigned 32 f.n)

/-! ### Playing -/

/-- A value under a fade of 1 ms at local instant `l` (R346, R347, R492). Rounding towards zero: log entry 13. -/
def Fade.apply (f : Option Fade) (l : Nat) (v : Int) : Int :=
  match f with
  | none => v
  | some f =>
    let d := min (l - f.start) 1000000
    Int.tdiv (v * (if f.down then 1000000 - d else d : Nat)) 1000000

/-- The bits of the largest n with n^200 · 10^(−g) ≤ a^200 · 10^g, from the given one down. -/
def scaleBits (g : Int) (a : Nat) : Nat → Nat → Nat
  | 0, n => n
  | k + 1, n =>
    let m := n + 2 ^ k
    scaleBits g a k (if m ^ 200 * 10 ^ (-g).toNat ≤ a ^ 200 * 10 ^ g.toNat then m else n)

/-- a · 10^(g ÷ 200), a gain of g tenths of a dB, rounded down; exact below 2^96. -/
def scaleDb (g : Int) (a : Nat) : Nat := scaleBits g a 96 0

/-- A sample under a gain in 0.1 dB (R343): the exact product, but for its rounding (log entry 13). -/
def audioGain (g v : Int) : Int :=
  let n := scaleDb g v.natAbs
  let exact := n ^ 200 * 10 ^ (-g).toNat = v.natAbs ^ 200 * 10 ^ g.toNat
  let m := n + b2n (!exact && Config.gainUp g v)
  if v < 0 then -(m : Int) else m

/-- sin 2π(p ÷ q) times 2^80, to a few units: Taylor's series about 0 in a half turn, for a phase in [0, 1). -/
def sine80 (p q : Nat) : Int :=
  -- A quarter turn either side of 0: sin(π − x) = sin x.
  let half : Int := (2 * p : Nat) - (if q ≤ 2 * p then 2 * q else 0 : Nat)
  let near : Int := if (q : Int) < 2 * half then q - half else if 2 * half < -(q : Int) then -q - half else half
  let x : Int := near * 7595904947272677161575987 / (2 * q : Nat)
  let step (acc : Int × Int) (k : Nat) : Int × Int :=
    let t := -(acc.2 * x / 2 ^ 80 * x / 2 ^ 80) / ((2 * k + 2) * (2 * k + 3) : Nat)
    (acc.1 + t, t)
  ((List.range 16).foldl step (x, x)).1

/-- A sample of a tone (R348) at full scale 2^31, its phase 0 at the start: the sine, but for its rounding (log entry 13). -/
def toneSample (level : Int) (freq ns : Nat) : Int :=
  let amp : Int := scaleDb (10 * level) (2 ^ 63)
  amp * sine80 (freq * ns % nsPerSec) nsPerSec / 2 ^ 112 + b2n (Config.toneUp level freq ns)

/-- A route's contribution at a play instant: gain, then the non-PCM, clock-fault and following mutes. -/
def Route.play (r : Route) (l : Nat) (v : Int) : Int :=
  let g := if r.gain = 0 then v else satS 32 (audioGain r.gain v)
  Fade.apply r.folFade l (Fade.apply r.faultFade l (Fade.apply r.npFade l g))

/-- A tone's contribution (R348): 5 ms ramps at both ends of an on-phase. -/
def Tone.play (t : Tone) (now : Nat) : Int :=
  let since := now - t.phaseAt
  let left := if t.onMs = 0 then 5000000 else t.onMs * 1000000 - since
  let most := if t.duration = 0 then 5000000 else t.startAt + t.duration * nsPerSec - now
  let ramp := if t.playing then (if t.phaseOn then min (min since left) most else 0) else match t.stopAt with
    | some e => 5000000 - (now - e)
    | none => 0
  Int.tdiv (toneSample t.level t.freq (now - t.startAt) * (min 5000000 ramp : Nat)) 5000000

/-- A destination plays: an enabled output port, or a head that sends audio (R339). -/
def State.destPlays (s : State) (id : Nat) : Bool :=
  match idType id with
  | 9 => (s.audPort (idIndex id)).enable && (s.audPort (idIndex id)).output
  | 6 => let h := s.heads.getD (idIndex id) {}
         -- A closing head is DISABLED from the end of its closing frame's last active line (Table 10-7).
         (s.aud.routes.any (fun r => r.dst = id) || s.aud.tones.any fun t => t.dst = id && (t.playing || t.stopAt.isSome)) &&
           idType h.target = 7 && (h.st = .scanning || h.st = .srEntry || h.st = .selfRefresh || h.st = .closing)
  | _ => false

/-- The media time that a group plays now: of local time, or, of a foreign reference, the one after the last (R341, R345). -/
def Group.playNow (g : Group) (hz l : Nat) : Int :=
  if g.clock = 0 then ((l - g.playout * 1000) * hz / nsPerSec : Nat) else (g.played.map (· + 1)).getD 0

/-- The instant of a group's next sample in units of 2^-32 ns: of local time, or, of a foreign group, one period of the audio clock
after the last, at the nominal rate as the loop corrects it (R345). None before a reference has come. -/
def Group.nextAt (g : Group) (hz l : Nat) : Option Nat :=
  if g.clock = 0 then some (max l (g.playout * 1000) * m32) else match g.played, g.refFirst with
    | some _, _ => some (g.playedAt + m32 * nsPerSec * nsPerSec / (hz * ((nsPerSec : Int) + g.ppb).toNat))
    | none, some t => some ((g.playout * 1000 + t) * m32)
    | none, none => none

/-- The audio clock has not reached the next sample, by the instants of the rows, which are whole nanoseconds. -/
def Group.early (g : Group) (hz l : Nat) : Bool := match g.nextAt hz l with
  | some t => decide ((l + 1) * m32 ≤ t)
  | none => true

/-- The second-order loop of a foreign group at a sample (R345): it holds the fill of the reference's buffer, in time, at PLAYOUT, with
a correction within 200 ppm. Its gains at a bandwidth are free (log entry 13). -/
def Group.steer (g : Group) (hz now : Nat) : Group :=
  if g.clock = 0 then g else
  let fill := (g.buffer.filter fun b => b.src = g.clock).length * nsPerSec / max 1 hz
  let err : Int := (fill : Int) - (g.playout * 1000 : Nat)
  let (kp, ki) := Config.loopGains g.loopBw
  let ppb := max (-200000) (min 200000 ((kp * err + ki * (g.fillSum + err)) / 1000000))
  let held := ppb.natAbs = 200000
  { g with fillSum := g.fillSum + err, ppb, limitAt := if held then some (g.limitAt.getD now) else none, limit := held && g.limit }

/-- A subframe of 24 audio bits (R336): V, U and C 0, and P even over bits 4-31; the preamble in bits [3:0] is left 0 (log entry 102). -/
def subframe (v : Int) : Nat :=
  let a := unsigned 32 v / 256 * 16
  let ones := ((List.range 28).filter fun i => a.testBit i).length
  a + 2 ^ 31 * (ones % 2)

/-- A sample as an output port sends it (R336): the valid bits of its slot, left-aligned, or a subframe in FORMAT 2. -/
def State.slotOut (s : State) (d : Nat) (v : Int) : Int :=
  if idType d ≠ 9 then v else
  let p := s.audPort (idIndex d)
  if p.format = 2 then signed 32 (subframe v) else signed 32 (unsigned 32 v / 2 ^ (32 - p.word) * 2 ^ (32 - p.word))

/-- SAMPLE_PLAY_TIME: every destination channel of a group plays its sample, or zero (R342). -/
def audPlay (gi : Nat) (s : State) : State :=
  let g := s.group gi
  let hz := s.groupHz g
  let n := g.playNow hz s.local
  let stale := match g.played with
    | some m => decide (n ≤ m)
    | none => false
  if !g.made || !s.domainOn 20 || g.early hz s.local || stale then s else
  let opened := g.openAt ≤ s.local
  let dests := g.members.filter s.destPlays
  let fed := s.aud.routes.filter fun r => dests.contains r.dst
  let missing := (fed.map (·.source)).eraseDups.filter fun src => !g.buffer.any fun b => b.src = src && b.n = n
  let s := s.forEach dests fun d s =>
    let s := s.forEach (List.range (s.memberChannels d)) fun ch s =>
      let v := match fed.find? fun r => r.dst = d && r.dstCh = ch with
        | some r => match g.buffer.find? fun b => b.src = r.source && b.n = n with
          | some b => if opened then r.play s.local (b.values.getD r.srcCh 0) else 0
          | none => 0
        | none => 0
      let tone := ((s.aud.tones.filter fun t => t.dst = d && t.channels.testBit ch).map fun t => t.play s.now).sum
      s.emit (.sample d ch (s.slotOut d (satS 32 (v + tone))))
    let silent := opened && fed.any fun r => r.dst = d && missing.contains r.source
    s.modAudCtr d fun c => { c with samples := c.samples + 1, silence := c.silence + b2n silent }
  let s := if opened then s.forEach missing fun src s =>
    (s.modAudCtr src fun c => { c with silence := c.silence + 1 }).tally 1 src (unsigned 32 n) else s
  s.modGroup gi fun g => { g.steer hz s.now with
    played := some n, playedAt := (g.nextAt hz s.local).getD 0, buffer := g.buffer.filter fun b => n < b.n,
    ctr := { g.ctr with samples := g.ctr.samples + 1, silence := g.ctr.silence + b2n (opened && !missing.isEmpty) } }

/-! ### Mutes -/

/-- NON_PCM_DETECT (R346). -/
def audNonPcm (src pair reason : Nat) (s : State) : State :=
  match s.aud.pairs.find? fun p => p.src = src && p.pair = pair with
  | none => s
  | some p =>
  if !(if reason = 2 then p.found else reason = 1 && p.status) then s else
  let s := s.modAud fun a => { a with pairs := a.pairs.map fun q =>
    if q.src = src && q.pair = pair then
      { q with found := q.found && reason ≠ 2, status := q.status && reason ≠ 1, clean := 0, muted := true } else q }
  if p.muted then s else
  let start := match s.groupOf src with
    | some gi => playAt (s.group gi) (s.groupHz (s.group gi)) (if reason = 2 then p.burstN else p.statusN) - 1000000
    | none => s.local
  let s := s.modAud fun a => { a with routes := a.routes.map fun r =>
    if r.source = src && r.srcCh / 2 = pair then { r with npFade := some { down := true, start } } else r }
  let count (c : AudCtr) : AudCtr := { c with nonPcm := satAdd32 c.nonPcm 1 }
  let s := s.modAudCtr src count
  (match s.groupOf src with
    | some gi => s.modAudCtr (0xA100 + gi) count
    | none => s).evtAudio src 4 reason pair 0

/-- NON_PCM_CLEAR: 32,768 sample frames with no indication (R346). -/
def audNonPcmClear (src pair : Nat) (s : State) : State :=
  match s.aud.pairs.find? fun p => p.src = src && p.pair = pair with
  | none => s
  | some p =>
  if !(p.muted && p.clean ≥ 32768) then s else
  let start := match s.groupOf src with
    | some gi => playAt (s.group gi) (s.groupHz (s.group gi)) p.lastN
    | none => s.local
  (s.modAud fun a => { a with
    pairs := a.pairs.map fun q => if q.src = src && q.pair = pair then { q with muted := false } else q,
    routes := a.routes.map fun r =>
      if r.source = src && r.srcCh / 2 = pair then { r with npFade := some { down := false, start } } else r }).evtAudio src 5 0 pair 0

/-- Mute or unmute a following route from now (R347). -/
def Route.follows (r : Route) (mute : Bool) (l : Nat) : Route :=
  { r with folMuted := mute, folFade := some { down := mute, start := l }, folSince := l }

/-- R347 at a verdict of a followed tile. -/
def State.audFollow (s : State) (layer head : Nat) (live : Bool) : State :=
  if ((s.newestTile layer).map (·.head)) ≠ some head then s else
  let hit (r : Route) : Bool := r.follow = layerId layer && r.folMuted = live && !r.folDead
  let rs := s.aud.routes.filter hit
  let s := s.modAud fun a => { a with routes := a.routes.map fun r => if hit r then r.follows (!live) s.local else r }
  s.forEach rs fun r s =>
    let s := if live then
      let f (c : AudCtr) : AudCtr := { c with mutedNs := c.mutedNs + (s.local - r.folSince) }
      let s := (s.modAudCtr r.source f).modAudCtr r.dst f
      match s.groupOf r.source with
      | some gi => s.modAudCtr (0xA100 + gi) f
      | none => s
      else s
    s.evtAudio r.source 8 (b2n (!live)) (layerId layer) r.number

/-- R347: a layer that becomes unguarded mutes its following routes until they are removed or changed. -/
def State.audUnguard (s : State) (layer : Nat) : State :=
  let mine (r : Route) : Bool := r.follow = layerId layer
  let rs := s.aud.routes.filter fun r => mine r && !r.folMuted
  let mute (r : Route) : Route := { (if r.folMuted then r else r.follows true s.local) with folDead := true }
  (s.modAud fun a => { a with routes := a.routes.map fun r => if mine r then mute r else r }).forEach rs
    fun r s => s.evtAudio r.source 8 1 (layerId layer) r.number

/-- R492: a clock finding on a port. `reason` is 1 stop, 2 glitch, 3 rate change. -/
def State.audClockFault (s : State) (port reason : Nat) : State :=
  let id := 0x9000 + port
  let p := s.audPort port
  if !p.enable then s else
  let start := match s.groupOf id with
    | some gi =>
      let g := s.group gi
      let n : Int := if g.clock = id then g.refCount else (p.lastEdge * audHz p.rate / nsPerSec + 1 : Nat)
      playAt g (s.groupHz g) n - 1000000
    | none => s.local
  let s := s.modAud fun a => { a with
    ports := modAt a.ports port fun p => { p with fault := true },
    routes := if p.fault then a.routes else a.routes.map fun r =>
      if r.source = id then { r with faultFade := some { down := true, start } } else r }
  s.evtAudio id 7 reason id 0

/-- TONE_PHASE_CHANGE (R348). -/
def tonePhase (t : Nat) (s : State) : State :=
  let x := s.aud.tones.getD t {}
  let span := (if x.phaseOn then x.onMs else x.offMs) * 1000000
  if !(x.playing && x.onMs ≠ 0 && x.phaseAt + span ≤ s.now) then s else
  s.modAud fun a => { a with tones := modAt a.tones t fun x => { x with phaseOn := !x.phaseOn, phaseAt := x.phaseAt + span } }

/-- TONE_DURATION_EXPIRY (R348). -/
def toneExpiry (t : Nat) (s : State) : State :=
  let x := s.aud.tones.getD t {}
  if !(x.playing && x.duration ≠ 0 && x.startAt + x.duration * nsPerSec ≤ s.now) then s else
  s.modAud fun a => { a with tones := modAt a.tones t fun x => { x with playing := false } }

/-- Buffer fill of a source in a group, in microseconds. -/
def State.audFill (s : State) (g : Group) (src : Nat) : Nat :=
  (g.buffer.filter fun b => b.src = src).length * 1000000 / s.groupHz g

/-- STEER_LIMIT (R345): the correction of a foreign group has been at its limit for 1 s, or has left it. -/
def steerLimit (gi : Nat) (reached : Bool) (s : State) : State :=
  let g := s.group gi
  let held := g.limitAt.any fun t => decide (t + nsPerSec ≤ s.now)
  if !(g.made && g.clock ≠ 0) || reached ≠ held then s
  else if !reached then s.modGroup gi fun g => { g with limit := false }
  else if g.limit then s
  else (s.modGroup gi fun g => { g with limit := true }).evtAudio (0xA100 + gi) 6 0 (unsigned 32 g.ppb) (s.audFill g g.clock)

/-! ### Commands -/

def cmdAudPortConfig : Cmd where
  spec := specAudPortConfig
  param j _ :=
    let fmt := j.u8 4
    chkId j 0 [9] ++ chk 2 (j.u8 2 ≤ 1) ++ chk 3 (j.u8 3 ≤ 1 && !(j.u8 3 = 0 && j.u8 5 = 1)) ++ chk 4 (fmt ≤ 2) ++
    chk 5 (j.u8 5 ≤ 1) ++ chk 6 (if fmt = 1 then 2 ≤ j.u8 6 && j.u8 6 ≤ 16 else j.u8 6 = 2) ++
    chk 7 ([16, 24, 32].contains (j.u8 7) && !(fmt = 2 && j.u8 7 = 16)) ++ chk 8 (j.u8 8 ≤ 2) ++
    chk 9 (j.u8 9 ≤ 2 && !(j.u8 9 ≠ 0 && (j.u8 3 = 0 || j.u8 5 = 1))) ++
    chk 10 (if j.u8 9 = 0 then j.u16 10 = 0 else [128, 256, 512].contains (j.u16 10)) ++ rsv j 12 4
  names j := nameAt j 0
  run j s :=
    let i := idIndex (j.u16 0)
    match s.groupOf (j.u16 0) with
    | some g => .fail eBusy (0xA100 + g)
    | none => .ok (s.modAud fun a => { a with
        ports := a.ports.set i { enable := j.u8 2 = 1, master := j.u8 3 = 1, format := j.u8 4, output := j.u8 5 = 1,
                                 slots := j.u8 6, word := j.u8 7, rate := j.u8 8, clock := j.u8 9, ratio := j.u16 10,
                                 fault := (a.ports.getD i {}).fault && j.u8 2 = 0 },
        pairs := a.pairs.filter fun p => p.src ≠ 0x9000 + i,
        routes := if j.u8 2 = 1 then a.routes.map fun r => if r.source = 0x9000 + i then { r with faultFade := none } else r
          else a.routes }) []

/-- The route's endpoints lie in one group (R343). -/
def State.sameGroup (s : State) (a b : Nat) : Bool :=
  match s.groupOf a with
  | some g => s.groupOf b = some g
  | none => false

/-- The route that an AUD_ROUTE sets: muted from the start while the followed tile, the pair or the port gives cause. -/
def State.routeOf (s : State) (j : Job) : Route :=
  let src := j.u16 2
  let follow := j.u16 8
  let muted := follow ≠ 0 && !(match s.newestTile (layerIndex follow) with
    | some t => t.live
    | none => false)
  let np := s.aud.pairs.any fun p => p.src = src && p.pair = j.u8 4 / 2 && p.muted
  let flt := idType src = 9 && (s.audPort (idIndex src)).fault
  let gone (b : Bool) : Option Fade := if b then some { down := true, start := s.local - 1000000 } else none
  { number := j.u8 0, source := src, srcCh := j.u8 4, dst := j.u16 6, dstCh := j.u8 5, follow, gain := j.s16 10,
    folMuted := muted, folFade := gone muted, folSince := s.local, npFade := gone np, faultFade := gone flt }

/-- An AUD_ROUTE that sets a route comes into force. -/
def State.putRoute (s : State) (j : Job) : State :=
  s.modAud fun a => { a with routes := (a.routes.filter fun r => r.number ≠ j.u8 0) ++ [s.routeOf j] }

/-- Routes as accepted: those in force, after the ones that wait for the Stitch boundary (R517). -/
def State.accRoutes (s : State) : List Route :=
  (s.txn.changes.filter fun c => c.head = none && c.job.cls = 0x30).foldl
    (fun rs c => (rs.filter fun r => r.number ≠ c.job.u8 0) ++ [s.routeOf c.job]) s.aud.routes

/-- An accepted AUD_ROUTE of this number waits for the Stitch boundary. -/
def State.routeWaits (s : State) (n : Nat) : Bool :=
  s.txn.changes.any fun c => c.head = none && c.job.cls = 0x30 && c.job.u8 0 = n

/-- The same without the routes of this number that wait (log entry 76). -/
def State.dropRouteWait (s : State) (n : Nat) : State :=
  if s.routeWaits n then
    { s with txn := { s.txn with changes := s.txn.changes.filter fun c => !(c.head = none && c.job.cls = 0x30 && c.job.u8 0 = n) } }
  else s

def cmdAudRoute : Cmd where
  spec := specAudRoute
  param j s :=
    let setting := j.u8 1 = 1
    chk 0 (j.u8 0 ≤ 127) ++ chk 1 (j.u8 1 ≤ 1) ++ rsv j 12 4 ++ chk 4 (j.u8 4 ≤ 15) ++ chk 5 (j.u8 5 ≤ 15) ++
    chk 10 (-600 ≤ j.s16 10 && j.s16 10 ≤ 120) ++
    (if !setting then [] else
      chk 2 (idType (j.u16 2) = 9 || (idType (j.u16 2) = 0xA && !(0x100 ≤ idIndex (j.u16 2) && idIndex (j.u16 2) < 0x108))) ++
      chk 4 (!(idInRange (j.u16 2) && s.objExists (j.u16 2)) || j.u8 4 < s.memberChannels (j.u16 2)) ++
      chk 5 (!(idInRange (j.u16 6) && s.objExists (j.u16 6)) || j.u8 5 < s.memberChannels (j.u16 6)) ++ chkId j 6 [9, 6] ++ chkId j 8 [3, 4] true)
  names j := if j.u8 1 = 1 then nameAt j 2 ++ nameAt j 6 ++ nameAt j 8 else []
  run j s :=
    let num := j.u8 0
    let rest := s.accRoutes.filter fun r => r.number ≠ num
    if j.u8 1 = 0 then .ok ((s.dropRouteWait num).modAud fun a => { a with routes := a.routes.filter fun r => r.number ≠ num }) [] else
    let src := j.u16 2
    let dst := j.u16 6
    let follow := j.u16 8
    let port := (s.heads.getD (idIndex dst) {}).target
    if rest.any fun r => r.dst = dst && r.dstCh = j.u8 5 then .fail eBusy dst
    else if idType dst = 6 && rest.any (fun r => idType r.dst = 6 && r.dst ≠ dst && port ≠ 0 &&
        (s.heads.getD (idIndex r.dst) {}).target = port) then .fail eBusy port
    else if !s.sameGroup src dst || s.isInput dst || (idType dst = 6 && idType port ≠ 7) then .fail eState dst
    else if !s.isInput src then .fail eState src
    else if follow ≠ 0 && !(s.lay.layers.getD (layerIndex follow) {}).cfg.guarded then .fail eState follow
    else
      let s := s.dropRouteWait num
      -- R517: one that names a layer placed on no head, and no head, waits for the next Stitch boundary.
      let headless := follow ≠ 0 && (s.layerHeads (layerIndex follow)).isEmpty && idType dst ≠ 6
      .ok (if headless && j.req.txn = 0 then s.atBoundary j else s.putRoute j) []

/-- The members an AUD_GROUP payload lists. -/
def groupMembers (j : Job) : List Nat := (List.range ((j.len - 8) / 2)).map fun i => j.u16 (8 + 2 * i)

/-- R344's checks in order, for group `gi` with members `ms` and reference `clk`. -/
def groupErr (s : State) (gi clk : Nat) (ms : List Nat) : Option (Nat × Nat) :=
  let others := (List.range 8).filter fun i => i ≠ gi && (s.group i).made
  let outs (i : Nat) : Bool := (s.group i).members.any fun m => !s.isInput m
  let rate := ms.findSome? s.memberRate
  let inAnother := ms.findSome? fun m => others.find? fun i => (s.group i).members.contains m
  match inAnother with
  | some i => some (eBusy, 0xA100 + i)
  | none =>
  if (ms.map s.memberChannels).sum > 16 then some (eParam, 24) else
  match ms.find? fun m => s.memberRate m ≠ none && s.memberRate m ≠ rate with
  | some m => some (eState, m)
  | none =>
  match ms.find? fun m => idType m = 9 && s.isInput m && (s.audPort (idIndex m)).foreign && m ≠ clk with
  | some m => some (eState, m)
  | none =>
  match if clk = 0 then none else ms.find? fun m => s.isInput m && m ≠ clk with
  | some m => some (eState, m)
  | none =>
  match others.find? fun i => if clk ≠ 0 then (s.group i).clock ≠ 0 || outs i
      else (s.group i).clock ≠ 0 && ms.any fun m => !s.isInput m with
  | some i => some (eBusy, 0xA100 + i)
  | none => none

def cmdAudGroup : Cmd where
  spec := specAudGroup
  param j _ :=
    let dissolve := j.u8 7 = 1
    chk 0 (idType (j.u16 0) = 0xA && (0x100 ≤ idIndex (j.u16 0) || !idInRange (j.u16 0))) ++ chk 7 (j.u8 7 ≤ 1 && !(dissolve && j.len > 8)) ++
    chk 4 (2000 ≤ j.u16 4 && j.u16 4 ≤ 65000) ++ chk 6 (if j.u16 2 = 0 then j.u8 6 = 0 else 1 ≤ j.u8 6 && j.u8 6 ≤ 100) ++
    (if dissolve then [] else
      chk 2 (j.u16 2 = 0 || ((idType (j.u16 2) = 9 || idType (j.u16 2) = 0xA) && (groupMembers j).contains (j.u16 2))) ++
      (List.range ((j.len - 8) / 2)).flatMap fun i =>
        let m := j.u16 (8 + 2 * i)
        chk (8 + 2 * i) (idType m = 9 || idType m = 6 || (idType m = 0xA && !(0x100 ≤ idIndex m && idIndex m < 0x108))))
  names j := nameAt j 0 ++ (List.range ((j.len - 8) / 2)).flatMap fun i => nameAt j (8 + 2 * i)
  run j s :=
    let gi := idIndex (j.u16 0) - 0x100
    let old := (s.group gi).members
    if j.u8 7 = 1 then
      .ok (s.modAud fun a => { a with groups := a.groups.set gi {},
                                      routes := a.routes.filter fun r => !(old.contains r.source || old.contains r.dst) }) []
    else
    let ms := groupMembers j
    match groupErr s gi (j.u16 2) ms with
    | some e => .fail e.1 e.2
    | none =>
    -- A reference that is an output port is no member input (Table 14-3).
    if j.u16 2 ≠ 0 && !s.isInput (j.u16 2) then .fail eState (j.u16 2) else
      let g : Group := { made := true, clock := j.u16 2, playout := j.u16 4, loopBw := j.u8 6, members := ms,
                         openAt := s.local + j.u16 4 * 1000 }
      let s := s.modAud fun a => { a with groups := a.groups.set gi g }
      let s := s.modAud fun a => { a with routes := a.routes.filter fun r => s.sameGroup r.source r.dst }
      .ok (s.forEach ms fun m s => s.modAudCtr m fun _ => {}) []

/-- AUD_TONE: an owned tone is the SAFETY role's until it is released (R348, R349). -/
def cmdAudTone : Cmd where
  spec := specAudTone
  param j _ :=
    chkMisc j 0 0xA0 0xA7 ++ chk 2 (j.u8 2 ≤ 3) ++
    chk 3 (-60 ≤ j.s8 3 && j.s8 3 ≤ 0) ++ chk 4 (20 ≤ j.u16 4 && j.u16 4 ≤ 20000) ++ chk 6 (j.u16 6 ≤ 10000) ++
    chk 8 (j.u16 8 ≤ 10000) ++ (if j.u8 2 = 1 then chkId j 10 [9, 6] else [])
  names j := nameAt j 0 ++ (if j.u8 2 = 1 then nameAt j 10 else [])
  denied j s := if j.u8 2 ≥ 2 && s.roleOf j.req ≠ 3 then some 8 else none
  protect j s := if (s.aud.tones.getD (idIndex (j.u16 0) - 0xA0) {}).owned && s.roleOf j.req ≠ 3 then some 16 else none
  run j s :=
    let i := idIndex (j.u16 0) - 0xA0
    let t := s.aud.tones.getD i {}
    let put (t : Tone) : CmdResult := .ok (s.modAud fun a => { a with tones := a.tones.set i t }) []
    match j.u8 2 with
    | 0 => put { t with playing := false, stopAt := if t.playing && t.phaseOn then some s.now else t.stopAt }
    | 1 =>
      let dst := j.u16 10
      let on := if idType dst = 9 then (s.audPort (idIndex dst)).enable && !s.isInput dst
        else (s.heads.getD (idIndex dst) {}).accEnable && idType (s.heads.getD (idIndex dst) {}).target = 7
      if !on || s.groupOf dst = none then .fail eState dst else
      put { t with playing := true, level := j.s8 3, freq := j.u16 4, onMs := j.u16 6, offMs := j.u16 8, dst,
                   channels := j.u16 12, duration := j.u16 14, startAt := s.now, phaseOn := true, phaseAt := s.now, stopAt := none }
    | 2 => if t.owned then .fail eState (j.u16 0) else put { t with owned := true }
    | _ => if t.owned then put { t with owned := false } else .fail eState (j.u16 0)

/-- The AUD PLL's correction (R345): zero without a foreign group. -/
def State.pllPpb (s : State) : Int := ((s.aud.groups.find? fun g => g.made && g.clock ≠ 0).map (·.ppb)).getD 0

def cmdAudStats : Cmd where
  spec := specAudStats
  param j _ := chkId j 0 [9, 0xA] ++ rsv j 2 2
  names j := nameAt j 0
  run j s :=
    let id := j.u16 0
    let isGroup := idType id = 0xA && 0x100 ≤ idIndex id
    let gi := if isGroup then some (idIndex id - 0x100) else s.groupOf id
    let g := (gi.map s.group).getD {}
    let mem (x : Nat) : Bool := x = id || (isGroup && g.members.contains x)
    let rs := s.aud.routes.filter fun r => mem r.source || mem r.dst
    let c := s.audCtr id
    let p := s.audPort (idIndex id)
    let faulted := idType id = 9 && p.fault || isGroup && idType g.clock = 9 && (s.audPort (idIndex g.clock)).fault
    let on := if isGroup then g.made else if idType id = 9 then p.enable else true
    let np := s.aud.pairs.any fun q => q.muted && (mem q.src || rs.any fun r => r.source = q.src && r.srcCh / 2 = q.pair)
    let steer := g.clock ≠ 0 && (isGroup || g.clock = id)
    let rate := if isGroup then (if g.made then s.groupHz g else 0) else audHz ((s.memberRate id).getD 0)
    let fill := if isGroup then (if g.clock = 0 then 0 else s.audFill g g.clock) else if gi = none then 0 else s.audFill g id
    let muted := c.mutedNs + ((rs.filter (·.folMuted)).map fun r => s.local - r.folSince).sum
    .ok s (leBytes 2 id ++ leBytes 1 (if faulted then 2 else b2n on) ++
      leBytes 1 (b2n np + 2 * b2n steer + 4 * b2n (rs.any (·.folMuted))) ++ leBytes 4 rate ++ leBytes 8 c.samples ++
      leBytes 8 c.silence ++ leBytes 8 c.late ++ leBytes 8 c.overrun ++ leBytes 4 fill ++ leBytes 4 (unsigned 32 s.pllPpb) ++
      leBytes 4 c.nonPcm ++ leBytes 4 (sat32 (muted / 1000000)) ++ zeros 8)

end Sys2Proof.Machine
end

