-- ==== Sys2Proof/Machine/Clock.lean ====
section
/-! DEFINITION. Network time: the PTP domains, the local clock and its corrections, its uncertainty, the RTC (spec/13). -/
namespace Sys2Proof.Machine

def State.dom (s : State) (d : Nat) : Domain := s.clk.domains.getD d {}
def State.modDom (s : State) (d : Nat) (f : Domain → Domain) : State :=
  { s with clk := { s.clk with domains := modAt s.clk.domains d f } }
def State.modClk (s : State) (f : Clk → Clk) : State := { s with clk := f s.clk }

/-- A domain is valid only in LOCKED (R319). -/
def Domain.valid (d : Domain) : Bool := d.st = .locked

/-- Codes of Table 13-1. -/
def DomState.code : DomState → Nat
  | .disabled => 0 | .listening => 1 | .uncalibrated => 2 | .locked => 3 | .holdover => 4

/-- A duration of 2^k seconds in ns (R319). -/
def expSec (k : Int) : Nat := if k < 0 then nsPerSec / 2 ^ (-k).toNat else nsPerSec * 2 ^ k.toNat

/-- EVT_TIME (Tables 13-7 and 13-8), at most once per code in a Stitch (R335). -/
def State.evtTime (s : State) (code : Nat) (domain : Option Nat) (arg0 arg1 : Nat) : State :=
  if s.ses.onceThisStitch.contains (0x04, 0, code) then s else
  let source := match domain with
    | some d => 0xD000 + (s.dom d).port
    | none => 0
  ({ s with ses := { s.ses with onceThisStitch := (0x04, 0, code) :: s.ses.onceThisStitch } }).raise 0x04 source
    (leBytes 1 code ++ leBytes 1 (domain.getD 0xFF) ++ zeros 2 ++ leBytes 4 arg0 ++ leBytes 4 arg1 ++ zeros 4)

/-- Signed microseconds of ns, saturating, as a u32 field. -/
def usField (ns : Int) : Nat := unsigned 32 (satS 32 (ns / 1000))

/-! ### The residual and the estimates -/

/-- All corrections made to the local clock until now. -/
def State.corr (s : State) : Int := s.clk.corr0 - (s.clk.res0 - s.residual)

/-- A domain's offset o now: its last estimate, moved by the corrections made since. -/
def State.offset (s : State) (d : Nat) : Int :=
  match (s.dom d).ests with
  | [] => 0
  | e :: _ => e + s.corr

/-- 3σ of a domain (R319). -/
def Domain.sigma (d : Domain) : Nat := sigma3 d.ests

/-- The lock tolerance of a domain in ns (R319). -/
def State.lockTol (s : State) (d : Nat) : Nat := if s.clk.legacy.getD (s.dom d).port false then 40000 else 1000

/-- Both domains are valid. -/
def State.bothValid (s : State) : Bool := (s.dom 0).valid && (s.dom 1).valid
/-- o_TA - o_TB. -/
def State.domDiff (s : State) : Int := s.offset 0 - s.offset 1

/-! ### Uncertainty (R326, R327) -/

/-- U_dev of R327 in ns. -/
def State.uDev (s : State) : Nat :=
  let servo := match s.clk.setUncert with
    | some u => u * 1000
    | none => (match s.clk.active with
      | some d => (s.dom d).sigma
      | none => 0) + (-s.residual).toNat
  let locked := match s.clk.active with
    | some d => (s.dom d).valid
    | none => false
  let quiet := s.clk.active = none && s.clk.setUncert = none
  let hold := if locked || quiet then 0 else ceilDiv ((s.now - max s.clk.lastSteer s.clk.setAt) * s.clk.oscPpb) 1000000000
  let dis := if s.bothValid then s.domDiff.natAbs else 0
  let leg := match s.clk.active with
    | some d => if s.clk.legacy.getD (s.dom d).port false then 20000 else 0
    | none => 0
  servo + hold + dis + leg

/-- Cases 1 to 4 of R326. -/
def State.unproven (s : State) : Bool :=
  !s.clk.established || decide (s.residual > (s.clk.thetaUs * 1000 : Nat)) ||
  (match s.clk.lastForward with
    | some t => decide (s.now < t + nsPerSec)
    | none => false) ||
  !s.clk.referenceSeen

/-- A stamp taken now on a port (R329, R330): local time, less INGRESS or the legacy margin. -/
def State.stamp (s : State) (port : Nat) : Nat :=
  if s.clk.legacy.getD port false then s.local - 20000
  else ((s.local : Int) - (s.clk.asym.getD port {}).ingress / 16).toNat

/-- The stamp of a frame sent now on a port: raw plus EGRESS, or the firmware's sample (R329, R330). -/
def State.stampSent (s : State) (port : Nat) : Int :=
  if s.clk.legacy.getD port false then s.local else (s.local : Int) + (s.clk.asym.getD port {}).egress / 16

/-! ### Correcting the clock (R321-R324) -/

/-- Fix the residual and the corrections at this instant. -/
def State.rebase (s : State) : State :=
  s.modClk fun c => { c with res0 := s.residual, resAt := s.now, corr0 := s.corr }

/-- Raise LARGE_OFFSET and OFFSET_CLEARED as o_res passes θ (Table 13-2). -/
def State.checkLarge (s : State) : State :=
  let big := decide (s.residual > (s.clk.thetaUs * 1000 : Nat))
  if s.clk.established && big && !s.clk.large then
    (s.modClk fun c => { c with large := true }).evtTime 8 none (sat32 (s.residual / 1000).toNat) 0
  else if s.clk.large && !big then (s.modClk fun c => { c with large := false }).evtTime 9 none 0 0
  else s

/-- Raise DISAGREE and AGREE (R328). -/
def State.checkDisagree (s : State) : State :=
  if !s.bothValid then s
  else if s.domDiff.natAbs > 1000000 then
    if s.clk.disagree then s
    else (s.modClk fun c => { c with disagree := true }).evtTime 6 none (sat32 (s.domDiff.natAbs / 1000)) 0
  else if s.clk.disagree then (s.modClk fun c => { c with disagree := false }).evtTime 7 none 0 0
  else s

/-- Highest SEQ allocated so far of a quota. -/
def Quota.last (q : Quota) : Nat := if q.nextSeq ≤ 1 then 0 else q.nextSeq - 1

/-- The glass sees no disturbance: a head's schedule keeps its instants and is renamed by the step (R258). -/
def moveHead (δ : Int) (h : Head) : Head :=
  let move (n : Nat) : Nat := ((n : Int) + δ * m32).toNat
  { h with tF := move h.tF, nextTF := h.nextTF.map move }

/-- The instants at which rows were published and slices arrived move with local time. -/
def moveBuf (δ : Int) (b : Buf) : Buf :=
  { b with rows := b.rows.map fun r => (r.1, ((r.2 : Int) + δ).toNat)
           slices := b.slices.map fun x => { x with arrival := ((x.arrival : Int) + δ).toNat } }

/-- A stillness run keeps its length (R325). -/
def moveCtx (δ : Int) (c : Ctx) : Ctx :=
  { c with stillStart := c.stillStart.map (· + δ), bufs := c.bufs.map (moveBuf δ) }

/-- The stamps of a path delay that is being measured move with the clock that they were read from. -/
def moveDomain (δ : Int) (d : Domain) : Domain :=
  { d with reqStamp := d.reqStamp + δ, syncTimes := d.syncTimes.map fun t => (t.1, t.2 + δ) }

/-- A step of local time by `δ` ns (R324). The residual is gone after it. An offset of 0 needs no step. -/
def State.stepClock (s : State) (δ : Int) : State :=
  if δ = 0 then s.rebase.modClk fun c => { c with res0 := 0 } else
  let t2 := ((s.local : Int) + δ).toNat
  let s := s.rebase.modClk fun c => { c with res0 := 0, corr0 := c.corr0 + δ, steps := satAdd32 c.steps 1, localNs := t2, domains := c.domains.map (moveDomain δ) }
  let s := { s with heads := s.heads.map (moveHead δ), dec := { s.dec with ctxs := s.dec.ctxs.map (moveCtx δ) }
                    lay := { s.lay with tiles := s.lay.tiles.map fun (t : Tile) => { t with pic := t.pic.map (moveBuf δ) } } }
  if 0 ≤ δ then
    let n := t2 / stitchNs - s.clk.boundary / stitchNs
    (s.modClk fun c => { c with lastForward := some s.now, stitch := c.stitch + n
                                stepDue := c.stepDue || decide (0 < n)
                                boundary := max c.boundary (t2 / stitchNs * stitchNs) }).audTimeStep δ
  else
    let mark (q : Quota) : Quota := { q with backSeq := q.last }
    ({ s.modClk fun c => { c with boundary := t2 / stitchNs * stitchNs, stepDue := false } with
      dec := { s.dec with gimpCh := s.dec.gimpCh.map mark, gimpG := s.dec.gimpG.map mark } }).audTimeStep δ

/-- Remove a residual offset (R323, Table 13-2). `how` is ARG0 of ESTABLISHED: 0 lock, 1 TIME_SET. -/
def State.steer (s : State) (o : Int) (how : Nat) : State :=
  let s := s.rebase
  if !s.clk.established then
    let s := s.stepClock (-o)
    let seen := how = 1 || s.clk.domains.any Domain.valid
    ((s.modClk fun c => { c with established := true, referenceSeen := seen }).evtTime 1 none how 0).checkLarge
  else if !s.clk.switchSlew && o < -(s.clk.thetaUs * 1000 : Nat) then
    let before := s.clk.stitch
    let s := s.stepClock (-o)
    (s.evtTime 5 none (usField (-o)) (sat32 (s.clk.stitch - before))).checkLarge
  else (s.modClk fun c => { c with res0 := o }).checkLarge

/-- Make domain `d` active by a switch (R320). -/
def State.switchTo (s : State) (d : Nat) : State :=
  let o := s.offset d
  let s := s.rebase.modClk fun c =>
    { c with active := some d, switches := satAdd32 c.switches 1, betterRun := 0, switchSlew := true, lastSteer := s.now }
  (s.modClk fun c => { c with res0 := o }).checkLarge.evtTime 4 (some d) d (usField o)

/-- An estimate of the active domain formed in LOCKED steers the clock, and gives it the domain's frequency (R319, R320, R322). How
the servo filters its estimates into a frequency is not stated: a free value (log entry 5). -/
def State.steerBy (s : State) (d : Nat) (o : Int) : State :=
  let (f, s) := s.takeInt
  let s := s.modClk fun c => { c with freq := f }
  let s := if s.clk.switchSlew && o.natAbs ≤ s.lockTol d then s.modClk fun c => { c with switchSlew := false } else s
  (s.modClk fun c => { c with lastSteer := s.now }).steer o 0

/-! ### Rows -/

/-- PTP_SYNC (R318, R319). -/
def ptpSync (m : SyncMsg) (s : State) : State :=
  let d := m.domain
  let x := s.dom d
  if d ≥ 2 || x.st = .disabled || !s.portRx x.port then s else
  let (s, good) := s.takeFrame x.port (s.ownTag x.port) m.frameLen
  if !good then s else
  let s := s.modDom d fun x => { x with syncRx := x.syncRx + 1, followUpRx := x.followUpRx + b2n m.twoStep }
  match x.master with
  | none => s
  | some ms =>
  if ms.sender ≠ m.sender then s else
  let asym := (s.clk.asym.getD x.port {}).asym / 16
  let o : Int := (s.stamp x.port : Int) - m.origin - x.pathDelay - asym
  let e := o - s.corr
  let keep := (e :: x.ests).take 64
  let far (l : List Int) : Nat := (e - mean (l.take 8)).natAbs
  let s := s.modDom d fun x =>
    { x with twoStep := m.twoStep, lastSync := s.now, lastSyncLocal := s.local, syncTimes := some (m.origin, s.stamp x.port) }
  let restart (s : State) : State := s.modDom d fun x => { x with st := .uncalibrated, ests := [e], lockRun := 1 }
  match x.st with
  | .disabled => s
  | .listening => restart s
  | .holdover => restart s
  | .uncalibrated =>
    let run := if far keep ≤ s.lockTol d then x.lockRun + 1 else 0
    let s := s.modDom d fun x => { x with ests := keep, lockRun := run }
    if run < 8 then s else
    -- R320: of two domains that reach LOCKED at one instant, TA becomes active; its offset is then removed as at a first lock.
    let tie := d = 0 && s.clk.active = some 1 && s.clk.firstAt = some s.now
    let first := s.clk.active = none || tie
    let s := (s.modDom d fun x => { x with st := .locked }).modClk fun c =>
      { c with setUncert := none, referenceSeen := true, active := if first then some d else c.active
               lastEval := if first then s.now else c.lastEval, firstAt := if first then some s.now else c.firstAt
               established := c.established && !tie }
    let s := s.evtTime 2 (some d) ms.clockClass 0
    (s.when (s.clk.active = some d) (·.steerBy d (e + s.corr))).checkDisagree
  | .locked =>
    if far keep > 100000 then
      (restart s).modDom d fun x => { x with relocks := satAdd32 x.relocks 1 }
    else
      let s := s.modDom d fun x => { x with ests := keep }
      (s.when (s.clk.active = some d) (·.steerBy d (e + s.corr))).checkDisagree

/-- The dataset comparison of the standard (R318): a ranks better than b. Two data sets of one grandmaster are compared by the steps
removed and then by their senders. -/
def Master.better (a b : Master) : Bool :=
  let rank (m : Master) : List Nat :=
    if a.gmId = b.gmId then [m.stepsRemoved, m.sender]
    else [m.priority1, m.clockClass, m.accuracy, m.variance, m.priority2, m.gmId]
  decide (rank a < rank b)

def announced (m : AnnounceMsg) : Master :=
  { gmId := m.gmId, priority1 := m.priority1, clockClass := m.clockClass, accuracy := m.accuracy, variance := m.variance
    priority2 := m.priority2, stepsRemoved := m.stepsRemoved, utcOffset := m.utcOffset, logAnnounce := m.logInterval
    sender := m.sender }

/-- PTP_ANNOUNCE (R318). -/
def ptpAnnounce (d : Nat) (m : AnnounceMsg) (s : State) : State :=
  let x := s.dom d
  if d ≥ 2 || x.st = .disabled || !s.portRx x.port then s else
  let (s, good) := s.takeFrame x.port (s.ownTag x.port) m.frameLen
  if !good then s else
  let s := s.modDom d fun x => { x with announceRx := x.announceRx + 1 }
  let a := announced m
  let take : Bool := match x.master with
    | none => true
    | some b => b.sender = a.sender || a.better b
  if take then s.modDom d fun x => { x with master := some a, lastAnnounce := s.now } else s

/-- The Announce timeout of a domain's master (R319). -/
def Domain.announceLimit (x : Domain) : Nat := match x.master with
  | some m => 3 * expSec m.logAnnounce
  | none => 0

/-- PTP_MASTER_TIMEOUT (R319). A master silent for its Announce timeout is no longer the chosen one. -/
def ptpMasterTimeout (d : Nat) (s : State) : State :=
  let x := s.dom d
  if d ≥ 2 || x.st = .disabled then s else
  let quiet := x.master ≠ none && decide (x.lastAnnounce + x.announceLimit ≤ s.now)
  let noSync := decide (x.lastSync + 3 * expSec x.logSync ≤ s.now)
  let s := s.when quiet (·.modDom d fun x => { x with master := none })
  if x.st = .locked && (quiet || noSync) then
    (s.modDom d fun x => { x with st := .holdover, holdoverSince := s.now, timeouts := satAdd32 x.timeouts 1 }).evtTime 3
      (some d) 0 0
  else s

/-- The ranking of R320: domain a ranks better than b. -/
def State.ranksBetter (s : State) (a b : Nat) : Bool :=
  let rank (d : Nat) : List Nat := match (s.dom d).master with
    | some m => [m.clockClass, m.accuracy, m.variance, (s.dom d).sigma]
    | none => [256, 256, 65536, 0]
  decide (rank a < rank b)

/-- DOMAIN_EVALUATION (R320). -/
def domainEvaluation (s : State) : State :=
  match s.clk.active with
  | none => s
  | some a =>
  if s.now / nsPerSec = s.clk.lastEval / nsPerSec then s else
  let b := 1 - a
  let s := s.modClk fun c => { c with lastEval := s.now }
  if !(s.dom b).valid then s.modClk fun c => { c with betterRun := 0 }
  else if !(s.dom a).valid then s.switchTo b
  else if s.domDiff.natAbs > 1000000 then (s.modClk fun c => { c with betterRun := 0 }).checkDisagree
  else
    let run := if s.ranksBetter b a then s.clk.betterRun + 1 else 0
    let s := s.modClk fun c => { c with betterRun := run }
    (s.when (10 ≤ run) (·.switchTo b)).checkDisagree

/-- PTP_DELAY_REQ_INTERVAL (R318). -/
def ptpDelayReq (d : Nat) (s : State) : State :=
  let x := s.dom d
  let p := s.net.ports.getD x.port {}
  if d < 2 && x.st ≠ .disabled && (x.delay = 1 || x.master ≠ none) && p.enable && p.link && s.portPowered x.port &&
      decide (x.lastDelayReq + expSec x.logDelay ≤ s.now) then
    let body := (if x.delay = 1 then 54 else 44) + ptpHeaders x.transport
    ((s.modDom d fun x => { x with lastDelayReq := s.now, delayReqPending := true, delayReqTx := x.delayReqTx + 1, reqStamp := s.stampSent x.port }).txFrame
      x.port body).emit (.ptpRequest d x.port)
  else s

/-- The mean path delay that a response completes, as IEEE 1588 forms it from its four stamps. `remote`: the instant at which the
master received the Delay_Req, or, of a Pdelay_Resp, how long the peer took to answer. None before a Sync of the master. -/
def State.pathDelay? (s : State) (d : Nat) (remote : Nat) : Option Nat :=
  let x := s.dom d
  if x.delay = 1 then some (((s.stamp x.port : Int) - x.reqStamp - remote) / 2).toNat
  else x.syncTimes.map fun t => ((t.2 - x.reqStamp + (remote - t.1)) / 2).toNat

/-- PTP_DELAY_RESPONSE: it completes a mean path delay. -/
def ptpDelayResponse (d remote len : Nat) (s : State) : State :=
  let x := s.dom d
  if !(d < 2 && x.st ≠ .disabled && x.delayReqPending && s.portRx x.port) then s else
  let (s1, good) := s.takeFrame x.port (s.ownTag x.port) len
  if !good then s1 else
  s1.modDom d fun x => { x with pathDelay := (s.pathDelay? d remote).getD x.pathDelay, delayReqPending := false, delayRespRx := x.delayRespRx + 1 }

/-- RTC_LOAD (R331): in a local second that is a multiple of 60. The RTC is not loaded while it is faulty (R490). -/
def rtcLoad (s : State) : State :=
  let m := s.local / nsPerSec
  if s.clk.established && m % 60 = 0 && !s.clk.faults.any (fun f => f.1 = 1) then
    s.modClk fun c => { c with rtcSec := m, rtcSub := 0, rtcAt := s.now - (s.local - m * nsPerSec) }
  else s

/-! ### Commands -/

/-- TIME_CONFIG (Table 13-4): OSC_PPB and STEP are the device's (R332). -/
def cmdTimeConfig : Cmd where
  spec := specTimeConfig
  param j _ :=
    chk 0 (j.u8 0 ≤ 1) ++ chk 1 (j.u8 1 ≤ 1) ++ chkNetPort j 2 ++ chk 4 (j.u8 4 ≤ 127) ++
    chk 5 (j.u8 5 ≤ 1) ++ chk 6 (j.u8 6 ≤ 2) ++ chk 7 (-7 ≤ j.s8 7 && j.s8 7 ≤ 0) ++ chk 8 (-7 ≤ j.s8 8 && j.s8 8 ≤ 4) ++
    rsv j 9 3 ++ chk 12 (j.u32 12 ≤ 100000) ++ chk 16 (j.u32 16 = 0 || (1000 ≤ j.u32 16 && j.u32 16 ≤ 1000000)) ++ rsv j 20 4
  names j := nameAt j 2
  run j s :=
    let d := j.u8 0
    let on := j.u8 1 = 1
    let p := idIndex (j.u16 2)
    let o := s.dom (1 - d)
    if on && o.st ≠ .disabled && o.port = p && o.number = j.u8 4 then .fail eParam 20 else
    let x := s.dom d
    let same := x.st ≠ .disabled && x.port = p && x.number = j.u8 4 && x.delay = j.u8 5 && x.transport = j.u8 6
    let fresh (x : Domain) : Domain :=
      { x with ests := [], lockRun := 0, master := none, delayReqPending := false, pathDelay := 0, syncTimes := none }
    let s := s.modDom d fun x =>
      let x := { x with port := p, number := j.u8 4, delay := j.u8 5, transport := j.u8 6, logSync := j.s8 7, logDelay := j.s8 8 }
      if !on then { fresh x with st := .disabled } else if same then x else { fresh x with st := .listening }
    .ok (s.rebase.modClk fun c =>
      { c with oscPpb := if j.u32 12 = 0 then c.oscPpb else j.u32 12
               thetaUs := if j.u32 16 = 0 then c.thetaUs else j.u32 16 }) []

def cmdTimeSet : Cmd where
  spec := specTimeSet
  param j _ := chkTime j 0 ++ chk 12 (j.u32 12 ≤ 1000000)
  run j s :=
    if s.clk.domains.any Domain.valid then .fail eState 0 else
    let s := s.modClk fun c => { c with setUncert := some (j.u32 12), setAt := s.now, referenceSeen := true }
    .ok (s.steer ((s.local : Int) - j.time 0) 1) []

def cmdTimeSlewLimit : Cmd where
  spec := specTimeSlewLimit
  param j _ := chk 0 (1 ≤ j.u16 0 && j.u16 0 ≤ 500) ++ rsv j 2 2
  run j s := .ok (s.rebase.modClk fun c => { c with slewPpm := j.u16 0 }) []

def cmdTimeAsym : Cmd where
  spec := specTimeAsym
  param j _ := chkNetPort j 0 ++ rsv j 6 2
  names j := nameAt j 0
  run j s :=
    let a : Asym := { ingress := j.s16 2, egress := j.s16 4, asym := j.s32 8 }
    .ok (s.modClk fun c => { c with asymPending := c.asymPending ++ [(idIndex (j.u16 0), a)] }) []

def cmdTimeLegacyMode : Cmd where
  spec := specTimeLegacyMode
  param j _ := chkNetPort j 0 ++ chk 2 (j.u8 2 ≤ 1) ++ rsv j 3 1
  names j := nameAt j 0
  run j s :=
    .ok (s.modClk fun c => { c with legacyPending := c.legacyPending ++ [(idIndex (j.u16 0), decide (j.u8 2 = 1))] }) []

/-- FLAGS of TIME_GET (Table 13-5). -/
def State.timeFlags (s : State) : Nat :=
  let act := match s.clk.active with
    | some d => s.dom d
    | none => {}
  let leg := s.clk.active ≠ none && s.clk.legacy.getD act.port false
  b2n s.clk.established + 2 * b2n s.unproven + 4 * b2n (act.st = .holdover) + 8 * b2n (s.clk.disagree && s.bothValid) +
    16 * b2n leg + 32 * b2n (s.residual ≠ 0)

/-- currentUtcOffset of a domain. -/
def Domain.utc (x : Domain) : Int := match x.master with
  | some m => m.utcOffset
  | none => 0

/-- UTC offset of the active domain. -/
def State.utcOffset (s : State) : Int := match s.clk.active with
  | some d => (s.dom d).utc
  | none => 0

/-- The correction rate now in ppb. -/
def State.ratePpb (s : State) : Int :=
  if s.residual > 0 then -(s.clk.slewPpm * 1000 : Nat) else if s.residual < 0 then (s.clk.slewPpm * 1000 : Nat) else 0

def cmdTimeGet : Cmd where
  spec := specTimeGet
  run _ s := .ok s (timeBytes s.local ++ leBytes 8 s.stitch ++ leBytes 2 s.timeFlags ++ leBytes 1 (s.clk.active.getD 0xFF) ++
    zeros 1 ++ leBytes 4 (sat32 s.uDev) ++ leBytes 4 (unsigned 32 (satS 32 s.residual)) ++ leBytes 2 (unsigned 16 s.utcOffset) ++
    leBytes 2 s.clk.slewPpm ++ leBytes 4 (unsigned 32 s.ratePpb) ++ leBytes 8 s.rtc.1)

def cmdTimeStats : Cmd where
  spec := specTimeStats
  param j _ := chk 0 (j.u8 0 ≤ 1) ++ rsv j 1 3
  run j s :=
    let d := j.u8 0
    let x := s.dom d
    let m := x.master.getD {}
    .ok s (leBytes 1 x.st.code ++ leBytes 1 m.clockClass ++ leBytes 1 m.accuracy ++
      leBytes 1 (b2n (s.clk.active = some d) + 2 * b2n x.twoStep) ++ leBytes 2 m.stepsRemoved ++ leBytes 2 m.variance ++
      leBytes 8 m.gmId ++ leBytes 8 (unsigned 64 (s.offset d)) ++ leBytes 4 (sat32 x.sigma) ++ leBytes 4 (sat32 x.pathDelay) ++
      leBytes 8 x.syncRx ++ leBytes 8 x.followUpRx ++ leBytes 8 x.delayReqTx ++ leBytes 8 x.delayRespRx ++
      leBytes 8 x.announceRx ++ leBytes 4 x.timeouts ++ leBytes 4 x.relocks ++ timeBytes x.lastSyncLocal ++
      leBytes 4 (if x.st = .holdover then sat32 ((s.now - x.holdoverSince) / 1000000) else 0) ++
      leBytes 8 (if s.bothValid then unsigned 64 s.domDiff else 0) ++ leBytes 4 s.clk.switches ++ leBytes 4 s.clk.steps ++
      leBytes 2 (unsigned 16 x.utc) ++ zeros 14)

/-- What takes effect at a Stitch boundary: port corrections and legacy stamping (R329, R330). -/
def State.clockBoundary (s : State) : State :=
  let s := s.forEach s.clk.asymPending fun a s => s.modClk fun c => { c with asym := c.asym.set a.1 a.2 }
  let s := s.forEach s.clk.legacyPending fun a s =>
    (s.modClk fun c => { c with legacy := c.legacy.set a.1 a.2 }).forEach (List.range 2) fun d s =>
      if (s.dom d).port = a.1 && (s.dom d).st ≠ .disabled then
        s.modDom d fun x =>
          { x with st := .uncalibrated, ests := [], lockRun := 0, relocks := satAdd32 x.relocks (b2n x.valid) } else s
  (s.modClk fun c => { c with asymPending := [], legacyPending := [] }).checkLarge

end Sys2Proof.Machine
end

