-- ==== Sys2Proof/Machine/Console.lean ====
section
/-! DEFINITION. Touch keys, GPIO and SAFE inputs, and the console bus (spec/20). -/
namespace Sys2Proof.Machine

def State.modIo (s : State) (f : Io → Io) : State := { s with io := f s.io }
def State.inp (s : State) (i : Nat) : Inp := s.io.inputs.getD i {}
def State.modInp (s : State) (i : Nat) (f : Inp → Inp) : State := s.modIo fun x => { x with inputs := modAt x.inputs i f }

/-- Index in `io.inputs` of an input identifier, and back: GPIO 0-47, SAFE 48-55. -/
def inpIndex (id : Nat) : Nat := if idIndex id < 0x80 then idIndex id - 0x40 else idIndex id - 0x80 + 48
def inpId (i : Nat) : Nat := if i < 48 then 0xF040 + i else 0xF080 + (i - 48)

/-! ### Touch (R458-R463) -/

/-- EVT_TOUCH (Table 20-7). -/
def State.evtTouch (s : State) (e code flags : Nat) (signal : Int) (heldMs : Nat) : State :=
  s.raise 0x06 (0xF000 + e) (leBytes 1 code ++ leBytes 1 flags ++ leBytes 2 (unsigned 16 (satS 16 signal)) ++ leBytes 4 heldMs)

/-- A baseline in counts. -/
def Electrode.base (e : Electrode) : Int := e.baseline.getD 0 / 65536

/-- Tracking (R460): towards raw with the time constant, at most one count a scan (120 scans a second). -/
def Electrode.track (e : Electrode) (tc raw : Nat) : Electrode :=
  let b := e.baseline.getD 0
  let d := ((raw * 65536 : Nat) - b) / ((tc * 120 : Nat) : Int)
  { e with baseline := some (b + max (-65536) (min 65536 d)) }

/-- One scan of one electrode: the electrode after it and the event it raises (code, flags). `blocked`: it or a neighbour
is touched (R460). -/
def Electrode.scan (e : Electrode) (tc now : Nat) (blocked : Bool) (raw : Nat) : Electrode × Option (Nat × Nat) :=
  let s : Int := raw - e.base
  let e := { e with raw, signal := s }
  let up := s > e.t
  let dn := 2 * s < e.t
  let e := { e with above := if up then e.above + 1 else 0, below := if dn then e.below + 1 else 0,
                    neg := if s < -(e.n : Int) then e.neg + 1 else 0 }
  let idle (e : Electrode) : Electrode := { e with st := 1, above := 0, below := 0, neg := 0 }
  match e.st with
  | 0 =>
    if e.startCount = 0 && e.heldRef && s > e.t then
      ({ e with st := 4, heldRef := false, pressAt := now, below := 0 }, some (4, 0))
    else
      let e := { e with heldRef := false, startCount := e.startCount + 1, startSum := e.startSum + raw }
      if e.startCount < 8 then (e, none)
      else ({ idle e with baseline := some (e.startSum * 65536 / 8 : Nat), startCount := 0, startSum := 0 }, none)
  | 1 =>
    if e.recal then ({ idle e with baseline := some (raw * 65536 : Nat), recal := false }, none)
    else if e.above ≥ 2 then ({ e with st := 2, pressAt := now, below := 0 }, some (1, 0))
    else if e.neg ≥ 3 then ({ idle e with baseline := some (raw * 65536 : Nat) }, some (6, 0))
    else (if blocked then e else e.track tc raw, none)
  | 2 => if e.below ≥ 2 then (idle e, some (2, 0)) else (e, none)
  | 3 => if e.below ≥ 2 then (idle e, some (2, 1)) else (e, none)
  | _ => if e.below ≥ 2 then (idle e, some (5, 0)) else (e, none)

def heldState (e : Electrode) : Bool := e.st = 2 || e.st = 3 || e.st = 4

/-- TOUCH_SCAN: an active scan of every enabled electrode, in RUN (R458). -/
def touchScan (raw : List Nat) (s : State) : State :=
  if !(s.io.touchOn && s.pwr.pstate = 0) then s else
  let es := s.io.electrodes
  let blocked (i : Nat) : Bool :=
    heldState (es.getD i {}) || (i > 0 && heldState (es.getD (i - 1) {})) || heldState (es.getD (i + 1) {})
  let rs := es.mapIdx fun i e => if e.enabled then e.scan s.io.baseTc s.now (blocked i) (min (raw.getD i 0) 65535) else (e, none)
  let s' := s.modIo fun x => { x with electrodes := rs.map (·.1), scans := (x.scans + 1) % m32 }
  s'.forEach rs.zipIdx fun (r, i) s' =>
    match r.2 with
    | some (code, flags) =>
      let held := if code = 2 then (s.now - (es.getD i {}).pressAt) / 1000000 else 0
      s'.evtTouch i code flags r.1.signal held
    | none => s'

/-- TOUCH_HOLD_LIMIT (Table 20-1). -/
def touchHold (i : Nat) (s : State) : State :=
  let e := s.io.electrodes.getD i {}
  if !((e.st = 2 || e.st = 4) && e.enabled && e.pressAt + s.io.holdS * nsPerSec ≤ s.now) then s else
  (s.modIo fun x => { x with electrodes := modAt x.electrodes i fun e => { e with st := 3, below := 0 } }).evtTouch i 3 0 e.signal
    ((s.now - e.pressAt) / 1000000)

/-- APPROACH_SCAN: the ganged signals of the four groups below RUN (R458). -/
def approachScan (sig : List Int) (s : State) : State :=
  if !(s.io.touchOn && s.pwr.pstate ≠ 0) then s else
  s.forEach (List.range 4) fun g s =>
    if !s.pwr.wake.touchGroups.testBit g then s else
    let v := sig.getD g 0
    let run := if v > s.io.approachThr then s.io.approachRun.getD g 0 + 1 else 0
    let was := s.io.approach.getD g false
    let s := s.modIo fun x => { x with approachRun := x.approachRun.set g run, approach := x.approach.set g (decide (run ≥ 2)) }
    if run ≥ 2 && !was then s.evtTouch (8 * g) 7 0 v 0 else s

/-- R461 at a return to RUN, or for an electrode newly enabled: the held baseline takes the place of the reference. -/
def Electrode.restart (e : Electrode) : Electrode :=
  { e with st := 0, startCount := 0, startSum := 0, heldRef := e.baseline.isSome, above := 0, below := 0, neg := 0 }

/-- The OTP reference of an electrode, once written (R462). -/
def State.touchRef (s : State) (i : Nat) : Option Nat := s.hoop.otp.touchRef.getD i none

/-- R461 at the release of PORST_B: an electrode whose reference was written begins against it. -/
def Electrode.powerUp (e : Electrode) (ref : Option Nat) : Electrode :=
  Electrode.restart { e with baseline := ref.map fun r => ((r * 65536 : Nat) : Int) }

def cmdTouchConfig : Cmd where
  spec := specTouchConfig
  param j _ :=
    let n := (j.len - 16) / 4
    let el (i : Nat) : Nat := j.u8 (16 + 4 * i)
    chk 0 (j.u8 0 ≤ 32 && j.u8 0 = n) ++ chk 1 (j.u8 1 ≤ 1) ++ chk 2 (j.u16 2 ≤ 3600) ++ chk 6 (j.u16 6 ≤ 600) ++ rsv j 8 8 ++
    (List.range n).flatMap fun i =>
      chk (16 + 4 * i) (el i ≤ 31 && !(List.range i).any fun k => el k = el i) ++ chk (17 + 4 * i) (j.u8 (17 + 4 * i) ≤ 1) ++
      chk (18 + 4 * i) (j.u8 (18 + 4 * i) ≥ 1) ++ chk (19 + 4 * i) (j.u8 (19 + 4 * i) ≥ 1)
  run j s :=
    let dflt (v d : Nat) : Nat := if v = 0 then d else v
    let s := s.modIo fun x => { x with touchOn := j.u8 1 = 1, holdS := dflt (j.u16 2) 20, approachThr := dflt (j.u16 4) 40,
                                       baseTc := dflt (j.u16 6) 10 }
    .ok (s.forEach (List.range (j.u8 0)) fun i s =>
      s.modIo fun x => { x with electrodes := modAt x.electrodes (j.u8 (16 + 4 * i)) fun e =>
        let on := j.u8 (17 + 4 * i) = 1
        let e1 := { e with enabled := on, t := 4 * j.u8 (18 + 4 * i), n := 4 * j.u8 (19 + 4 * i) }
        if on && !e.enabled then e1.restart else if on then e1 else { e1 with st := 0 } }) []

def cmdTouchStatus : Cmd where
  spec := specTouchStatus
  run _ s :=
    let ap := ((List.range 4).map fun g => b2n (s.io.approach.getD g false) * 2 ^ g).sum
    .ok s (leBytes 4 s.io.scans ++ leBytes 1 (if !s.io.touchOn then 0 else if s.pwr.pstate = 0 then 1 else 2) ++
      leBytes 1 ap ++ zeros 2 ++ s.io.electrodes.zipIdx.flatMap fun (e, i) =>
        leBytes 1 e.st ++ leBytes 1 (b2n (s.touchRef i).isSome) ++ leBytes 2 (unsigned 16 (satS 16 e.signal)))

def cmdTouchRecal : Cmd where
  spec := specTouchRecal
  run j s :=
    let es := s.io.electrodes.mapIdx fun i e => if !(j.u32 0).testBit i then e else { e with recal := e.enabled }
    let s1 := s.modIo fun x => { x with electrodes := es }
    if s.hoop.otp.lifecycle ≠ 0 then .ok s1 [] else
    -- MANUFACTURE: the raw counts become the OTP reference, once per electrode (R462).
    let put (i : Nat) (r : Option Nat) : Option Nat :=
      if (j.u32 0).testBit i && r.isNone then some (es.getD i {}).raw else r
    .ok { s1 with hoop := { s1.hoop with otp := { s1.hoop.otp with touchRef := s1.hoop.otp.touchRef.mapIdx put } } } []

/-! ### GPIO and SAFE inputs (R464-R469) -/

/-- Pair mode of pair `k` (R467), governed by the even input. -/
def State.paired (s : State) (k : Nat) : Bool := (s.inp (48 + 2 * k)).flags.testBit 3

/-- An input's debounced level. The odd input of an antivalent pair is inverted before comparison (R467). -/
def State.pairSide (s : State) (k side : Nat) : Bool :=
  let l := (s.inp (48 + 2 * k + side)).level
  if side = 1 && (s.inp (48 + 2 * k)).flags.testBit 4 then !l else l

/-- The pair's level: both inputs active after inversion. -/
def State.pairLevel (s : State) (k : Nat) : Bool := s.pairSide k 0 && s.pairSide k 1

/-- Note a change of an input for the Stitch's one EVT_IO (R469). -/
def State.pendIo (s : State) (source input code level arg0 arg1 : Nat) : State :=
  match s.io.pend.find? fun p => p.source = source && p.input = input with
  | none => s.modIo fun x => { x with pend := x.pend ++ [{ source, input, code, level, arg0, arg1 }] }
  | some _ => s.modIo fun x => { x with
      merged := satAdd32 x.merged 1
      pend := x.pend.map fun p => if p.source = source && p.input = input then
        { p with code, level, arg0, arg1, merged := satAdd16 p.merged 1 } else p }

/-- EVT_IO (Table 20-7). -/
def State.evtIo (s : State) (p : IoPend) : State :=
  s.raise 0x07 p.source (leBytes 1 p.code ++ leBytes 1 p.level ++ leBytes 2 p.merged ++ leBytes 4 p.arg0 ++ leBytes 4 p.arg1)

/-- R469 at the Stitch boundary: each input's event carries its state at the end of the Stitch. -/
def State.ioBoundary (s : State) : State :=
  let ps := s.io.pend
  (s.modIo fun x => { x with pend := [] }).forEach ps fun p s => s.evtIo p

/-- Follow the pair of SAFE input `i` after a debounced change (R467). -/
def State.pairFollow (s : State) (i : Nat) : State :=
  if i < 48 || !s.paired ((i - 48) / 2) then s else
  let k := (i - 48) / 2
  let a := s.pairSide k 0
  let b := s.pairSide k 1
  s.modIo fun x => { x with pairs := modAt x.pairs k fun p => { p with
    disagreeAt := if a = b then none else some (p.disagreeAt.getD s.now)
    okSince := if !a && !b then some (p.okSince.getD s.now) else none } }

/-- Which clock domain samples an input (R464). -/
def State.sampled (s : State) (i : Nat) : Bool := s.domainOn (if i < 8 || 48 ≤ i then 0 else 1)

/-- Which inputs a pair's settings govern: the odd input takes the even one's (R467). -/
def State.inpCfg (s : State) (i : Nat) : Inp :=
  if 48 ≤ i && i % 2 = 1 && s.paired ((i - 48) / 2) then s.inp (i - 1) else s.inp i

/-- The raw level of an input has held for 10 × DEBOUNCE samples, the first of them at the sampled transition (R464). -/
def debounced (c p : Inp) (now : Nat) : Bool := p.rawAt + (10 * c.debounce - 1) * 100000 ≤ now

/-- INPUT_RAW_TRANSITION: a sample shows a new pin level (R464, R465). -/
def inpRaw (i : Nat) (pin : Bool) (s : State) : State :=
  let c := s.inpCfg i
  let p := s.inp i
  let lvl := if c.flags.testBit 0 then !pin else pin
  if !(i < 56 && p.mode = 1 && s.sampled i && lvl ≠ p.raw) then s else
  let edges := (s.now :: p.edges).filter fun e => s.now - e ≤ c.chatterW * 1000000
  let enter := c.chatterK ≠ 0 && edges.length > c.chatterK && !p.chatter
  let s := s.modInp i fun p => { p with raw := lvl, rawAt := s.now, edges := edges.take 256, chatter := p.chatter || enter }
  if enter then s.pendIo (inpId i) i 4 (b2n p.level) 0 0 else s

/-- INPUT_DEBOUNCED_CHANGE (R464): the new level has held for DEBOUNCE. -/
def inpDebounced (i : Nat) (s : State) : State :=
  let c := s.inpCfg i
  let p := s.inp i
  if !(i < 56 && p.mode = 1 && !(p.chatter && i < 48) && p.raw ≠ p.level && debounced c p s.now) then s else
  let clears := p.stuck && !p.raw
  let s := s.modInp i fun p => { p with level := p.raw, levelAt := s.now, stuck := p.stuck && p.raw }
  let s := s.pendIo (inpId i) i 1 (b2n p.raw) 0 0
  let s := if clears then s.pendIo (inpId i) i 3 (b2n p.raw) 0 0 else s
  s.pairFollow i

/-- CHATTER_CLEAR (R465). -/
def inpChatterClear (i : Nat) (s : State) : State :=
  let c := s.inpCfg i
  let p := s.inp i
  if !(i < 56 && p.chatter && p.rawAt + c.chatterW * 1000000 ≤ s.now) then s else
  let level := if debounced c p s.now then p.raw else p.level
  let clears := p.stuck && !level
  let s := (s.modInp i fun p => { p with
      chatter := false, edges := [], level, levelAt := if p.level = level then p.levelAt else s.now, stuck := p.stuck && level }).pendIo
    (inpId i) i 5 (b2n level) 0 0
  (s.when clears (·.pendIo (inpId i) i 3 (b2n level) 0 0)).pairFollow i

/-- INPUT_STUCK (R466). -/
def inpStuck (i : Nat) (s : State) : State :=
  let c := s.inpCfg i
  let p := s.inp i
  if !(i < 56 && p.mode = 1 && c.stuckMs ≠ 0 && p.level && !p.stuck && p.levelAt + c.stuckMs * 1000000 ≤ s.now) then s else
  (s.modInp i fun p => { p with stuck := true }).pendIo (inpId i) i 2 1 0 0

/-- PAIR_FAULT: a disagreement longer than 10 ms (R467). -/
def pairFault (k : Nat) (s : State) : State :=
  let p := s.io.pairs.getD k {}
  let due := match p.disagreeAt with
    | some t => decide (t + 10000000 < s.now)
    | none => false
  if !(k < 4 && s.paired k && !p.fault && due) then s else
  (s.modIo fun x => { x with pairFaults := satAdd32 x.pairFaults 1,
                             pairs := modAt x.pairs k fun p => { p with fault := true } }).pendIo
    (inpId (48 + 2 * k)) (56 + k) 6 (b2n (s.pairLevel k)) 0 0

/-- PAIR_OK: both inputs inactive and in agreement for 100 ms (R467). -/
def pairOk (k : Nat) (s : State) : State :=
  let p := s.io.pairs.getD k {}
  let due := match p.okSince with
    | some t => decide (t + 100000000 ≤ s.now)
    | none => false
  if !(k < 4 && s.paired k && p.fault && due) then s else
  (s.modIo fun x => { x with pairs := modAt x.pairs k fun p => { p with fault := false } }).pendIo
    (inpId (48 + 2 * k)) (56 + k) 7 (b2n (s.pairLevel k)) 0 0

/-- What APPL_SAFE_MAP reads of SAFE input `n`: its level (the pair's, in pair mode) and whether a chatter or a pair fault
counts as the condition holding (R248, R465, R467). -/
def State.safeReading (s : State) (n : Nat) : Bool × Bool :=
  let k := n / 2
  if s.paired k then
    (s.pairLevel k, (s.io.pairs.getD k {}).fault || (s.inp (48 + 2 * k)).chatter || (s.inp (49 + 2 * k)).chatter)
  else ((s.inp (48 + n)).level, (s.inp (48 + n)).chatter)

def cmdGpioConfig : Cmd where
  spec := specGpioConfig
  param j _ :=
    let id := j.u16 0
    let safe := 0x80 ≤ idIndex id
    let f := j.u8 3
    chk 0 (idType id = 15 && ((0x40 ≤ idIndex id && idIndex id < 0x70) || (0x80 ≤ idIndex id && idIndex id < 0x88) || !idInRange id)) ++
    chk 2 (if safe then j.u8 2 = 1 else j.u8 2 ≤ 3) ++
    chk 3 (f < 64 && !(f.testBit 1 && f.testBit 2) && !(f.testBit 3 && (!safe || id % 2 = 1)) && !(f.testBit 4 && !f.testBit 3)) ++
    chk 5 (j.u8 5 ≠ 1) ++ chk 6 (10 ≤ j.u16 6 && j.u16 6 ≤ 60000) ++
    chk 8 (j.u32 8 = 0 || (100 ≤ j.u32 8 && j.u32 8 ≤ 86400000))
  names j := nameAt j 0
  run j s :=
    let i := inpIndex (j.u16 0)
    if 48 ≤ i && i % 2 = 1 && s.paired ((i - 48) / 2) then .fail eState (j.u16 0) else
    let reset (p : Inp) : Inp := { p with rawAt := s.now, levelAt := s.now, edges := [], chatter := false, stuck := false }
    let s1 := s.modInp i fun p =>
      let flip := p.flags.testBit 0 ≠ (j.u8 3).testBit 0
      reset { p with mode := j.u8 2, flags := j.u8 3, debounce := j.u8 4, chatterK := j.u8 5, chatterW := j.u16 6,
                     stuckMs := j.u32 8, raw := if flip then !p.raw else p.raw }
    -- The odd input of a pair takes up the even one's settings, or its own again (R467).
    let pol (s : State) : Bool := (s.inpCfg (i + 1)).flags.testBit 0
    let s1 := if 48 ≤ i then
      let s1 := if i % 2 = 0 && (s.paired ((i - 48) / 2) || s1.paired ((i - 48) / 2)) then
        s1.modInp (i + 1) fun p => reset { p with raw := if pol s ≠ pol s1 then !p.raw else p.raw } else s1
      (s1.modIo fun x => { x with pairs := x.pairs.set ((i - 48) / 2) {} }).pairFollow i
    else s1
    .ok (if 2 ≤ j.u8 2 then s1.emit (.pin ("GPIO" ++ toString i) ((j.u8 3).testBit 5)) else s1) []

/-- Bit n of a status word from a predicate on inputs. -/
def inpBits (s : State) (lo n : Nat) (f : Inp → Bool) : Nat :=
  ((List.range n).map fun i => b2n (f (s.inp (lo + i))) * 2 ^ i).sum

def cmdGpioStatus : Cmd where
  spec := specGpioStatus
  run _ s :=
    .ok s (leBytes 8 (inpBits s 0 48 fun p => if 2 ≤ p.mode then p.flags.testBit 5 else p.level) ++
      leBytes 8 (inpBits s 0 48 (·.stuck)) ++ leBytes 8 (inpBits s 0 48 (·.chatter)) ++ leBytes 4 s.io.merged ++ zeros 4)

def cmdSafeStatus : Cmd where
  spec := specSafeStatus
  run _ s :=
    let pb (f : Nat → Bool) : Nat := ((List.range 4).map fun k => b2n (f k) * 2 ^ k).sum
    .ok s (leBytes 1 (inpBits s 48 8 (·.level)) ++ leBytes 1 (inpBits s 48 8 (·.stuck)) ++ leBytes 1 (inpBits s 48 8 (·.chatter)) ++
      leBytes 1 (pb s.paired) ++ leBytes 1 (pb fun k => s.paired k && s.pairLevel k) ++
      leBytes 1 (pb fun k => (s.io.pairs.getD k {}).fault) ++ zeros 2 ++ leBytes 4 s.io.pairFaults ++ zeros 4)

/-! ### Console bus (R470-R473) -/

def State.cbus (s : State) (p : Nat) : Cbus := s.io.cbus.getD p {}
def State.modCbus (s : State) (p : Nat) (f : Cbus → Cbus) : State := s.modIo fun x => { x with cbus := modAt x.cbus p f }
/-- The network-port record of console bus `p`: `CB0` is network port 5. -/
def State.cbPort (s : State) (p : Nat) : NetPort := s.net.ports.getD (5 + p) {}

/-- CBUS_CONFIG (Table 20-8). DESIGN CHOICE (log entry 104): a MAC is read most significant byte first. -/
def cmdCbusConfig : Cmd where
  spec := specCbusConfig
  param j _ :=
    let m := j.u8 3
    let n := (j.len - 8) / 8
    chk 0 (j.u16 0 = 0xD005 || j.u16 0 = 0xD006) ++ chk 2 (j.u8 2 ≤ 1) ++ chk 3 (m ≤ 2) ++
    chk 4 (if m = 2 then 1 ≤ j.u8 4 && j.u8 4 ≤ 15 else j.u8 4 = 0) ++
    chk 5 (if m = 1 then 2 ≤ j.u8 5 && j.u8 5 ≤ 16 else j.u8 5 = 0) ++ chk 6 (j.u8 6 ≤ 16 && j.u8 6 = n) ++ rsv j 7 1 ++
    (List.range n).flatMap fun i => rsv j (14 + 8 * i) 2
  names j := nameAt j 0
  run j s :=
    let p := idIndex (j.u16 0) - 5
    -- A change on an enabled port restarts it: queued frames are dropped and their commands end (R471).
    let q := (s.cbus p).queue
    let s := s.modCbus p fun c => { c with mode := j.u8 3, node := j.u8 4, nodes := j.u8 5, queue := [], plcaLost := false,
                                           lastBeacon := s.now,
                                           allowed := (List.range (j.u8 6)).map fun i => beVal (j.bytes (8 + 8 * i) 6) }
    let s := s.modPort (5 + p) fun x => { x with enable := j.u8 2 = 1, link := j.u8 2 = 1 }
    .ok (s.forEach q fun f s => s.finish f.job eTimeout 0 []) []

/-- The console message of CBUS_SEND (Table 20-9) in its Ethernet frame, padded to the minimum. -/
def cbFrame (dst src : List Byte) (msg seq : Nat) (items : List Byte) : List Byte :=
  let m := dst ++ src ++ [0x88, 0xB5] ++ [0x4A, 1, BitVec.ofNat 8 msg, BitVec.ofNat 8 (items.length / 4)] ++ beBytes 2 seq ++
    zeros 2 ++ items
  m ++ zeros (60 - m.length)

/-- CBUS_SEND (R473). DESIGN CHOICE (log entry 104): DEST goes on the wire in the order of the payload's bytes. -/
def cmdCbusSend : Cmd where
  spec := specCbusSend
  param j _ :=
    chk 0 (j.u16 0 = 0xD005 || j.u16 0 = 0xD006) ++ chk 2 (1 ≤ j.u8 2 && j.u8 2 ≤ 3) ++ rsv j 3 1 ++ rsv j 10 2 ++
    chk 12 ((j.len - 12) % 4 = 0)
  names j := nameAt j 0
  run j s :=
    let p := idIndex (j.u16 0) - 5
    let c := s.cbus p
    if c.queue.length ≥ 8 then .fail eBusy (j.u16 0)
    else if !(s.cbPort p).enable then .fail eState (j.u16 0)
    else
      let f := cbFrame (j.bytes 4 6) (beBytes 6 (s.hoop.otp.macs.getD (5 + p) 0)) (j.u8 2) c.seq (j.req.payload.drop 12)
      .later (s.modCbus p fun c => { c with seq := (c.seq + 1) % m16, queue := c.queue ++ [{ job := j, bytes := f, since := s.now }] })

/-- CBUS_FRAME_SENT (R473), with the collisions it met. -/
def cbusSent (p coll late : Nat) (s : State) : State :=
  match (s.cbus p).queue with
  | [] => s
  | f :: rest =>
    if !(s.cbPort p).enable || !s.portPowered (5 + p) then s else
    (((s.modCbus p fun c => { c with queue := rest }).modPort (5 + p) fun x => { x with ctr := { x.ctr with
        txFrames := x.ctr.txFrames + 1, txOctets := x.ctr.txOctets + f.bytes.length + 4,
        fecCorrected := x.ctr.fecCorrected + coll, fecUncorrected := x.ctr.fecUncorrected + late } }).emit
      (.consoleFrame p (s.cbus p).node f.bytes)).finish f.job 0 0 []

/-- CBUS_SEND_TIMEOUT: a frame not sent within 100 ms (R473). -/
def cbusTimeout (p : Nat) (s : State) : State :=
  match (s.cbus p).queue with
  | [] => s
  | f :: rest =>
    if f.since + 100000000 ≤ s.now then (s.modCbus p fun c => { c with queue := rest }).finish f.job eTimeout 0 [] else s

/-- The items of a well-formed console message (Table 20-9): kind and 4-byte items; padding up to the Ethernet minimum (46 bytes after
the EtherType) is ignored. -/
def cbParse (b : List Byte) : Option (Nat × List (List Byte)) :=
  let n := byteAt b 3
  if (b.length = 8 + 4 * n || (8 + 4 * n ≤ b.length && b.length ≤ 46)) && byteAt b 0 = 0x4A && byteAt b 1 = 1 && 1 ≤ byteAt b 2 && byteAt b 2 ≤ 3 && n ≤ 61 &&
      byteAt b 6 = 0 && byteAt b 7 = 0 then
    let items := (List.range n).map fun i => (b.drop (8 + 4 * i)).take 4
    let bad (it : List Byte) : Bool := match byteAt b 2 with
      | 1 => byteAt it 1 > 1 || byteAt it 2 ≠ 0 || byteAt it 3 ≠ 0
      | 2 => byteAt it 1 > 3 || byteAt it 3 ≠ 0
      | _ => byteAt it 1 ≠ 0
    if items.any bad then none else some (byteAt b 2, items)
  else none

/-- CONSOLE_FRAME_RECEIVE (R472). -/
def cbusReceive (p : Nat) (f : ConsoleFrame) (s : State) : State :=
  if !(p < 2 && (s.cbPort p).enable && (s.cbPort p).loop = 0 && s.portPowered (5 + p)) then s else
  let count (s : State) (g : NetCounters → NetCounters) : State := s.modPort (5 + p) fun x => { x with ctr := g x.ctr }
  let s := count s fun c => { c with rxFrames := c.rxFrames + 1, rxOctets := c.rxOctets + f.bytes.length + 18 }
  if !(s.cbus p).allowed.contains f.src then count s fun c => { c with rxStranger := c.rxStranger + 1 } else
  let bad := count s fun c => { c with rxUnmatched := c.rxUnmatched + 1 }
  if f.etherType ≠ 0x88B5 then bad else
  match cbParse f.bytes with
  | some (1, items) => s.forEach items fun it s =>
      s.evtIo { source := 0xD005 + p, input := 64 + p, code := 8, level := byteAt it 1, arg0 := byteAt it 0 }
  | some (3, items) => s.forEach items fun it s =>
      s.pendIo (0xD005 + p) (256 * (p + 1) + byteAt it 0) 9 0 (byteAt it 0)
        (unsigned 32 (signed 16 (byteAt it 2 * 256 + byteAt it 3)))
  | _ => bad

/-- PLCA_LOST: a follower has received no beacon for 4 ms (R470). -/
def plcaLost (p : Nat) (s : State) : State :=
  let c := s.cbus p
  if !(p < 2 && (s.cbPort p).enable && s.portPowered (5 + p) && c.mode = 2 && !c.plcaLost && c.lastBeacon + 4000000 ≤ s.now) then s else
  ((s.modCbus p fun c => { c with plcaLost := true }).modPort (5 + p) fun x => { x with ctr := { x.ctr with
    fecSymbolErr := x.ctr.fecSymbolErr + 1 } }).pendIo (0xD005 + p) (64 + p) 10 0 0 0

/-- PLCA_BEACON (R470). -/
def plcaBeacon (p : Nat) (s : State) : State :=
  let c := s.cbus p
  if !(p < 2 && (s.cbPort p).enable && s.portPowered (5 + p) && c.mode = 2) then s else
  let s1 := s.modCbus p fun c => { c with plcaLost := false, lastBeacon := s.now }
  if c.plcaLost then s1.pendIo (0xD005 + p) (64 + p) 11 0 0 0 else s1

end Sys2Proof.Machine
end

