-- ==== Sys2Proof/Machine/Net.lean ====
section
/-! DEFINITION. Network ports, channel configuration, multicast membership and their statistics (spec/06 R138-R147, R156,
R160-R166). -/
namespace Sys2Proof.Machine

def State.port (s : State) (p : Nat) : NetPort := s.net.ports.getD p {}
def State.src (s : State) (n : Nat) : Src := s.net.srcs.getD n {}
def State.modSrc (s : State) (n : Nat) (f : Src → Src) : State :=
  { s with net := { s.net with srcs := modAt s.net.srcs n f } }
def State.modPortCtr (s : State) (p : Nat) (f : NetCounters → NetCounters) : State :=
  s.modPort p fun x => { x with ctr := f x.ctr }

/-- EVT_NET (Tables 6-12 and 6-13), at most once per code and source in a Stitch (R166). -/
def State.evtNet (s : State) (source code path arg0 arg1 : Nat) : State :=
  s.raiseOnce 0x0F source code (leBytes 1 code ++ leBytes 1 path ++ zeros 2 ++ leBytes 4 arg0 ++ leBytes 4 arg1 ++ zeros 4)

/-! ### Ports -/

/-- A port loses block lock or its RGMII link (R140, R142). -/
def State.portDown (s : State) (p : Nat) : State :=
  if !(s.port p).link then s else
  (s.modPort p fun x => { x with link := false, curSpeed := 0, fecActive := false
                                 ctr := { x.ctr with linkDown := x.ctr.linkDown + 1 } }).evtNet (0xD000 + p) 2 0xFF 0 0

def cmdNetPortConfig : Cmd where
  spec := specNetPortConfig
  param j _ :=
    let rg := idIndex (j.u16 0) = 4
    chkNetPort j 0 ++ chk 2 (j.u8 2 ≤ 1) ++ chk 3 (if rg then 3 ≤ j.u8 3 && j.u8 3 ≤ 5 else j.u8 3 ≤ 2) ++
    chk 4 (j.u8 4 ≤ (if rg then 0 else 1)) ++ chk 5 (j.u8 5 ≤ 1) ++
    chk 6 (1500 ≤ j.u16 6 && j.u16 6 ≤ (if rg then 2000 else 9216)) ++ chk 8 (j.u16 8 ≤ 4094) ++ rsv j 10 6
  names j := nameAt j 0
  run j s :=
    let p := idIndex (j.u16 0)
    let o := s.port p
    let on := j.u8 2 = 1
    let fec := j.u8 4 = 1
    let restart := !on || !o.enable || o.speed ≠ j.u8 3 || o.fec ≠ fec
    let s := s.when restart (·.portDown p)
    .ok (s.modPort p fun x =>
      { x with enable := on, speed := j.u8 3, fec := fec, command := j.u8 5 = 1, mtu := j.u16 6, vlan := j.u16 8
               searchRate := if restart then 1 else x.searchRate
               searchSince := if restart then s.now else x.searchSince
               lockSince := if restart then none else x.lockSince }) []

def cmdNetAddr : Cmd where
  spec := specNetAddr
  param j _ := chkNetPort j 0 ++ chk 2 (j.u8 2 ≤ 3) ++ chk 3 (j.u8 3 ≤ 32) ++ chk 10 (j.u8 10 ≤ 128) ++ rsv j 11 1
  names j := nameAt j 0
  run j s :=
    .ok (s.modPort (idIndex (j.u16 0)) fun x =>
      { x with addrFlags := j.u8 2, prefix4 := j.u8 3, mac := beVal (j.bytes 4 6), prefix6 := j.u8 10
               ipv4 := beVal (j.bytes 12 4), ipv6 := beVal (j.bytes 16 16), gateway := beVal (j.bytes 32 16) }) []

def cmdNetStats : Cmd where
  spec := specNetStats
  param j _ := chkId j 0 [13] ++ rsv j 2 2
  names j := nameAt j 0
  run j s :=
    let n := idIndex (j.u16 0)
    let p := s.port n
    let c := p.ctr
    -- The console-bus ports carry collisions and beacon losses there (R472).
    let fec := 4 < n || (n < 4 && p.curSpeed ≠ 2)
    let f (v : Nat) : Nat := if fec then v else 0
    .ok s (([c.rxFrames, c.rxOctets, c.rxFcsErr, c.rxLengthErr, c.rxVlanDrop, c.rxUnmatched, c.rxStranger, c.rxContention,
        c.txFrames, c.txOctets, f c.fecCorrected, f c.fecUncorrected, f c.fecSymbolErr, c.blockLockLoss, c.linkDown, c.fallback,
        c.cmdAccepted, c.cmdDiscarded, c.membershipTx, c.queriesRx].flatMap (leBytes 8)) ++
      leBytes 1 (b2n p.link) ++ leBytes 1 p.curSpeed ++ leBytes 1 (b2n p.fecActive) ++ leBytes 1 p.loop ++ zeros 4 ++
      leBytes 8 c.rxOverload ++ zeros 80)

def cmdNetLoop : Cmd where
  spec := specNetLoop
  param j _ := chkId j 0 [13] ++ chk 2 (j.u8 2 ≤ 3) ++ rsv j 3 1 ++ chk 4 (j.u32 4 ≤ 3600000)
  names j := nameAt j 0
  run j s :=
    let p := idIndex (j.u16 0)
    if j.req.transport = .network && j.req.port = p then .fail eBusy (j.u16 0) else
    .ok (s.modPort p fun x =>
      { x with loop := j.u8 2
               loopUntil := if j.u8 2 = 0 || j.u32 4 = 0 then none else some (s.now + j.u32 4 * 1000000) }) []

/-- NET_LOOP_EXPIRY (R165). -/
def netLoopExpiry (p : Nat) (s : State) : State :=
  match (s.port p).loopUntil with
  | some t => if t ≤ s.now then s.modPort p fun x => { x with loop := 0, loopUntil := none } else s
  | none => s

/-- A lock acquired at `t` was reached inside the search window (R140). -/
def NetPort.inWindow (x : NetPort) (t : Nat) : Bool := x.searchSince ≤ t && t < x.searchSince + 500000000

/-- ETH_SPEED_WINDOW_EXPIRY (R140): the window ends without lock and the PCS switches rate; while a lock reached inside it holds,
the rate stays. -/
def ethWindow (p : Nat) (lock : Option Nat) (s : State) : State :=
  let x := s.port p
  if p < 4 && x.enable && x.speed = 0 && !x.link && x.lockSince = none && x.searchSince + 500000000 ≤ s.now then
    s.modPort p fun x =>
      if lock.any x.inWindow then { x with lockSince := lock }
      else { x with searchRate := 3 - x.searchRate, searchSince := s.now }
  else s

/-- ETH_LINK_UP (R140): block lock, acquired at `since`, has held for 100 ms at a rate; on RGMII the link is up. -/
def ethUp (p rate since : Nat) (s : State) : State :=
  let x := s.port p
  let held := since + 100000000 ≤ s.now
  let want := if p = 4 then 3 ≤ rate && rate ≤ 5 && (x.speed = 0 || x.speed = rate)
    else if x.speed = 0 then rate = x.searchRate && held && x.inWindow since && x.lockSince.all (· = since)
    else rate = x.speed && held && x.searchSince ≤ since
  if p < 5 && x.enable && !x.link && want then
    let fec := p < 4 && x.fec && rate = 1
    let s := (s.modPort p fun x => { x with link := true, curSpeed := rate, fecActive := fec, lockSince := none }).evtNet (0xD000 + p) 1 0xFF rate
      (b2n fec)
    if p < 4 && x.speed = 0 && rate = 2 then
      (s.modPortCtr p fun c => { c with fallback := c.fallback + 1 }).evtNet (0xD000 + p) 3 0xFF 2 0
    else s
  else s

/-- ETH_LINK_DOWN (R140, R142): block lock or the RGMII link is lost. A search that loses lock moves to the other rate. -/
def ethDown (p : Nat) (s : State) : State :=
  let x := s.port p
  if !(p < 5 && x.enable) then s else
  let s := s.when (p < 4) (·.modPortCtr p fun c => { c with blockLockLoss := c.blockLockLoss + 1 })
  if x.link then
    (s.portDown p).modPort p fun x => { x with searchRate := 1, searchSince := s.now }
  else s.modPort p fun x => { x with searchRate := if x.speed = 0 then 3 - x.searchRate else x.searchRate, searchSince := s.now
                                     lockSince := none }

/-- ARP_NDP_ICMP_REQUEST (R138): answered for the port's own addresses. -/
def neighbourAnswer (q : NeighbourQuery) (s : State) : State :=
  let p := s.port q.port
  if !s.portRx q.port then s else
  let (s, good) := s.takeFrame q.port p.vlan q.frameLen
  if !good then s else
  let v6 := q.kind = 1 || q.kind = 3
  let own := if v6 then p.addrFlags.testBit 1 && q.target = p.ipv6 else p.addrFlags.testBit 0 && q.target = p.ipv4
  if own && q.kind ≤ 3 then
    (s.txFrame q.port (q.frameLen - (if p.vlan = 0 then 18 else 22))).emit (.linkAnswer q.port q.kind q.target (if 2 ≤ q.kind then q.bytes else []))
  else s

/-! ### Multicast membership (R161, R162) -/

/-- An IPv4-mapped address. -/
def isV4 (a : Nat) : Bool := a / m32 = 0xFFFF

/-- A multicast address. -/
def isMulticast (a : Nat) : Bool := if isV4 a then a / 2 ^ 28 % 16 = 0xE else a / 2 ^ 120 = 0xFF

/-- Joins of every channel on an ETH port. -/
def State.portJoins (s : State) (port : Nat) : List Join :=
  (s.net.srcs.filter fun c => c.typ ≤ 4).flatMap fun c => c.joins.filter fun j => (c.paths.getD j.path {}).port = port

/-- Joins of every channel on a port for a group. -/
def State.groupJoins (s : State) (port group : Nat) : List Join := (s.portJoins port).filter fun j => j.group = group

/-- Membership of a port in a group: none; any source; or a list of sources (the union of the joins). -/
def State.membership (s : State) (port group : Nat) : Option (List Nat) :=
  match s.groupJoins port group with
  | [] => none
  | js => if js.any fun j => j.mode = 1 then some [] else some (js.map (·.source)).eraseDups

/-- An older querier of the group's family is present (R162): its version. -/
def State.compat (s : State) (port group : Nat) : Option Nat :=
  ((s.port port).olderQuerier.filter fun q => q.1 = !isV4 group && s.now < q.2.2).map (·.2.1) |>.min?

/-- Send one membership report. -/
def State.sendReport (s : State) (port group : Nat) (records : List (Nat × List Nat)) (compat : Option Nat) : State :=
  if !s.portRx port || records.isEmpty then s else
  let each := if isV4 group then 4 else 16
  let body := (records.map fun r => (if isV4 group then 8 else 20) + each * r.2.length).sum
  let n := match compat with
    | some _ => if isV4 group then 32 else 72
    | none => (if isV4 group then 32 else 56) + body
  ((s.txFrame port n).modPortCtr port fun c => { c with membershipTx := c.membershipTx + 1 }).emit
    (.membership port group records compat)

/-- The state-change records of RFC 3376 section 5.1 and RFC 3810 section 6.1 that R162 names: types 3 TO_IN, 4 TO_EX, 5 ALLOW,
6 BLOCK; no membership is INCLUDE of no source, an empty list in a membership is EXCLUDE of none. -/
def changeRecords (before after : Option (List Nat)) : List (Nat × List Nat) :=
  let excl (m : Option (List Nat)) : Bool := m = some []
  let a := before.getD []
  let b := after.getD []
  if excl after then (if excl before then [] else [(4, [])])
  else if excl before then [(3, b)]
  else [(5, b.filter fun x => !a.contains x), (6, a.filter fun x => !b.contains x)].filter fun r => !r.2.isEmpty

/-- The change as an older querier's version has it: the whole group is requested (R162); version 1 has no leave. -/
def compatRecords (v : Nat) (v4 : Bool) (before after : Option (List Nat)) : List (Nat × List Nat) :=
  if before.isNone && after.isSome then [(4, [])]
  else if before.isSome && after.isNone && !(v4 && v = 1) then [(3, [])] else []

/-- What is still to be repeated of a group joins the new records; a source counts where it was reported last. -/
def mergeRecords (old new now : List (Nat × List Nat)) : List (Nat × List Nat) :=
  if new.any fun r => r.1 ≤ 4 then new
  else if old.any fun r => r.1 ≤ 4 then now
  else
    let fresh := new.flatMap (·.2)
    let of (k : Nat) : List Nat := ((old.filter fun r => r.1 = k).flatMap (·.2)).filter (fun x => !fresh.contains x) ++
      (new.filter fun r => r.1 = k).flatMap (·.2)
    [(5, of 5), (6, of 6)].filter fun r => !r.2.isEmpty

/-- A state change of a group on a port: a report now and its repeat after 1 s (robustness variable 2). -/
def State.groupChanged (s : State) (port group : Nat) (before : Option (List Nat)) : State :=
  let after := s.membership port group
  if after = before then s else
  let compat := s.compat port group
  let old := ((s.port port).retransmit.filter fun r => r.1 = group).flatMap (·.2.1)
  let records := match compat with
    | some v => compatRecords v (isV4 group) before after
    | none => mergeRecords old (changeRecords before after) (changeRecords (if after = some [] then none else some []) after)
  (s.sendReport port group records compat).modPort port fun x =>
    { x with retransmit := x.retransmit.filter (fun r => r.1 ≠ group) ++
        (if records.isEmpty then [] else [(group, records, s.now + nsPerSec)]) }

/-- MEMBERSHIP_REPORT_RETRANSMIT (R162). -/
def reportRetransmit (p : Nat) (s : State) : State :=
  let due := (s.port p).retransmit.filter fun r => r.2.2 ≤ s.now
  let s := s.modPort p fun x => { x with retransmit := x.retransmit.filter fun r => !(r.2.2 ≤ s.now) }
  s.forEach due fun r s => s.sendReport p r.1 r.2.1 (s.compat p r.1)

/-- MEMBERSHIP_QUERY (R162). An older version is remembered for the 260 s of RFC 3376 and RFC 3810 (PRESUMED). -/
def membershipQuery (q : MemberQuery) (s : State) : State :=
  if !s.portRx q.port then s else
  let (s, good) := s.takeFrame q.port (s.ownTag q.port) q.frameLen
  if !good then s else
  let s := s.modPortCtr q.port fun c => { c with queriesRx := c.queriesRx + 1 }
  let newest := if q.v6 then 2 else 3
  let s := s.when (q.version < newest) (·.modPort q.port fun x =>
    { x with olderQuerier := x.olderQuerier.filter (fun o => !(o.1 = q.v6 && o.2.1 = q.version)) ++
               [(q.v6, q.version, s.now + 260 * nsPerSec)] })
  let groups := ((s.portJoins q.port).map (·.group)).eraseDups
  s.forEach (groups.filter fun g => isV4 g = !q.v6 && (q.group = 0 || q.group = g)) fun g s =>
    match s.membership q.port g with
    | some l => s.sendReport q.port g [if (s.compat q.port g).isSome then (4, []) else if l.isEmpty then (2, []) else (1, l)] (s.compat q.port g)
    | none => s

/-! ### The frame heap (R174, R175) -/

/-- Bytes of one frame buffer (R175). -/
def footprint (w h depth : Nat) : Nat :=
  let sz := (ceilDiv w 64 * 64) * (ceilDiv h 64 * 64)
  ceilDiv ((if depth = 8 then sz + sz / 2 else 2 * sz) + sz / 16 + sz / 64) 65536 * 65536

/-- Heap bytes of a configured decode context: pool and CPB. -/
def Ctx.heap (c : Ctx) : Nat :=
  if c.st = .unconfigured then 0 else c.bufs.length * footprint c.maxW c.maxH c.bitDepth + c.cpbKib * 1024

/-- Heap bytes of an open TYPE 5 channel: three buffers (R143). -/
def Src.heap (c : Src) : Nat := if c.st ≠ .closed && c.typ = 5 then 3 * footprint c.p1 c.p2 10 else 0

/-- Free bytes of the frame heap beyond the 486 MiB set aside (R174). -/
def State.heapFree (s : State) : Nat :=
  s.hoop.heapGib * 2 ^ 30 - 96 * 5308416 - (s.dec.ctxs.map Ctx.heap).sum - (s.net.srcs.map Src.heap).sum

/-! ### Channels -/

/-- A CHANNEL field: an ingest channel or network audio stream. -/
def chkSrc (j : Job) (off : Nat) : List Nat :=
  chk off (idType (j.u16 off) = 1 || (idType (j.u16 off) = 10 && !(0x100 ≤ idIndex (j.u16 off) && idIndex (j.u16 off) < 0x108)))

/-- A path field: 0, or 1 on a channel opened with DUAL (R145, R161). -/
def chkPath (j : Job) (s : State) : List Nat :=
  let c := s.src (srcIndex (j.u16 0))
  chk 2 (j.u8 2 = 0 || (j.u8 2 = 1 && (c.dual || c.st = .closed)))

def cmdSrcOpen : Cmd where
  spec := specSrcOpen
  creates := true
  param j _ :=
    let ty := j.u8 2
    let dual := j.u8 3 % 2 = 1
    let link := ty = 5 || ty = 6
    let portOk (off : Nat) : Bool :=
      let id := j.u16 off
      if link then idType id = 12 else idType id = 13 && (idIndex id < 4 || 6 < idIndex id)
    let chOk := if ty = 4 then idType (j.u16 0) = 10 && !(0x100 ≤ idIndex (j.u16 0) && idIndex (j.u16 0) < 0x108)
      else idType (j.u16 0) = 1
    let zeroAt (off n : Nat) : Bool := (j.bytes off n).all (· = 0)
    chk 0 chOk ++ chk 2 (1 ≤ ty && ty ≤ 6) ++ chk 3 (j.u8 3 ≤ 3 && !(dual && link)) ++
    chk 4 (portOk 4) ++ chk 6 (if dual then portOk 6 else j.u16 6 = 0) ++ chk 8 (!link || zeroAt 8 16) ++
    chk 24 (if dual then !(j.u16 4 = j.u16 6 && j.bytes 8 16 = j.bytes 24 16 && j.u16 40 = j.u16 42) else zeroAt 24 16) ++
    chk 40 (link || j.u16 40 ≠ 0) ++ chk 42 (if dual then j.u16 42 ≠ 0 else j.u16 42 = 0) ++ chk 44 (j.u8 44 ≤ 127) ++ rsv j 45 1 ++
    chk 46 (if ty = 3 then 16 ≤ j.u16 46 && j.u16 46 ≤ 1920 && j.u16 46 % 2 = 0 else if ty = 4 then 1 ≤ j.u16 46 && j.u16 46 ≤ 8
      else if ty = 5 then 16 ≤ j.u16 46 && j.u16 46 ≤ 4096 && j.u16 46 % 2 = 0 else j.u16 46 = 0) ++
    chk 48 (if ty = 3 then 16 ≤ j.u16 48 && j.u16 48 ≤ 1080 else if ty = 4 then j.u16 48 ≤ 2
      else if ty = 5 then 16 ≤ j.u16 48 && j.u16 48 ≤ 2304 else j.u16 48 = 0) ++
    chk 50 (if ty = 3 then 1 ≤ j.u16 50 else if ty = 4 then j.u16 50 = 16 || j.u16 50 = 24 else j.u16 50 = 0) ++
    chk 52 (if ty = 3 then 1 ≤ j.u16 52 && j.u16 50 ≤ 60 * j.u16 52 else j.u16 52 = 0) ++ rsv j 54 2
  names j := nameAt j 0 ++ nameAt j 4 ++ (if j.u8 3 % 2 = 1 then nameAt j 6 else [])
  run j s :=
    let n := srcIndex (j.u16 0)
    let ty := j.u8 2
    let dual := j.u8 3 % 2 = 1
    if (s.src n).st ≠ .closed then .fail eState (j.u16 0)
    else if ty = 3 && 32 ≤ (s.net.srcs.filter fun c => c.st ≠ .closed && c.typ = 3).length then .fail eNoResource 0x1000
    else if ty = 5 && s.heapFree < 3 * footprint (j.u16 46) (j.u16 48) 10 then .fail eNoResource 0
    else
      let a : PathState := { port := idIndex (j.u16 4), dst := beVal (j.bytes 8 16), udp := j.u16 40, since := s.now }
      let b : PathState := { port := idIndex (j.u16 6), dst := beVal (j.bytes 24 16), udp := j.u16 42, since := s.now }
      let c : Src :=
        { st := .waiting, typ := ty, dual := dual, rtcpMux := (j.u8 3).testBit 1, paths := [a, if dual then b else {}]
          pt := j.u8 44, p1 := j.u16 46, p2 := j.u16 48, p3 := j.u16 50, p4 := j.u16 52, lastAccepted := s.now }
      let s := s.modSrc n fun _ => c
      let s := if n < 64 then
          { s with dec := { s.dec with ctxs := modAt s.dec.ctxs n fun _ =>
                                         { bufs := if ty = 3 || ty = 5 then List.replicate 3 {} else [] },
                                       gimpCh := modAt s.dec.gimpCh n fun q => { q with nextSeq := 1, backSeq := 0, lost := [] } } }
        else { s with aud := { s.aud with streams := modAt s.aud.streams (n - 64) fun _ => {} } }
      .ok s []

/-- Frames of a channel or graphic layer are gone (R50, R144, R198): its live records are retired and released, and no
tile latches one any more. -/
def State.releaseFrames (s : State) (object : Nat) : State :=
  let gone (r : GimpRec) : GimpRec := if r.live then { r with live := false, released := true } else r
  let q (x : Quota) : Quota := { x with recs := x.recs.map gone }
  let d := if idType object = 1 then { s.dec with gimpCh := modAt s.dec.gimpCh (idIndex object) q }
    else { s.dec with gimpG := modAt s.dec.gimpG (idIndex object) q }
  let drop (p : Option (Nat × Nat)) : Option (Nat × Nat) := if (p.map (·.1)) = some object then none else p
  { s with dec := d, lay := { s.lay with tiles := s.lay.tiles.map fun t =>
      { t with latched := drop t.latched, shown := drop t.shown, prevHeld := drop t.prevHeld } } }

/-- Leave every group of a channel (R144, R162). -/
def State.leaveAll (s : State) (n : Nat) : State :=
  let c := s.src n
  let gs := (c.joins.map fun j => ((c.paths.getD j.path {}).port, j.group)).eraseDups
  let before := gs.map fun g => s.membership g.1 g.2
  let s := s.modSrc n fun x => { x with joins := [] }
  s.forEach (gs.zip before) fun g s => s.groupChanged g.1.1 g.1.2 g.2

/-! ### Slice-lock (R280, R294) -/

/-- Codes of Table 11-2. -/
def SlkMode.code : SlkMode → Nat
  | .off => 0 | .locked => 1 | .dropped => 2

def State.slice (s : State) (ch : Nat) : Slk := s.slk.getD ch {}
def State.modSlk (s : State) (ch : Nat) (f : Slk → Slk) : State := { s with slk := modAt s.slk ch f }

/-- A mode change with its log entry (R294): reasons 1 RETURN, 2 LATE, 3 INELIGIBLE, 4 SHED, 5 HOST (log entry 47). -/
def State.sliceMode (s : State) (ch : Nat) (m : SlkMode) (reason : Nat) : State :=
  let h := (s.slice ch).head
  (s.modSlk ch fun k => { k with mode := m }).record 0x0603 ((0x20 + h / 8) * 256 + h % 8) [0x1000 + ch, reason, m.code]

/-- The lock ends: the reservation goes at the second Stitch after it (R280). -/
def State.sliceOff (s : State) (ch : Nat) : State :=
  let s := s.when ((s.slice ch).mode ≠ .off) (·.sliceMode ch .off 5)
  s.modSlk ch fun k => { k with mode := .off, pendingDrop := none, freeAt := if k.reserveFrom ≤ s.stitch then some (s.stitch + 2) else none }

def cmdSrcSetFilter : Cmd where
  spec := specSrcSetFilter
  param j s :=
    chkSrc j 0 ++ chkPath j s ++ chk 3 (j.u8 3 ≤ 16 && j.u8 3 * 16 = j.len - 16) ++ rsv j 6 2 ++
    chk 8 (j.u8 12 % 2 = 1 || j.u32 8 = 0) ++ chk 12 (j.u8 12 ≤ 1) ++ rsv j 13 3
  names j := nameAt j 0
  run j s :=
    let f : PathFilter := { sources := (List.range (j.u8 3)).map fun i => beVal (j.bytes (16 + 16 * i) 16)
                            srcPort := j.u16 4, ssrcFixed := j.u8 12 = 1, ssrc := j.u32 8 }
    .ok (s.modSrc (srcIndex (j.u16 0)) fun c =>
      { c with paths := modAt c.paths (j.u8 2) fun p => { p with pendingFilter := some f } }) []

/-- Payload checks of SRC_JOIN and SRC_LEAVE (Table 6-7, R161). -/
def chkJoin (j : Job) (s : State) : List Nat :=
  chkSrc j 0 ++ chkPath j s ++ chk 3 (j.u8 3 ≤ 1) ++ rsv j 4 4 ++ chk 8 (isMulticast (beVal (j.bytes 8 16))) ++
  chk 24 (if j.u8 3 = 0 then beVal (j.bytes 24 16) ≠ 0 else beVal (j.bytes 24 16) = 0)

def joinOf (j : Job) : Join := { path := j.u8 2, mode := j.u8 3, group := beVal (j.bytes 8 16), source := beVal (j.bytes 24 16) }

/-- Change the joins of a channel and report what changes on the path's port. -/
def State.setJoins (s : State) (n : Nat) (x : Join) (f : List Join → List Join) : State :=
  let port := ((s.src n).paths.getD x.path {}).port
  let before := s.membership port x.group
  (s.modSrc n fun c => { c with joins := f c.joins }).groupChanged port x.group before

def cmdSrcJoin : Cmd where
  spec := specSrcJoin
  param := chkJoin
  names j := nameAt j 0
  run j s :=
    let n := srcIndex (j.u16 0)
    let x := joinOf j
    let js := (s.src n).joins
    if js.contains x then .ok s []
    else if 16 ≤ (js.filter fun y => y.path = x.path).length then .fail eNoResource 0x1000
    else .ok (s.setJoins n x (· ++ [x])) []

def cmdSrcLeave : Cmd where
  spec := specSrcLeave
  param := chkJoin
  names j := nameAt j 0
  run j s :=
    let n := srcIndex (j.u16 0)
    let x := joinOf j
    if (s.src n).joins.contains x then .ok (s.setJoins n x (·.erase x)) [] else .fail eState (j.u16 0)

def cmdSrcSetJitter : Cmd where
  spec := specSrcSetJitter
  param j _ := chkSrc j 0 ++ rsv j 2 2 ++ chk 4 (1000 ≤ j.u32 4 && j.u32 4 ≤ 200000) ++ chk 8 (16 ≤ j.u16 8 && j.u16 8 ≤ 1024) ++ rsv j 10 2
  names j := nameAt j 0
  run j s := .ok (s.modSrc (srcIndex (j.u16 0)) fun c => { c with pendingJitter := some (j.u32 4, j.u16 8) }) []

def cmdSrcSetCredit : Cmd where
  spec := specSrcSetCredit
  param j _ := chkId j 0 [1] ++ rsv j 2 2 ++ chk 4 (j.u32 4 ≤ 10000000)
  names j := nameAt j 0
  run j s := .ok (s.modSrc (idIndex (j.u16 0)) fun c => { c with creditUs := j.u32 4 }) []

/-- Codes of Table 6-4 as Table 6-9 gives them. -/
def SrcState.code : SrcState → Nat
  | .closed => 0 | .waiting => 1 | .active => 2 | .silent => 3

/-- A path has accepted a packet within the last 100 ms. -/
def State.receiving (s : State) (p : PathState) : Bool := match p.lastAccepted with
  | some t => decide (s.now < t + 100000000)
  | none => false

/-- The SKEW field: mean over the last second, in µs. -/
def State.skewUs (s : State) (c : Src) : Int :=
  if c.dual then mean ((c.skews.filter fun k => decide (s.now < k.1 + nsPerSec)).map (·.2)) / 1000 else 0

def cmdSrcGetStats : Cmd where
  spec := specSrcGetStats
  param j _ := chkSrc j 0 ++ rsv j 2 2
  names j := nameAt j 0
  run j s :=
    let n := srcIndex (j.u16 0)
    let c := s.src n
    let a := c.paths.getD 0 {}
    let b := c.paths.getD 1 {}
    let k := c.ctr
    let contested := c.contested && s.now < c.contestedUntil
    let flags := b2n contested + 2 * b2n (s.receiving a) + 4 * b2n (c.dual && s.receiving b) +
      8 * b2n (a.filter.ssrcFixed || (c.dual && b.filter.ssrcFixed))
    let ssrc := match a.owned with
      | some x => x
      | none => b.owned.getD 0
    .ok (s.modSrc n fun c => { c with waitPeakNs := 0 })
      (leBytes 1 c.st.code ++ leBytes 1 flags ++ zeros 2 ++ leBytes 4 ssrc ++
        ([a.accepted, b.accepted, k.delivered, k.duplicates, k.lost, k.late, k.reordered, k.strangers, k.contention, k.frames,
          k.incomplete].flatMap (leBytes 8)) ++
        timeBytes c.lastArrival ++ leBytes 4 (sat32 (c.jitterNs / 1000)) ++ leBytes 4 (unsigned 32 (satS 32 (s.skewUs c))) ++
        leBytes 4 (sat32 (c.waitPeakNs / 1000)) ++ zeros 8)

/-- What takes effect at a Stitch boundary: filters, jitter settings and Bobbin loads (R146, R156, R159), and the
once-per-second FEC_UNCORRECTED event. -/
def State.netBoundary (s : State) : State :=
  let path (p : PathState) : PathState := match p.pendingFilter with
    | some f => { p with filter := f, pendingFilter := none, owned := if f.ssrcFixed then some f.ssrc else none
                         before := some (p.filter, p.owned, s.now) }
    | none => p
  -- OVERLOAD tells the drops of the Stitch that ends (log entry 66).
  let s := s.forEach (List.range 8) fun b s =>
    let n := s.net.bobbinDrops.getD b 0
    s.when (n ≠ 0) (·.evtNet (0xD000 + s.net.dropPorts.getD b 0) 13 0xFF b n)
  let src (c : Src) : Src :=
    let c := { c with paths := c.paths.map path, installed := decide (c.st ≠ SrcState.closed) }
    match c.pendingJitter with
    | some (d, r) => { c with depthUs := d, reorder := r, pendingJitter := none }
    | none => c
  let s := { s with net := { s.net with srcs := s.net.srcs.map src, bobbinPkts := List.replicate 8 0
                                        bobbinDrops := List.replicate 8 0 } }
  s.forEach (List.range 4) fun p s =>
    let x := s.port p
    if 0 < x.fecSinceEvt && (match x.fecEvtAt with
        | some t => decide (t + nsPerSec ≤ s.now)
        | none => true) then
      (s.modPort p fun x => { x with fecEvtAt := some s.now, fecSinceEvt := 0 }).evtNet (0xD000 + p) 4 0xFF (sat32 x.fecSinceEvt) 0
    else s

end Sys2Proof.Machine
end

