-- ==== Sys2Proof/Machine/Gimp.lean ====
section
/-! DEFINITION. Gimp records, the Gimp SEI, capture times and freeze detection (spec/08 R192-R209, R213). -/
namespace Sys2Proof.Machine

/-! ### The Gimp table (R192-R197) -/

def State.quota (s : State) (object : Nat) : Quota :=
  if idType object = 1 then s.dec.gimpCh.getD (idIndex object) {} else s.dec.gimpG.getD (idIndex object) {}

def State.modQuota (s : State) (object : Nat) (f : Quota → Quota) : State :=
  { s with dec := if idType object = 1 then { s.dec with gimpCh := modAt s.dec.gimpCh (idIndex object) f }
                  else { s.dec with gimpG := modAt s.dec.gimpG (idIndex object) f } }

/-- Records of a quota (R196). -/
def quotaSize (object : Nat) : Nat := if idType object = 1 then 224 else 32

/-- The record of a frame; the newest with that SEQ. -/
def State.rec? (s : State) (object seq : Nat) : Option GimpRec := (s.quota object).recs.find? fun r => r.seq = seq

/-- Reuse history oldest first, within the quota: live records stay (R196). Records are held newest first. -/
def trimQuota (n : Nat) (l : List GimpRec) : List GimpRec :=
  if l.length ≤ n then l else
  match l.reverse.find? fun r => !r.live with
  | some r => l.reverse.erase r |>.reverse
  | none => l

/-- Allocate a record with the next SEQ (R193, R197). -/
def State.allocRec (s : State) (object : Nat) (r : GimpRec) : State × Nat :=
  let n := (s.quota object).nextSeq
  (s.modQuota object fun q => { q with recs := trimQuota (quotaSize object) ({ r with object, seq := n } :: q.recs)
                                       nextSeq := if n = m32 - 1 then 1 else n + 1 }, n)

def State.modRec (s : State) (object seq : Nat) (f : GimpRec → GimpRec) : State :=
  s.modQuota object fun q => { q with recs := q.recs.map fun r => if r.seq = seq && r.live then f r else r }

/-- Retire a record to history (Table 8-3). -/
def State.retireRec (s : State) (object seq : Nat) : State := s.modRec object seq fun r => { r with live := false }

/-- Set a flag bit of Table 8-2. -/
def setFlag (flags b : Nat) : Nat := flags ||| 2 ^ b

/-- A record marked DISCARDED is retired at once (Table 8-3). -/
def State.discardRec (s : State) (object seq : Nat) : State :=
  (s.modRec object seq fun r => { r with flags := setFlag r.flags 13 }).retireRec object seq

/-- The 64 bytes of Table 8-1. -/
def GimpRec.bytes (r : GimpRec) : List Byte :=
  leBytes 2 r.object ++ leBytes 2 r.flags ++ leBytes 4 r.seq ++ timeBytes r.captureNs ++ timeBytes r.arrivalNs ++
  leBytes 8 r.decodeDone ++ leBytes 1 r.evidence ++ zeros 1 ++ leBytes 2 r.activity ++ leBytes 4 r.counter ++
  leBytes 8 r.signature ++ leBytes 4 r.taintMap ++ leBytes 2 r.tainted ++ leBytes 2 r.uncert

/-! ### The Gimp SEI (R199-R202) -/

/-- What an accepted Gimp SEI carries (Table 8-4). -/
structure Sei where
  captureValid : Bool
  counterValid : Bool
  map : Option (List Byte)
  captureNs : Nat
  counter : Nat
  uncertNs : Nat
deriving DecidableEq, Repr

/-- Parse the payload after the UUID; none when it is ignored under R200. -/
def parseSei (b : List Byte) : Option Sei :=
  let f := byteAt b 1
  let field (off n : Nat) : Nat := beVal ((b.drop off).take n)
  if b.length < 20 || byteAt b 0 ≠ 1 || (f.testBit 0 && field 8 4 > 999999999) then none
  else some { captureValid := f.testBit 0, counterValid := f.testBit 1, map := if f.testBit 2 then some (b.drop 20) else none
              captureNs := field 2 6 * nsPerSec + field 8 4, counter := field 12 4, uncertNs := field 16 4 }

/-- UUID of the Gimp SEI (R199). -/
def gimpUuid : List Byte := beBytes 16 0x6a3c9e1057b24d819f0e2c44b7a1d063

/-- The payload after the UUID of a Gimp SEI (R199). -/
def SeiMsg.gimp? (m : SeiMsg) : Option (List Byte) :=
  if m.payloadType = 5 && m.bytes.take 16 = gimpUuid then some (m.bytes.drop 16) else none

/-- The Gimp SEI that applies to an access unit, and how many others are counted and ignored (R199, R200). DESIGN CHOICE (log entry 109):
"passes" is read as the tests of R200; an SEI whose map is malformed (R202) still applies, without its map. -/
def readSeis (l : List SeiMsg) : Option Sei × Nat :=
  let all := l.filterMap SeiMsg.gimp?
  let good := all.filterMap parseSei
  (good.head?, all.length - b2n (!good.isEmpty))

/-- The states of the cells of a well-formed map of `cols` × `rows` cells (Table 8-5, R202). -/
def parseMap (raw : List Byte) (cols rows : Nat) : Option (List Nat) :=
  let cells := (raw.drop 2).flatMap fun b => List.replicate (b.toNat % 64 + 1) (b.toNat / 64)
  if 2 ≤ raw.length && byteAt raw 0 = cols && byteAt raw 1 = rows && cells.length = cols * rows then some cells else none

/-! ### Capture time (R203, R204, R38) -/

/-- The capture time of a media clock locked to PTP time: the start of the latest tick at or before the arrival (R204). -/
def mediaCapture (arrival ts : Nat) : Nat :=
  let n := arrival * 90000 / nsPerSec
  let k : Int := (n : Int) - ((n + m32 - ts % m32) % m32 : Nat)
  (k * nsPerSec / 90000).toNat

/-- The capture time under a sender report (R204). -/
def State.reportCapture (s : State) (r : SenderReport) (ts : Nat) : Nat :=
  let t : Int := (r.ntpNs : Int) - 2208988800 * nsPerSec + s.utcOffset * nsPerSec
  (t + signed 32 (ts + m32 - r.rtp % m32) * nsPerSec / 90000).toNat

/-- UNCERT in µs, saturating (Table 8-1). -/
def uncertField (us : Nat) : Nat := min us 0xFFFF

/-- The facts of a delivered frame. -/
structure Delivery where
  arrival : Nat
  at_ : Nat
  ts : Nat
  legacy : Bool
  lost : Bool
deriving DecidableEq, Repr

/-- The class, CAPTURE and UNCERT of a channel's frame under a CLOCK and a SRC_UNCERT (Table 8-6), with R38's test at the moment
of delivery; time-stamps of a legacy port prove nothing (R330). -/
def GimpRec.classify (r : GimpRec) (typ clock src : Nat) : GimpRec :=
  let g2 := if typ = 3 || typ = 4 || clock = 1 then some (mediaCapture r.filledNs r.ts) else r.srTime
  let cls : Nat × Nat × Nat :=
    if r.legacy then (4, 0, 0) else match r.seiTime, g2 with
    | some (t, u), _ => (1, t, uncertField (ceilDiv u 1000))
    | none, some t => (2, t, uncertField (src + 12))
    | none, none => (4, 0, 0)
  let demote := cls.1 ≤ 2 && cls.2.2 ≠ 0xFFFF && decide (cls.2.1 > r.filledNs + cls.2.2 * 1000 + r.uDev)
  let cls := if demote then (4, 0, 0) else cls
  { r with evidence := cls.1, captureNs := cls.2.1, uncert := cls.2.2, clockUsed := clock, srcUsed := src
           flags := r.flags - 16 * (r.flags / 16 % 2) + 16 * b2n demote }

/-- Class lowered under R37 or R38. -/
def GimpRec.demoted (r : GimpRec) : Bool := r.flags.testBit 4

/-- An instant lies in a contested interval of the channel (R148, R208). -/
def Src.contestedAt (c : Src) (t : Nat) : Bool :=
  decide (c.contestedSince ≤ t ∧ t < c.contestedUntil) || c.pastContests.any fun x => decide (x.1 ≤ t ∧ t < x.2)

/-- The record of a frame of a channel as filled at delivery (R199-R204, R208, R330). -/
def State.fillRec (s : State) (ch : Nat) (d : Delivery) (seis : List SeiMsg) (field : Bool) : State × GimpRec :=
  let c := s.src ch
  let f := (s.dec.ctxs.getD ch {}).freeze
  let (sei, ignored) := readSeis seis
  let recent := match c.sr with
    | some r => if s.now < r.at_ + 10 * nsPerSec then some r else none
    | none => none
  let counted := sei.any (·.counterValid)
  let flags := b2n sei.isSome + 2 * b2n counted + 32 * b2n (c.contestedAt d.at_) + 4096 * b2n field
  let r : GimpRec :=
    { object := 0x1000 + ch, seq := 0, flags, arrivalNs := d.arrival, arrivalAt := d.at_, filledNs := d.arrival
      counter := if counted then (sei.map Sei.counter).getD 0 else 0
      mapRaw := sei.bind Sei.map, ts := d.ts, legacy := d.legacy, uDev := s.uDev
      seiTime := (sei.filter (·.captureValid)).map fun e => (e.captureNs, e.uncertNs)
      srTime := recent.map fun r => s.reportCapture r d.ts }
  let r := r.classify c.typ f.clock f.srcUncertUs
  (s.modSrc ch fun c => { c with ctr := { c.ctr with seiIgnored := c.ctr.seiIgnored + ignored
                                                     demoted := c.ctr.demoted + b2n r.demoted } }, r)

/-! ### Freeze detection (R194, R205, R206) -/

/-- SIGNATURE (R194). -/
def signature (depth : Nat) (luma : List Nat) : Nat := crc64 (luma.flatMap (leBytes (if depth = 8 then 1 else 2)))

/-- ACTIVITY of a frame against its predecessor of the same size and depth (R206). -/
def activity (depth : Nat) (luma prev : List Nat) : Nat :=
  let sum := ((luma.zip prev).map fun p => ((p.1 : Int) - p.2).natAbs).sum
  let n := max 1 luma.length
  min 0xFFFE (if depth = 8 then 4 * sum / n else sum / n)

def State.ctx (s : State) (ch : Nat) : Ctx := s.dec.ctxs.getD ch {}
def State.modCtx (s : State) (ch : Nat) (f : Ctx → Ctx) : State :=
  { s with dec := { s.dec with ctxs := modAt s.dec.ctxs ch f } }

/-- The frame is judged under the settings in force at its decode-done (R209). -/
def State.rejudge (s : State) (ch seq : Nat) : State :=
  let z := (s.ctx ch).freeze
  let typ := (s.src ch).typ
  match s.rec? (0x1000 + ch) seq with
  | none => s
  | some r =>
    if !(typ = 1 || typ = 2 || typ = 3) || (r.clockUsed = z.clock && r.srcUsed = z.srcUncertUs) then s else
    let n := r.classify typ z.clock z.srcUncertUs
    (s.modRec (0x1000 + ch) seq fun _ => n).modSrc ch fun c =>
      { c with ctr := { c.ctr with demoted := c.ctr.demoted + b2n (n.demoted && !r.demoted) } }

/-- `freeze_update` of R206, for the frames of a channel in output order: a frame's SEQ, its output luma, size and depth, under the
settings `z` in force at its decode-done. Its predecessor is known when it is output, and then its record is final (log entry
42). -/
def State.freezeUpdate (s : State) (ch seq : Nat) (z : Freeze) (luma : List Nat) (w h depth : Nat) : State :=
  let object := 0x1000 + ch
  match s.rec? object seq with
  | none => s
  | some f =>
  let c := s.ctx ch
  let p := c.prevSeq.bind (s.rec? object ·)
  let same := c.prevSeq ≠ none && c.prevW = w && c.prevH = h && c.prevDepth = depth
  let act := if same then activity depth luma c.prevLuma else 0xFFFF
  let sigRun := match p with
    | some q => if same && q.signature = f.signature then c.sigRun + 1 else 0
    | none => 0
  let ctrRun := match p with
    | some q => if same && f.flags.testBit 1 && q.flags.testBit 1 && f.counter = q.counter then c.ctrRun + 1 else 0
    | none => 0
  let skipRun := if f.flags.testBit 7 then (if same then c.skipRun else 0) + 1 else 0
  let start := if same then c.stillStart else none
  let still : Option Int := if z.noise && act < z.floor_ then some (start.getD f.arrivalNs) else none
  let firedStill := match still with
    | some t => decide (t + z.stillUs * 1000 ≤ (f.arrivalNs : Int))
    | none => false
  let fired := 256 * b2n (z.sigN ≤ sigRun) + 512 * b2n firedStill + 1024 * b2n (z.counterN ≤ ctrRun) +
    2048 * b2n (z.skipN ≤ skipRun)
  (s.modRec object seq fun r => { r with activity := act, flags := setFlag (r.flags ||| fired) 14 }).modCtx ch fun c =>
    { c with sigRun, ctrRun, skipRun, stillStart := still, prevSeq := some seq, prevLuma := luma, prevW := w, prevH := h
             prevDepth := depth }

/-- The FIRED bits of a record in the bit order of ENABLES (Table 8-9). -/
def GimpRec.fired (r : GimpRec) : Nat := bits r.flags 11 8

/-- New freeze settings at a Stitch boundary (R209). -/
def Ctx.takeFreeze (c : Ctx) : Ctx := match c.pendingFreeze with
  | none => c
  | some f =>
    let ends := f.floor_ ≠ c.freeze.floor_ || f.stillUs ≠ c.freeze.stillUs || f.noise ≠ c.freeze.noise
    { c with freeze := f, pendingFreeze := none, stillStart := if ends then none else c.stillStart }

def cmdFreezeSet : Cmd where
  spec := specFreezeSet
  param j _ :=
    chkId j 0 [1] ++ chk 2 (j.u8 2 ≤ 15) ++ chk 3 (j.u8 3 ≤ 1) ++ chk 4 (1 ≤ j.u16 4) ++ chk 6 (1 ≤ j.u16 6) ++
    chk 8 (1 ≤ j.u16 8) ++ chk 10 (1 ≤ j.u16 10) ++ chk 12 (100000 ≤ j.u32 12 && j.u32 12 ≤ 60000000) ++ chk 16 (j.u8 16 ≤ 1) ++
    rsv j 17 3 ++ chk 20 (j.u32 20 ≤ 1000000)
  names j := nameAt j 0
  run j s :=
    let ch := idIndex (j.u16 0)
    if (s.src ch).typ = 4 then .fail eParam 16 else
    let f : Freeze := { enables := j.u8 2, noise := j.u8 3 = 1, sigN := j.u16 4, counterN := j.u16 6, skipN := j.u16 8
                        floor_ := j.u16 10, stillUs := j.u32 12, clock := j.u8 16, srcUncertUs := j.u32 20 }
    .ok (s.modCtx ch fun c => { c with pendingFreeze := some f }) []

def cmdProvRead : Cmd where
  spec := specProvRead
  param j _ := chkId j 0 [1, 4] ++ chk 2 (1 ≤ j.u8 2 && j.u8 2 ≤ 15) ++ rsv j 3 1
  names j := nameAt j 0
  run j s :=
    let object := j.u16 0
    let q := s.quota object
    let first := if j.u32 4 = 0 then q.recs.head?.map (·.seq) else some (j.u32 4)
    match first with
    | none => .fail eState object
    | some a =>
    let back (k : Nat) : Nat := if k < a then a - k else m32 - 1 - (k - a)
    let got := ((List.range (j.u8 2)).map fun k => s.rec? object (back k)).takeWhile Option.isSome
    let body := got.flatMap fun r => (r.map GimpRec.bytes).getD []
    if got.isEmpty then .fail eState object
    else if got.length < j.u8 2 then .part s got.length body
    else .ok s body

end Sys2Proof.Machine
end

