-- ==== Sys2Proof/Machine/Picture.lean ====
section
/-! DEFINITION. The samples of a picture: where they lie in its buffer, the output picture, substitutes and concealment
(spec/07 R167, R182-R184, spec/08 R194). -/
namespace Sys2Proof.Machine

/-- Mid-grey at a bit depth (R167, R182). -/
def midGrey (depth : Nat) : Nat := 2 ^ (depth - 1)

/-- Chroma samples in a line of `w` luma samples, and chroma lines in `h` luma lines, as stored: 4:2:0, or 4:2:2 (R157). -/
def chromaCols (w : Nat) : Nat := ceilDiv w 2
def chromaLines (chroma h : Nat) : Nat := if chroma = 2 then h else ceilDiv h 2

/-- A picture of one value in every sample of a plane. -/
def flatSamples (w h chroma yv cv : Nat) : Samples :=
  let n := chromaCols w * chromaLines chroma h
  { y := List.replicate (w * h) yv, cb := List.replicate n cv, cr := List.replicate n cv }

/-- A mid-grey picture (R182). -/
def greyBuf (w h depth : Nat) : Buf :=
  { width := w, height := h, outW := w, outH := h, bitDepth := depth, ctu := max 1 h
    rowPix := [(0, flatSamples w h 1 (midGrey depth) (midGrey depth))] }

/-- Samples of CTU row `k`, if they are there. -/
def Buf.row? (b : Buf) (k : Nat) : Option Samples := (b.rowPix.find? fun r => r.1 = k).map (·.2)

/-- `n` luma samples of coded line `y` from column `x`. -/
def Buf.lumaRun (b : Buf) (x y n : Nat) : List Nat :=
  match b.row? (y / max 1 b.ctu) with
  | some r => (r.y.drop (y % max 1 b.ctu * b.width + x)).take n
  | none => List.replicate n 0

/-- A luma sample in coded coordinates; one that is not there reads 0. -/
def Buf.lumaAt (b : Buf) (x y : Nat) : Nat := (b.lumaRun x y 1).headD 0

/-- Cb and Cr at column `i` and line `j` of the chroma planes. -/
def Buf.chromaAt (b : Buf) (i j : Nat) : Nat × Nat :=
  let lines := max 1 (chromaLines b.chroma b.ctu)
  match b.row? (j / lines) with
  | some r => let k := j % lines * chromaCols b.width + i
              (r.cb.getD k (midGrey b.bitDepth), r.cr.getD k (midGrey b.bitDepth))
  | none => (midGrey b.bitDepth, midGrey b.bitDepth)

/-- Luma of the output picture in raster order (R194). -/
def Buf.outLuma (b : Buf) : List Nat := (List.range b.outH).flatMap fun j => b.lumaRun b.cropX (b.cropY + j) b.outW

/-- A picture that is not coded: one row of samples over its whole height. -/
def plainBuf (seq w h depth chroma : Nat) (p : Samples) : Buf :=
  { seq, poc := seq, width := w, height := h, outW := w, outH := h, bitDepth := depth, chroma, ctu := max 1 h, rowPix := [(0, p)] }

/-- The value that fills a concealed sample (R183): the co-located sample of the picture decoded last, or mid-grey. -/
def fillWith (last : Option Buf) (cur : Buf) (at_ : Buf → Nat) : Nat :=
  match last with
  | some b => if b.width = cur.width && b.height = cur.height && b.bitDepth = cur.bitDepth then at_ b else midGrey cur.bitDepth
  | none => midGrey cur.bitDepth

/-- The samples of CTU row `k` of a picture with the concealed ones filled (R183). `hit x y`: the luma sample is concealed. -/
def Buf.fillRow (cur : Buf) (last : Option Buf) (k : Nat) (hit : Nat → Nat → Bool) (p : Samples) : Samples :=
  let y0 := k * cur.ctu
  let cw := max 1 (chromaCols cur.width)
  let j0 := k * chromaLines cur.chroma cur.ctu
  let tall := if cur.chroma = 2 then 1 else 2
  let chroma (pick : Nat × Nat → Nat) (l : List Nat) : List Nat := l.mapIdx fun n v =>
    let i := n % cw
    let j := j0 + n / cw
    if hit (2 * i) (tall * j) then fillWith last cur fun b => pick (b.chromaAt i j) else v
  { y := p.y.mapIdx fun n v =>
      let x := n % max 1 cur.width
      let y := y0 + n / max 1 cur.width
      if hit x y then fillWith last cur fun b => b.lumaAt x y else v
    cb := chroma (·.1) p.cb
    cr := chroma (·.2) p.cr }

/-- The samples of CTU row `k` with those put in that are copied from another picture. `from_ x y`: that picture and the displacement
of the luma sample. -/
def Buf.copyRow (cur : Buf) (k : Nat) (from_ : Nat → Nat → Option (Buf × Int × Int)) (p : Samples) : Samples :=
  let cl (v : Int) (n : Nat) : Nat := (max 0 (min v ((n : Int) - 1))).toNat
  let cw := max 1 (chromaCols cur.width)
  let j0 := k * chromaLines cur.chroma cur.ctu
  let tall := if cur.chroma = 2 then 1 else 2
  let chroma (pick : Nat × Nat → Nat) (l : List Nat) : List Nat := l.mapIdx fun n v =>
    let i := n % cw
    let j := j0 + n / cw
    match from_ (2 * i) (tall * j) with
    | some (b, dx, dy) => pick (b.chromaAt (cl (i + dx / 2) (chromaCols b.width)) (cl (j + dy / tall) (chromaLines b.chroma b.height)))
    | none => v
  { y := p.y.mapIdx fun n v =>
      let x := n % max 1 cur.width
      let y := k * cur.ctu + n / max 1 cur.width
      match from_ x y with
      | some (b, dx, dy) => b.lumaAt (cl (x + dx) b.width) (cl (y + dy) b.height)
      | none => v
    cb := chroma (·.1) p.cb
    cr := chroma (·.2) p.cr }

end Sys2Proof.Machine
end

