-- ==== Sys2Proof/Machine/Decoder.lean ====
section
/-! DEFINITION. Decode contexts, pools, scheduling, missing references, taint and recovery (spec/07). -/
namespace Sys2Proof.Machine

/-- EVT_DECODE (Tables 7-11 and 7-12), at most once per code and channel in a Stitch; later ones are counted (R190). -/
def State.evtDecode (s : State) (ch code reason arg0 arg1 seq : Nat) : State :=
  if s.ses.onceThisStitch.contains (0x09, 0x1000 + ch, code) then
    s.modCtx ch fun c => { c with evMissed := modAt c.evMissed (code - 1) fun n => satAdd32 n 1 }
  else s.raiseOnce 0x09 (0x1000 + ch) code
    (leBytes 1 code ++ leBytes 1 reason ++ zeros 2 ++ leBytes 4 arg0 ++ leBytes 4 arg1 ++ leBytes 4 seq)

/-- Add energy of work to a power domain in this Stitch (spec/15 R354). -/
def State.addWork (s : State) (dom pj : Nat) : State :=
  { s with nrg := { s.nrg with work := modAt s.nrg.work dom (· + pj) } }

/-! ### Profiles, levels and the CPB (Tables 7-1 and 7-4) -/

def levels (codec : Nat) : List Nat :=
  if codec = 1 then [9, 10, 11, 12, 13, 20, 21, 22, 30, 31, 32, 40, 41, 42, 50, 51, 52]
  else [30, 60, 63, 90, 93, 120, 123, 150, 153]

/-- MaxCPB of H.264 Table A-1 and of the HEVC Main tier (PRESUMED from the standards R172 names). -/
def maxCpb (codec level : Nat) : Nat :=
  let t := if codec = 1 then [350, 175, 500, 1000, 2000, 2000, 4000, 4000, 10000, 14000, 20000, 25000, 62500, 62500, 135000,
      240000, 240000]
    else [350, 1500, 3000, 6000, 10000, 12000, 20000, 25000, 40000]
  ((levels codec).zip t).find? (fun x => x.1 = level) |>.map (·.2) |>.getD 0

/-- The least legal CPB in KiB (R172). -/
def leastCpb (codec profile level : Nat) : Nat :=
  let factor := if codec = 2 then 1100 else if profile = 3 then 1500 else 1200
  ceilDiv (maxCpb codec level * factor) 8192

/-- A stream conforms to a profile of Table 7-1 (R518): codes that its indications declare. -/
def spsProfiles (p : SpsInfo) (codec : Nat) : List Nat :=
  if codec = 1 then
    (if (p.profileIdc = 66 && p.flagB) || (p.flagA && p.flagB) then [1] else []) ++
    (if p.profileIdc = 77 || p.flagB then [2] else []) ++ (if p.profileIdc = 100 then [3] else [])
  else
    let main := p.profileIdc = 1 || p.flagA
    (if main then [1] else []) ++ (if p.profileIdc = 2 || p.flagB || main then [2] else [])

/-- MaxDpbMbs of H.264 Table A-1, and MaxLumaPs of HEVC Table A.8 (PRESUMED from the standards, log entry 43). -/
def levelSize (codec level : Nat) : Nat :=
  let t := if codec = 1 then [396, 396, 900, 2376, 2376, 2376, 4752, 8100, 8100, 18000, 20480, 32768, 32768, 34816, 110400, 184320,
      184320]
    else [36864, 122880, 245760, 552960, 983040, 2228224, 2228224, 8912896, 8912896]
  ((levels codec).zip t).find? (fun x => x.1 = level) |>.map (·.2) |>.getD 0

/-- The DPB size that a level implies for a coded picture size (R168, log entry 43). -/
def levelDpb (codec level w h : Nat) : Nat :=
  let m := levelSize codec level
  if codec = 1 then min 16 (m / max 1 (ceilDiv w 16 * ceilDiv h 16))
  else
    let ps := w * h
    if 4 * ps ≤ m then 16 else if 2 * ps ≤ m then 12 else if 4 * ps ≤ 3 * m then 8 else 6

/-- The DPB size of a sequence parameter set: declared, or implied by its level (R168). -/
def spsDpb (p : SpsInfo) (codec : Nat) : Nat := p.dpb.getD (levelDpb codec p.level p.width p.height)

/-- The chroma formats that are accepted (R167): 4:2:0, and 4:0:0 in H.264 High. -/
def spsChroma (p : SpsInfo) (codec : Nat) : Bool :=
  p.chroma = 1 || (p.chroma = 0 && codec = 1 && (spsProfiles p codec).contains 3)

/-- The check of R168: reason, value found and limit of Table 7-12 code 3; a profile also decodes those below it. A chroma format
outside R167 counts as a tool (log entry 43). -/
def Ctx.outOfLimits (c : Ctx) (p : SpsInfo) : Option (Nat × Nat × Nat) :=
  let need := spsDpb p c.codec + 1
  if !(spsProfiles p c.codec).any (· ≤ c.profile) then some (1, p.profileIdc, c.profile)
  else if p.level > c.level then some (2, p.level, c.level)
  else if p.bitDepth > c.bitDepth then some (3, p.bitDepth, c.bitDepth)
  else if p.width > c.maxW then some (4, p.width, c.maxW)
  else if p.height > c.maxH then some (4, p.height, c.maxH)
  else if need > c.bufs.length then some (5, need, c.bufs.length)
  else if !p.frameMbsOnly then some (6, 0, 1)
  else if p.tool ≠ 0 then some (7, p.tool, 0)
  else if !spsChroma p c.codec then some (7, p.chroma, 1)
  else none

/-- The sequence parameter set `ps` that an access unit refers to, or why no picture of it can be decoded, as code, reason and
arguments of Table 7-12: a parameter set it names is missing, or its sequence parameter set is out of limits (R168, R518). -/
def Ctx.usable (c : Ctx) (a : AuInfo) (ps : Option SpsInfo) : Except (Nat × Nat × Nat × Nat) SpsInfo :=
  match a.missingPs, ps with
  | some (kind, id), _ => .error (4, kind, id, 0)
  | none, none => .error (4, 1, 0, 0)
  | none, some p => match c.outOfLimits p with
    | some (why, found, limit) => .error (3, why, sat32 found, sat32 limit)
    | none => .ok p

/-! ### The pool (R176, R177) -/

def Ctx.holds (b : Buf) : Nat := b.dispHolds.length + b.encHolds.length

/-- Marks of a buffer (Table 7-5). -/
def Ctx.marks (c : Ctx) (i : Nat) : Nat :=
  let b := c.bufs.getD i {}
  b2n b.shortRef + 2 * b2n b.longRef +
  4 * b2n (!b.shortRef && !b.longRef && !b.decoding && (b.awaitOutput || c.latest = some i)) +
  8 * b2n (!b.dispHolds.isEmpty) + 16 * b2n (!b.encHolds.isEmpty) + 32 * b2n b.decoding

def Ctx.free (c : Ctx) (i : Nat) : Bool := c.marks i = 0

def Ctx.modBuf (c : Ctx) (i : Nat) (f : Buf → Buf) : Ctx := { c with bufs := modAt c.bufs i f }

/-- Buffers that have become FREE lose their picture and its record is retired (R177, Table 8-3). -/
def State.sweep (s : State) (ch : Nat) : State :=
  let c := s.ctx ch
  s.forEach ((List.range c.bufs.length).filter fun i => c.free i && (c.bufs.getD i {}).seq ≠ 0) fun i s =>
    (s.retireRec (0x1000 + ch) (c.bufs.getD i {}).seq).modCtx ch fun c => c.modBuf i fun _ => {}

/-- The buffer that awaits output with a POC. -/
def Ctx.awaiting (c : Ctx) (poc : Int) : Option Nat := c.bufs.findIdx? fun b => b.awaitOutput && b.poc = poc

/-- The picture that the current output picture gives way to, as long as another one does so. -/
def Ctx.shown (c : Ctx) : Option Buf := (c.latest.bind (c.bufs[·]?)).filter fun b => b.seq ≠ 0

/-- A picture is output (R177): the freeze criteria judge it (R205, R206), and it becomes the channel's current picture. -/
def State.outputPicture (s : State) (ch : Nat) (poc : Int) : State :=
  match (s.ctx ch).awaiting poc with
  | none => s
  | some i =>
    let b := (s.ctx ch).bufs.getD i {}
    ((s.freezeUpdate ch b.seq b.judge b.outLuma b.outW b.outH b.bitDepth).modCtx ch fun c =>
      { c.modBuf i fun b => { b with awaitOutput := false } with latest := some i, prevOut := c.shown.or c.prevOut }).sweep ch

/-- A frame that is never output meets no criterion: its record is final without them (R195; log entry 42). -/
def State.finishRec (s : State) (ch seq : Nat) : State := s.modRec (0x1000 + ch) seq fun r => { r with flags := setFlag r.flags 14 }

/-- The next picture of the bumping process: the lowest POC that awaits output. -/
def Ctx.nextOut (c : Ctx) : Option Int := ((c.bufs.filter (·.awaitOutput)).map (·.poc)).min?

/-- Output while `more` holds of the context (the bumping process, R177; log entry 43). -/
def bumpWhile (ch : Nat) (more : Ctx → Bool) : Nat → State → State
  | 0, s => s
  | n + 1, s => match (s.ctx ch).nextOut with
    | some poc => if more (s.ctx ch) then bumpWhile ch more n (s.outputPicture ch poc) else s
    | none => s

/-- The reorder depth or the latency of a sequence parameter set is exceeded. -/
def Ctx.mustOutput (p : SpsInfo) (c : Ctx) : Bool :=
  let wait := c.bufs.filter (·.awaitOutput)
  p.reorder < wait.length || (match p.maxLatency with
    | some n => wait.any fun b => b.order + n ≤ c.order
    | none => false)

/-- What the bumping process puts out before a picture is decoded. -/
def State.bumpBefore (s : State) (ch : Nat) (a : AuInfo) (p : SpsInfo) : State :=
  match a.emptiesDpb with
  | some true =>
    let lost := (s.ctx ch).bufs.filter fun b => b.awaitOutput && !b.decoding
    ((s.forEach lost fun b s => s.finishRec ch b.seq).modCtx ch fun c =>
      { c with bufs := c.bufs.map fun b => if b.decoding then b else { b with awaitOutput := false } }).sweep ch
  | some false => bumpWhile ch (fun _ => true) 20 s
  | none => bumpWhile ch (fun c => c.mustOutput p ||
      spsDpb p c.codec ≤ (c.bufs.filter fun b => b.shortRef || b.longRef || b.awaitOutput).length) 20 s

/-- Pictures with these POCs stop being references. -/
def Ctx.dropRefs (c : Ctx) (pocs : List Int) : Ctx :=
  { c with bufs := c.bufs.map fun b =>
      if !b.decoding && pocs.contains b.poc && (b.shortRef || b.longRef) then { b with shortRef := false, longRef := false } else b }

/-- No picture is a reference or awaits output any more. -/
def Ctx.clearRefs (c : Ctx) : Ctx :=
  { c with bufs := c.bufs.map fun b => { b with shortRef := false, longRef := false, awaitOutput := false }
           lastPic := none, window := none, recDrop := none }

/-- Discard the CPB; its records were never decoded. -/
def State.dropCpb (s : State) (ch : Nat) : State :=
  let us := (s.ctx ch).cpb
  let s := s.forEach us fun u s => s.discardRec (0x1000 + ch) u.seq
  s.modCtx ch fun c => { c with cpb := [] }

/-- Discard the picture under reconstruction. -/
def State.dropCur (s : State) (ch : Nat) : State :=
  match (s.ctx ch).cur with
  | none => s
  | some p =>
    (s.discardRec (0x1000 + ch) p.unit.seq).modCtx ch fun c => { c.modBuf p.buf fun _ => {} with cur := none }

/-- Discard the CPB and references and release all frames (Table 7-3, R50). -/
def State.flushCtx (s : State) (ch : Nat) (st : DecState) : State :=
  let s := ((s.dropCpb ch).dropCur ch).releaseFrames (0x1000 + ch)
  s.modCtx ch fun c => { c.clearRefs with st, bufs := List.replicate c.bufs.length {}, latest := none, prevOut := none, waiting := 0
                                          craStart := none }

/-- The planner pauses a channel (R181): nothing more starts. The records of what it holds stay as they are (R364), and a picture
under reconstruction is finished (log entry 98). -/
def State.shedChannel (s : State) (ch : Nat) : State :=
  let c := s.ctx ch
  if c.st = .seeking || c.st = .recovering || c.st = .decoding then s.modCtx ch fun c => { c with st := .shed } else s

/-- The planner resumes a channel (Table 7-3): it keeps only the latest output picture. -/
def State.resumeChannel (s : State) (ch : Nat) : State :=
  if (s.ctx ch).st = .shed then
    (((s.dropCpb ch).dropCur ch).modCtx ch fun c => { c.clearRefs with st := .seeking }).sweep ch
  else s

/-! ### Delivery of access units (R173, R181, R189, R197) -/

/-- The sequence parameter set an access unit refers to: the one it carries, or the one last received (R518). -/
def Ctx.spsOf (c : Ctx) (a : AuInfo) : Option SpsInfo := match a.sps with
  | some p => some p
  | none => c.sps

/-- Whether decoding can start at an access unit that refers to `ps` (R189): 0 IDR or IRAP, 1 recovery point, 2 JOIN_ANY. -/
def Ctx.startPoint (c : Ctx) (a : AuInfo) (ps : Option SpsInfo) : Option Nat :=
  if a.start then some 0 else if a.recovery.isSome then some 1
  else if c.joinAny && a.missingPs = none && ps.isSome then some 2 else none

/-- Luma samples of a picture (Table 15-1). -/
def lumaOf (p : Option SpsInfo) : Nat := (p.map fun p => p.width * p.height).getD 0

/-- What the planner charges for a picture (R180): the greater of its reconstruction and its parsing. -/
def chargeOf (p : Option SpsInfo) (a : AuInfo) : Nat := max (lumaOf p) (ceilDiv a.rowBins.sum 2)

/-- A start point is found (Table 7-3). -/
def State.startAt (s : State) (ch : Nat) (a : AuInfo) (how seq irap : Nat) : State :=
  let s := (s.modCtx ch fun c => { c.clearRefs with st := if how = 1 then .recovering else .decoding
                                                    craStart := if a.cra then some irap else none }).sweep ch
  s.evtDecode ch 7 how (unsigned 32 a.poc) 0 seq

/-- An access unit is delivered to the decode context of its channel. -/
def State.deliverUnit (s : State) (ch : Nat) (d : Delivery) (a : AuInfo) (given : Option GimpRec := none)
    (gone hurt : List Nat := []) : State :=
  let object := 0x1000 + ch
  let c := s.ctx ch
  if c.st = .unconfigured || c.st = .configured then s else
  let ps := c.spsOf a
  let irap := c.iraps + b2n a.start
  let s := s.modCtx ch fun c =>
    { c with sps := ps, iraps := irap, recent := (s.now, chargeOf ps a, lumaOf ps, a.skippable) :: c.recent.filter fun x => decide (s.now < x.1 + nsPerSec) }
  if c.sub0 && a.skippable && c.st ≠ .shed then s else
  let (s, r) := match given with
    | some r => (s, r)
    | none => s.fillRec ch d a.seis a.field
  let (s, seq) := s.allocRec object r
  let drop (s : State) : State := (s.discardRec object seq).modCtx ch fun c => { c with discarded := c.discarded + 1 }
  if c.st = .shed then drop s else
  match (if c.st = .seeking then c.usable a ps else .error (0, 0, 0, 0)) with
  | .error (4, why, x, y) => (drop s).evtDecode ch 4 why x y seq
  | use =>
  let start := if c.st = .seeking then c.startPoint a ps else none
  if c.st = .seeking && start = none then drop s else
  match c.st, use with
  | .seeking, .error (code, why, x, y) => (drop s).evtDecode ch code why x y seq
  | _, _ =>
  if a.rasl && c.craStart = some irap && c.st ≠ .seeking then drop s else
  let used := ((c.cpb ++ (c.cur.map CurPic.unit).toList).map fun u => u.info.bytes).sum
  let room := c.cpbKib * 1024
  if a.bytes > room then (drop s).evtDecode ch 6 1 (sat32 a.bytes) (sat32 (room - used)) seq
  else if a.bytes > room - used || 64 ≤ c.cpb.length then (drop s).evtDecode ch 6 2 (sat32 a.bytes) (sat32 (room - used)) seq
  else
    let s := match start with
      | some how => s.startAt ch a how seq irap
      | none => s
    s.modCtx ch fun c => { c with cpb := c.cpb ++
      [{ seq, info := a, sps := ps, gone, hurt, arrival := d.arrival, stitch := s.stitch, lost := d.lost, irap }] }

/-- A further slice of a unit is delivered (R282): the record's arrival rises to the slice's, and CONTESTED follows it (R208). -/
def State.deliverSlice (s : State) (ch seq : Nat) (k : SliceIn) (at_ : Nat) : State :=
  let s := if k.lost && k.arrival = 0 then s else s.modRec (0x1000 + ch) seq fun r =>
    let at1 := max r.arrivalAt at_
    { r with arrivalNs := max r.arrivalNs k.arrival, arrivalAt := at1
             flags := r.flags - 32 * (r.flags / 32 % 2) + 32 * b2n ((s.src ch).contestedAt at1) }
  let add (u : CpbUnit) : CpbUnit :=
    if u.seq = seq then { u with slices := u.slices ++ [k], lost := u.lost || k.lost, hurt := u.hurt ++ if k.lost then [k.n] else [] } else u
  s.modCtx ch fun c => { c with cpb := c.cpb.map add, cur := c.cur.map fun p => { p with unit := add p.unit } }

/-- A slice of which no packet is left (R154, R183). -/
def State.sliceGone (s : State) (ch seq j : Nat) : State :=
  let add (u : CpbUnit) : CpbUnit := if u.seq = seq then { u with gone := u.gone ++ [j] } else u
  s.modCtx ch fun c => { c with cpb := c.cpb.map add, cur := c.cur.map fun p => { p with unit := add p.unit } }

/-- No further slice of a unit follows: those not delivered are lost (R154, R183). -/
def State.closeSlices (s : State) (ch seq : Nat) : State :=
  let fin (u : CpbUnit) : CpbUnit :=
    if u.seq = seq then
      let gone := (List.range u.info.slices.length).filter fun n => !u.slices.any fun k => k.n = n
      let lost : List SliceIn := gone.map fun n => { n, arrival := 0, stitch := s.stitch, lost := true }
      { u with whole := true, slices := u.slices ++ lost, gone := u.gone ++ gone, lost := u.lost || !gone.isEmpty }
    else u
  s.modCtx ch fun c => { c with cpb := c.cpb.map fin, cur := c.cur.map fun p => { p with unit := fin p.unit } }

/-! ### Scheduling (R178-R180, R18) -/

/-- A core as the dispatcher sees it: number, time used of the Stitch in ns, ns per luma sample (2 at half clock), and time used of
its parser (R180). -/
structure CoreUse where
  core : Nat
  used : Nat
  mult : Nat
  parser : Nat := 0
deriving DecidableEq, Repr

/-- Place the rows of a picture on cores (R179, R180): the rows with what is left of them, and the cores. `pick` gives the place in
`cores` of the row with an index in `rows`. `bin0` bins are parsed already; the parser of the first core starts at `p0`. Row r
starts no earlier than `offset` samples' time after row r - 1 has started. -/
def placeRows (base offset bin0 p0 : Nat) (pick : Nat → RowLeft → Nat) (rows : List RowLeft) (cores : List CoreUse) :
    List RowLeft × List CoreUse :=
  let slow := (cores.headD ⟨0, 0, 1, 0⟩).mult
  let parse (bins : Nat) : Nat := if bins ≤ bin0 then 0 else p0 + ((bins - bin0) * slow + 1) / 2
  let step (acc : List RowLeft × List CoreUse × Nat × Nat) (r : RowLeft) : List RowLeft × List CoreUse × Nat × Nat :=
    let (out, cs, i, earliest) := acc
    let k := pick i r
    let c := cs.getD k ⟨0, stitchNs, 1, 0⟩
    let begun := r.start ≠ 0
    let start := if begun then c.used else max c.used (max earliest (parse r.bins))
    let fin := start + r.rem * c.mult
    let used := if start ≥ stitchNs then c.used else min fin stitchNs
    let rem := if start ≥ stitchNs then r.rem else if fin ≤ stitchNs then 0 else ceilDiv (fin - stitchNs) c.mult
    let at_ := if begun then r.start else if start < stitchNs then base + start else 0
    let next := if begun then r.start + offset * c.mult - base else start + offset * c.mult
    (out ++ [{ r with rem, core := c.core, start := at_, due := if start < stitchNs && fin ≤ stitchNs then base + fin else 0 }],
      cs.set k { c with used }, i + 1, next)
  let res := rows.foldl step ([], cores, 0, 0)
  let busy := min stitchNs (parse ((rows.map RowLeft.bins).foldl max bin0))
  (res.1, res.2.1.mapIdx fun i c => if i = 0 then { c with parser := max c.parser busy } else c)

/-- Rows in rotation over `n` cores (R179). -/
def inTurn (n i : Nat) (_ : RowLeft) : Nat := i % max 1 n

/-- Rows on the cores that hold them (R178). -/
def whereHeld (cores : List CoreUse) (_ : Nat) (r : RowLeft) : Nat := (cores.findIdx? fun c => c.core = r.core).getD 0

/-- As many cores as a picture needs to finish within the Stitch, up to every core with capacity left (R179). -/
def spread (base offset bin0 : Nat) (rows : List RowLeft) (cores : List CoreUse) : List RowLeft × List CoreUse :=
  let open_ := cores.filter fun c => c.used < stitchNs
  let attempt (n : Nat) : List RowLeft × List CoreUse :=
    placeRows base offset bin0 ((open_.headD ⟨0, 0, 1, 0⟩).parser) (inTurn n) rows (open_.take n)
  let res := (((List.range open_.length).map fun i => attempt (i + 1)).find? fun r => r.1.all fun x => x.due ≠ 0).getD
    (attempt open_.length)
  (res.1, cores.map fun c => (res.2.find? fun d => d.core = c.core).getD c)

/-- The rows of a picture: samples of each (R179) with the bins up to its end (R180). -/
def pictureRows (codec : Nat) (p : SpsInfo) (a : AuInfo) : List RowLeft :=
  let w := if codec = 1 then ceilDiv p.width 16 * 16 else p.width
  let h := if codec = 1 then ceilDiv p.height 16 * 16 else p.height
  let ctu := max 1 a.ctu
  (List.range (ceilDiv h ctu)).map fun r =>
    let n := w * min ctu (h - r * ctu)
    { row := r, samples := n, rem := n, bins := (a.rowBins.take (r + 1)).sum, core := 0, due := 0 }

/-- Bins that are parsed by the end of the Stitch on a core that takes `mult` ns for two of them. -/
def parsedBy (bin0 p0 mult : Nat) (rows : List RowLeft) : Nat :=
  min (bin0 + (stitchNs - p0) * 2 / max 1 mult) ((rows.map RowLeft.bins).foldl max bin0)

/-- The cores with their capacity in a Stitch: cores of a cluster that is on and stays on (R381), at half clock when throttled. -/
def State.coreUses (s : State) (stitch : Nat) : List CoreUse :=
  let o (c : Nat) : Nat := 0x1000 + 0x100 * (c / 2) + c % 2
  ((List.range 8).filter fun c => s.domainOn (3 + c / 2) && !s.leaving stitch (3 + c / 2) && !(s.hoop.resetting.any fun r => originCovers r.1 (o c)) &&
      !(s.hoop.bist.st = 1 && originCovers s.hoop.bist.origin (o c))).map fun c =>
    ⟨c, 0, if s.hoop.throttle = some (3 + c / 2) then 2 else 1, 0⟩

/-- The cores that a Stitch was planned with (R17, R361), as far as they serve it: work is bound to the planned capacity. The first
Stitches after reset, for which no plan was made, use every core. -/
def State.plannedCores (s : State) : List CoreUse :=
  let now := s.coreUses s.stitch
  match s.nrg.planned with
  | p :: _ :: _ :: _ => now.filterMap fun c => (p.cores.find? fun q => q.1 = c.core).map fun q => { c with mult := max c.mult q.2 }
  | _ => now

/-- Rows of a picture of a slice-locked channel that are ready: those of the slices delivered before this Stitch and not yet
dispatched; an ineligible picture's rows when it is whole. -/
def CpbUnit.readyRows (u : CpbUnit) (stitch : Nat) (rows : List RowLeft) : List RowLeft :=
  if !u.info.byRows then (if u.whole then rows else []) else
  let new := u.slices.filter fun k => !k.started && decide (k.stitch < stitch)
  rows.filter fun r => new.any fun k =>
    let (a, n) := u.info.slices.getD k.n (0, 0)
    a ≤ r.row && r.row < a + n

/-- The slices that are dispatched now. -/
def CpbUnit.startSlices (u : CpbUnit) (stitch : Nat) : CpbUnit :=
  { u with slices := u.slices.map fun k => if !k.started && decide (k.stitch < stitch) then { k with started := true } else k }

/-- A picture is eligible for the slice-locked path (R277). -/
def eligible (a : AuInfo) (rows : List RowLeft) : Bool :=
  a.byRows && !a.reorders && a.slices.all fun k =>
    ((rows.filter fun r => k.1 ≤ r.row && r.row < k.1 + k.2).map RowLeft.samples).sum ≤ 262144

/-- Holders across the pool. -/
def Ctx.holders (c : Ctx) : Nat := (c.bufs.map Ctx.holds).sum

/-- A reference that the decoding process needs and the DPB lacks (R182). -/
def Ctx.lacks (c : Ctx) (id : Int) : Bool :=
  !c.bufs.any fun b => (b.shortRef || b.longRef) && (if c.codec = 1 then b.frameNum = id else b.poc = id)

/-- The references of an access unit that the DPB lacks, each with its substitute (R182, R188). -/
def Ctx.missingRefs (c : Ctx) (a : AuInfo) (p : SpsInfo) : List Missing :=
  let grey := c.lastPic = none || c.conceal = 1
  (a.refs.filter fun r => c.lacks r.1).map fun r =>
    { id := r.1, grey, pic := if grey then greyBuf p.width p.height p.bitDepth else c.lastPic.getD {}
      rec_ := match c.window with
        | some w => decide (r.2 < w.pPoc)
        | none => false }

/-- Begin the decoding of a channel's next access unit: the outcome of one attempt. The flag says that the channel can be
tried again in this Stitch. -/
def State.beginPicture (s : State) (ch base : Nat) (cores : List CoreUse) : State × List CoreUse × Bool :=
  let object := 0x1000 + ch
  let c := s.ctx ch
  match c.cpb with
  | [] => (s, cores, false)
  | u :: rest =>
  let a := u.info
  let dropHead (s : State) : State := (s.discardRec object u.seq).modCtx ch fun c => { c with cpb := rest, discarded := c.discarded + 1 }
  if c.st = .seeking && c.startPoint a u.sps = none then (dropHead s, cores, true)
  else if a.rasl && c.craStart = some u.irap && c.st ≠ .seeking then (dropHead s, cores, true) else
  match c.usable a u.sps with
  | .error (code, why, x, y) =>
    let s := (dropHead s).when (code = 3) (·.modCtx ch fun c => { c with st := .seeking })
    (s.evtDecode ch code why x y u.seq, cores, true)
  | .ok p =>
  if !cores.any fun k => k.used < stitchNs then (s, cores, false) else
  let how := if c.st = .seeking then c.startPoint a u.sps else none
  -- Nothing of this is done while no buffer is free at its end (R177).
  let t := match how with
    | some how => s.startAt ch a how u.seq u.irap
    | none => s
  let t := (t.modCtx ch fun c => { c.dropRefs a.dropRefs with dpbNeeded := spsDpb p c.codec }).sweep ch
  let t := t.bumpBefore ch a p
  match (List.range (t.ctx ch).bufs.length).find? (t.ctx ch).free with
  | none =>
    let w := c.waiting + 1
    ((s.modCtx ch fun c => { c with stalls := satAdd16 c.stalls 1, waiting := w }).evtDecode ch 5 0 c.holders w u.seq, cores, false)
  | some i =>
  let s := t
  let c := s.ctx ch
  -- R188: whatever decoding started at, unless a window is open.
  let s := match a.recovery with
    | some r =>
        if c.window = none then s.modCtx ch fun c =>
          { c with window := some { order := c.order + 1, pPoc := a.poc, target := r }, recDrop := none, st := .recovering }
        else s.modCtx ch fun c => { c with ignoredSei := c.ignoredSei + 1 }
    | none => s
  let c := s.ctx ch
  let missing := c.missingRefs a p
  let s := s.forEach missing fun m s =>
    s.evtDecode ch 1 (b2n m.grey) (unsigned 32 m.id) (unsigned 32 a.poc) u.seq
  let all := pictureRows c.codec p a
  let sliced := !u.slices.isEmpty
  let (rows, used) := spread base (2 * a.ctu * a.ctu) 0 (if sliced then u.readyRows s.stitch all else all) cores
  let u := if sliced then u.startSlices s.stitch else u
  let first := (cores.filter fun k => k.used < stitchNs).headD ⟨0, 0, 1, 0⟩
  let cur : CurPic := { unit := u, buf := i, rowsLeft := rows, parsed := parsedBy 0 first.parser first.mult rows
                        cores := (rows.map RowLeft.core).eraseDups, missing, conceal := c.conceal }
  let buf : Buf := { decoding := true, poc := a.poc, frameNum := a.frameNum, order := c.order + 1, seq := u.seq
                     width := p.width, height := p.height, bitDepth := p.bitDepth
                     cropX := p.cropX, cropY := p.cropY, outW := p.outWidth, outH := p.outHeight
                     chromaLoc := p.chromaLoc, matrix := p.matrix, fullRange := p.fullRange
                     plan := if sliced then a.slices else [], slices := u.slices, ctu := a.ctu, eligible := eligible a all }
  -- The record knows the picture's grid from here on (R46, R52).
  let s := s.modRec object u.seq fun r => { r with width := p.outWidth, height := p.outHeight }
  (s.modCtx ch fun c => { c.modBuf i fun _ => buf with cpb := rest, cur := some cur, order := c.order + 1, waiting := 0 }, used, true)

/-- Rows of a picture that are not complete at a boundary: admitted work that is carried over (R18). -/
def CurPic.openRows (p : CurPic) : List RowLeft := p.rowsLeft.filter fun r => r.rem ≠ 0 || r.due = 0

/-- Cores that have not finished their admitted work at a boundary (R18). -/
def State.lateCores (s : State) : List Nat :=
  (((List.range 64).filter fun ch => (s.src ch).typ ≠ 3).flatMap fun ch => match (s.ctx ch).cur with
    | some p => p.openRows.map RowLeft.core
    | none => []).eraseDups

/-- Work carried over continues on the cores that hold it (R18, R178); every late core counts one overrun for its cluster. -/
def State.carryWork (s : State) (base : Nat) (cores : List CoreUse) : State × List CoreUse :=
  let late := s.lateCores
  let s := { s with dec := { s.dec with overruns := s.dec.overruns.mapIdx fun i n => n + (late.filter fun c => c / 2 = i && i < 4).length } }
  (List.range 64).foldl (fun acc ch =>
    let (s, cs) := acc
    match (s.ctx ch).cur with
    | none => (s, cs)
    | some p =>
      let open_ := p.openRows
      if open_.isEmpty || (s.src ch).typ = 3 then (s, cs) else
      let mine := cs.filter fun c => p.cores.contains c.core
      let mine := if mine.isEmpty then cs else mine
      let first := mine.headD ⟨0, 0, 1, 0⟩
      let (placed, used) := placeRows base (2 * p.unit.info.ctu * p.unit.info.ctu) p.parsed first.parser (whereHeld mine) open_ mine
      let rows := (p.rowsLeft.filter fun r => r.rem = 0 && r.due ≠ 0) ++ placed
      let s := (s.modRec (0x1000 + ch) p.unit.seq fun r => { r with flags := setFlag r.flags 6 }).modCtx ch fun c =>
        { c with cur := some { p with rowsLeft := rows, parsed := parsedBy p.parsed first.parser first.mult rows } }
      (s, cs.map fun c => (used.find? fun d => d.core = c.core).getD c)) (s, cores)

/-- Order of two ready channels (R178): class 0 first, then arrival, then channel number. -/
def readyBefore (cls : Nat → Nat) (s : State) (a b : Nat) : Bool :=
  let key (ch : Nat) : List Nat := [b2n (cls ch ≠ 0), ((s.ctx ch).cpb.head?.map (·.arrival)).getD 0, ch]
  decide (key a < key b)

/-- A channel has work that is ready and may start. -/
def State.readyChannel (s : State) (ch : Nat) : Bool :=
  let c := s.ctx ch
  c.cur = none && (c.st = .seeking || c.st = .recovering || c.st = .decoding) &&
  match c.cpb.head? with
  | some u => u.slices.isEmpty && decide (u.stitch < s.stitch)
  | none => false

/-- Bind pictures until no channel is left to try. -/
def bindPictures (cls : Nat → Nat) (base : Nat) : Nat → List Nat → List CoreUse → State → State × List CoreUse
  | 0, _, cores, s => (s, cores)
  | n + 1, tried, cores, s =>
    let ready := (List.range 64).filter fun ch => !tried.contains ch && s.readyChannel ch
    match ready with
    | [] => (s, cores)
    | x :: xs =>
      let best := xs.foldl (fun a b => if readyBefore cls s b a then b else a) x
      let (s, cores, again) := s.beginPicture best base cores
      bindPictures cls base n (if again then tried else best :: tried) cores s

/-- Bins of the rows of a picture that wait for the parser (R180). -/
def CurPic.unparsed (p : CurPic) : Nat := ((p.rowsLeft.filter fun r => r.start = 0).map RowLeft.bins).foldl max 0

/-- Dispatch the ready slices of a slice-locked channel on one core (R178 step 2, R281). `core`: its reserved core, or the one
with the most capacity left. -/
def State.dispatchSlices (s : State) (ch base : Nat) (core : CoreUse) : State × CoreUse :=
  let back (cs : List CoreUse) : CoreUse := cs.headD core
  let c := s.ctx ch
  match c.cur with
  | none =>
    match c.cpb.head? with
    | some u =>
      if u.slices.isEmpty || u.stitch ≥ s.stitch || !(c.st = .seeking || c.st = .recovering || c.st = .decoding) then (s, core)
      else
        let (s, cs, _) := s.beginPicture ch base [core]
        (s, back cs)
    | none => (s, core)
  | some p =>
    if p.unit.slices.isEmpty then (s, core) else
    match p.unit.sps with
    | none => (s, core)
    | some sps =>
      let fresh := (c.bufs.getD p.buf {}).rows.isEmpty && p.rowsLeft.isEmpty
      let new := if p.unit.info.byRows || fresh then p.unit.readyRows s.stitch (pictureRows c.codec sps p.unit.info) else []
      if new.isEmpty then (s, core) else
      let bin0 := (p.unit.info.rowBins.take ((new.head?.map RowLeft.row).getD 0)).sum
      let (rows, cs) := placeRows base 0 bin0 (max core.used core.parser) (inTurn 1) new [core]
      let unit := p.unit.startSlices s.stitch
      -- The parser takes the rows in decode order: while carried rows wait for it, it reaches none of these.
      let parsed := if p.parsed < p.unparsed then p.parsed else parsedBy bin0 (max core.used core.parser) core.mult rows
      let cur : CurPic := { p with unit, rowsLeft := p.rowsLeft ++ rows, cores := (core.core :: p.cores).eraseDups, parsed }
      (s.modCtx ch fun c => { c.modBuf p.buf fun b => { b with slices := unit.slices } with cur := some cur }, back cs)

/-- Arrival of a channel's earliest slice that is ready. -/
def State.sliceArrival (s : State) (ch : Nat) : Option Nat :=
  let c := s.ctx ch
  let us := match c.cur with
    | some p => [p.unit]
    | none => c.cpb.take 1
  ((us.flatMap fun u => u.slices.filter fun k => !k.started && decide (k.stitch < s.stitch)).map (·.arrival)).min?

/-- Hand each slice-locked channel a core that carries no work over (R281). -/
def reserveCores : List (Nat × Nat) → List CoreUse → List (Nat × Nat × Nat)
  | [], _ => []
  | (ch, n) :: rs, cs => match cs with
    | [] => []
    | c :: cs => (ch, c.core, min stitchNs (n * c.mult)) :: reserveCores rs cs

/-- The core with the most capacity left. -/
def freest (cs : List CoreUse) : Option CoreUse := cs.foldl (fun a c => match a with
  | none => some c
  | some b => if c.used < b.used then some c else a) none

/-- DISPATCH (R178): carried work, the slices of slice-locked channels with their reservations, then pictures. `cls` is the
effective class of a channel; `reserves` the reservations (channel, luma samples). -/
def State.dispatch (s : State) (cls : Nat → Nat) (reserves : List (Nat × Nat)) (base : Nat) : State :=
  let (s, cores) := s.carryWork base s.plannedCores
  let held := reserveCores reserves (cores.filter fun c => c.used = 0)
  let chs := (List.range 64).filter fun ch => (s.sliceArrival ch).isSome
  let order := chs.foldr (fun ch acc =>
    let (x, y) := acc.span fun d => decide ((s.sliceArrival d).getD 0 < (s.sliceArrival ch).getD 0)
    x ++ ch :: y) []
  let (s, cores) := order.foldl (fun (acc : State × List CoreUse) ch =>
    let (s, cs) := acc
    let core : Option CoreUse := match held.find? fun h => h.1 = ch with
      | some h => cs.find? fun c => c.core = h.2.1
      | none => freest (cs.filter fun c => !held.any fun h => h.2.1 = c.core)
    match core with
    | none => (s, cs)
    | some c =>
      let (s, c) := s.dispatchSlices ch base c
      (s, cs.map fun d => if d.core = c.core then c else d)) (s, cores)
  let cores := cores.map fun c => match held.find? fun h => h.2.1 = c.core with
    | some h => { c with used := max c.used h.2.2 }
    | none => c
  let fuel := (s.dec.ctxs.map fun c => c.cpb.length).sum + 65
  let (s, cores) := bindPictures cls base fuel [] cores s
  let left := (List.range 8).map fun i => match cores.find? fun c => c.core = i with
    | some c => stitchNs - c.used
    | none => 0
  { s with dec := { s.dec with cores := left } }

/-- The rows in progress at the end of a Stitch are charged with what has run of them (R358). -/
def State.chargeRows (s : State) : State :=
  s.forEach (List.range 64) fun ch s =>
    let c := s.ctx ch
    match c.cur with
    | none => s
    | some p =>
      let ran (r : RowLeft) : Nat := if r.start ≠ 0 && r.due = 0 then r.samples - r.rem else r.charged
      let cost := s.hoop.otp.costs.getD (if c.codec = 1 then 0 else 1) 0
      let s := s.forEach p.rowsLeft fun r s => s.addWork (3 + r.core / 2) ((ran r - r.charged) * cost)
      s.modCtx ch fun c => { c with cur := some { p with rowsLeft := p.rowsLeft.map fun r => { r with charged := ran r } } }

/-! ### Taint (R184-R186, R188) -/

/-- FIRM and REC bits of a unit or a region. -/
structure Bits where
  firm : Bool := false
  rec_ : Bool := false
deriving DecidableEq, Repr

def Bits.or (a b : Bits) : Bits := ⟨a.firm || b.firm, a.rec_ || b.rec_⟩

/-- Units in a row of a picture. -/
def unitCols (w : Nat) : Nat := ceilDiv w 4

/-- Bits of the units of a picture that a rectangle of luma samples, clamped to the picture, touches. -/
def Buf.bitsOf (b : Buf) (x0 y0 x1 y1 : Int) : Bits :=
  let cl (v : Int) (n : Nat) : Nat := (max 0 (min v ((n : Int) - 1))).toNat
  let cols := unitCols b.width
  let ux0 := cl x0 b.width / 4
  let ux1 := cl x1 b.width / 4
  let uy0 := cl y0 b.height / 4
  let uy1 := cl y1 b.height / 4
  b.taint.foldl (fun a t =>
    let ux := t.unit % max 1 cols
    let uy := t.unit / max 1 cols
    if ux0 ≤ ux && ux ≤ ux1 && uy0 ≤ uy && uy ≤ uy1 then a.or ⟨t.firm, t.rec_⟩ else a) {}

/-- Bits of one unit. -/
def Buf.unitBits (b : Buf) (u : Nat) : Bits :=
  match b.taint.find? fun t => t.unit = u with
  | some t => ⟨t.firm, t.rec_⟩
  | none => {}

/-- Widening of a component's footprint before and after (Table 7-9), for a vector in quarter luma samples. -/
def widen (codec : Nat) (mv : Int) : Nat × Nat :=
  if mv % 4 ≠ 0 then (if codec = 1 then (2, 3) else (3, 4))
  else if mv % 8 ≠ 0 then (if codec = 1 then (0, 2) else (2, 4)) else (0, 0)

/-- Taint read from a reference picture of the DPB: while a window is open, taint of pictures decoded before P counts as REC
(R188); a substitute is wholly tainted with the origin it was given. -/
def Ctx.readRef (c : Ctx) (p : CurPic) (id : Int) (f : Buf → Bits) : Bits :=
  match p.missing.find? fun m => m.id = id with
  | some m => ⟨!m.rec_, m.rec_⟩
  | none =>
  match c.bufs.find? fun b => !b.decoding && (b.shortRef || b.longRef) && (if c.codec = 1 then b.frameNum = id else b.poc = id) with
  | none => ⟨true, false⟩
  | some b =>
    let t := f b
    match c.window with
    | some w => if b.order < w.order then ⟨false, t.firm || t.rec_⟩ else t
    | none => t

/-- The vector of a list of a block: the motion field of a substitute counts as zero (R182), so a copied block whose temporal predictor
lies in a missing picture has the vector zero. -/
def CurPic.vector (p : CurPic) (k : Block) (l : InterList) : Int × Int := match k.pred with
  | .inter _ (some (id, _)) => if k.copied && p.missing.any fun m => m.id = id then (0, 0) else (l.mvx, l.mvy)
  | _ => (l.mvx, l.mvy)

/-- The rectangle of luma samples that a list of a block reads (Table 7-9), before it is clamped to the picture: left, top, right,
bottom. -/
def CurPic.footprint (p : CurPic) (codec : Nat) (k : Block) (l : InterList) : Int × Int × Int × Int :=
  let v := p.vector k l
  let wx := widen codec v.1
  let wy := widen codec v.2
  let x : Int := k.x + v.1 / 4
  let y : Int := k.y + v.2 / 4
  (x - wx.1, y - wy.1, x + k.w - 1 + wx.2, y + k.h - 1 + wy.2)

/-- `block_taint` of R186's listing. -/
def Ctx.blockTaint (c : Ctx) (p : CurPic) (k : Block) : Bits :=
  let cur := c.bufs.getD p.buf {}
  let t : Bits := match k.pred with
    | .concealed => ⟨true, false⟩
    | .pcm => {}
    | .intra us => us.foldl (fun a u => a.or (cur.unitBits u)) {}
    | .inter ls col =>
      let a := ls.foldl (fun (a : Bits) l =>
        if l.zeroWeight then a else
        let (x0, y0, x1, y1) := p.footprint c.codec k l
        a.or (c.readRef p l.ref fun b => b.bitsOf x0 y0 x1 y1)) ({} : Bits)
      match col with
      | some (id, u) => a.or (c.readRef p id fun b => b.unitBits u)
      | none => a
  match k.pred, c.recDrop with
  | .inter _ _, some r => if r ≤ cur.poc then ⟨t.firm, false⟩ else t
  | _, _ => t

/-- Set the units that a block touches. -/
def Buf.setUnits (b : Buf) (k : Block) (t : Bits) : Buf :=
  let cols := unitCols b.width
  let (x0, y0) := (k.x / 4, k.y / 4)
  let (x1, y1) := (ceilDiv (k.x + k.w) 4, ceilDiv (k.y + k.h) 4)
  let inside (u : Nat) : Bool :=
    let x := u % max 1 cols
    let y := u / max 1 cols
    x0 ≤ x && x < x1 && y0 ≤ y && y < y1
  let us := (List.range (y1 - y0)).flatMap fun j => (List.range (x1 - x0)).map fun i => (y0 + j) * cols + x0 + i
  let rest := b.taint.filter fun x => !inside x.unit
  { b with taint := if t.firm || t.rec_ then rest ++ us.map fun u => ⟨u, t.firm, t.rec_⟩ else rest }

/-- Give units their bits. -/
def Buf.putBits (b : Buf) (l : List (Nat × Bits)) : Buf :=
  l.foldl (fun b x => { b with taint := b.taint.filter (fun t => t.unit ≠ x.1) ++
      (if x.2.firm || x.2.rec_ then [⟨x.1, x.2.firm, x.2.rec_⟩] else []) }) b

/-- One pass of edges: both units receive the union as it stood before the pass (R186). -/
def Buf.edgePass (b : Buf) (edges : List (Nat × Nat)) : Buf :=
  edges.foldl (fun n e =>
    let t := (b.unitBits e.1).or (b.unitBits e.2)
    n.putBits [(e.1, (n.unitBits e.1).or t), (e.2, (n.unitBits e.2).or t)]) b

/-- `filter_taint` (R186). -/
def Buf.filterTaint (b : Buf) (i : DoneInfo) : Buf :=
  let b := (b.edgePass i.vEdges).edgePass i.hEdges
  b.putBits (i.sao.map fun x => (x.1, x.2.foldl (fun a u => a.or (b.unitBits u)) (b.unitBits x.1)))

/-- Tainted 32×32 cells of the output picture, in raster order of its cell grid, which the conformance window anchors (R184). -/
def Buf.taintedCells (b : Buf) : List Nat :=
  let cols := unitCols b.width
  let cc := ceilDiv b.outW 32
  let cellsOf (u : Nat) : List Nat :=
    let x := u % max 1 cols * 4
    let y := u / max 1 cols * 4
    ([(x, y), (x + 3, y), (x, y + 3), (x + 3, y + 3)].filter fun p =>
      b.cropX ≤ p.1 && p.1 < b.cropX + b.outW && b.cropY ≤ p.2 && p.2 < b.cropY + b.outH).map fun p =>
        (p.2 - b.cropY) / 32 * cc + (p.1 - b.cropX) / 32
  (b.taint.flatMap fun t => cellsOf t.unit).eraseDups

/-- Cells of a picture's grid as units of its buffer that become FIRM (R24, R187), through its conformance window. -/
def Buf.firmCells (b : Buf) (cells : List Nat) : Buf :=
  let cols := max 1 (ceilDiv b.outW 32)
  let block (k : Nat) : Block :=
    let x := b.cropX + 32 * (k % cols)
    let y := b.cropY + 32 * (k / cols)
    { x, y, w := min 32 (b.cropX + b.outW - x), h := min 32 (b.cropY + b.outH - y), pred := .concealed }
  cells.foldl (fun b k => b.setUnits (block k) ⟨true, false⟩) b

/-- A pixel error has been read (R24, R187): its cells are tainted in the record and in the buffer; a count that rises from 0
raises TAINTED (R191). -/
def State.taintRead (s : State) (e : EccPixel) : State :=
  let old := ((s.rec? e.object e.seq).map (·.tainted)).getD 0
  let all (r : GimpRec) : List Nat := r.cells ++ e.cells.filter fun k => !r.cells.contains k
  let s := s.modRec e.object e.seq fun r =>
    { r with cells := all r, tainted := sat16 (all r ++ (r.mapCells.map (·.1)).filter fun k => !(all r).contains k).length }
  if idType e.object ≠ 1 then s else
  let ch := idIndex e.object
  let s := s.modCtx ch fun c => { c with bufs := c.bufs.map fun b => if b.seq = e.seq && b.seq ≠ 0 then b.firmCells e.cells else b }
  let n := ((s.rec? e.object e.seq).map (·.tainted)).getD 0
  if old = 0 && n ≠ 0 then (s.modCtx ch fun c => { c with lastTainted := n, sinceTainted := 0 }).evtDecode ch 9 0 n 0 e.seq else s

/-- Errors that the scrubber found in a picture are applied when their words are read (R25, R187). `hit`: a word that contributes to
these cells is read. -/
def State.readPixels (s : State) (object seq : Nat) (hit : List Nat → Bool) : State :=
  let mine (e : EccPixel) : Bool := e.object = object && e.seq = seq && hit e.cells
  let found := s.pwr.scrubFound
  ({ s with pwr := { s.pwr with scrubFound := found.filter fun e => !mine e } }).forEach (found.filter mine) fun e s => s.taintRead e

/-- A rectangle of coded luma samples, clamped to the picture, meets one of these cells of the output picture's grid. -/
def Buf.meetsCells (b : Buf) (r : Int × Int × Int × Int) (cells : List Nat) : Bool :=
  let cols := max 1 (ceilDiv b.outW 32)
  let cl (v : Int) (n : Nat) : Int := max 0 (min v ((n : Int) - 1))
  cells.any fun k =>
    let x : Int := b.cropX + 32 * (k % cols)
    let y : Int := b.cropY + 32 * (k / cols)
    decide (cl r.1 b.width < x + 32 ∧ x ≤ cl r.2.2.1 b.width ∧ cl r.2.1 b.height < y + 32 ∧ y ≤ cl r.2.2.2 b.height)

/-- The rectangles of a reference that the blocks of a row read. -/
def CurPic.readsOf (p : CurPic) (codec : Nat) (blocks : List Block) (id : Int) : List (Int × Int × Int × Int) :=
  blocks.flatMap fun k => match k.pred with
    | .inter ls _ => (ls.filter fun l => l.ref = id && !l.zeroWeight).map (p.footprint codec k)
    | _ => []

/-- The blocks of a row read its references: what the scrubber found in the words that they read is applied (R25, R187). -/
def State.readRefs (s : State) (ch : Nat) (p : CurPic) (blocks : List Block) : State :=
  let c := s.ctx ch
  s.forEach (c.bufs.filter fun b => b.seq ≠ 0) fun b s =>
    s.readPixels (0x1000 + ch) b.seq fun cells =>
      (p.readsOf c.codec blocks (if c.codec = 1 then b.frameNum else b.poc)).any fun r => b.meetsCells r cells

/-- The slice of a picture that holds a row. -/
def CurPic.sliceOf (p : CurPic) (row : Nat) : Option Nat :=
  p.unit.info.slices.findIdx? fun k => k.1 ≤ row && row < k.1 + k.2

/-- Rows of a slice whose data is lost whole are concealed whole; so is a picture of which lost data leaves no slice (R183). -/
def CurPic.rowGone (p : CurPic) (row : Nat) : Bool :=
  (p.unit.gone.any fun n => let (a, k) := p.unit.info.slices.getD n (0, 0)
                            a ≤ row && row < a + k) || (p.unit.info.slices.isEmpty && p.unit.lost)

/-- Rows of the region that begins at row `row`, whole slices having been lost: none when it has begun before (R183). -/
def CurPic.goneFrom (p : CurPic) (rows row : Nat) : Nat :=
  if row ≠ 0 && p.rowGone (row - 1) then 0 else (((List.range rows).drop row).takeWhile p.rowGone).length

/-- What a row's slice conceals of it whatever its blocks say: the region runs from the first damage to the end of the slice, so after
damage in an earlier row of the slice it is the whole row, and at the end of a slice that lost data at least its last CTU (R183). -/
def CurPic.forced (p : CurPic) (b : Buf) (i : RowInfo) : List Block :=
  let tall := min b.ctu (b.height - i.row * b.ctu)
  match p.sliceOf i.row with
  | none => []
  | some j =>
    let (a, n) := p.unit.info.slices.getD j (0, 0)
    let from_ := b.width - (if b.width % b.ctu = 0 then b.ctu else b.width % b.ctu)
    if !p.unit.info.byRows then []
    else if p.damaged.contains j then [{ x := 0, y := i.row * b.ctu, w := b.width, h := tall, pred := .concealed }]
    else if p.unit.hurt.contains j && i.row + 1 = a + n && !i.blocks.any fun k => k.pred = .concealed then
      [{ x := from_, y := i.row * b.ctu, w := b.width - from_, h := tall, pred := .concealed }]
    else []

/-- Where the samples of a copied block come from when whole samples of a substitute predict it (R182): the substitute and the
displacement. -/
def CurPic.copyOf (p : CurPic) (k : Block) : Option (Buf × Int × Int) := match k.pred with
  | .inter [l] _ =>
    let v := p.vector k l
    if k.copied && v.1 % 8 = 0 && v.2 % 8 = 0 then (p.missing.find? fun m => m.id = l.ref).map fun m => (m.pic, v.1 / 4, v.2 / 4) else none
  | _ => none

/-- The tiles that show a picture see the rows written since they latched it (R223, R286). -/
def State.seeRows (s : State) (ch seq : Nat) : State :=
  match (s.ctx ch).bufs.find? fun b => b.seq = seq with
  | none => s
  | some b =>
    let see (t : Tile) : Tile := if t.latched = some (0x1000 + ch, seq) && t.pic.isSome then { t with pic := some b } else t
    { s with lay := { s.lay with tiles := s.lay.tiles.map see } }

/-- DECODE_ROW_COMPLETE (R179, R183, R185). -/
def decodeRow (ch : Nat) (info : RowInfo) (s : State) : State :=
  match (s.ctx ch).cur with
  | none => s
  | some p =>
  match p.rowsLeft.find? fun r => r.row = info.row && r.due ≠ 0 && r.due ≤ s.now with
  | none => s
  | some r =>
    let s := s.readRefs ch p info.blocks
    let c := s.ctx ch
    let cur := c.bufs.getD p.buf {}
    let whole : Block := { x := 0, y := info.row * cur.ctu, w := cur.width, h := cur.ctu, pred := .concealed }
    let gone := p.rowGone info.row
    let forced := p.forced cur info
    let blocks := if gone then [whole] else info.blocks ++ forced
    let last := if p.conceal = 1 then none else c.lastPic
    let hit (x y : Nat) : Bool := blocks.any fun k => k.pred = .concealed && k.x ≤ x && x < k.x + k.w && k.y ≤ y && y < k.y + k.h
    let lines := min cur.ctu (cur.height - info.row * cur.ctu)
    let grey := List.replicate (chromaCols cur.width * chromaLines 1 lines) (midGrey cur.bitDepth)
    let given := if p.unit.sps.any fun q => q.chroma = 0 then { info.samples with cb := grey, cr := grey } else info.samples
    let given := if gone then flatSamples cur.width lines 1 0 0 else given
    let from_ (x y : Nat) : Option (Buf × Int × Int) :=
      (blocks.find? fun k => k.x ≤ x && x < k.x + k.w && k.y ≤ y && y < k.y + k.h).bind p.copyOf
    let pix := cur.fillRow last info.row hit (cur.copyRow info.row from_ given)
    let c := blocks.foldl (fun c k => c.modBuf p.buf fun b => b.setUnits k (c.blockTaint p k)) c
    let c := c.modBuf p.buf fun b => { b with rows := b.rows ++ [(info.row, s.local)], rowPix := b.rowPix ++ [(info.row, pix)] }
    let bad := blocks.any fun k => k.pred = .concealed
    let c := { c with cur := some { p with rowsLeft := p.rowsLeft.erase r
                                           damaged := if bad && !gone then p.damaged ++ (p.sliceOf info.row).toList else p.damaged } }
    let cost := s.hoop.otp.costs.getD (if c.codec = 1 then 0 else 1) 0
    -- A verdict on a picture latched early reads the taint as it stands (R195).
    let cells := (c.bufs.getD p.buf {}).taintedCells
    let s := ((s.modCtx ch fun _ => c).addWork (3 + r.core / 2) ((r.samples - r.charged) * cost)).modRec (0x1000 + ch) p.unit.seq fun g =>
      { g with cells := g.cells ++ cells.filter fun k => !g.cells.contains k }
    let s := s.seeRows ch p.unit.seq
    let perRow := ceilDiv cur.width (max 1 cur.ctu)
    let lost := p.goneFrom (ceilDiv cur.height (max 1 cur.ctu)) info.row
    if gone then s.when (0 < lost) (·.evtDecode ch 2 1 (info.row * perRow) (lost * perRow) p.unit.seq)
    else match info.concealed with
    | some (why, first, n) => s.evtDecode ch 2 why first n p.unit.seq
    | none => s.when (!forced.isEmpty && !(p.sliceOf info.row).any p.damaged.contains)
        (·.evtDecode ch 2 1 ((info.row + 1) * perRow - 1) 1 p.unit.seq)

/-- The cell-state map of a picture (R202): flag bits, non-live cells with their states. -/
def mapVerdict (raw : Option (List Byte)) (cols rows : Nat) : Nat × List (Nat × Nat) :=
  match raw with
  | none => (0, [])
  | some b =>
    match parseMap b cols rows with
    | some l => (4, l.zipIdx.filterMap fun x => if x.1 = 0 then none else some (x.2, x.1))
    | none => (8, (List.range (cols * rows)).map fun i => (i, 3))

/-- TAINTED and HEALED (R191). -/
def State.taintEvents (s : State) (ch n seq : Nat) : State :=
  let c := s.ctx ch
  let s := s.modCtx ch fun c => { c with lastTainted := n, sinceTainted := if c.lastTainted = 0 then 0 else c.sinceTainted + 1 }
  if c.lastTainted = 0 && n ≠ 0 then s.evtDecode ch 9 0 n 0 seq
  else if c.lastTainted ≠ 0 && n = 0 then s.evtDecode ch 10 0 (c.sinceTainted + 1) 0 seq
  else s

/-- Write what R195 writes when a frame's last row is complete; what its predecessor in output order decides follows when it is output
(R206; log entry 42). -/
def State.frameDone (s : State) (ch seq buf : Nat) (allSkip : Bool) (cells : List Nat) : State :=
  let object := 0x1000 + ch
  let b := (s.ctx ch).bufs.getD buf {}
  let s := s.rejudge ch seq
  let raw := (s.rec? object seq).bind GimpRec.mapRaw
  let (flag, mapCells) := mapVerdict raw (ceilDiv b.outW 32) (ceilDiv b.outH 32)
  let total := (cells ++ (mapCells.map (·.1)).filter fun c => !cells.contains c).length
  let s := s.modRec object seq fun r =>
    { r with decodeDone := s.local, signature := signature b.bitDepth b.outLuma, tainted := total, cells, mapCells
             width := b.outW, height := b.outH
             flags := r.flags ||| flag ||| 128 * b2n allSkip, taintMap := ch * 32 + buf + 1
             enables := (s.ctx ch).freeze.enables }
  (s.modCtx ch fun c => c.modBuf buf fun b => { b with judge := c.freeze }).taintEvents ch total seq

/-- The last row of a frame that is not decoded is written (R157, R453): it is complete and becomes the current picture. -/
def State.plainDone (s : State) (ch : Nat) (p : CurPic) (cells : List Nat) : State :=
  let before := ((s.rec? (0x1000 + ch) p.unit.seq).map (·.cells)).getD []
  let s := s.frameDone ch p.unit.seq p.buf false (cells ++ before.filter fun k => !cells.contains k)
  (s.modCtx ch fun c =>
    let c := c.modBuf p.buf fun b => { b with decoding := false, awaitOutput := true }
    { c with cur := none, lastPic := some (c.bufs.getD p.buf {}) }).outputPicture ch p.unit.seq

/-- DECODE_DONE (R177, R186, R188, R195). -/
def decodeDone (ch : Nat) (i : DoneInfo) (s : State) : State :=
  let c := s.ctx ch
  match c.cur with
  | none => s
  | some p =>
  if (s.src ch).typ = 3 then s.plainDone ch p []
  else if (s.src ch).typ = 5 || !p.rowsLeft.isEmpty || !p.unit.whole || (p.unit.info.byRows && p.unit.slices.any fun k => !k.started) then s else
  let b := (c.bufs.getD p.buf {}).filterTaint i
  let isR := match c.window with
    | some w => (if c.codec = 1 then b.frameNum else b.poc) = w.target
    | none => false
  let drop := isR || (match c.recDrop with
    | some r => decide (r ≤ b.poc)
    | none => false)
  let b := if drop then { b with taint := (b.taint.map fun t => { t with rec_ := false }).filter (·.firm) } else b
  let kind := p.unit.info.refKind
  let b := { b with decoding := false, shortRef := kind = 1, longRef := kind = 2, awaitOutput := p.unit.info.output }
  let c := { (c.modBuf p.buf fun _ => b).dropRefs i.dropRefs with cur := none, lastPic := some b }
  let c := if isR then { c with window := none, recDrop := some b.poc, st := if c.st = .recovering then .decoding else c.st } else c
  let s := ((s.modCtx ch fun _ => c).frameDone ch p.unit.seq p.buf i.allSkip b.taintedCells).seeRows ch p.unit.seq
  let s := s.when (!p.unit.info.output) (·.finishRec ch p.unit.seq)
  let s := s.when isR (·.evtDecode ch 8 0 b.taintedCells.length (unsigned 32 b.poc) p.unit.seq)
  let s := match p.unit.sps with
    | some q => bumpWhile ch (Ctx.mustOutput q) 20 s
    | none => s
  s.sweep ch

/-! ### Commands -/

/-- E_STATE for a context whose state does not permit the command (R171). -/
def Ctx.running (c : Ctx) : Bool := c.st = .seeking || c.st = .recovering || c.st = .decoding || c.st = .shed

/-- Codes of Table 7-3. -/
def DecState.code : DecState → Nat
  | .unconfigured => 0 | .configured => 1 | .seeking => 2 | .recovering => 3 | .decoding => 4 | .shed => 5

def cmdDecConfig : Cmd where
  spec := specDecConfig
  param j _ :=
    let codec := j.u8 2
    chkId j 0 [1] ++ chk 2 (codec = 1 || codec = 2) ++ chk 3 (1 ≤ j.u8 3 && j.u8 3 ≤ (if codec = 2 then 2 else 3)) ++
    chk 4 ((levels codec).contains (j.u8 4)) ++ chk 5 (4 ≤ j.u8 5 && j.u8 5 ≤ 20) ++ chk 6 (j.u8 6 ≤ 1) ++ chk 7 (j.u8 7 ≤ 1) ++
    chk 8 (16 ≤ j.u16 8 && j.u16 8 ≤ 4096 && j.u16 8 % 8 = 0) ++ chk 10 (16 ≤ j.u16 10 && j.u16 10 ≤ 2304 && j.u16 10 % 8 = 0) ++
    chk 12 (j.u32 12 ≤ 65536) ++ chk 16 (j.u8 16 = 8 || (j.u8 16 = 10 && codec = 2 && j.u8 3 = 2)) ++ rsv j 17 15
  names j := nameAt j 0
  run j s :=
    let ch := idIndex (j.u16 0)
    let ty := (s.src ch).typ
    let c := s.ctx ch
    let least := leastCpb (j.u8 2) (j.u8 3) (j.u8 4)
    if !(ty = 1 || ty = 2 || ty = 6) then .fail eParam 16
    else if (ty = 1 && j.u8 2 ≠ 1) || (ty = 2 && j.u8 2 ≠ 2) then .fail eParam 18
    else if j.u32 12 < least then .fail eCpbSmall (sat16 least)
    else if c.running then .fail eState (j.u16 0)
    else if s.heapFree + c.heap < j.u8 5 * footprint (j.u16 8) (j.u16 10) (j.u8 16) + j.u32 12 * 1024 then .fail eNoResource 0
    else .ok (s.modCtx ch fun c =>
      { c with st := .configured, codec := j.u8 2, profile := j.u8 3, level := j.u8 4, bufs := List.replicate (j.u8 5) {}
               conceal := j.u8 6, joinAny := j.u8 7 = 1, maxW := j.u16 8, maxH := j.u16 10, cpbKib := j.u32 12
               bitDepth := j.u8 16, latest := none, prevOut := none, lastPic := none, dpbNeeded := 0 }) []

/-- The payload checks of DEC_START, DEC_STOP, DEC_FLUSH and DEC_GET_POOL. -/
def chkDec (j : Job) (_ : State) : List Nat := chkId j 0 [1] ++ rsv j 2 2

def cmdDecStart : Cmd where
  spec := specDecStart
  param := chkDec
  names j := nameAt j 0
  run j s :=
    let ch := idIndex (j.u16 0)
    if (s.ctx ch).st = .configured then .ok (s.modCtx ch fun c => { c with st := .seeking }) [] else .fail eState (j.u16 0)

def cmdDecGetPool : Cmd where
  spec := specDecGetPool
  param := chkDec
  names j := nameAt j 0
  run j s :=
    let ch := idIndex (j.u16 0)
    let c := s.ctx ch
    if c.st = .unconfigured then .fail eState (j.u16 0) else
    .ok (s.modCtx ch fun c => { c with stalls := 0 })
      (leBytes 2 (j.u16 0) ++ leBytes 1 c.bufs.length ++ leBytes 1 c.st.code ++ leBytes 1 c.dpbNeeded ++ leBytes 1 c.conceal ++
        leBytes 2 c.stalls ++ c.bufs.zipIdx.flatMap fun (b, i) =>
          leBytes 1 i ++ leBytes 1 (c.marks i + 64 * b2n (!b.taintedCells.isEmpty && c.marks i ≠ 0)) ++ leBytes 1 (Ctx.holds b) ++ zeros 1 ++
            leBytes 4 (if c.marks i = 0 then 0 else unsigned 32 b.poc))

def cmdDecSetConceal : Cmd where
  spec := specDecSetConceal
  param j _ := chkId j 0 [1] ++ chk 2 (j.u8 2 ≤ 1) ++ rsv j 3 1
  names j := nameAt j 0
  run j s :=
    let ch := idIndex (j.u16 0)
    if (s.ctx ch).st = .unconfigured then .fail eState (j.u16 0)
    else .ok (s.modCtx ch fun c => { c with conceal := j.u8 2 }) []

end Sys2Proof.Machine
end

