-- ==== Sys2Proof/Machine/Tile.lean ====
section
/-! DEFINITION. Tiles and heads: schedule, geometry, blend order, holds, covered and tainted area, composition limits
(spec/02 R39-R52, spec/09 R217-R232, R244, R252, spec/10 R253-R266). -/
namespace Sys2Proof.Machine

def State.layer (s : State) (i : Nat) : Layer := s.lay.layers.getD i {}
def State.modLayer (s : State) (i : Nat) (f : Layer → Layer) : State :=
  { s with lay := { s.lay with layers := modAt s.lay.layers i f } }
def State.head (s : State) (h : Nat) : Head := s.heads.getD h {}
def State.modHead (s : State) (h : Nat) (f : Head → Head) : State := { s with heads := modAt s.heads h f }
def State.tile? (s : State) (layer head : Nat) : Option Tile := s.lay.tiles.find? fun t => t.layer = layer && t.head = head
def State.modTile (s : State) (layer head : Nat) (f : Tile → Tile) : State :=
  { s with lay := { s.lay with tiles := s.lay.tiles.map fun t => if t.layer = layer && t.head = head then f t else t } }
/-- The tiles of a layer: one, or two in the interval of R134. -/
def State.tilesOf (s : State) (layer : Nat) : List Tile := s.lay.tiles.filter fun t => t.layer = layer
def State.tilesOn (s : State) (head : Nat) : List Tile := s.lay.tiles.filter fun t => t.head = head

/-- Identifier of a head. -/
def headId (h : Nat) : Nat := 0x6000 + h

/-- Insertion sort by a strict order; equal elements keep their order. -/
def sortBy {α : Type} (lt : α → α → Bool) (l : List α) : List α :=
  l.foldr (fun a acc => let (x, y) := acc.span fun b => lt b a
                        x ++ a :: y) []

/-! ### Head timing (R253, R257, R261) -/

def Timing.hTotal (t : Timing) : Nat := t.hAct + t.hFp + t.hSync + t.hBp
def Timing.vTotal (t : Timing) : Nat := t.vAct + t.vFp + t.vSync + t.vBp

/-- Units of head time in a nanosecond (log entry 45). -/
abbrev fine : Nat := m32

/-- `n` line times of the rational refresh (R40), in units of 2^-32 ns. -/
def Timing.lines (t : Timing) (n : Nat) : Nat := n * nsPerSec * t.den * fine / max 1 (t.num * t.vTotal)

/-- Local time in the units of head times. -/
def State.localFine (s : State) : Nat := s.local * fine

/-- The apply line's number L (R261). -/
def Head.line (h : Head) : Nat := match h.applyLine with
  | some n => n
  | none => h.timing.vAct

/-- A head on which changes take effect at once (R133). -/
def Head.immediate (h : Head) : Bool := h.st = .untimed || h.st = .disabled || h.st = .selfRefresh

/-- Codes of Table 10-7. -/
def HeadState.code : HeadState → Nat
  | .untimed => 0 | .disabled => 1 | .scanning => 2 | .closing => 3 | .srEntry => 4 | .selfRefresh => 5

/-- Codes of Table 10-3. -/
def LockState.code : LockState → Nat
  | .free => 0 | .acquiring => 1 | .locked => 2

/-- A virtual head: bound to an encode channel (R273). -/
def Head.virtual (h : Head) : Bool := idType h.target = 8

/-- Timing as accepted. -/
def Head.newTiming (h : Head) : Timing := h.accTiming.getD h.timing
/-- The head has timing, as accepted. -/
def Head.timed (h : Head) : Bool := h.st ≠ .untimed || h.accTiming.isSome
/-- The head counts as enabled (R256, R265, R270). -/
def Head.enabled (h : Head) : Bool := h.accEnable || h.st = .scanning || h.st = .srEntry || h.st = .selfRefresh

/-- D_tx of Table 2-3 in ns. -/
def Head.dTx (h : Head) : Nat := if h.virtual then 0 else if h.stream = 0 then 1600 else 2400

/-- T_scan of R39 and R40 in local ns, a whole number of microseconds. -/
def Head.tScan (h : Head) (yLast : Nat) : Nat :=
  let t := h.timing
  let d := max 1 (t.num * t.vTotal * t.hTotal)
  let n := (yLast * t.hTotal + t.hAct) * nsPerSec * t.den * fine +
    (h.tF + (h.dTx + 1000 + t.sinkUs * 1000) * fine) * d
  ceilDiv n (d * 1000 * fine) * 1000

/-! ### Geometry (R218, R227, R244) -/

def Rect.right (r : Rect) : Nat := r.x + r.w
def Rect.bottom (r : Rect) : Nat := r.y + r.h
def Rect.area (r : Rect) : Nat := r.w * r.h
def Rect.empty (r : Rect) : Bool := r.w = 0 || r.h = 0

/-- Intersection. -/
def Rect.meet (a b : Rect) : Rect :=
  let x := max a.x b.x
  let y := max a.y b.y
  { x, y, w := min a.right b.right - x, h := min a.bottom b.bottom - y }

/-- The active area of a timing. -/
def Timing.active (t : Timing) : Rect := { x := 0, y := 0, w := t.hAct, h := t.vAct }

/-- The visible rectangle (R218). -/
def visibleRect (c : LayerCfg) (t : Timing) : Rect := c.dest.meet t.active

/-- The whole picture is the crop (Table 9-4). -/
def LayerCfg.whole (c : LayerCfg) : Bool := c.crop.w = 0 && c.crop.h = 0

/-- The crop of a picture of `w` × `h`. -/
def LayerCfg.cropOf (c : LayerCfg) (w h : Nat) : Rect := if c.whole then { x := 0, y := 0, w, h } else c.crop

/-- The part of a video layer's destination that a picture of `w` × `h` fills (R227); the rest is black. -/
def LayerCfg.filled (c : LayerCfg) (w h : Nat) : Rect :=
  let side (d crop len : Nat) (start : Nat) : Nat :=
    if c.whole then min d (8 * len) else min (len - min len start) crop * d / max 1 crop
  { c.dest with w := side c.dest.w (c.cropOf w h).w w c.crop.x, h := side c.dest.h (c.cropOf w h).h h c.crop.y }

/-- Black strips of the destination beside what a picture fills. -/
def LayerCfg.strips (c : LayerCfg) (w h : Nat) : List Rect :=
  let f := c.filled w h
  [{ x := f.right, y := c.dest.y, w := c.dest.right - f.right, h := c.dest.h },
   { x := c.dest.x, y := f.bottom, w := f.w, h := c.dest.bottom - f.bottom }]

/-- Distinct values in rising order. -/
def riseNat (l : List Nat) : List Nat := sortBy (fun a b => decide (a < b)) l.eraseDups

/-- Area of a union of rectangles. -/
def unionArea (rs : List Rect) : Nat :=
  let rs := rs.filter fun r => !r.empty
  let xs := riseNat (rs.flatMap fun r => [r.x, r.right])
  let ys := riseNat (rs.flatMap fun r => [r.y, r.bottom])
  ((xs.zip (xs.drop 1)).flatMap fun x => (ys.zip (ys.drop 1)).map fun y =>
    if rs.any (fun r => r.x ≤ x.1 && x.1 < r.right && r.y ≤ y.1 && y.1 < r.bottom) then (x.2 - x.1) * (y.2 - y.1) else 0).sum

/-- Cells of 32×32 that a crop of a picture intersects, as (column, row). -/
def cropCells (crop : Rect) (w h : Nat) : List (Nat × Nat) :=
  let r := crop.meet { x := 0, y := 0, w, h }
  if r.empty then [] else
  (List.range (ceilDiv r.bottom 32 - r.y / 32)).flatMap fun j =>
    (List.range (ceilDiv r.right 32 - r.x / 32)).map fun i => (r.x / 32 + i, r.y / 32 + j)

/-- Destination columns or rows hatched for one cell (R244): from `start`, cell number `k`, widening `n` (doubled when the
direction is pre-decimated, R229), crop origin and lengths. -/
def hatchSpan (dest crop k n d len : Nat) : Nat × Nat :=
  let n := if 4 * d < len then 2 * n else n
  let lo : Int := (dest : Int) + (32 * (k : Int) - n - crop) * d / max 1 len
  let hi : Int := (dest : Int) - (-((32 * ((k : Int) + 1) + n - crop) * d) / max 1 len)
  (lo.toNat, hi.toNat)

/-- A ratio `dest` ÷ `crop` held to 1/8-8 (R227). -/
def heldRatio (dest crop : Nat) : Nat × Nat := if 8 * dest < crop then (1, 8) else if 8 * crop < dest then (8, 1) else (dest, max 1 crop)

/-- The rectangle hatched for a cell of a picture of `w` × `h` (R56, R244), clipped to the visible rectangle. -/
def hatchRect (c : LayerCfg) (t : Timing) (w h cx cy : Nat) : Rect :=
  let crop := c.cropOf w h
  let rx := heldRatio c.dest.w crop.w
  let ry := heldRatio c.dest.h crop.h
  let (x0, x1) := hatchSpan c.dest.x crop.x cx 5 rx.1 rx.2
  let (y0, y1) := hatchSpan c.dest.y crop.y cy 4 ry.1 ry.2
  Rect.meet { x := x0, y := y0, w := x1 - x0, h := y1 - y0 } (visibleRect c t)

/-! ### Blend order (R232) -/

/-- Fixed order: ascending Z, then ascending identifier. -/
def fixedBelow (a b : Tile) : Bool := decide (a.cfg.z < b.cfg.z ∨ (a.cfg.z = b.cfg.z ∧ a.layer < b.layer))

/-- The tiles of a head from the bottom up. -/
def State.blend (s : State) (h : Nat) : List Tile :=
  let ts := s.tilesOn h
  if (s.head h).programmable then (s.head h).order.filterMap fun i => ts.find? fun t => t.layer = i
  else sortBy fixedBelow ts

/-! ### What a head scans (R218, R298) -/

/-- The head's current frame is composed: it is scanning and, on a virtual head, encoded. -/
def Head.composing (h : Head) : Bool := h.composed && (h.st = .scanning || h.st = .closing || h.st = .srEntry)

/-- A tile is scanned in the head's current frame. -/
def State.scanned (s : State) (t : Tile) : Bool :=
  let h := s.head t.head
  h.composing && t.cfg.enable && !(visibleRect t.cfg h.timing).empty

/-! ### Holds (R224) -/

/-- A video layer. -/
def isVideo (layer : Nat) : Bool := layer < 128

/-- The channel's context whose pool holds a latched picture. -/
def State.modHeld (s : State) (l : Nat × Nat) (f : Buf → Buf) : State :=
  if idType l.1 = 1 then s.modCtx (idIndex l.1) fun c => { c with bufs := c.bufs.map fun b => if b.seq = l.2 then f b else b }
  else s

/-- A tile places its hold on the picture it has latched. -/
def State.placeHold (s : State) (layer head : Nat) (l : Nat × Nat) : State :=
  let key := (layer, head)
  s.modHeld l fun b => if (s.head head).virtual then { b with encHolds := (key :: b.encHolds).eraseDups }
    else { b with dispHolds := (key :: b.dispHolds).eraseDups }

/-- The encode core has pictures to consume that read the head's buffers (R224). -/
def State.consuming (s : State) (head : Nat) : Bool :=
  let h := s.head head
  h.virtual && !(s.enc.getD (idIndex h.target) {}).pics.isEmpty

/-- The encode core has yet to consume a picture of the head that is of this frame, or an earlier one. -/
def State.consumingTo (s : State) (head frame : Nat) : Bool :=
  s.consuming head && (s.enc.getD (idIndex (s.head head).target) {}).pics.any fun p => p.head = head && p.frame ≤ frame

/-- The key of an ENCODE_HOLD that waits for the encode core to consume the pictures up to a frame of the head. -/
def drainKey (layer frame : Nat) : Nat := layer + 1000 * (frame + 1)

/-- The last head frame whose picture a tile's latched buffer can be in: that of its last latch, or the current one while the tile
shows the buffer there still. -/
def State.lastRead (s : State) (layer head : Nat) : Nat := match s.tile? layer head with
  | some t => t.latchFrame.getD (s.head head).frame
  | none => (s.head head).frame

/-- A tile releases its hold on a picture. An ENCODE_HOLD stays until the encode core has consumed every composed picture that read
it: those up to the frame of the tile's last latch (R224). -/
def State.dropHold (s : State) (layer head : Nat) (l : Nat × Nat) : State :=
  let key := (layer, head)
  let frame := s.lastRead layer head
  let keep := s.consumingTo head frame
  let later := (drainKey layer frame, head)
  let s := s.modHeld l fun b =>
    let enc := b.encHolds.filter (· ≠ key)
    { b with dispHolds := b.dispHolds.filter (· ≠ key)
             encHolds := if keep && b.encHolds.contains key then (later :: enc).eraseDups else enc }
  if idType l.1 = 1 then s.sweep (idIndex l.1) else s

/-- Release a tile's hold, if it has one. -/
def State.releaseTile (s : State) (layer head : Nat) : State :=
  match s.tile? layer head with
  | some t =>
    let s := match t.prevHeld with
      | some l => if t.hold && t.latched = some l then s else s.dropHold layer head l
      | none => s
    match t.latched, t.hold with
    | some l, true => (s.dropHold layer head l).modTile layer head fun t => { t with hold := false, prevHeld := none }
    | _, _ => s.modTile layer head fun t => { t with prevHeld := none }
  | none => s

/-- A layer whose visible rectangle has become empty holds nothing (R218); a paused tile keeps its hold (R224). -/
def State.releaseHidden (s : State) (h : Nat) : State :=
  s.forEach ((s.tilesOn h).filter fun t =>
      (visibleRect t.cfg (s.head h).timing).empty && !(t.cfg.guarded && t.cfg.paused)) fun t s => s.releaseTile t.layer h

/-- The encode core has consumed a head's pictures up to a frame: the holds that waited for them go. -/
def State.drainHolds (s : State) (head frame : Nat) : State :=
  let mine (k : Nat × Nat) : Bool := k.1 ≥ 1000 && k.1 / 1000 ≤ frame + 1 && k.2 = head
  let chs := (List.range 64).filter fun ch => (s.ctx ch).bufs.any fun b => b.encHolds.any mine
  s.forEach chs fun ch s =>
    (s.modCtx ch fun c => { c with bufs := c.bufs.map fun b => { b with encHolds := b.encHolds.filter fun k => !mine k } }).sweep ch

/-! ### Whole-picture size (R227) -/

/-- Width and height of a whole-picture crop of a bound channel, when known. -/
def State.wholeSize (s : State) (c : LayerCfg) : Option (Nat × Nat) :=
  match c.source with
  | none => none
  | some ch =>
    let x := s.src ch
    if x.st = .closed then none
    else if x.typ = 3 || x.typ = 5 then some (x.p1, x.p2)
    else if (s.ctx ch).st = .unconfigured then none
    else some ((s.ctx ch).maxW, (s.ctx ch).maxH)

/-- Crop size for the ratio check and the fetch area. -/
def State.cropSize (s : State) (c : LayerCfg) : Option (Nat × Nat) :=
  if c.whole then s.wholeSize c else some (c.crop.w, c.crop.h)

/-- A ratio d ÷ n lies in [1/low, 8] (R227, R293). -/
def ratioOk (low d n : Nat) : Bool := n ≤ low * d && d ≤ 8 * n

/-- The direction whose ratio is out of range: 0 width, 1 height. -/
def State.ratioErr (s : State) (c : LayerCfg) (locked : Bool) : Option Nat :=
  let low := if locked then 4 else 8
  match s.cropSize c with
  | none => none
  | some (w, h) =>
    if !ratioOk low c.dest.w w then some 0 else if !ratioOk low c.dest.h h then some 1 else none

/-! ### Composition limits (R252), on the state as accepted -/

/-- Layers accepted on a head, with their numbers. -/
def State.placedOn (s : State) (h : Nat) : List (Nat × Layer) :=
  ((List.range 192).map fun i => (i, s.layer i)).filter fun x => x.2.head = some h

/-- Area fetched by a layer on a head (Table 9-17). -/
def State.fetchArea (s : State) (i : Nat) (c : LayerCfg) (t : Timing) : Nat :=
  if isVideo i then ((s.cropSize c).map fun p => p.1 * p.2).getD 0 else (visibleRect c t).area

/-- The head is enabled, as accepted. -/
def Head.counts (h : Head) : Bool := h.accEnable && h.timed

/-- Overdraw: no line is crossed by more than 4 × H_act of visible width. -/
def overdrawOk (rs : List Rect) (hAct : Nat) : Bool :=
  rs.all fun r => (rs.map fun q => if q.y ≤ r.y && r.y < q.bottom then q.w else 0).sum ≤ 4 * hAct

/-- Every limit of Table 9-17 holds for a head and its cluster. -/
def State.limitsOk (s : State) (h : Nat) : Bool :=
  let cluster := (List.range 8).map fun i => h / 8 * 8 + i
  let on := cluster.filter fun k => (s.head k).counts
  let out := on.map fun k => let t := (s.head k).newTiming
                             (t.hAct * t.vAct * t.num, t.den)
  let fetch := on.map fun k =>
    let t := (s.head k).newTiming
    ((((s.placedOn k).filter fun x => x.2.cfg.enable).map fun x => s.fetchArea x.1 x.2.cfg t).sum * t.num, t.den)
  let t := (s.head h).newTiming
  let rs := (((s.placedOn h).filter fun x => x.2.cfg.enable).map fun x => visibleRect x.2.cfg t).filter fun r => !r.empty
  fracSumLe out 3000000000 && fracSumLe fetch 6000000000 && (!(s.head h).counts || overdrawOk rs t.hAct)

/-! ### Classes and the shed ladder (R362, R363, Table 15-4) -/

/-- The rung of a step for a class. -/
def rung (step cls : Nat) : Option Nat :=
  if cls = 0 || 7 < cls then none else
  match step with
  | 1 => some (8 - cls)
  | 2 => if 4 ≤ cls then some (15 - cls) else none
  | 3 => if 4 ≤ cls then some (19 - cls) else none
  | 4 => some (23 - cls)
  | 6 => some (31 - cls)
  | _ => none

/-- Position `pos` applies a step to a class. -/
def applies (pos step cls : Nat) : Bool := match rung step cls with
  | some r => r ≤ pos
  | none => false

/-- Effective class of a layer (R363). -/
def LayerCfg.eff (c : LayerCfg) : Nat := if c.guarded then c.policy.cls else c.cls

/-! ### Composition work (Tables 9-17 and 15-1, R358) -/

/-- A cost of Table 15-1. -/
def State.cost (s : State) (k : Nat) : Nat := s.hoop.otp.costs.getD k 0

/-- Cost of a sample that a layer fetches: graphic, 4 × 2 taps or NEAREST, 8 × 6 taps. -/
def State.fetchCost (s : State) (i : Nat) (c : LayerCfg) (ladder : Nat) : Nat :=
  if !isVideo i then s.cost 6 else if applies ladder 3 c.eff || c.nearest then s.cost 5 else s.cost 4

/-- Active lines of a head's current frame that have left by now. -/
def State.linesDone (s : State) (h : Nat) : Nat :=
  let x := s.head h
  min x.timing.vAct ((s.localFine - x.tF) * (x.timing.num * x.timing.vTotal) / max 1 (nsPerSec * x.timing.den * fine))

/-- Energy of the first `n` active lines of a head's current frame in pJ: its output, and the fetch of its enabled layers in
proportion to the lines of their visible rectangles. -/
def State.linesWork (s : State) (h n : Nat) : Nat :=
  let x := s.head h
  let fetch (k : Tile) : Nat :=
    let r := visibleRect k.cfg x.timing
    if !k.cfg.enable then 0
    else s.fetchArea k.layer k.cfg x.timing * s.fetchCost k.layer k.cfg x.ladder * min r.h (n - r.y) / max 1 r.h
  x.timing.hAct * n * s.cost 3 + ((s.tilesOn h).map fetch).sum

/-- Charge the lines that a head has composed since it was last charged. -/
def State.chargeHead (s : State) (h : Nat) : State :=
  let x := s.head h
  if !x.composing then s else
  let n := s.linesDone h
  (s.addWork (8 + h / 8) (s.linesWork h n - s.linesWork h x.charged)).modHead h fun x => { x with charged := n }

/-! ### Bandwidth of a DisplayPort port (R266) -/

/-- R_r in units of 10 Mb/s. -/
def rateTenMb (code : Nat) : Nat := [0, 162, 270, 540, 810].getD code 0

/-- Bits per pixel of a format. -/
def bppOf (format : Nat) : Nat := [24, 24, 30, 20].getD format 24

/-- Pixel clock as a fraction in Hz (R254). -/
def Timing.pclk (t : Timing) : Nat × Nat := (t.hTotal * t.vTotal * t.num, max 1 t.den)

/-- The heads fit a port at a rate and lanes: C = lanes × rate × 0.8. -/
def portFits (heads : List Head) (rate lanes : Nat) : Bool :=
  let c := lanes * rateTenMb rate * 8000000
  match heads with
  | [] => true
  | h :: _ =>
    if h.accStream = 0 then
      heads.all fun h => decide (h.newTiming.pclk.1 * bppOf h.newTiming.format ≤ c * h.newTiming.pclk.2)
    else decide ((heads.map fun h =>
      ceilDiv (h.newTiming.pclk.1 * bppOf h.newTiming.format * 1006 * 64) (max 1 (c * 1000 * h.newTiming.pclk.2))).sum ≤ 63)

/-- MST slots of the heads of a port at its training (Table 10-6). -/
def portSlots (heads : List Head) (rate lanes : Nat) : Nat :=
  let c := lanes * rateTenMb rate * 8000000
  if c = 0 then 0 else
  ((heads.filter fun h => h.stream ≠ 0).map fun h =>
    ceilDiv (h.timing.pclk.1 * bppOf h.timing.format * 1006 * 64) (max 1 (c * 1000 * h.timing.pclk.2))).sum

/-- Enabled heads of a port, as accepted. -/
def State.portHeads (s : State) (p : Nat) : List Head := s.heads.filter fun h => h.accTarget = 0x7000 + p && h.accEnable

/-- The port's training that counts for bandwidth: the present one, else the last that succeeded. -/
def DpPort.config (p : DpPort) : Nat × Nat := if p.st = 2 then (p.rate, p.lanes) else (p.lastRate, p.lastLanes)

/-- The enabled heads of a port fit. -/
def State.portOk (s : State) (p : Nat) : Bool :=
  let x := s.ports.getD p {}
  portFits (s.portHeads p) x.config.1 x.config.2

end Sys2Proof.Machine
end

