-- ==== Sys2Proof/Machine/Txn.lean ====
section
/-! DEFINITION. Pricking transactions: begin, commit, roll back, query (spec/05). -/
namespace Sys2Proof.Machine

/-- Codes of Table 5-1. -/
def TxnState.code : TxnState → Nat
  | .open_ => 0 | .committing => 1 | .fixed => 2 | .applying => 3 | .applied => 4 | .rolledBack => 5

/-- A live transaction finishes: it joins the 16 most recently finished (R136). -/
def State.retireTxn (s : State) (x : Txn) : State :=
  { s with txn := { s.txn with live := s.txn.live.filter fun y => y.handle ≠ x.handle
                               finished := (x :: s.txn.finished).take 16 } }

/-- Roll a transaction back (R121, R136, R137): staged state is discarded, a waiting commit is answered with `status`
and `detail`, and every reason but HOST raises EVT_TXN. DESIGN CHOICE (log entry 109): the event's STATUS is 0 where no check failed (idle,
session close, reset). -/
def State.rollback (s : State) (x : Txn) (reason status detail failIndex : Nat) : State :=
  let fs := if reason = 5 then status else 0
  let s := s.retireTxn { x with st := .rolledBack, reason, failIndex, failStatus := fs, commit := none, objects := [] }
  let s := s.finish? x.commit status detail []
  s.when (reason ≠ 1) (·.evtTxn x.handle 2 reason (if reason = 3 then eFenceTimeout else fs) failIndex 0)

/-- The next handle (R120). -/
def State.nextHandle (s : State) : Nat :=
  let used := s.txn.live.map (·.handle) ++ s.txn.finished.map (·.handle)
  let cand (k : Nat) : Nat := (s.txn.lastHandle + k) % 65535 + 1
  ((List.range 32).map cand).find? (fun h => !used.contains h) |>.getD 0

def cmdTxnBegin : Cmd where
  spec := specTxnBegin
  param j _ := chk 0 (j.u16 0 ≤ 3600) ++ rsv j 2 2
  run j s :=
    if s.txn.live.length ≥ 4 then .fail eTxnFull 1 else
    let h := s.nextHandle
    let idle := if j.u16 0 = 0 then 10 else j.u16 0
    let x : Txn := { handle := h, session := j.req.session, transport := j.req.transport, peer := j.req.peer,
                     idleNs := idle * nsPerSec, idleSince := s.now }
    .ok { s with txn := { s.txn with lastHandle := h, live := s.txn.live ++ [x] } } (leBytes 2 h ++ zeros 2)

/-- The fence list of a commit with its packet offsets (Table 5-3). -/
def commitFences (j : Job) : List (Nat × Nat × Nat) :=
  (List.range (j.u8 16)).map fun i => (36 + 12 * i, j.u16 (20 + 12 * i), j.u64 (24 + 12 * i))

/-- A fence's value. -/
def State.fenceValue (s : State) (id : Nat) : Nat := (s.lay.fences.getD (idIndex id) {}).value

/-- The first listed fence below its target (R126). -/
def State.fenceShort (s : State) (x : Txn) : Option Nat := (x.fences.find? fun f => s.fenceValue f.1 < f.2).map (·.1)

def cmdTxnCommit : Cmd where
  spec := specTxnCommit
  param j s :=
    let n := (j.len - 20) / 12
    chk 2 (j.u8 2 ≤ 1) ++ rsv j 3 1 ++ chk 4 (j.u64 4 ≤ s.stitch + 2 ^ 31) ++
    chk 12 (j.u8 16 = 0 || j.u32 12 ≤ 10000000) ++ chk 16 (j.u8 16 = n) ++ rsv j 17 3 ++
    (List.range n).flatMap fun i => chkId j (20 + 12 * i) [0xB] ++ rsv j (22 + 12 * i) 2
  run j s :=
    let h := j.u16 0
    match s.txn? h with
    | none => .fail eTxnUnknown h
    | some x =>
    if !(x.st = .open_ && x.owned j.req) then .fail eTxnUnknown h
    else if j.u64 4 ≠ 0 && j.u64 4 ≤ s.stitch then .fail eDeadline 0
    else match (commitFences j).find? fun f => !(idInRange f.2.1 && s.objExists f.2.1) with
    | some f => .fail eNoObject f.1
    | none =>
      let us := if j.u32 12 = 0 then 100000 else j.u32 12
      .later (s.modTxn h fun x => { x with
        st := .committing, fences := (commitFences j).map (·.2), sc := j.u64 4, timeoutNs := us * 1000, acceptedAt := s.now,
        lateApply := j.u8 2 = 1, commit := some j })

def cmdTxnRollback : Cmd where
  spec := specTxnRollback
  param j _ := rsv j 2 2
  run j s :=
    let h := j.u16 0
    match s.txn? h with
    | none => .fail eTxnUnknown h
    | some x =>
    if !x.owned j.req then .fail eTxnUnknown h
    else if x.st = .open_ || x.st = .committing then .ok (s.rollback x 1 eTxnUnknown h 0) []
    else .fail eState 0

def cmdTxnQuery : Cmd where
  spec := specTxnQuery
  param j _ := rsv j 2 2
  run j s :=
    match (s.txn.live ++ s.txn.finished).find? fun x => x.handle = j.u16 0 with
    | none => .fail eTxnUnknown (j.u16 0)
    | some x => .ok s (leBytes 1 x.st.code ++ leBytes 1 x.reason ++ leBytes 2 x.staged.length ++ leBytes 2 x.failIndex ++
        leBytes 2 x.failStatus ++ leBytes 8 x.sa)

/-- TXN_IDLE_EXPIRY (R122). -/
def txnIdleExpiry (h : Nat) (s : State) : State :=
  match s.txn? h with
  | some x => if x.st = .open_ && x.idleSince + x.idleNs ≤ s.now then s.rollback x 2 0 0 0 else s
  | none => s

/-- Transactions in APPLYING with no change left are APPLIED (R121, R137). -/
def State.settleTxns (s : State) : State :=
  s.forEach (s.txn.live.filter fun x => x.st = .applying && !s.txn.changes.any fun c => c.txn = x.handle) fun x s =>
    (s.retireTxn { x with st := .applied, objects := [] }).evtTxn x.handle 1 0 0 0 0

/-- A session closes: its open and committing transactions roll back (R121). -/
def State.rollbackSession (s : State) (n : Nat) (tr : Transport) : State :=
  s.forEach (s.txn.live.filter fun x => x.session = n && x.transport = tr && (x.st = .open_ || x.st = .committing)) fun x s =>
    s.rollback x 4 eTxnUnknown x.handle 0

end Sys2Proof.Machine
end

