-- ==== Sys2Proof/Machine/Apply.lean ====
section
/-! DEFINITION. How accepted changes come into force: at a head's apply line, at once, or at a Stitch boundary
(spec/05 R130-R135, R517), the service of flips (spec/09 R237-R239) and the edits themselves. -/
namespace Sys2Proof.Machine

/-! ### Flips -/

/-- Identifier of a graphic layer's Gimp quota. -/
def graphicId (i : Nat) : Nat := i - 128 + 0x4000

def flipSeqs (q : List Flip) : List Nat := q.map (·.seq)

/-- Flips still queued somewhere. -/
def State.queuedFlips (s : State) (i : Nat) : List Nat :=
  flipSeqs (s.layer i).queue ++ (s.tilesOf i).flatMap fun t => flipSeqs t.queue

/-- Buffers still applied somewhere. -/
def State.appliedFlips (s : State) (i : Nat) : List Nat :=
  flipSeqs ((s.layer i).applied.toList ++ (s.tilesOf i).filterMap (·.applied))

/-- After any change to a graphic layer's queues: retire the records that nothing uses (Table 8-3), and answer the direct
flips that have left every queue (R239). -/
def State.settleFlips (s : State) (i : Nat) : State :=
  let used := s.queuedFlips i ++ s.appliedFlips i
  let gone := ((s.quota (graphicId i)).recs.filter fun r => r.live && !used.contains r.seq).map (·.seq)
  let s := s.forEach gone fun n s => s.retireRec (graphicId i) n
  let queued := s.queuedFlips i
  let done := (s.layer i).flipJobs.filter fun f => !queued.contains f.seq
  let s := s.modLayer i fun l => { l with flipJobs := l.flipJobs.filter fun f => queued.contains f.seq }
  s.forEach done fun f s => if f.ok then s.finish f.job 0 0 [] else s.finish f.job eFenceTimeout (f.job.u16 2) []

/-- A fence's value from the writes that completed before an elapsed instant, in units of 2^-32 ns (R238). -/
def State.fenceBefore (s : State) (id : Nat) (limit : Int) : Nat :=
  let f := s.lay.fences.getD (idIndex id) {}
  if ((f.written * fine : Nat) : Int) < limit then f.value else f.before

/-- A flip was accepted before the sampling instant, or staged for a Stitch that has begun by then (R132, R238). -/
def Flip.there (f : Flip) (limit : Int) : Bool := decide (((f.accepted * fine : Nat) : Int) < limit + b2n f.staged)

/-- A flip that is there, and whose fence had reached its target at the sampling instant (R237, R238). -/
def State.flipReady (s : State) (limit : Int) (f : Flip) : Bool :=
  f.there limit && (f.fence = 0 || f.target ≤ s.fenceBefore f.fence limit)

/-- Elapsed instant of the last Stitch boundary. -/
def State.boundaryAt (s : State) : Nat := s.now - (s.local - s.clk.boundary)

/-- The instant at which a head's flips are sampled: its apply line, or the Stitch boundary while it is UNTIMED (R237). -/
def State.sampleAt (s : State) (h : Nat) : Int :=
  let x := s.head h
  if x.st = .untimed then (s.boundaryAt * fine : Nat)
  else ((s.now * fine : Nat) : Int) + (x.tF + x.timing.lines x.line : Nat) - (s.localFine : Nat)

/-- Now, with everything that happens at it. -/
def State.afterNow (s : State) : Int := ((s.now + 1) * fine : Nat)

/-- The flip's T apply lines are over (R238). -/
def State.flipOverdue (s : State) (f : Flip) : Bool :=
  f.fence ≠ 0 && decide (33 * (s.lay.fences.getD (idIndex f.fence) {}).timeout ≤ f.fronts)

/-- What serving a queue gives: the queue left, the applied buffer, the flips that were applied or retired. -/
structure Served where
  queue : List Flip
  applied : Option Flip
  ok : List Nat

/-- Serve a queue at a sampling instant that counts `step` for a flip that is at the front and there (Table 9-11, R238). -/
def State.serve (s : State) (limit : Int) (step : Nat) (q : List Flip) (applied : Option Flip) : Served :=
  let run := q.takeWhile (s.flipReady limit)
  let rest := match q.drop run.length with
    | [] => []
    | f :: fs => (if f.there limit then { f with fronts := f.fronts + step } else f) :: fs
  ⟨rest, match run.getLast? with
    | some f => some f
    | none => applied, flipSeqs run⟩

/-- Mark direct flips as applied or retired. -/
def State.markFlips (s : State) (i : Nat) (ok : List Nat) : State :=
  s.modLayer i fun l => { l with flipJobs := l.flipJobs.map fun f => if ok.contains f.seq then { f with ok := true } else f }

/-- Flips at the front whose count ran out before this instant leave first. -/
def State.dropOverdue (s : State) (q : List Flip) : List Flip := q.dropWhile s.flipOverdue

/-- Serve a graphic layer on a head (an apply line, or a Stitch boundary of an UNTIMED head). -/
def State.serveTile (s : State) (t : Tile) (limit : Int) (step : Nat) : State :=
  if isVideo t.layer || t.cfg.format = 0 then s else
  let r := s.serve limit step (s.dropOverdue t.queue) t.applied
  ((s.modTile t.layer t.head fun t => { t with queue := r.queue, applied := r.applied }).markFlips t.layer r.ok).settleFlips t.layer

/-- Serve a graphic layer that is on no head, up to a flip that waits for the head its transaction places the layer on (R131). -/
def State.serveIdle (s : State) (i : Nat) (limit : Int) (step : Nat) : State :=
  let l := s.layer i
  if isVideo i || l.base.format = 0 || !(s.tilesOf i).isEmpty then s else
  let (mine, later) := (s.dropOverdue l.queue).span fun f => f.onHead.isNone || f.onHead ≠ l.head
  let r := s.serve limit step mine l.applied
  ((s.modLayer i fun l => { l with queue := r.queue ++ later, applied := r.applied }).markFlips i r.ok).settleFlips i

/-- Serve a graphic layer that is on no head, at a Stitch boundary. -/
def State.serveLayer (s : State) (i : Nat) : State := s.serveIdle i (s.boundaryAt * fine : Nat) 1

/-- FLIP_ABANDON (R238): the flip at the front of the queue on a head, or of the layer's own queue when `head` names no
head, leaves it after its T-th apply line; the next flip is considered at the same instant. -/
def flipAbandon (i head : Nat) (s : State) : State :=
  let limit := if head < 32 then s.sampleAt head else (s.boundaryAt * fine : Nat)
  let go (q : List Flip) : Option (List Flip) := match q with
    | f :: fs => if s.flipOverdue f && !s.flipReady limit f then some fs else none
    | [] => none
  if head < 32 then
    match s.tile? i head with
    | some t => match go t.queue with
      | some q =>
        let s := s.modTile i head fun t => { t with queue := q }
        match s.tile? i head with
        | some t => (s.serveTile t limit (if (s.head head).st = .untimed then 1 else 33)).settleFlips i
        | none => s
      | none => s
    | none => s
  else match go (s.layer i).queue with
    | some q => ((s.modLayer i fun l => { l with queue := q }).serveLayer i).settleFlips i
    | none => s

/-! ### Edits of a layer (Tables 9-1 to 9-4, 8-10, R211) -/

/-- The policy after FRESH_SET_POLICY with ACTION 0 (R33). -/
def policyEdit (j : Job) (p : Policy) : Policy :=
  let m := j.u16 2
  let pick (b : Nat) (new old : Nat) : Nat := if m.testBit b then new else old
  { boundUs := pick 0 (j.u32 8) p.boundUs
    late := pick 1 (j.u32 12) p.late
    minEvidence := pick 2 (j.u8 5) p.minEvidence
    uMaxUs := pick 3 (j.u32 20) p.uMaxUs
    freezeOn := pick 4 (j.u8 24) p.freezeOn
    freezeOff := pick 4 (j.u8 25) p.freezeOff
    impaired := pick 5 (j.u32 16) p.impaired
    style := pick 6 (j.u8 6) p.style
    cls := pick 7 (j.u8 7) p.cls }

/-- A command's change to the settings of the layer it names. `lut` is the layer's pre-blend LUT as published. -/
def layerEdit (lut : List (Nat × Nat)) (j : Job) (c : LayerCfg) : LayerCfg :=
  match j.cls, j.op with
  | 0x20, 0x01 =>
    if idType (j.u16 0) = 3 then
      { c with source := if j.u16 2 = 0 then none else some (idIndex (j.u16 2)), rowLatch := j.u8 5 = 1
               paused := c.paused && j.u16 2 ≠ 0 }
    else { c with format := j.u8 4 }
  | 0x20, 0x02 => if j.u16 2 = 0 then { c with dest := {}, z := 0, paused := false } else { c with dest := j.rect 4, z := j.u8 12 }
  | 0x20, 0x03 => { c with coef := idIndex (j.u16 2) - 0xC0, crop := j.rect 4, phaseH := j.s16 12, phaseV := j.s16 14
                           nearest := j.u8 16 = 1 }
  | 0x20, 0x05 => { c with enable := true }
  | 0x20, 0x06 => { c with enable := false }
  | 0x20, 0x08 => { c with alpha := j.u8 2 }
  | 0x22, 0x02 => { c with preLut := lut }
  | 0x12, 0x01 =>
    if j.u8 4 = 1 then { c with guarded := false, policy := {}, treatments := [], paused := false }
    else { c with guarded := true, policy := policyEdit j c.policy }
  | 0x12, 0x04 =>
    let rest := c.treatments.filter fun t => t.1 ≠ j.u8 2
    { c with treatments := if j.u8 3 = 0xFF then rest else (j.u8 2, j.u8 3) :: rest }
  | 0x12, 0x06 => { c with paused := true }
  | 0x12, 0x07 => { c with paused := false }
  | _, _ => c

/-- A command that only edits the settings of a layer. -/
def isLayerEdit (j : Job) : Bool :=
  (j.cls = 0x20 && [0x01, 0x02, 0x03, 0x05, 0x06, 0x08].contains j.op) || (j.cls = 0x22 && j.op = 0x02) || j.cls = 0x12

/-! ### Tiles come and go (R134, R224, R237) -/

/-- A tile as it is when the layer joins a head. It has shown no frame there: DESIGN CHOICE (log entry 69), a guarded layer that
moves advances its Picot at its first live verdict on the new head, whatever frame it showed on the old one (R63). -/
def State.newTile (s : State) (i head : Nat) (cfg : LayerCfg) : Tile :=
  let l := s.layer i
  let joins (q : List Flip) : List Flip := q.map fun f => { f with onHead := none }
  match s.newestTile i with
  | some o => { layer := i, head, placed := s.lay.placeCount + 1, cfg, queue := o.queue, applied := o.applied, picot := o.picot
                freshFrom := o.freshFrom }
  | none => { layer := i, head, placed := s.lay.placeCount + 1, cfg, queue := joins l.queue, applied := l.applied, picot := l.picot }

/-- The layer joins a head. -/
def State.joinHead (s : State) (i head : Nat) (cfg : LayerCfg) : State :=
  let t := s.newTile i head cfg
  let s := { s with lay := { s.lay with tiles := s.lay.tiles ++ [t], placeCount := s.lay.placeCount + 1 } }
  let s := s.modLayer i fun l => { l with queue := [], applied := none }
  s.modHead head fun h => { h with order := if h.programmable && !h.order.contains i then h.order ++ [i] else h.order }

/-- The layer leaves a head: holds go, a pause ends; the queue and the applied buffer return to the layer when no other
head shows it, and are discarded there otherwise. -/
def State.leaveHead (s : State) (i head : Nat) : State :=
  match s.tile? i head with
  | none => s
  | some t =>
    let s := s.releaseTile i head
    let s := { s with lay := { s.lay with tiles := s.lay.tiles.filter fun x => !(x.layer = i && x.head = head) } }
    let s := s.modHead head fun h => { h with order := h.order.filter (· ≠ i) }
    let s := if (s.tilesOf i).isEmpty then
        s.modLayer i fun l => { l with base := { t.cfg with dest := {}, z := 0, paused := false }, queue := t.queue
                                       applied := t.applied, picot := t.picot }
      else s
    if isVideo i then s else s.settleFlips i

/-- A tile that becomes guarded begins LOST (R35, R64, R71). The frame that it showed in the last scanned head frame stays known
(R63). -/
def Tile.guard_ (t : Tile) : Tile :=
  { t with state := 7, judged := false, reported := 0, picot := 0, picotShown := false, notScanned := true, evtAt := none, changes := 0
           heldEvt := false, evidence := 0, ageUs := 0xFFFFFFFF, seq := 0, fired := 0, tainted := 0, uncertNs := 0, scannedByte := 0 }

/-- A tile that has lost its picture and its verdict is LOST, and reports no age and no evidence (R35, R70). What it showed in its
last scanned head frame, and its state byte there, stay (R63, R71). -/
def Tile.toLost (t : Tile) : Tile :=
  let t := { t with latched := none, prevHeld := none, hold := false, seen := none, picotShown := false, notScanned := true }
  if t.cfg.guarded then { t with state := 7, evidence := 0, ageUs := 0xFFFFFFFF, seq := 0, fired := 0, tainted := 0, uncertNs := 0 } else t

/-- A tile that becomes unguarded makes no claim (R31, R210). DESIGN CHOICE (log entry 109): the fall of its state byte to NONE raises no
EVT_TILE_STATE, and an event that was held back is dropped. -/
def Tile.unguard (t : Tile) : Tile :=
  { t with state := 0, judged := false, picot := 0, picotShown := false, notScanned := false, heldEvt := false, evtAt := none, changes := 0
           evidence := 0, ageUs := 0, seq := 0, fired := 0, tainted := 0, uncertNs := 0, scannedByte := 0, freshFrom := none }

/-- A layer edit comes into force on the settings that hold while the layer is on no head, and on those its next tile starts from
(R517). -/
def State.editIdle (s : State) (j : Job) (i : Nat) : State :=
  let l := s.layer i
  let s := s.modLayer i fun l => { l with base := layerEdit l.cfg.preLut j l.base, snap := layerEdit l.cfg.preLut j l.snap }
  let s := if !isVideo i && j.cls = 0x20 && j.op = 0x01 then (s.modLayer i fun l => { l with applied := none }).settleFlips i else s
  let s := s.when (l.base.guarded && !(s.layer i).base.guarded && (s.tilesOf i).isEmpty) (·.audUnguard i)
  -- R64, R210: unguarded, a layer loses its Picot position.
  s.when (l.base.guarded ≠ (s.layer i).base.guarded) (·.modLayer i fun l => { l with picot := 0 })

/-- A layer edit comes into force on a tile, with what goes with it; where the layer has no tile any more, or none yet, on its own
settings. -/
def State.editTile (s : State) (j : Job) (i head : Nat) : State :=
  match s.tile? i head with
  | none => s.when (s.tilesOf i).isEmpty (·.editIdle j i)
  | some t =>
    let new := layerEdit (s.layer i).cfg.preLut j t.cfg
    let unbound := t.cfg.source.isSome && new.source = none
    let resumed := t.cfg.paused && !new.paused
    let off := t.cfg.enable && !new.enable && !new.paused
    let s := if unbound || resumed || off then s.releaseTile i head else s
    let s := s.modTile i head fun t => { t with cfg := new, latched := if unbound then none else t.latched }
    let s := s.when (!t.cfg.guarded && new.guarded) (·.modTile i head Tile.guard_)
    let s := if t.cfg.guarded && !new.guarded then
        let s := s.modTile i head Tile.unguard
        s.when (!(s.tilesOf i).any fun t => t.cfg.guarded) (·.audUnguard i)
      else s
    let s := s.when (resumed && j.cls = 0x12) (·.modHead head fun h => { h with exitSr := h.exitSr || h.st = .selfRefresh })
    let s := s.when (new.dest ≠ t.cfg.dest) (·.releaseHidden head)
    if !isVideo i && j.cls = 0x20 && j.op = 0x01 then
      -- R220: a rebound graphic layer has no buffer until its next flip applies.
      (s.modTile i head fun t => { t with applied := none, latched := none, hold := false }).settleFlips i
    else s

/-- A layer edit comes into force while the layer is on no head, and on the tile it has got since or is about to get (R517). -/
def State.editBase (s : State) (j : Job) (i : Nat) : State :=
  let s := s.editIdle j i
  s.forEach (s.tilesOf i) fun t s => s.editTile j i t.head

/-! ### Encode channels: stopping (Table 12-2) -/

def State.encode (s : State) (ec : Nat) : Enc := s.enc.getD ec {}
def State.modEnc (s : State) (ec : Nat) (f : Enc → Enc) : State := { s with enc := modAt s.enc ec f }

/-- EVT_ENCODE, at most once per code and channel in a Stitch; each later one is an EVENT entry of the log (R317, Table 18-9; log
entry 85). -/
def State.evtEncode (s : State) (ec code reason a0 a1 picture : Nat) : State :=
  let p := picture % m32
  if s.ses.onceThisStitch.contains (0x0D, 0x8000 + ec, code) then
    (s.modEnc ec fun e => { e with evMissed := modAt e.evMissed (code - 1) fun n => satAdd32 n 1 }).logOnly 0x200D
      (0x1800 + (s.encode ec).core) [code + 256 * reason, a0, a1, p]
  else s.raiseOnce 0x0D (0x8000 + ec) code (leBytes 1 code ++ leBytes 1 reason ++ zeros 2 ++ leBytes 4 a0 ++ leBytes 4 a1 ++ leBytes 4 p)

/-- The head bound to an encode channel. -/
def State.encHead (s : State) (ec : Nat) : Option Nat := s.heads.findIdx? fun h => h.target = 0x8000 + ec

/-- An RTCP BYE, as RTP's standard lays it out. -/
def byeBytes (ssrc : Nat) : List Byte := [0x81, 203] ++ beBytes 2 1 ++ beBytes 4 ssrc

/-- A packet of encode channel `ec` leaves its port, unless the link is down (R311) or its Bobbin restarts (R408). -/
def State.sendRtp (s : State) (ec port udp : Nat) (o : Output) (n dest : Nat) : State :=
  let p := s.net.ports.getD port {}
  let b := egressBobbin (ec / 8)
  if s.hoop.bobbinDown.contains b then s.egressDrop b 1 else
  if p.enable && p.link && s.portPowered port && 0 < udp then (s.txFrame port (ipUdp dest + n)).emit o else s

/-- IP header of a channel's packets to its port, or to the next one (RTCP). -/
def EncCfg.ip (c : EncCfg) (rtcp : Bool) : IpOut :=
  { dest := c.dest, port := c.udpDst + b2n rtcp, src := c.udpSrc, dscp := c.dscp, hop := c.hop }

/-- The channel stops: RTCP BYE, its core is free, STOPPED is raised. -/
def State.encEnd (s : State) (ec reason : Nat) : State :=
  let e := s.encode ec
  let bye := byeBytes e.cfg.ssrc
  let s := s.sendRtp ec e.cfg.port e.cfg.udpDst (.rtcp (e.cfg.ip true) bye) bye.length e.cfg.dest
  (s.modEnc ec fun e => { e with st := .configured, load := 0, stopping := none, pics := [], prevRows := [], sizes := [], sweep := none }).evtEncode ec 2 reason
    (sat32 e.pictures) 0 0

/-- Stop a channel once its current picture is finished. -/
def State.encHalt (s : State) (ec reason : Nat) : State :=
  let e := s.encode ec
  if e.st = .running || e.st = .idle then
    if !e.pics.isEmpty then s.modEnc ec fun e => { e with stopping := some reason } else s.encEnd ec reason
  else s

/-- Load of a channel in luma samples per second, as numerator and denominator (R297). -/
def encRatio (t : Timing) (divider : Nat) : Nat × Nat := (t.hAct * t.vAct * t.num, max 1 (t.den * max 1 divider))

/-- Load of a channel in whole luma samples per second. -/
def encLoad (t : Timing) (divider : Nat) : Nat := (encRatio t divider).1 / (encRatio t divider).2

/-- A new timing of a virtual head reaches its running channel (R297, R302). -/
def State.encTiming (s : State) (h : Nat) (old new : Timing) : State :=
  let x := s.head h
  if !x.virtual then s else
  let ec := idIndex x.target
  let e := s.encode ec
  if e.st = .running || e.st = .idle then
    s.modEnc ec fun e => { e with load := encLoad new e.cfg.divider
                                  idr := if old.hAct ≠ new.hAct || old.vAct ≠ new.vAct then some 2 else e.idr }
  else s

/-! ### Edits of a head -/

/-- HEAD_TIMING's fields (Table 10-1). -/
def timingOf (j : Job) : Timing :=
  { flags := j.u8 2, format := j.u8 3, pclkKhz := j.u32 4, hAct := j.u16 8, hFp := j.u16 10, hSync := j.u16 12, hBp := j.u16 14
    vAct := j.u16 16, vFp := j.u16 18, vSync := j.u16 20, vBp := j.u16 22, num := j.u32 24, den := j.u32 28, sinkUs := j.u32 32 }

/-- The apply line is legal for a timing (R261). -/
def Timing.lineOk (t : Timing) (n : Nat) : Bool := t.vAct ≤ n && n + 4 ≤ t.vTotal

/-- The configured line, or the default when a timing leaves it out of range. -/
def keepLine (t : Timing) (l : Option Nat) : Option Nat := l.filter t.lineOk

/-- Acquire again: LOCKED goes to ACQUIRING on an enabled head (Table 10-3). -/
def Genlock.reacquire (g : Genlock) : Genlock := if g.st = .locked then { g with st := .acquiring, goodRun := 0, badRun := 0 } else g

/-- A timing comes into force (Table 10-7, R133, R256). A disabled head starts a new frame of it at once (log entry 46). -/
def State.setTiming (s : State) (h : Nat) (t : Timing) : State :=
  let x := s.head h
  if x.st = .untimed || x.st = .disabled then
    (s.modHead h fun x => { x with timing := t, st := .disabled, tF := s.localFine, nextTF := none, frame := x.frame + 1
                                   applied := false, ended := false, composed := false, steerPpb := 0
                                   applyLine := keepLine t x.applyLine }).encTiming h x.timing t |>.releaseHidden h
  else s.modHead h fun x => { x with nextTiming := some t, genlock := x.genlock.reacquire }

/-- The first target at or after a frame start, in the units of head times (R262). -/
def nextTarget (t : Timing) (g : Genlock) (at_ : Nat) : Nat :=
  let m := nsPerSec * t.den * fine
  let phase := g.phaseNs * fine * t.num % m
  let x : Int := ((at_ : Int) - g.epochNs * fine) * t.num - phase
  let gap := ((-x) % m).toNat
  at_ + gap / max 1 t.num

/-- HEAD_GENLOCK comes into force (Table 10-3). The steering ratio of the current frame stays to its end (R263). -/
def State.setGenlock (s : State) (h : Nat) (j : Job) : State :=
  let g : Genlock := { mode := j.u8 2, epochNs := j.time 4, phaseNs := j.u32 16 }
  s.modHead h fun x =>
    if j.u8 2 = 0 then { x with genlock := { mode := 0 }, placeNext := false }
    else if x.st = .untimed then x
    else if x.st = .disabled then
      match x.nextTF with
      | some n => { x with genlock := { g with st := .locked }, nextTF := some (nextTarget x.timing g n) }
      | none => { x with genlock := { g with st := .locked }, placeNext := true }
    else { x with genlock := { g with st := .acquiring } }

/-- HEAD_BIND_PORT comes into force; unbinding an encode channel stops it (Table 12-2). -/
def State.setBinding (s : State) (h target stream : Nat) : State :=
  let x := s.head h
  let s := if x.virtual && x.target ≠ target then s.encHalt (idIndex x.target) 1 else s
  s.modHead h fun x => { x with target, stream }

/-- HEAD_ENABLE comes into force (Table 10-7; log entry 46 for a head that has not begun its closing frame). -/
def State.setEnable (s : State) (h : Nat) : State :=
  let x := s.head h
  if x.st = .disabled || (x.st = .closing && !x.closingFrame) then s.modHead h fun x => { x with st := .scanning } else s

/-- HEAD_DISABLE comes into force (Table 10-7). -/
def State.setDisable (s : State) (h : Nat) : State :=
  let x := s.head h
  match x.st with
  | .scanning => s.modHead h fun x => { x with st := .closing, closingFrame := false }
  | .selfRefresh => s.modHead h fun x => { x with st := .closing, closingFrame := false, exitSr := false }
  | .srEntry => (s.finish? x.srJob eState (headId h) []).modHead h fun x => { x with st := .closing, closingFrame := false, srJob := none }
  | _ => s

/-! ### Slice-lock (R280) -/

/-- The head has a phase leader (R278): as accepted, and for a direct command while one is in force too (log entry 105). -/
def State.ledHead (s : State) (j : Job) (h : Nat) : Bool :=
  s.slk.any fun k => (k.acc && k.accHead = h) || (j.req.txn = 0 && k.mode ≠ .off && k.head = h)

/-- RESERVE of SLICE_LOCK (Table 11-1). -/
def Job.sliceReserve (j : Job) : Nat := if j.u32 8 = 0 then 262144 else j.u32 8

/-- SLICE_LOCK comes into force at the apply line of head `h`. -/
def State.setSlice (s : State) (j : Job) (h : Nat) : State :=
  let ch := idIndex (j.u16 0)
  if j.u8 4 = 1 then
    (s.modSlk ch fun k => { k with layer := idIndex (j.u16 2), head := h, noReturn := j.u8 5 = 1
                                   reserve := j.sliceReserve, cleanPassed := none, lateAt := [], cleanSince := s.now, justLocked := true, pendingDrop := none, freeAt := none
                                   reserveFrom := s.stitch + 2, pic := 0, checked := [] }).sliceMode ch .dropped 5
  else s.sliceOff ch

/-! ### Tables, styles, banners -/

def colourOf (j : Job) (k : Nat) : Nat := j.u32 (12 + 4 * k)

/-- A style entry as loaded (Table 9-13). -/
def styleOf (j : Job) : Style :=
  { picotSize := j.u8 2, corner := j.u8 3, hatchW := j.u8 4, hatchSpacing := j.u8 5, borderW := j.u8 6, dotGap := j.u8 7
    textSize := j.u8 8, glyph := j.u8 9 = 1, colours := (List.range 7).map (colourOf j) }

/-- "BANNER n" (R247). -/
def bannerName (n : Nat) : List Byte := [0x42, 0x41, 0x4E, 0x4E, 0x45, 0x52, 0x20, BitVec.ofNat 8 (0x30 + n)]

/-- The banner a command names: head and number on it. -/
def bannerHead (id : Nat) : Nat := (idIndex id - 0x100) / 8
def bannerNumber (id : Nat) : Nat := idIndex id % 8

/-- APPL_BANNER comes into force on its head. -/
def bannerEdit (j : Job) (b : Banner) : Banner :=
  { shown := j.u8 2 = 1, position := j.u8 3, style := j.u8 4, flash := j.u8 5 = 1
    text := if j.u8 6 = 0 then b.text else some (textOf (j.bytes 8 (j.u8 6))) }

/-- A SAFE input's condition holds for a banner (R248): the level that R467 gives it meets the sense, or its pair's fault or its
chatter counts as holding (R465). -/
def State.safeHolds (s : State) (n : Nat) (sense : Bool) : Bool :=
  let (level, forced) := s.safeReading n
  (level != sense) || forced

/-- Banners of a head shown because of a SAFE input: the mask of Table 9-16. -/
def State.safeDriven (s : State) (h : Nat) : Nat :=
  (List.range 8).foldl (fun m n => match (s.head h).safeMap.getD n none with
    | some (b, sense) => if bannerHead b = h && s.safeHolds n sense then m ||| 2 ^ bannerNumber b else m
    | none => m) 0

/-- Host banners shown on a head (Table 9-16). -/
def State.bannersShown (s : State) (h : Nat) : Nat :=
  ((s.head h).banners.zipIdx.foldl (fun m x => if x.1.shown then m ||| 2 ^ x.2 else m) 0) ||| s.safeDriven h

/-- Some banner is shown on a head, the device's own included (R271, R272). -/
def State.anyBanner (s : State) (h : Nat) : Bool := s.bannersShown h ≠ 0 || s.ses.hbLost || (s.head h).clockFault

/-- A banner shown on a head in self-refresh ends it at the next frame start, also when it is gone by then (R272). -/
def State.bannersEndSr (s : State) : State :=
  let wake (h : Nat) : Bool := s.bannersShown h ≠ 0 || s.ses.hbLost || s.clk.clockFault
  { s with heads := s.heads.mapIdx fun h x => if x.st = .selfRefresh && wake h then { x with exitSr := true } else x }

/-! ### DisplayPort ports (R267, R268, R482) -/

def State.dp (s : State) (p : Nat) : DpPort := s.ports.getD p {}
def State.modDp (s : State) (p : Nat) (f : DpPort → DpPort) : State := { s with ports := modAt s.ports p f }

/-- A change of STATE is logged (R268). -/
def State.setDpState (s : State) (p st : Nat) : State :=
  if (s.dp p).st = st then s
  else (s.modDp p fun x => { x with st, rate := if st = 2 then x.rate else 0, lanes := if st = 2 then x.lanes else 0 }).record 0x0602
    (0x5000 + p) [0x7000 + p, st]

/-- Reply of PORT_TRAIN (Table 10-6). -/
def State.dpReply (s : State) (p : Nat) : List Byte :=
  let x := s.dp p
  let on := s.heads.filter fun h => h.target = 0x7000 + p && (h.accEnable || h.enabled)
  leBytes 2 (0x7000 + p) ++ leBytes 1 x.st ++
  leBytes 1 (b2n x.hpd + 2 * b2n x.mst + 4 * b2n x.psr + 8 * b2n x.psr2 + 16 * b2n x.psrTrain) ++ leBytes 1 x.rate ++ leBytes 1 x.lanes ++
  leBytes 1 x.dpcdRev ++ leBytes 1 x.sinkRate ++ leBytes 1 x.sinkLanes ++ leBytes 1 on.length ++
  leBytes 1 (if x.st = 2 then portSlots on x.rate x.lanes else 0) ++ zeros 1 ++ leBytes 4 x.retrains

/-- PORT_TRAIN MODE 2 comes into force: the link is released and the transmitter idles (R267). -/
def State.releasePort (s : State) (p : Nat) : State := (s.setDpState p 4).emit (.dpSignal p 0 0)

/-- A PORT_TRAIN that has waited comes into force (R267); what has happened to the port meanwhile is answered at once. -/
def State.trainNow (s : State) (j : Job) : State :=
  let p := idIndex (j.u16 0)
  let x := s.dp p
  if x.training then s.finish j eBusy (j.u16 0) []
  else if j.u8 2 = 2 then
    if !(s.portHeads p).isEmpty then s.finish j eBusy (j.u16 0) []
    else
      let s := s.releasePort p
      s.finish j 0 0 (s.dpReply p)
  else if !x.hpd then
    let s := s.setDpState p 0
    s.finish j 0 0 (s.dpReply p)
  else s.modDp p fun x => { x with training := true, job := some j }

/-- A transmitter drives a pattern; `levels`: pattern, rate, lanes, swing and pre-emphasis, a byte each (R276, R482). -/
def State.drivePattern (s : State) (p pattern levels : Nat) : State :=
  (s.modDp p fun x => { x with pattern, patternLanes := levels / 65536 % 256 }).emit (.dpSignal p 1 levels)

/-- DP_PATTERN comes into force (R482). -/
def State.setPattern (s : State) (j : Job) : State :=
  let p := idIndex (j.u16 0)
  let s1 := s.drivePattern p (j.u8 2) (uAt j.req.payload 2 5)
  if j.u8 2 = 0 then s1.setDpState p 4 else s1

/-- A command that has come into force waits for no head any more. -/
def State.dropChanges (s : State) (j : Job) : State :=
  { s with txn := { s.txn with changes := s.txn.changes.filter fun c => c.job ≠ j } }

/-- Heads bound to a target, in force or as accepted (R131). -/
def State.headsOf (s : State) (target : Nat) : List Nat :=
  if idType target ≠ 7 then [] else
  (s.heads.zipIdx.filter fun x => x.1.target = target || x.1.accTarget = target).map (·.2)

/-! ### A change comes into force -/

/-- The change of an accepted command comes into force on head `h`. -/
def applyJob (j : Job) (h : Nat) (s : State) : State :=
  if isLayerEdit j then
    let i := layerIndex (j.u16 0)
    if j.cls = 0x20 && j.op = 0x02 && j.u16 2 ≠ headId h then s.leaveHead i h
    else if j.cls = 0x20 && j.op = 0x02 && (s.tile? i h).isNone then
      s.joinHead i h (layerEdit (s.layer i).cfg.preLut j (s.layer i).snap)
    else s.editTile j i h
  else match j.cls, j.op with
  | 0x20, 0x07 => s.modHead h fun x => { x with programmable := j.u8 2 = 1
                                                order := (List.range (j.u8 3)).map fun i => layerIndex (j.u16 (4 + 2 * i)) }
  | 0x21, 0x01 => s.setTiming h (timingOf j)
  | 0x21, 0x02 => if j.u16 0 = headId h then s.setBinding h (j.u16 2) (j.u8 4) else s
  | 0x21, 0x09 => (s.dropChanges j).trainNow j
  | 0x50, 0x03 => (s.dropChanges j).setPattern j
  | 0x21, 0x03 => s.modHead h fun x => { x with applyLine := if j.u16 2 = 0xFFFF then none else some (j.u16 2) }
  | 0x21, 0x04 => s.setGenlock h j
  | 0x21, 0x06 => s.setEnable h
  | 0x21, 0x07 => s.setDisable h
  | 0x21, 0x0A => s.setSlice j h
  -- SRC_CLOSE, DEC_STOP and DEC_FLUSH release the lock of their channel (Table 11-2).
  | 0x10, 0x02 => s.sliceOff (idIndex (j.u16 0))
  | 0x11, 0x03 => s.sliceOff (idIndex (j.u16 0))
  | 0x11, 0x04 => s.sliceOff (idIndex (j.u16 0))
  | 0x22, 0x01 =>
    let k := idIndex (j.u16 0) - 0xC0
    s.modHead h fun x => { x with coefs := modAt x.coefs k fun _ => s.lay.coefs.getD k [] }
  | 0x22, 0x03 => s.modHead h fun x => { x with postLut := x.accPostLut }
  | 0x23, 0x01 => s.modHead h fun x => { x with styles := modAt x.styles (idIndex (j.u16 0) - 0xE0) fun _ => styleOf j }
  | 0x23, 0x02 =>
    let s := s.modHead h fun x => { x with banners := modAt x.banners (bannerNumber (j.u16 0)) (bannerEdit j) }
    s.modHead h fun x => { x with exitSr := x.exitSr || (x.st = .selfRefresh && j.u8 2 = 1) }
  | 0x23, 0x03 =>
    let n := idIndex (j.u16 0) - 0x80
    let m := if j.u16 2 ≠ 0 && bannerHead (j.u16 2) = h then some (j.u16 2, decide (j.u8 4 = 1)) else none
    s.modHead h fun x => { x with safeMap := modAt x.safeMap n fun _ => m }
  | _, _ => s

/-- ENERGY_SET_CLASS of a layer comes into force (R363). -/
def State.putClass (s : State) (j : Job) : State :=
  let n := layerIndex (j.u16 0)
  let put (x : LayerCfg) : LayerCfg := { x with cls := j.u8 2 }
  let tile (t : Tile) : Tile := if t.layer = n then { t with cfg := put t.cfg } else t
  let s := s.modLayer n fun l => { l with cfg := put l.cfg, base := put l.base, snap := put l.snap }
  { s with lay := { s.lay with tiles := s.lay.tiles.map tile } }

/-- What has waited for a Stitch boundary comes into force (R517). -/
def applyAtBoundary (j : Job) (s : State) : State :=
  if j.cls = 0x40 then s.putClass j else if j.cls = 0x30 then s.putRoute j else s.editBase j (layerIndex (j.u16 0))

/-- A change comes into force. -/
def applyChange (c : Change) (s : State) : State := match c.head with
  | some h => applyJob c.job h s
  | none => applyAtBoundary c.job s

/-- Head `h` takes a change at once (R133): a transaction's changes go by its state at the start of S_a. -/
def State.atOnce (s : State) (j : Job) (h : Nat) : Bool :=
  (s.head h).immediate || (j.req.txn ≠ 0 && (s.txn? j.req.txn).any fun x => x.atOnce.contains h)

/-- A command of a FIXED transaction takes effect at S_a, over what direct commands have changed since the fix: the limits it was
checked against then are not asked again (R124, R127). -/
def State.fixedJob (s : State) (j : Job) : Bool := j.req.txn ≠ 0 && (s.txn? j.req.txn).any fun x => x.st = .fixed

/-- The change of an accepted command goes to each head it affects: at once where R133 says so, else at the apply line. -/
def State.affect (s : State) (j : Job) (heads : List Nat) : State :=
  s.forEach heads.eraseDups fun h s =>
    if s.atOnce j h then applyJob j h s
    else
      let c : Change := { head := some h, job := j, txn := j.req.txn }
      { s with txn := { s.txn with changes := s.txn.changes ++ [c] } }

/-- The heads bound to the port a command names, for whose apply line it waits (R131, R517). -/
def State.portWaits (s : State) (j : Job) : List Nat := (s.headsOf (j.u16 0)).filter fun h => !s.atOnce j h

/-- A command that names a DisplayPort port waits for the first apply line of the heads bound to it (R131, R517); with none that
waits for one, it takes effect at once. -/
def State.affectPort (s : State) (j : Job) : State :=
  let wait := s.portWaits j
  if wait.isEmpty then applyJob j 0 s else s.affect j wait

/-- The heads on which the transaction of a staged command places a layer (R131). -/
def State.txnPlaces (s : State) (j : Job) (i : Nat) : List Nat :=
  match (if j.req.txn = 0 then none else s.txn? j.req.txn) with
  | none => []
  | some x => (x.staged.filter fun k => k.cls = 0x20 && k.op = 0x02 && layerIndex (k.u16 0) = i && k.u16 2 ≠ 0).map fun k => idIndex (k.u16 2)

/-- A layer edit, once accepted: on its heads, those its transaction places it on among them (R131), or, for a layer on none, at the next Stitch boundary (R517), for a staged
command at once (R130). -/
def State.affectLayer (s : State) (j : Job) (i : Nat) (extra : List Nat) : State :=
  let heads := (s.layerHeads i ++ extra ++ s.txnPlaces j i).eraseDups
  if heads.isEmpty then (if j.req.txn ≠ 0 then s.editBase j i else s.atBoundary j) else s.affect j heads

/-- Apply the changes that wait for head `h`, in order (R131). -/
def State.applyWaiting (s : State) (h : Option Nat) : State :=
  let mine := s.txn.changes.filter fun c => c.head = h
  let s := { s with txn := { s.txn with changes := s.txn.changes.filter fun c => c.head ≠ h } }
  s.forEach mine applyChange

end Sys2Proof.Machine
end

