-- ==== Sys2Proof/Machine/Colour.lean ====
section
/-! DEFINITION. Colour arithmetic: the sRGB curves, the Y′CbCr matrices in both directions and the built-in filter taps, in exact
integer arithmetic with one rounding (spec/09 R226, R230, R234, R241, spec/12 R300). -/
namespace Sys2Proof.Machine

/-- `n` ÷ `d` rounded half up. -/
def roundDiv (n : Int) (d : Nat) : Int := (2 * n + d) / (2 * (d : Int))

/-- A value limited to [0, top]. -/
def clampTo (top : Nat) (v : Int) : Nat := min top v.toNat

/-! ### The IEC 61966-2-1 curves (R234; rounding: log entry 78) -/

/-- The largest `bits`-bit number, counted from `lo`, for which `ok` holds; `ok` falls with its argument and holds of `lo`. -/
def descend (ok : Nat → Bool) : Nat → Nat → Nat
  | 0, lo => lo
  | bits + 1, lo => descend ok bits (if ok (lo + 2 ^ bits) then lo + 2 ^ bits else lo)

/-- Entry `i` of the sRGB decoding curve: 65,535 times the linear value of code `i` ÷ 1023, to the nearest. -/
def srgbDecode (i : Nat) : Nat :=
  if i * 100000 ≤ 4045 * 1023 then (roundDiv (65535 * i * 100 : Nat) (1023 * 1292)).toNat
  else
    let a := (1000 * i + 55 * 1023) ^ 12
    let b := (1055 * 1023) ^ 12
    min 65535 (descend (fun e => (2 * e - 1) ^ 5 * b ≤ 131070 ^ 5 * a) 16 0)

/-- Entry `i` of the encoding curve: 65,535 times the code of the linear value `i` ÷ 4095, to the nearest. -/
def srgbEncode (i : Nat) : Nat :=
  if i * 10000000 ≤ 31308 * 4095 then (roundDiv (65535 * i * 1292 : Nat) (4095 * 100)).toNat
  else
    let a := (131070 * 1055) ^ 12 * i ^ 5
    min 65535 (descend (fun e => ((2 * e - 1) * 1000 + 131070 * 55) ^ 12 * 4095 ^ 5 ≤ a) 16 0)

/-! ### Y′CbCr (R226, R300; rounding: log entry 79) -/

/-- Kr and Kb of a matrix in ten-thousandths: 0 BT.709, 1 BT.601, 2 BT.2020 with non-constant luminance. -/
def lumaWeights (matrix : Nat) : Nat × Nat :=
  if matrix = 1 then (2990, 1140) else if matrix = 2 then (2627, 593) else (2126, 722)

/-- R′, G′ and B′ in 10 bits of a sample with 10-bit components (stage 5 of Table 9-3). -/
def yuvToRgb (matrix : Nat) (full : Bool) (y cb cr : Nat) : List Nat :=
  let (kr, kb) := lumaWeights matrix
  let kg := 10000 - kr - kb
  let (y0, ys, cs) : Nat × Nat × Nat := if full then (0, 1023, 1023) else (64, 876, 896)
  -- Components over the common denominator ys × cs × 10000 × kg.
  let base : Int := ((y : Int) - y0) * cs * 10000 * kg
  let u : Int := 2 * ((cb : Int) - 512) * ys
  let v : Int := 2 * ((cr : Int) - 512) * ys
  let code (n : Int) : Nat := clampTo 1023 (roundDiv (1023 * n) (ys * cs * 10000 * kg))
  [code (base + v * (10000 - kr : Nat) * kg), code (base - u * (kb * (10000 - kb) : Nat) - v * (kr * (10000 - kr) : Nat)),
    code (base + u * (10000 - kb : Nat) * kg)]

/-- Ten thousand times the luma of R′G′B′ codes under BT.709. -/
def luma709 (c : List Nat) : Nat := 2126 * c.getD 0 0 + 7152 * c.getD 1 0 + 722 * c.getD 2 0

/-- Luma code at `n` bits, limited range, of R′G′B′ codes whose full scale is `top` (R300). -/
def codeLuma (n top : Nat) (c : List Nat) : Nat :=
  clampTo (2 ^ n - 1) (roundDiv (2 ^ (n - 8) * (219 * luma709 c + 160000 * top) : Nat) (10000 * top))

/-- Chroma code at `n` bits, limited range (R300): of pixels with weights that sum to 8, for B′ (`comp` 2) or R′ (`comp` 0). -/
def codeChroma (n top comp : Nat) (ps : List (Nat × List Nat)) : Nat :=
  let k := if comp = 2 then 722 else 2126
  let sum : Int := (ps.map fun p => (p.1 : Int) * (10000 * (p.2.getD comp 0 : Nat) - luma709 p.2)).sum
  let d := 8 * top * 2 * (10000 - k)
  clampTo (2 ^ n - 1) (roundDiv ((2 ^ (n - 8) : Nat) * (224 * sum + 128 * d)) d)

/-! ### The filters built into the device (R230) -/

/-- Taps of a phase of a built-in filter: the windowed sinc of the device, which the spec does not list, constrained to what it does
say: the number of taps, their range, and their sum of 256. -/
def builtInTaps (table phase n : Nat) : List Int :=
  let l := Config.sincTaps table phase
  if l.length = n && l.all (fun v => decide (-512 ≤ v ∧ v ≤ 511)) && l.sum = 256 then l
  else (List.range n).map fun t => if t = (n - 1) / 2 then 256 else 0

/-- Coefficient `i` of the horizontal (table 0, 8 taps) or vertical (table 1, 6 taps) set at reset (R230). -/
def coefReset (table i : Nat) : Int :=
  let n := if table = 0 then 8 else 6
  (builtInTaps table (i / n) n).getD (i % n) 0

end Sys2Proof.Machine
end

