-- ==== Sys2Proof/Machine/Guard.lean ====
section
/-! DEFINITION. Memory (spec/01 R19-R30), Guard units (spec/17), PEEK and POKE (spec/04 R119), the aperture (spec/03 R89). -/
namespace Sys2Proof.Machine

/-! ### Memory: a list of (address, byte), addresses strictly rising, no byte 0 listed -/

abbrev Memory := List Host.Cell

/-- The byte at an address; an unlisted byte reads 0 (log entry 3). -/
def memRead : Memory → Nat → Byte
  | [], _ => 0
  | c :: m, a => if c.1 = a then c.2 else if a < c.1 then 0 else memRead m a

/-- Store one byte, keeping the canonical form. -/
def memWrite : Memory → Nat → Byte → Memory
  | [], a, b => if b = 0 then [] else [(a, b)]
  | c :: m, a, b =>
    if c.1 = a then (if b = 0 then m else (a, b) :: m)
    else if a < c.1 then (if b = 0 then c :: m else (a, b) :: c :: m)
    else c :: memWrite m a b

/-- Addresses strictly rise from above `lo`, and no listed byte is 0. -/
def memRising : Option Nat → Memory → Bool
  | _, [] => true
  | lo, c :: m => (match lo with
    | none => true
    | some l => decide (l < c.1)) && c.2 != 0 && memRising (some c.1) m

/-- The canonical form. -/
def Memory.wf (m : Memory) : Bool := memRising none m

/-! ### The address map (R19-R22, Table 1-6) -/

inductive Place where
  | dram | sram
  | regs (cluster : Nat)
  | unmapped
deriving DecidableEq, Repr

/-- Visible DRAM in bytes (R22). -/
def visibleDram (gib : Nat) : Nat := 64 * (2 ^ 30 * gib / 80)

/-- Power domain of a cluster's window (Table 1-9); none where Table 1-2 has no cluster. DPC: log entry 24. -/
def clusterDomain (c : Nat) : Option Nat :=
  match c with
  | 0x01 => some 1 | 0x02 => some 2
  | 0x10 => some 3 | 0x11 => some 4 | 0x12 => some 5 | 0x13 => some 6
  | 0x18 => some 7
  | 0x20 => some 8 | 0x21 => some 9 | 0x22 => some 10 | 0x23 => some 11
  | 0x30 => some 12 | 0x40 => some 18 | 0x48 => some 17 | 0x50 => some 13 | 0x58 => some 19 | 0x60 => some 20 | 0x70 => some 0
  | _ => none

/-- What lies at an address (R19, R20). DESIGN CHOICE (log entry 65): the window of a cluster code that Table 1-2 does not list is
unmapped. -/
def State.place (s : State) (a : Nat) : Place :=
  if a < visibleDram s.hoop.otp.dramGib then .dram
  else if 0x1000000000 ≤ a && a < 0x1004000000 then .sram
  else if 0x2000000000 ≤ a && a < 0x2071000000 then
    let c := a / 0x1000000 % 0x100
    if (clusterDomain c).isSome then .regs c else .unmapped
  else .unmapped

/-- A cluster answers DOMAIN_OFF: its domain is off, or a BIST run holds it (R28, R478). -/
def State.clusterOff (s : State) (c : Nat) : Bool :=
  (match clusterDomain c with
    | some 13 => !((List.range 4).any fun i => s.reachable (13 + i))
    | some d => !s.reachable d
    | none => false) || (s.hoop.bist.st = 1 && s.hoop.bist.origin / 256 = c && !s.hoop.bist.diePending)

/-- The domain that answers an address with DOMAIN_OFF, if one does. -/
def State.offAt (s : State) (a : Nat) : Option Nat :=
  match s.place a with
  | .dram => if s.reachable 12 then none else some 12
  | .sram => if s.reachable 2 then none else some 2
  | .regs c => if s.clusterOff c then clusterDomain c else none
  | .unmapped => none

/-- One DOMAIN_OFF response (R30): counted; the first of a domain in a Stitch is logged. -/
def State.domainOffResponse (s : State) (d master address : Nat) : State :=
  let s1 := { s with pwr := { s.pwr with domainOff := modAt s.pwr.domainOff d fun n => satAdd32 n 1 } }
  if s.pwr.offLogged.contains d then s1 else
  ({ s1 with pwr := { s1.pwr with offLogged := d :: s1.pwr.offLogged } }).record 0x0301 0 [d, master, address % m32, address / m32]

/-- The byte an access reads: registers of block windows are unlisted offsets and read zero (R119). -/
def State.fabricRead (s : State) (a : Nat) : Byte :=
  match s.place a with
  | .dram | .sram => if (s.offAt a).isSome then 0 else memRead s.mem a
  | .regs _ | .unmapped => 0

def State.fabricWrite (s : State) (a : Nat) (b : Byte) : State :=
  match s.place a with
  | .dram | .sram => if (s.offAt a).isSome then s else { s with mem := memWrite s.mem a b }
  | .regs _ | .unmapped => s

/-! ### Regions and checks (R390-R395) -/

def Region.enabled (g : Region) : Bool := g.sizeExp ≠ 0
def Region.top (g : Region) : Nat := g.base + 2 ^ g.sizeExp
def Region.covers (g : Region) (a : Nat) : Bool := g.enabled && g.base ≤ a && a < g.top

def State.guard (s : State) (u : Nat) : GuardUnit := s.grd.getD u {}
def State.modGuard (s : State) (u : Nat) (f : GuardUnit → GuardUnit) : State := { s with grd := modAt s.grd u f }

/-- What a check decides: pass, or deny with cause, region (0xFF none) and lock unit (0xFF none). -/
structure Deny where
  cause : Nat
  region : Nat
  lockUnit : Nat
deriving DecidableEq, Repr

def byPerm (g : Region) (i : Nat) (write : Bool) : Option Deny :=
  if (if write then g.write else g.read) then none else some ⟨2, i, 0xFF⟩

/-- The region of a unit that covers an address, with its index. -/
def GuardUnit.regionOf (x : GuardUnit) (a : Nat) : Option (Region × Nat) := x.regions.zipIdx.find? fun g => g.1.covers a

/-- The program of a unit whose LOCK ranges the other units see: an update's new one from its step 4 on (Table 17-6, R399; that step
falls 48 µs after the close: log entry 107). -/
def State.sentProgram (s : State) (v : Nat) : GuardUnit :=
  let x := s.guard v
  match x.update with
  | some u => if u.closedAt + 48000 ≤ s.now then { x with regions := u.program } else x
  | none => x

/-- The LOCK range of another unit that covers an address, with its unit and index. -/
def State.foreignLock (s : State) (u a : Nat) : Option (Nat × Region × Nat) :=
  (List.range 9).findSome? fun v =>
    if v = u then none else
    match (s.sentProgram v).regionOf a with
    | some (g, i) => if g.lock then some (v, g, i) else none
    | none => none

/-- R393 for the part that begins at `a`: none = pass. GU_DBG passes LOCK ranges in FIELD_RETURN alone (R397, R398). -/
def State.guardCheck (s : State) (u sub a : Nat) (write : Bool) : Option Deny :=
  match s.foreignLock u a with
  | some (v, g, i) => if u = 8 && s.hoop.otp.lifecycle = 2 then byPerm g i write else some ⟨3, i, v⟩
  | none =>
  match (s.guard u).regionOf a with
  | none => some ⟨1, 0xFF, 0xFF⟩
  | some (g, i) => if g.lock && g.owner ≠ 0xFF && g.owner ≠ sub then some ⟨3, i, u⟩ else byPerm g i write

def insertNat (a : Nat) : List Nat → List Nat
  | [] => [a]
  | b :: l => if a < b then a :: b :: l else if a = b then b :: l else b :: insertNat a l

/-- The parts (start, length) of an access (R393). -/
def State.accessParts (s : State) (u a n : Nat) : List (Nat × Nat) :=
  let edges (x : GuardUnit) (lockOnly : Bool) : List Nat :=
    (x.regions.filter fun g => g.enabled && (!lockOnly || g.lock)).flatMap fun g => [g.base, g.top]
  let cuts := (List.range 9).flatMap fun v => if v = u then edges (s.guard v) false else edges (s.sentProgram v) true
  let inner := (cuts.filter fun c => a < c && c < a + n).foldr insertNat []
  let starts := a :: inner
  let ends := inner ++ [a + n]
  (starts.zip ends).map fun p => (p.1, p.2 - p.1)

def Response.isGood : Response → Bool
  | .good => true
  | _ => false

def Response.denied : Response → Bool
  | .error _ => true
  | _ => false

/-- Record a violation (R396). -/
def State.violate (s : State) (v : Violation) : State :=
  let s1 := s.modGuard v.unit fun x => { x with violations := (v :: x.violations).take 30, total := satAdd32 x.total 1 }
  let data := leBytes 8 v.address ++ leBytes 1 (b2n v.write) ++ leBytes 1 v.sub ++ leBytes 1 v.region ++ leBytes 1 v.cause ++
    leBytes 2 v.length ++ leBytes 1 v.lockUnit ++ leBytes 1 v.flags
  let first := !s.ses.onceThisStitch.contains (0x02, 0xE000 + v.unit, 0)
  let s2 := s1.raiseOnce 0x02 (0xE000 + v.unit) 0 data
  if v.cause = 3 then s2.trigger 0x0105 0 [v.address % m32, v.address / m32, v.unit + 256 * v.sub + 65536 * v.lockUnit]
  else if first then s2.logOnly 0x2002 0 [uAt data 0 4, uAt data 4 4, uAt data 8 4, uAt data 12 4]   -- code: log entry 26
  else s2

/-- Single-bit errors corrected on read, one for each cluster listed (R21, R23). -/
def State.countCorr (s : State) (clusters : List Nat) : State :=
  { s with pwr := { s.pwr with eccCorr := s.pwr.eccCorr.mapIdx fun i n => satAdd32 n (clusters.filter (· = i)).length } }

/-- The debug port is closed: no access of GU_DBG passes (R415). Those that name a LOCK range are still violations (R397; DEDUCED,
log entry 107). -/
def State.debugShut (s : State) (u : Nat) : Bool := u = 8 && !s.hoop.debugOpen

/-- Run an access against the programs in force (R393-R395): the state, the bytes read, the response. DESIGN CHOICE
(log entry 65): of a write part that holds mapped and unmapped bytes the mapped ones are written, and the part is one
violation. A read that reaches what it names counts the single-bit errors it corrects (R21). -/
def State.access (s : State) (x : Access) (stalled : Bool) : State × List Byte × Response :=
  let n := if x.write then x.data.length else x.length
  let parts := s.accessParts x.unit x.address n
  let flags (cause : Nat) : Nat := b2n (parts.length > 1) + 2 * b2n (cause = 3) + 4 * b2n stalled
  let fail (s : State) (a len cause region lock : Nat) : State :=
    s.violate { address := a, stitch := s.stitch, unit := x.unit, write := x.write, length := len, sub := x.sub, region, cause,
                flags := flags cause, lockUnit := lock }
  -- Cause 0, of no record: what a closed debug port does not pass.
  let judge (p : Nat × Nat) : Option Deny :=
    match s.guardCheck x.unit x.sub p.1 x.write with
    | some d => some (if s.debugShut x.unit && d.cause ≠ 3 then ⟨0, 0xFF, 0xFF⟩ else d)
    | none =>
      if s.debugShut x.unit then some ⟨0, 0xFF, 0xFF⟩
      else if (List.range p.2).any fun i => s.place (p.1 + i) = .unmapped then
        some ⟨4, (((s.guard x.unit).regionOf p.1).map (·.2)).getD 0xFF, 0xFF⟩ else none
  let judged := parts.map fun p => (p, judge p)
  let bad := judged.filter fun j => j.2.isSome
  -- Writes of the parts that pass, and of the mapped bytes of an unmapped part.
  let s1 := if !x.write then s else s.forEach judged fun j s =>
    match j.2 with
    | some ⟨c, _, _⟩ => if c = 4 then s.forEach (List.range j.1.2) fun i s =>
        s.fabricWrite (j.1.1 + i) (x.data.getD (j.1.1 + i - x.address) 0) else s
    | none => s.forEach (List.range j.1.2) fun i s => s.fabricWrite (j.1.1 + i) (x.data.getD (j.1.1 + i - x.address) 0)
  let s2 := s1.forEach judged fun j s1 =>
    match j.2 with
    | some d => s1.when (d.cause ≠ 0) fun s => fail s j.1.1 j.1.2 d.cause d.region d.lockUnit
    | none => match s.offAt j.1.1 with
      | some d => s1.domainOffResponse d x.unit j.1.1
      | none => s1
  let bytes := if x.write then [] else
    if bad.isEmpty then (List.range n).map fun i => s.fabricRead (x.address + i) else zeros n
  let response : Response := match bad.head?, parts.findSome? (fun p => s.offAt p.1) with
    | some j, _ => .error j.1.1
    | none, some d => .domainOff d
    | none, none => .good
  (s2.when (!x.write && response.isGood) (·.countCorr x.corrected), bytes, response)

/-! ### PEEK and POKE (R119) -/

/-- R119's E_PARAM, DETAIL 0: alignment, the register space, one cluster window. A COUNT of 0 is COUNT's own fault. -/
def peekAddr (a n : Nat) : List Nat :=
  if a % 4 = 0 && 0x2000000000 ≤ a && a + max n 1 ≤ 0x2071000000 && a / 0x1000000 = (a + max n 1 - 1) / 0x1000000 then [] else [0]

/-- E_NO_OBJECT and E_DOMAIN_OFF of R119. -/
def State.peekErr (s : State) (a : Nat) : Option (Nat × Nat) :=
  let c := a / 0x1000000 % 0x100
  match clusterDomain c with
  | none => some (eNoObject, 0)
  | some d => if s.clusterOff c then some (eDomainOff, 0xF200 + d) else none

/-- The 32-bit accesses of the agent in ascending order, up to the first that GU_HOOP denies; `stalled`: they waited (R399). -/
def State.agent (s : State) (stalled : Bool) (a : Nat) (data : Option (List Byte)) : Nat → State × List Byte × Bool
  | 0 => (s, [], true)
  | n + 1 =>
    let x : Access := { unit := 2, sub := 1, address := a, write := data.isSome, data := (data.getD []).take 4, length := 4 }
    let r := s.access x stalled
    if r.2.2.denied then (r.1, [], false) else
    let t := State.agent r.1 stalled (a + 4) (data.map (·.drop 4)) n
    (t.1, r.2.1 ++ t.2.1, t.2.2)

/-- Run a PEEK or a POKE whose unit is open; `stalled`: it waited for that. DESIGN CHOICE (log entry 65): one that names an off cluster counts one DOMAIN_OFF
response (R30), however many words it names. -/
def runPeek (stalled : Bool) (j : Job) (s : State) : CmdResult :=
  let a := j.u64 0
  match s.peekErr a with
  | some (st, d) => if st = eDomainOff then .failWith (s.domainOffResponse (d - 0xF200) 2 a) st d else .fail st d
  | none =>
    let r := s.agent stalled a (if j.op = 6 then some (j.req.payload.drop 12) else none) (j.u16 8 / 4)
    if r.2.2 then .ok r.1 r.2.1 else .failWith r.1 eProtected 0

/-- A PEEK or POKE stalls while GU_HOOP is closed (R399). A refused access is still counted and recorded. -/
def agentCmd (j : Job) (s : State) : CmdResult :=
  match (s.guard 2).update with
  | some u => .later (s.modGuard 2 fun g => { g with update := some { u with stalled := u.stalled ++ [.job j] } })
  | none => runPeek false j s

def cmdPeek : Cmd where
  spec := specPeek
  param j _ := peekAddr (j.u64 0) (j.u16 8) ++ chk 8 (4 ≤ j.u16 8 && j.u16 8 ≤ 1008 && j.u16 8 % 4 = 0) ++ rsv j 10 2
  run := agentCmd

def cmdPoke : Cmd where
  spec := specPoke
  param j _ := peekAddr (j.u64 0) (j.u16 8) ++
    chk 8 (4 ≤ j.u16 8 && j.u16 8 ≤ 996 && j.u16 8 % 4 = 0 && j.u16 8 = j.len - 12) ++ rsv j 10 2
  run := agentCmd

/-! ### Guard commands (R399-R402) -/

/-- A region entry as 16 bytes (Table 17-2). -/
def Region.bytes (g : Region) (i : Nat) : List Byte :=
  leBytes 8 g.base ++ leBytes 1 i ++ leBytes 1 g.sizeExp ++ leBytes 1 (b2n g.read + 2 * b2n g.write + 4 * b2n g.lock) ++
    leBytes 1 g.role ++ leBytes 1 g.owner ++ zeros 3

/-- Sub-ids of a unit (Table 17-1). -/
def subOk (u sub : Nat) : Bool :=
  match u with
  | 0 => sub = 0 | 1 => sub < 12 || (16 ≤ sub && sub ≤ 20) | 2 => sub < 2 | 3 => sub < 8 | 4 => sub < 2 | 5 => sub < 32
  | 6 => sub < 4 | 7 => sub < 9 | _ => sub = 0

/-- Entry `i` of a GUARD_UPDATE payload. -/
def guardEntry (j : Job) (i : Nat) : Nat × Region :=
  let o := 8 + 16 * i
  let p := j.u8 (o + 10)
  (j.u8 (o + 8), { base := j.u64 o, sizeExp := j.u8 (o + 9), read := p.testBit 0, write := p.testBit 1, lock := p.testBit 2,
                   role := j.u8 (o + 11), owner := j.u8 (o + 12) })

/-- The checks of R400 on entry `i`. -/
def guardEntryErr (u : GuardUnit) (unit : Nat) (j : Job) (i : Nat) : Option (Nat × Nat) :=
  let o := 8 + 16 * i
  let (idx, g) := guardEntry j i
  let old := u.regions.getD idx {}
  if idx > 15 || (List.range i).any fun k => (guardEntry j k).1 = idx then some (eParam, 16 + o + 8)
  else if !(g.sizeExp = 0 || (12 ≤ g.sizeExp && g.sizeExp ≤ 36)) then some (eParam, 16 + o + 9)
  else if g.base % 2 ^ g.sizeExp ≠ 0 || g.base ≥ 2 ^ 40 || g.base + 2 ^ g.sizeExp > 2 ^ 40 then some (eParam, 16 + o)
  else if g.role ≠ 4 then some (eParam, 16 + o + 11)
  else if !(g.owner = 0xFF || subOk unit g.owner) then some (eParam, 16 + o + 12)
  else if (old.enabled && old.role = 0) || old.lock then some (eProtected, 16 + o + 8)
  else none

/-- The first pair of enabled regions that intersect, lower index first (R394). -/
def overlapPair (rs : List Region) : Option (Nat × Nat) :=
  (List.range 16).findSome? fun a => (List.range 16).findSome? fun b =>
    let x := rs.getD a {}
    let y := rs.getD b {}
    if a < b && x.enabled && y.enabled && x.base < y.top && y.base < x.top then some (a, b) else none

/-- Close a unit for an update (Table 17-6). -/
def closeUnit (s : State) (u : Nat) (program : List Region) (j : Job) : CmdResult :=
  .later (s.modGuard u fun g => { g with update := some { program, job := j, closedAt := s.now } })

def cmdGuardUpdate : Cmd where
  spec := specGuardUpdate
  param j _ :=
    let n := (j.len - 8) / 16
    chkId j 0 [0xE] ++ chk 2 (j.u8 2 ≤ 16) ++ chk 3 (j.u8 3 ≤ 1) ++ rsv j 4 4 ++
    (List.range n).flatMap fun i => chk (18 + 16 * i) (j.u8 (18 + 16 * i) < 8) ++ rsv j (21 + 16 * i) 3
  names j := nameAt j 0
  run j s :=
    let u := idIndex (j.u16 0)
    let x := s.guard u
    let n := j.u8 2
    -- COUNT is held against LEN after the checks of R104 (R400).
    if n ≠ (j.len - 8) / 16 then .fail eParam 18 else
    match (List.range n).findSome? (guardEntryErr x u j) with
    | some e => .fail e.1 e.2
    | none =>
    if x.update.isSome then .fail eBusy (j.u16 0) else
    let es := (List.range n).map (guardEntry j)
    let program := x.regions.mapIdx fun i g =>
      match es.find? fun e => e.1 = i with
      | some e => e.2
      | none => if j.u8 3 = 1 && g.role = 4 && !g.lock then { g with sizeExp := 0 } else g
    match overlapPair program with
    | some (a, b) => .fail eOverlap (a * 256 + b)
    | none => if n = 0 && j.u8 3 = 0 then .ok s [] else closeUnit s u program j

def cmdGuardLock : Cmd where
  spec := specGuardLock
  param j _ := chkId j 0 [0xE] ++ chk 2 (j.u8 2 ≤ 15) ++ rsv j 3 1
  names j := nameAt j 0
  run j s :=
    let u := idIndex (j.u16 0)
    let x := s.guard u
    let g := x.regions.getD (j.u8 2) {}
    if g.enabled && g.role = 0 then .fail eProtected 18
    else if x.update.isSome then .fail eBusy (j.u16 0)
    else if !g.enabled then .fail eState (j.u16 0)
    else if g.lock then .ok s []
    else closeUnit s u (x.regions.set (j.u8 2) { g with lock := true }) j

def cmdGuardRead : Cmd where
  spec := specGuardRead
  param j _ := chkId j 0 [0xE] ++ rsv j 2 2
  names j := nameAt j 0
  run j s :=
    let x := s.guard (idIndex (j.u16 0))
    .ok s (leBytes 2 (j.u16 0) ++ leBytes 1 (if x.update.isSome then 2 else 1) ++
      leBytes 1 (x.regions.filter (·.lock)).length ++ leBytes 4 x.total ++ (x.regions.zipIdx.flatMap fun g => g.1.bytes g.2))

/-- A violation record as 32 bytes (Table 17-3). -/
def Violation.bytes (v : Violation) : List Byte :=
  leBytes 8 v.address ++ leBytes 8 v.stitch ++ leBytes 1 v.unit ++ leBytes 1 (b2n v.write) ++ leBytes 2 v.length ++
    leBytes 1 v.sub ++ leBytes 1 v.region ++ leBytes 1 v.cause ++ leBytes 1 v.flags ++ leBytes 1 v.lockUnit ++ zeros 7

def cmdGuardFaults : Cmd where
  spec := specGuardFaults
  param j _ := chkId j 0 [0xE] ++ chk 2 (1 ≤ j.u8 2 && j.u8 2 ≤ 30) ++ chk 3 (j.u8 3 ≤ 1)
  names j := nameAt j 0
  run j s :=
    let u := idIndex (j.u16 0)
    let x := s.guard u
    let vs := x.violations.take (j.u8 2)
    let s1 := if j.u8 3 = 1 then s.modGuard u fun g => { g with violations := g.violations.drop (j.u8 2) } else s
    .ok s1 (leBytes 4 x.total ++ leBytes 1 vs.length ++ zeros 3 ++ vs.flatMap Violation.bytes)

end Sys2Proof.Machine
end

