-- ==== Sys2Proof/Machine/Layers.lean ====
section
/-! DEFINITION. LAYER, TABLE, FENCE, APPL and FRESH commands (spec/08 R209-R216, spec/09). -/
namespace Sys2Proof.Machine

/-! ### Common checks -/

/-- The layer a command names at payload offset 0. -/
def Job.layer (j : Job) : Nat := layerIndex (j.u16 0)

/-- A layer as accepted is slice-locked (R279). -/
def State.lockedLayer (s : State) (j : Job) (i : Nat) : Bool :=
  s.slk.any fun k => (k.acc && k.accLayer = i) || (j.req.txn = 0 && k.mode ≠ .off && k.layer = i)

/-- E_NO_RESOURCE of R252 when the state a command would leave breaks a limit of one of these heads' clusters. -/
def State.limitErr (s : State) (heads : List Nat) : Option CmdResult :=
  if heads.all fun h => !(s.head h).accEnable || s.limitsOk h then none else some (.fail eNoResource 0x6000)

/-- Accept an edit of a layer: its limits, then where it comes into force. -/
def State.acceptEdit (s : State) (j : Job) (extra : List Nat) (s1 : State) : CmdResult :=
  let i := j.layer
  match (if s.fixedJob j then none else s1.limitErr (s1.layer i).head.toList) with
  | some e => e
  | none => .ok (s1.affectLayer j i (s.layerHeads i ++ extra)) []

/-- The accepted settings of a layer after an edit. -/
def State.editAccepted (s : State) (j : Job) : State :=
  s.modLayer j.layer fun l => { l with cfg := layerEdit l.cfg.preLut j l.cfg }

def cmdLayerBind : Cmd where
  spec := specLayerBind
  param j _ :=
    let video := idType (j.u16 0) = 3
    chkId j 0 [3, 4] ++ chk 2 (j.u16 2 = 0 || (video && idType (j.u16 2) = 1)) ++
    chk 4 (if video then j.u8 4 = 0 else 1 ≤ j.u8 4 && j.u8 4 ≤ 3) ++ chk 5 (j.u8 5 ≤ b2n video) ++ rsv j 6 2
  names j := nameAt j 0 ++ nameAt j 2
  run j s :=
    let i := j.layer
    if j.u16 2 ≠ 0 && (s.src (idIndex (j.u16 2))).typ = 4 then .fail eParam 18
    else if s.lockedLayer j i then .fail eBusy (j.u16 0)
    else if !(s.queuedFlips i).isEmpty then .fail eBusy (j.u16 0)
    else s.acceptEdit j [] ((s.editAccepted j).modLayer i fun l => { l with everBound := true })

/-- Heads on which a layer is placed besides head `h`, as accepted: moving or removing. -/
def State.leaves (s : State) (i target : Nat) : Bool := match (s.layer i).head with
  | some h => headId h ≠ target
  | none => false

/-- The settings of the command's layer that are in force, as a ratio check takes them (R227): those of its newest tile, or its
own while it is on no head, after what the earlier commands of the same transaction have staged (R127). -/
def State.ratioBase (s : State) (j : Job) : LayerCfg :=
  let l := s.layer j.layer
  let staged := s.txn.changes.filter fun c => j.req.txn ≠ 0 && c.txn = j.req.txn && isLayerEdit c.job && c.job.layer = j.layer
  staged.foldl (fun c x => layerEdit l.cfg.preLut x.job c) (((s.newestTile j.layer).map (·.cfg)).getD l.base)

/-- LAYER_PLACE. DESIGN CHOICE (log entry 109): a guarded layer on no head may be paused, and placing it ends the pause. -/
def cmdLayerPlace : Cmd where
  spec := specLayerPlace
  param j _ :=
    let z := j.u16 2 = 0
    chkId j 0 [3, 4] ++ chkId j 2 [6] true ++ (if z then chk 4 (uAt j.req.payload 4 8 = 0) else chkRect j 4) ++ chk 12 (!z || j.u8 12 = 0) ++ rsv j 13 3
  names j := nameAt j 0 ++ nameAt j 2
  run j s :=
    let i := j.layer
    let l := s.layer i
    let c := layerEdit l.cfg.preLut j l.cfg
    if j.u16 2 = 0 then
      if s.lockedLayer j i then .fail eBusy (j.u16 0) else
      .ok ((s.modLayer i fun l => { l with head := none, cfg := c }).affectLayer j i (s.layerHeads i)) []
    else
    let h := idIndex (j.u16 2)
    let moves := l.head ≠ some h
    match (if isVideo i && !s.fixedJob j then s.ratioErr (layerEdit l.cfg.preLut j (s.ratioBase j)) (s.lockedLayer j i) else none) with
    | some d => .fail eParam (24 + 2 * d)
    | none =>
    if moves && s.lockedLayer j i then .fail eBusy (j.u16 0)
    else if moves && !s.fixedJob j && (s.placedOn h).length ≥ 16 then .fail eNoResource 0x6000
    else
      let fresh := (s.layerHeads i).isEmpty
      let s1 := s.modLayer i fun l =>
        { l with head := some h, cfg := if moves then { c with paused := false } else c
                 snap := if !moves then l.snap else if fresh then { l.base with paused := false } else { l.cfg with paused := false } }
      s.acceptEdit j [h] s1

def cmdLayerScale : Cmd where
  spec := specLayerScale
  param j _ :=
    chkId j 0 [3] ++ chkMisc j 2 0xC0 0xCF ++ (if j.u16 8 = 0 && j.u16 10 = 0 then [] else chkRect j 4) ++ chk 12 (-64 ≤ j.s16 12 && j.s16 12 ≤ 64) ++ chk 14 (-64 ≤ j.s16 14 && j.s16 14 ≤ 64) ++
    chk 16 (j.u8 16 ≤ 1) ++ rsv j 17 7
  names j := nameAt j 0 ++ nameAt j 2
  run j s :=
    let l := s.layer j.layer
    let c := layerEdit l.cfg.preLut j (s.ratioBase j)
    match (if c.dest.w ≠ 0 && !s.fixedJob j then s.ratioErr c (s.lockedLayer j j.layer) else none) with
    | some d => .fail eParam (24 + 2 * d)
    | none => s.acceptEdit j [] (s.editAccepted j)

def cmdLayerEnable : Cmd where
  spec := specLayerEnable
  param j _ := chkId j 0 [3, 4] ++ rsv j 2 2
  names j := nameAt j 0
  run j s := if (s.layer j.layer).cfg.enable then .ok s [] else s.acceptEdit j [] (s.editAccepted j)

def cmdLayerDisable : Cmd where
  spec := specLayerDisable
  param j _ := chkId j 0 [3, 4] ++ rsv j 2 2
  names j := nameAt j 0
  run j s :=
    if (s.layer j.layer).cfg.enable then .ok ((s.editAccepted j).affectLayer j j.layer []) [] else .ok s []

def cmdLayerAlpha : Cmd where
  spec := specLayerAlpha
  param j _ := chkId j 0 [3, 4] ++ rsv j 3 1
  names j := nameAt j 0
  run j s := .ok ((s.editAccepted j).affectLayer j j.layer []) []

def cmdBlendOrder : Cmd where
  spec := specBlendOrder
  param j _ :=
    let n := (j.len - 4) / 2
    chkId j 0 [6] ++ chk 2 (j.u8 2 ≤ 1) ++ chk 3 (j.u8 3 = n && (j.u8 2 = 1 || n = 0)) ++
    (List.range n).flatMap fun i => chkId j (4 + 2 * i) [3, 4]
  names j := nameAt j 0 ++ (List.range ((j.len - 4) / 2)).flatMap fun i => nameAt j (4 + 2 * i)
  run j s :=
    let h := idIndex (j.u16 0)
    let ids := (List.range (j.u8 3)).map fun i => layerIndex (j.u16 (4 + 2 * i))
    let bad := (List.range (j.u8 3)).find? fun i =>
      (s.layer (ids.getD i 0)).head ≠ some h || (ids.take i).contains (ids.getD i 0)
    match (if s.fixedJob j then none else bad) with
    | some i => .fail eParam (20 + 2 * i)
    | none =>
    if j.u8 2 = 1 && !s.fixedJob j && (s.placedOn h).any fun x => !ids.contains x.1 then .fail eParam 19
    else .ok (s.affect j [h]) []

/-! ### Tables (R230-R236) -/

/-- Set entry `k` of a sparse table. -/
def putEntry {α : Type} (l : List (Nat × α)) (k : Nat) (v : α) : List (Nat × α) := (k, v) :: l.filter fun e => e.1 ≠ k

/-- Entry `k` of a sparse table over its reset contents. -/
def entryAt {α : Type} (l : List (Nat × α)) (reset : Nat → α) (k : Nat) : α := match l.find? fun e => e.1 = k with
  | some e => e.2
  | none => reset k

/-- A coefficient of a set (R230). -/
def coefAt (c : List (Nat × Int)) (table i : Nat) : Int := entryAt c (fun _ => coefReset table i) (512 * table + i)

/-- Every phase's taps sum to 256. An untouched phase is built in and does. -/
def coefSums (c : List (Nat × Int)) : Bool :=
  [(0, 8), (1, 6)].all fun (x : Nat × Nat) => (List.range 64).all fun p =>
    let is := (List.range x.2).map fun t => x.2 * p + t
    is.all (fun i => !c.any fun e => e.1 = 512 * x.1 + i) || decide ((is.map (coefAt c x.1)).sum = 256)

/-- Entry of a pre-blend or post-blend LUT (R234). -/
def preLutAt (l : List (Nat × Nat)) (comp i : Nat) : Nat := entryAt l (fun _ => srgbDecode i) (4096 * comp + i)
def postLutAt (l : List (Nat × Nat)) (comp i : Nat) : Nat := entryAt l (fun _ => srgbEncode i) (4096 * comp + i)

def State.shadow? (s : State) (table : Nat) : Option Shadow := s.lay.shadows.find? fun x => x.table = table

/-- A load of a table whose shadow another session has begun (R231). -/
def State.shadowBusy (s : State) (j : Job) : Bool := match s.shadow? (j.u16 0) with
  | some x => x.session ≠ j.req.session || x.transport ≠ j.req.transport
  | none => false

def State.putShadow (s : State) (x : Shadow) : State :=
  { s with lay := { s.lay with shadows := x :: s.lay.shadows.filter fun y => y.table ≠ x.table } }
def State.endShadow (s : State) (table : Nat) : State :=
  { s with lay := { s.lay with shadows := s.lay.shadows.filter fun y => y.table ≠ table } }

/-- The shadow a load writes to: the one begun, or a copy of the active contents. -/
def State.shadowFor (s : State) (j : Job) (coef : List (Nat × Int)) (lut : List (Nat × Nat)) : Shadow :=
  match s.shadow? (j.u16 0) with
  | some x => { x with lastWrite := if j.len = 8 then x.lastWrite else s.now }
  | none => { table := j.u16 0, session := j.req.session, transport := j.req.transport, lastWrite := s.now, coef, lut }

/-- Entries carried by a load. -/
def Job.entries (j : Job) : Nat := (j.len - 8) / 2

/-- Heads on which a layer uses coefficient set `k`, in force or as accepted (R131). -/
def State.coefHeads (s : State) (k : Nat) : List Nat :=
  (((s.lay.tiles.filter fun t => isVideo t.layer && t.cfg.coef = k).map (·.head)) ++
    (s.lay.layers.take 128).filterMap fun l => if l.cfg.coef = k then l.head else none).eraseDups

/-- Heads on which the transaction of a staged load gives a layer that coefficient set, or places one that uses it (R131). -/
def State.txnCoefHeads (s : State) (j : Job) (k : Nat) : List Nat :=
  let staged := ((if j.req.txn = 0 then none else s.txn? j.req.txn).map (·.staged)).getD []
  let scaled (i : Nat) : Bool := staged.any fun x => x.cls = 0x20 && x.op = 0x03 && x.layer = i && idIndex (x.u16 2) = 0xC0 + k
  (List.range 128).flatMap fun i =>
    if scaled i then s.layerHeads i ++ s.txnPlaces j i else if (s.layer i).cfg.coef = k then s.txnPlaces j i else []

def cmdCoefLoad : Cmd where
  spec := specCoefLoad
  param j _ :=
    let size := if j.u8 2 = 0 then 512 else 384
    chkMisc j 0 0xC0 0xCF ++ chk 2 (j.u8 2 ≤ 1) ++ chk 3 (j.u8 3 ≤ 1) ++ chk 4 (j.u16 4 + j.entries ≤ size) ++ rsv j 6 2 ++
    (List.range j.entries).flatMap fun i => chk (8 + 2 * i) (-512 ≤ j.s16 (8 + 2 * i) && j.s16 (8 + 2 * i) ≤ 511)
  names j := nameAt j 0
  run j s :=
    if s.shadowBusy j then .fail eBusy (j.u16 0) else
    let k := idIndex (j.u16 0) - 0xC0
    let x := s.shadowFor j (s.lay.coefs.getD k []) []
    let coef := (List.range j.entries).foldl (fun c i => putEntry c (512 * j.u8 2 + j.u16 4 + i) (j.s16 (8 + 2 * i))) x.coef
    let s1 := if j.entries = 0 && (s.shadow? (j.u16 0)).isNone then s else s.putShadow { x with coef }
    if j.u8 3 = 0 then .ok s1 []
    else if !coefSums coef then .failWith s1 eParam 19
    else
      let s2 := s.endShadow (j.u16 0)
      let s2 := { s2 with lay := { s2.lay with coefs := modAt s2.lay.coefs k fun _ => coef } }
      let used := (s2.coefHeads k ++ s2.txnCoefHeads j k).eraseDups
      let s2 := s2.affect j used
      .ok (s2.forEach ((List.range 32).filter fun h => !used.contains h) fun h s => applyJob j h s) []

/-- Write the entries of a LUT load into its shadow: components 0 to 2, or one of them. -/
def lutWrite (j : Job) (l : List (Nat × Nat)) : List (Nat × Nat) :=
  let comps := if j.u8 2 = 3 then [0, 1, 2] else [j.u8 2]
  comps.foldl (fun l c => (List.range j.entries).foldl (fun l i => putEntry l (4096 * c + j.u16 4 + i) (j.u16 (8 + 2 * i))) l) l

def cmdLutLoadPre : Cmd where
  spec := specLutLoadPre
  param j _ :=
    chkId j 0 [3, 4] ++ chk 2 (j.u8 2 ≤ 3) ++ chk 3 (j.u8 3 ≤ 1) ++ chk 4 (j.u16 4 + j.entries ≤ 1024) ++ chk 6 (j.u8 6 = 0) ++ rsv j 7 1
  names j := nameAt j 0
  run j s :=
    if s.shadowBusy j then .fail eBusy (j.u16 0) else
    let x := s.shadowFor j [] (s.layer j.layer).cfg.preLut
    let lut := lutWrite j x.lut
    let s1 := if j.entries = 0 && (s.shadow? (j.u16 0)).isNone then s else s.putShadow { x with lut }
    if j.u8 3 = 0 then .ok s1 [] else
    .ok (((s.endShadow (j.u16 0)).modLayer j.layer fun l => { l with cfg := { l.cfg with preLut := lut } }).affectLayer j j.layer []) []

def cmdLutLoadPost : Cmd where
  spec := specLutLoadPost
  param j _ :=
    chkId j 0 [6] ++ chk 2 (j.u8 2 ≤ 3) ++ chk 3 (j.u8 3 ≤ 1) ++ chk 4 (j.u16 4 + j.entries ≤ 4096) ++ chk 6 (j.u8 6 ≤ 1) ++ rsv j 7 1
  names j := nameAt j 0
  protect j _ := if j.u8 6 = 1 then some 22 else none
  run j s :=
    if s.shadowBusy j then .fail eBusy (j.u16 0) else
    let h := idIndex (j.u16 0)
    let x := s.shadowFor j [] (s.head h).accPostLut
    let lut := lutWrite j x.lut
    let s1 := if j.entries = 0 && (s.shadow? (j.u16 0)).isNone then s else s.putShadow { x with lut }
    if j.u8 3 = 0 then .ok s1 [] else
    .ok (((s.endShadow (j.u16 0)).modHead h fun x => { x with accPostLut := lut }).affect j [h]) []

/-- SHADOW_TIMEOUT (R231). -/
def shadowTimeout (table : Nat) (s : State) : State :=
  match s.shadow? table with
  | some x => if x.lastWrite + 10 * nsPerSec ≤ s.now then s.endShadow table else s
  | none => s

/-- The 48-byte image of a style entry (Table 9-13). -/
def Style.bytes (y : Style) (id : Nat) : List Byte :=
  leBytes 2 id ++ leBytes 1 y.picotSize ++ leBytes 1 y.corner ++ leBytes 1 y.hatchW ++ leBytes 1 y.hatchSpacing ++ leBytes 1 y.borderW ++
  leBytes 1 y.dotGap ++ leBytes 1 y.textSize ++ leBytes 1 (b2n y.glyph) ++ zeros 2 ++ y.colours.flatMap (leBytes 4) ++ zeros 8

/-- The settings of a layer in force: on its newest tile, or while it is on no head. -/
def State.inForce (s : State) (i : Nat) : LayerCfg := match s.newestTile i with
  | some t => t.cfg
  | none => (s.layer i).base

def cmdTableRead : Cmd where
  spec := specTableRead
  param j _ :=
    let k := j.u8 3
    let kind := j.u8 2
    let size := [512, 384, 1024, 4096, 4096, 24].getD kind 0
    (match kind with
      | 0 | 1 => chkMisc j 0 0xC0 0xCF
      | 2 => chkId j 0 [3, 4]
      | 3 | 4 => chkId j 0 [6]
      | 5 => chkMisc j 0 0xE0 0xEF
      | _ => []) ++
    chk 2 (kind ≤ 5) ++ chk 3 (if 2 ≤ kind && kind ≤ 4 then k ≤ 2 else k = 0) ++ chk 6 (1 ≤ j.u16 6 && j.u16 6 ≤ 504) ++
    chk 6 (5 < kind || j.u16 4 + j.u16 6 ≤ size)
  names j := nameAt j 0
  run j s :=
    let comp := j.u8 3
    let is := (List.range (j.u16 6)).map fun i => j.u16 4 + i
    let n := idIndex (j.u16 0)
    let word (i : Nat) : List Byte := match j.u8 2 with
      | 0 => leBytes 2 (unsigned 16 (coefAt (s.lay.coefs.getD (n - 0xC0) []) 0 i))
      | 1 => leBytes 2 (unsigned 16 (coefAt (s.lay.coefs.getD (n - 0xC0) []) 1 i))
      | 2 => leBytes 2 (preLutAt (s.inForce j.layer).preLut comp i)
      | 3 => leBytes 2 (postLutAt (s.head n).postLut comp i)
      | 4 => leBytes 2 (srgbEncode i)
      | _ => (((s.lay.styles.getD (n - 0xE0) {}).bytes (j.u16 0)).drop (2 * i)).take 2
    .ok s (is.flatMap word)

/-! ### Flips and fences (R237-R240) -/

/-- Bytes per pixel of a graphic format (Table 9-9). -/
def formatBytes (f : Nat) : Nat := if f = 3 then 2 else 4

/-- The record of a flip's buffer (R37). -/
def State.flipRec (s : State) (j : Job) (i : Nat) : GimpRec :=
  let declared := j.len = 40
  let good := declared && decide (j.time 28 ≤ s.local)
  { object := graphicId i, seq := 0, captureNs := if good then j.time 28 else 0, arrivalNs := s.local, arrivalAt := s.now
    evidence := if good then 3 else 4, flags := if declared && !good then 0x10 else 0
    width := j.u16 22, height := j.u16 24 }

def cmdLayerFlip : Cmd where
  spec := specLayerFlip
  param j s :=
    let a := j.u64 12
    -- A staged flip may follow a bind of its own transaction: its format is known at the fix.
    let l := s.layer j.layer
    let pitchOk := j.req.txn ≠ 0 || !l.everBound || j.u16 22 * formatBytes l.cfg.format ≤ j.u16 20
    chkId j 0 [4] ++ chkId j 2 [0xB] true ++ chk 2 (j.req.txn = 0 || j.u16 2 = 0) ++
    chk 12 (a % 64 = 0 && decide (a < visibleDram s.hoop.otp.dramGib)) ++ chk 20 (j.u16 20 % 64 = 0 && j.u16 20 ≠ 0 && pitchOk) ++
    chk 22 (1 ≤ j.u16 22 && j.u16 22 ≤ 4096) ++ chk 24 (1 ≤ j.u16 24 && j.u16 24 ≤ 4096) ++ rsv j 26 2 ++
    (if j.len = 40 then chkTime j 28 else [])
  names j := nameAt j 0 ++ nameAt j 2
  run j s :=
    let i := j.layer
    let l := s.layer i
    if !l.everBound then .fail eState (j.u16 0)
    else if j.u16 20 < j.u16 22 * formatBytes l.cfg.format then .fail eParam 36
    else if ((s.quota (graphicId i)).recs.filter (·.live)).length ≥ 8 then .fail eNoResource 0x4000
    else
      let late := j.len = 40 && !decide (j.time 28 ≤ s.local)
      let (s, seq) := s.allocRec (graphicId i) (s.flipRec j i)
      let alone := (s.tilesOf i).isEmpty
      let f : Flip := { seq, accepted := if j.req.txn ≠ 0 then s.boundaryAt else s.now, staged := j.req.txn ≠ 0, fence := j.u16 2
                        target := j.u64 4, address := j.u64 12, pitch := j.u16 20, w := j.u16 22, h := j.u16 24
                        onHead := if alone then (s.txnPlaces j i).getLast? else none }
      let join (t : Tile) : Tile := if t.layer = i then { t with queue := t.queue ++ [f] } else t
      let s := { s with lay := { s.lay with tiles := s.lay.tiles.map join } }
      let s := s.modLayer i fun l => { l with futureContent := l.futureContent + b2n late
                                              queue := if alone then l.queue ++ [f] else l.queue }
      let heads := s.layerHeads i ++ s.txnPlaces j i
      -- R130: staged on a layer that no head shows, it is served at the start of S_a.
      if j.req.txn ≠ 0 then .ok (if heads.isEmpty then s.serveIdle i s.afterNow 0 else s.affect j heads) []
      else
        let fj : FlipJob := { seq, job := j }
        .later (s.modLayer i fun l => { l with flipJobs := l.flipJobs ++ [fj] })

def cmdFenceCreate : Cmd where
  spec := specFenceCreate
  param j _ := rsv j 9 3
  run j s :=
    match (List.range 256).find? fun k => !(s.lay.fences.getD k {}).made with
    | none => .fail eNoResource 0xB000
    | some k =>
      let f : Fence := { made := true, value := j.u64 0, before := j.u64 0, timeout := if j.u8 8 = 0 then 3 else j.u8 8 }
      .ok { s with lay := { s.lay with fences := modAt s.lay.fences k fun _ => f } } (leBytes 2 (0xB000 + k) ++ zeros 2)

def cmdFenceSignal : Cmd where
  spec := specFenceSignal
  param j _ := chkId j 0 [0xB] ++ rsv j 2 2
  names j := nameAt j 0
  run j s :=
    let k := idIndex (j.u16 0)
    if j.u64 4 < s.fenceValue (j.u16 0) then .fail eParam 20 else
    .ok { s with lay := { s.lay with fences := modAt s.lay.fences k (·.write s.now (j.u64 4)) } } []

/-- A queued flip, or a committing transaction, names a fence (R128, R240). -/
def State.fenceUsed (s : State) (id : Nat) : Bool :=
  (s.lay.layers.any fun l => l.queue.any fun f => f.fence = id) || (s.lay.tiles.any fun t => t.queue.any fun f => f.fence = id) ||
  s.txn.live.any fun x => x.st = .committing && x.fences.any fun f => f.1 = id

def cmdFenceDestroy : Cmd where
  spec := specFenceDestroy
  param j _ := chkId j 0 [0xB] ++ rsv j 2 2
  names j := nameAt j 0
  run j s :=
    if s.fenceUsed (j.u16 0) then .fail eBusy (j.u16 0) else
    .ok { s with lay := { s.lay with fences := modAt s.lay.fences (idIndex (j.u16 0)) fun _ => {} } } []

/-! ### The Appliqué stage (R241-R251) -/

/-- Ten thousand times 1023 times the relative luminance of a style colour (R241). -/
def colourY (c : Nat) : Nat := 2126 * bits c 29 20 + 7152 * bits c 19 10 + 722 * bits c 9 0

def cmdApplStyleLoad : Cmd where
  spec := specApplStyleLoad
  param j _ :=
    chkMisc j 0 0xE0 0xEF ++ chk 2 ([8, 12, 16, 24].contains (j.u8 2)) ++ chk 3 (j.u8 3 ≤ 3) ++ chk 4 (2 ≤ j.u8 4 && j.u8 4 ≤ 8) ++
    chk 5 (8 ≤ j.u8 5 && j.u8 5 ≤ 32 && 2 * j.u8 4 ≤ j.u8 5) ++ chk 6 (2 ≤ j.u8 6 && j.u8 6 ≤ 8) ++ chk 7 (2 ≤ j.u8 7 && j.u8 7 ≤ 8) ++
    chk 8 (j.u8 8 ≤ 2) ++ chk 9 (j.u8 9 ≤ 1) ++ rsv j 10 2 ++
    ((List.range 7).flatMap fun k => rsvBits j (12 + 4 * k) 4 0xC0000000) ++ chk 36 (colourY (colourOf j 6) ≤ 511500) ++ rsv j 40 8
  names j := nameAt j 0
  run j s :=
    let k := idIndex (j.u16 0) - 0xE0
    -- R246: entry 0 is built in. R106 does not name it, so a staged load meets this at fix time (R123).
    if k = 0 then .fail eProtected 16 else
    let s := { s with lay := { s.lay with styles := modAt s.lay.styles k fun _ => styleOf j } }
    .ok (s.affect j (List.range 32)) []

/-- A number rounded up to a multiple of 4. -/
def roundUp4 (n : Nat) : Nat := (n + 3) / 4 * 4

def cmdApplBanner : Cmd where
  spec := specApplBanner
  param j _ :=
    chkMisc j 0 0x100 0x1FF ++ chk 2 (j.u8 2 ≤ 1) ++ chk 3 (j.u8 3 ≤ 1) ++ chk 4 (j.u8 4 ≤ 15) ++ chk 5 (j.u8 5 ≤ 1) ++
    chk 6 (j.u8 6 ≤ 64 && j.len - 8 = roundUp4 (j.u8 6)) ++ rsv j 7 1 ++
    chk 8 (textOk (j.bytes 8 (j.len - 8)))
  names j := nameAt j 0
  run j s := .ok (s.affect j [bannerHead (j.u16 0)]) []

def cmdApplSafeMap : Cmd where
  spec := specApplSafeMap
  param j _ :=
    chkMisc j 0 0x80 0x87 ++ (if j.u16 2 = 0 then [] else chkMisc j 2 0x100 0x1FF) ++ chk 4 (j.u8 4 ≤ 1) ++ rsv j 5 3
  names j := nameAt j 0 ++ nameAt j 2
  run j s :=
    let n := idIndex (j.u16 0) - 0x80
    let old := match s.lay.safeMap.getD n none with
      | some (b, _) => [bannerHead b]
      | none => []
    let new := if j.u16 2 = 0 then none else some (j.u16 2, decide (j.u8 4 = 1))
    let s := { s with lay := { s.lay with safeMap := modAt s.lay.safeMap n fun _ => new } }
    .ok (s.affect j (old ++ if j.u16 2 = 0 then [] else [bannerHead (j.u16 2)])) []

def cmdApplStatus : Cmd where
  spec := specApplStatus
  param j _ := chkId j 0 [6] ++ rsv j 2 2
  names j := nameAt j 0
  run j s :=
    let h := idIndex (j.u16 0)
    let x := s.head h
    .ok s (leBytes 2 (j.u16 0) ++ leBytes 2 (b2n x.appliqueFault + 2 * b2n x.linkLost + 4 * b2n x.clockFault) ++
      leBytes 1 (s.bannersShown h) ++ leBytes 1 (s.safeDriven h) ++ leBytes 1 (min x.mismatchRun 255) ++ leBytes 1 x.matchRun ++
      leBytes 8 x.crcFrame ++ leBytes 4 x.crcRender ++ leBytes 4 x.crcOutput ++ leBytes 4 x.mismatches ++ leBytes 4 x.faults ++
      leBytes 1 ((s.tilesOn h).filter fun t => t.cfg.guarded).length ++ zeros 31)

/-! ### Freshness (R32, R209-R216) -/

def cmdFreshSetPolicy : Cmd where
  spec := specFreshSetPolicy
  param j _ :=
    let m := j.u16 2
    let field (b off n : Nat) (ok : Bool) : List Nat := chk off (if m.testBit b then ok else uAt j.req.payload off n = 0)
    chkId j 0 [3, 4] ++ rsvBits j 2 2 0xFF00 ++ chk 2 (j.u8 4 ≠ 1 || m = 0) ++ chk 4 (j.u8 4 ≤ 1) ++
    field 2 5 1 (1 ≤ j.u8 5 && j.u8 5 ≤ 4) ++ field 6 6 1 (j.u8 6 ≤ 15) ++ field 7 7 1 (j.u8 7 ≤ 7) ++
    field 0 8 4 (1000 ≤ j.u32 8 && j.u32 8 ≤ 60000000 && j.u32 8 % 1000 = 0) ++ field 1 12 4 (1 ≤ j.u32 12 && j.u32 12 ≤ 65536) ++
    field 5 16 4 (j.u32 16 ≤ 65536) ++ field 3 20 4 (j.u32 20 ≤ 1000000) ++ field 4 24 1 (j.u8 24 ≤ 15) ++
    field 4 25 1 (j.u8 25 ≤ 15 && j.u8 24 &&& j.u8 25 = 0) ++ rsv j 26 2
  names j := nameAt j 0
  run j s :=
    let l := s.layer j.layer
    if j.u8 4 = 1 && !l.cfg.guarded then .fail eState (j.u16 0)
    else .ok ((s.editAccepted j).affectLayer j j.layer []) []

def cmdFreshSetTreatment : Cmd where
  spec := specFreshSetTreatment
  param j _ :=
    chkId j 0 [3, 4] ++ chk 2 (3 ≤ j.u8 2 && j.u8 2 ≤ 8) ++ chk 3 (j.u8 3 ≤ 15 || j.u8 3 = 0xFF) ++ rsv j 4 4
  names j := nameAt j 0
  run j s :=
    if !(s.layer j.layer).cfg.guarded then .fail eState (j.u16 0)
    else .ok ((s.editAccepted j).affectLayer j j.layer []) []

def cmdTilePause : Cmd where
  spec := specTilePause
  param j _ := chkId j 0 [3, 4] ++ rsv j 2 2
  names j := nameAt j 0
  run j s :=
    let c := (s.layer j.layer).cfg
    if !c.guarded || c.paused then .fail eState (j.u16 0) else .ok ((s.editAccepted j).affectLayer j j.layer []) []

def cmdTileResume : Cmd where
  spec := specTileResume
  param j _ := chkId j 0 [3, 4] ++ rsv j 2 2
  names j := nameAt j 0
  run j s :=
    if !(s.layer j.layer).cfg.paused then .fail eState (j.u16 0) else
    -- R272: a resume during SR_ENTRY makes the frame in progress fail the entry condition.
    let s := s.forEach ((s.layerHeads j.layer).filter fun h => (s.head h).st = .srEntry) fun h s =>
      s.modHead h fun x => { x with srFail := true }
    .ok ((s.editAccepted j).affectLayer j j.layer []) []

/-- The Picot position as reported (R70). -/
def Tile.picotByte (t : Tile) : Nat := if t.cfg.guarded && t.picotShown && !t.notScanned then t.picot else 0xFF

/-- The state byte as reported (R69). -/
def Tile.stateByte (t : Tile) : Nat := if t.cfg.guarded then t.state else 0

/-- The reply of FRESH_GET_STATE (Table 8-11). -/
def Tile.report (t : Tile) : List Byte :=
  leBytes 2 (layerId t.layer) ++ leBytes 2 (headId t.head) ++ leBytes 1 t.stateByte ++ leBytes 1 t.evidence ++ leBytes 1 t.picotByte ++
  leBytes 1 (if t.cfg.guarded then b2n t.notScanned + 2 * b2n t.clipped + 4 * b2n t.heldEvt else 0) ++ leBytes 4 t.ageUs ++
  leBytes 4 (sat32 (ceilDiv t.uncertNs 1000)) ++ leBytes 2 (sat16 t.tainted) ++ leBytes 1 t.fired ++ zeros 1 ++ leBytes 4 t.seq ++
  leBytes 8 t.headFrame

def cmdFreshGetState : Cmd where
  spec := specFreshGetState
  param j _ := chkId j 0 [3, 4] ++ chkId j 2 [6] true
  names j := nameAt j 0 ++ nameAt j 2
  run j s :=
    let i := j.layer
    if j.u16 2 = 0 then
      match s.newestTile i with
      | some t => .ok s t.report
      | none => .fail eState (j.u16 0)
    else match s.tile? i (idIndex (j.u16 2)) with
      | some t => .ok s t.report
      | none => .fail eState (j.u16 2)

/-- EVT_TILE_STATE for a tile as it stands (Table 8-12). -/
def State.evtTile (s : State) (t : Tile) (coalesced : Bool) : State :=
  (s.raise 0x01 (layerId t.layer) (leBytes 2 (headId t.head) ++ leBytes 1 t.state ++ leBytes 1 t.reported ++ leBytes 1 t.evidence ++
    leBytes 1 (b2n coalesced) ++ leBytes 2 (sat16 t.changes) ++ leBytes 4 t.ageUs ++ leBytes 4 t.seq)).modTile t.layer t.head fun t =>
      { t with evtAt := some s.now, reported := t.state, changes := 0, heldEvt := false }

/-- TILE_STATE_COALESCE (R215): the end of the 250 ms window that follows an event. -/
def tileCoalesce (i head : Nat) (s : State) : State :=
  match s.tile? i head with
  | none => s
  | some t =>
    match t.evtAt with
    | none => s
    | some at_ =>
      if s.now < at_ + 250000000 || !t.heldEvt then s
      else if t.state ≠ t.reported then s.evtTile t true
      else s.modTile i head fun t => { t with heldEvt := false }

end Sys2Proof.Machine
end

