-- ==== Sys2Proof/Machine/Heads.lean ====
section
/-! DEFINITION. HEAD commands, DisplayPort training and hot plug (spec/10 R253-R276). -/
namespace Sys2Proof.Machine

/-! ### Refusals (R380, R387) -/

/-- Count a refusal by refuser `i` of Table 16-4. -/
def State.countRefusal (s : State) (i : Nat) : State :=
  { s with pwr := { s.pwr with
      refTotal := satAdd32 s.pwr.refTotal 1,
      refCount := modAt s.pwr.refCount (i - 1) fun n => satAdd32 n 1,
      refLast := modAt s.pwr.refLast (i - 1) fun _ => s.stitch } }

/-! ### Genlock arithmetic (R262) -/

/-- The phase error e of a frame start in units of 2^-32 ns times the refresh numerator, and that scale's frame period. -/
def phaseErr (t : Timing) (g : Genlock) (tF : Nat) : Int × Nat :=
  let m := nsPerSec * t.den * fine
  let phase := g.phaseNs * fine * t.num % m
  let x := (((tF : Int) - g.epochNs * fine) * t.num - phase) % m
  (if 2 * x > m then x - m else x, m)

/-- |e| is at most `n` line times. -/
def errWithin (t : Timing) (g : Genlock) (tF n : Nat) : Bool :=
  let (e, m) := phaseErr t g tF
  decide (e.natAbs * t.vTotal ≤ n * m)

/-- e in whole lines, rounded toward zero and saturating (Table 10-8). -/
def errLines (t : Timing) (g : Genlock) (tF : Nat) : Int :=
  let (e, m) := phaseErr t g tF
  satS 16 ((e * t.vTotal).tdiv m)

/-! ### HEAD commands -/

/-- The second stage of R253's checks. -/
def timingLimits (t : Timing) : List Nat :=
  let exact := t.hTotal * t.vTotal * t.num
  let khz := (2 * exact + t.den * 1000) / max 1 (2 * t.den * 1000)
  if t.hTotal > 8192 || t.hFp + t.hSync + t.hBp < 32 then [24]
  else if t.vTotal > 4096 || t.vFp + t.vSync + t.vBp < 8 then [32]
  else if t.num < 20 * t.den || t.num > 120 * t.den then [40]
  else if t.pclkKhz > khz + 1 || khz > t.pclkKhz + 1 then [20]
  else []

/-- The head bound to a channel as accepted, or the one that it still has in force. -/
def State.loadHead (s : State) (ec : Nat) : Option Head :=
  (s.heads.find? fun h => h.accTarget = 0x8000 + ec).or (s.heads.find? fun h => h.target = 0x8000 + ec)

/-- Loads of the channels that an encode core holds, channel `but` apart, by the timings accepted (R297; log entry 48). -/
def State.coreLoads (s : State) (core but : Nat) : List (Nat × Nat) :=
  (List.range 16).filterMap fun ec =>
    let e := s.encode ec
    if ec ≠ but && e.core = core && (e.st = .running || e.st = .idle) then
      (s.loadHead ec).map fun h => encRatio h.newTiming e.cfg.divider
    else none

/-- A channel's load fits an encode core beside the others (R297). -/
def State.coreFits (s : State) (core ec : Nat) (load : Nat × Nat) : Bool := fracSumLe (load :: s.coreLoads core ec) 1000000000

/-- Refusals for resources of an enabled head: cluster, port, encode core (R252, R266, R297). -/
def State.headResources (s : State) (h : Nat) : Option CmdResult :=
  let x := s.head h
  if x.accEnable && !s.limitsOk h then some (.fail eNoResource 0x6000)
  else if x.accEnable && idType x.accTarget = 7 && !s.portOk (idIndex x.accTarget) then some (.fail eNoResource 0x7000)
  else if idType x.accTarget = 8 then
    let ec := idIndex x.accTarget
    let e := s.encode ec
    if (e.st = .running || e.st = .idle) && !s.coreFits e.core ec (encRatio x.newTiming e.cfg.divider) then some (.fail eNoResource 0x8000) else none
  else none

def cmdHeadTiming : Cmd where
  spec := specHeadTiming
  param j _ :=
    let t := timingOf j
    let len (off : Nat) : List Nat := chk off (1 ≤ j.u16 off && j.u16 off ≤ 4096)
    let first := chkId j 0 [6] ++ chk 2 (j.u8 2 ≤ 7) ++ chk 3 (1 ≤ j.u8 3 && j.u8 3 ≤ 3) ++ chk 4 (1 ≤ j.u32 4 && j.u32 4 ≤ 600000) ++
      chk 8 (64 ≤ t.hAct && t.hAct ≤ 4096 && t.hAct % 2 = 0) ++ len 10 ++ len 12 ++ len 14 ++ chk 16 (64 ≤ t.vAct && t.vAct ≤ 2160) ++
      len 18 ++ len 20 ++ len 22 ++ chk 28 (1 ≤ t.den) ++ chk 32 (t.sinkUs ≤ 100000) ++ rsv j 36 4
    if first.isEmpty then timingLimits t else first
  names j := nameAt j 0
  run j s :=
    let h := idIndex (j.u16 0)
    let t := timingOf j
    if t.format = 3 && idType (s.head h).accTarget = 8 then .fail eParam 19 else
    let s1 := s.modHead h fun x => { x with accTiming := some t, accApplyLine := keepLine t x.accApplyLine }
    match (if s.fixedJob j then none else s1.headResources h) with
    | some e => e
    | none => .ok (s1.affect j [h]) []

def cmdHeadBindPort : Cmd where
  spec := specHeadBindPort
  param j _ := chkId j 0 [6] ++ chkId j 2 [7, 8] true ++ chk 4 (j.u8 4 ≤ 15 && (idType (j.u16 2) = 7 || j.u8 4 = 0)) ++ rsv j 5 3
  names j := nameAt j 0 ++ nameAt j 2
  run j s :=
    let h := idIndex (j.u16 0)
    let target := j.u16 2
    let others := (s.heads.zipIdx.filter fun x => x.2 ≠ h && x.1.accTarget = target).map (·.1.accStream)
    let busy := target ≠ 0 && (if idType target = 8 then !others.isEmpty else
      others.contains 0 || others.length ≥ 4 || (j.u8 4 = 0 && !others.isEmpty) || others.contains (j.u8 4))
    if busy then .fail eBusy target
    else if (s.head h).enabled then .fail eState (j.u16 0)
    else .ok ((s.modHead h fun x => { x with accTarget := target, accStream := j.u8 4 }).affect j (h :: s.headsOf target)) []

/-- The timing that a command's checks go by: in force for a direct command, as left by earlier staged ones for a staged
command (R261, R262). -/
def checkTiming (j : Job) (x : Head) : Timing := if j.req.txn ≠ 0 || x.st = .untimed then x.newTiming else x.timing

def cmdHeadApplyLine : Cmd where
  spec := specHeadApplyLine
  param j _ := chkId j 0 [6]
  names j := nameAt j 0
  run j s :=
    let h := idIndex (j.u16 0)
    let x := s.head h
    let n := j.u16 2
    if n ≠ 0xFFFF && !x.timed then .fail eState (j.u16 0)
    else if n ≠ 0xFFFF && !s.fixedJob j && !(checkTiming j x).lineOk n then .fail eParam 18
    else .ok ((s.modHead h fun x => { x with accApplyLine := if n = 0xFFFF then none else some n }).affect j [h]) []

def cmdHeadGenlock : Cmd where
  spec := specHeadGenlock
  param j _ := chkId j 0 [6] ++ chk 2 (j.u8 2 ≤ 2) ++ rsv j 3 1 ++ chkTime j 4 ++ rsv j 20 12
  names j := nameAt j 0
  run j s :=
    let h := idIndex (j.u16 0)
    let x := s.head h
    let t := checkTiming j x
    if !s.fixedJob j && x.timed && j.u32 16 * t.num ≥ nsPerSec * t.den then .fail eParam 32
    else if j.u8 2 = 0 && s.ledHead j h then .fail eBusy (j.u16 0)
    else if j.u8 2 ≠ 0 && !x.timed then .fail eState (j.u16 0)
    else if !x.timed then .ok s []
    else .ok ((s.modHead h fun x => { x with accGenlockMode := j.u8 2 }).affect j [h]) []

def cmdHeadEnable : Cmd where
  spec := specHeadEnable
  param j _ := chkId j 0 [6] ++ rsv j 2 2
  names j := nameAt j 0
  run j s :=
    let h := idIndex (j.u16 0)
    let x := s.head h
    let p := s.ports.getD (idIndex x.accTarget) {}
    if x.accEnable then .ok s []
    else if !x.timed || x.accTarget = 0 then .fail eState (j.u16 0)
    else if idType x.accTarget = 7 && (p.st ≠ 2 || (x.accStream ≠ 0 && !p.mst)) then .fail eState x.accTarget
    else
      let s1 := s.modHead h fun x => { x with accEnable := true }
      match (if s.fixedJob j then none else s1.headResources h) with
      | some e => e
      | none => .ok (s1.affect j [h]) []

def cmdHeadDisable : Cmd where
  spec := specHeadDisable
  param j _ := chkId j 0 [6] ++ rsv j 2 2
  names j := nameAt j 0
  run j s :=
    let h := idIndex (j.u16 0)
    if (s.head h).accEnable then .ok ((s.modHead h fun x => { x with accEnable := false }).affect j [h]) [] else .ok s []

def cmdHeadSelfRefresh : Cmd where
  spec := specHeadSelfRefresh
  param j _ := chkId j 0 [6] ++ chk 2 (j.u8 2 ≤ 1) ++ rsv j 3 1
  names j := nameAt j 0
  run j s :=
    let h := idIndex (j.u16 0)
    let x := s.head h
    let p := s.ports.getD (idIndex x.target) {}
    if j.u8 2 = 0 then .ok (s.modHead h fun x => { x with exitSr := x.exitSr || x.st = .selfRefresh }) []
    else if !(x.st = .scanning && idType x.target = 7 && x.stream = 0 && (p.psr || p.psr2) && !p.psrTrain) then .fail eState (j.u16 0)
    else if s.anyBanner h then .failWith (s.countRefusal 5) eRefused 5
    else if !x.lastAllPaused && (s.tilesOn h).any fun t => t.cfg.guarded then .failWith (s.countRefusal 1) eRefused 1
    else .later (s.modHead h fun x => { x with st := .srEntry, srJob := some j, srFail := false })

/-- Reply of HEAD_GET_CRC (Table 10-8). -/
def Head.crcReply (x : Head) (h sel : Nat) : List Byte :=
  let e := if x.genlock.st = .free then 0 else errLines x.timing x.genlock x.tF
  leBytes 2 (headId h) ++ leBytes 2 sel ++ leBytes 1 x.st.code ++ leBytes 1 x.genlock.st.code ++ leBytes 2 (unsigned 16 e) ++
  leBytes 8 x.crcOutFrame ++ (List.range 4).flatMap fun n => leBytes 4 (x.crcOut.getD n 0)

def cmdHeadGetCrc : Cmd where
  spec := specHeadGetCrc
  param j _ := chkId j 0 [6] ++ chk 2 ((List.range 4).all fun n => bits (j.u16 2) (4 * n + 3) (4 * n) ≤ 7)
  names j := nameAt j 0
  run j s :=
    let h := idIndex (j.u16 0)
    let sel := j.u16 2
    let x := s.head h
    if !(x.st = .scanning || x.st = .closing) then .fail eState (j.u16 0)
    else if x.crcSel = some sel then
      if x.crcOut.isEmpty then .later (s.modHead h fun x => { x with crcWaiting := x.crcWaiting ++ [j] })
      else .ok s (x.crcReply h sel)
    else match x.crcPending with
      | none => .later (s.modHead h fun x => { x with crcPending := some (sel, [j]) })
      | some (other, js) =>
        if other = sel then .later (s.modHead h fun x => { x with crcPending := some (sel, js ++ [j]) })
        else .later ((s.modHead h fun x => { x with crcPending := some (sel, [j]) }).forEach js fun k s => s.finish k eBusy (headId h) [])

/-! ### Ports (R266-R269) -/

def cmdPortTrain : Cmd where
  spec := specPortTrain
  param j _ := chkId j 0 [7] ++ chk 2 (j.u8 2 ≤ 2) ++ rsv j 3 1
  names j := nameAt j 0
  run j s :=
    let p := idIndex (j.u16 0)
    let x := s.dp p
    if j.u8 2 = 0 then .ok s (s.dpReply p)
    else if x.training then .fail eBusy (j.u16 0)
    else if j.u8 2 = 2 then
      if !(s.portHeads p).isEmpty then .fail eBusy (j.u16 0)
      else if !(s.portWaits j).isEmpty then .later (s.affectPort j)
      else
        let s := s.releasePort p
        .ok s (s.dpReply p)
    else if !x.hpd then
      let s := s.setDpState p 0
      .ok s (s.dpReply p)
    else .later (s.affectPort j)

/-- An automatic retrain starts at the configuration last trained (R268). -/
def State.autoTrain (s : State) (p : Nat) : State :=
  s.modDp p fun x => { x with training := true, job := none, retrains := satAdd32 x.retrains 1 }

/-- A training result that port and sink can have, and that carries every enabled head (R267); an automatic retrain starts at the
configuration last trained and only steps down (R268). -/
def State.trainOk (s : State) (p : Nat) (r : TrainResult) : Bool :=
  let x := s.dp p
  (x.job.isSome || (r.rate ≤ x.lastRate && r.lanes ≤ x.lastLanes)) && 1 ≤ r.rate && r.rate ≤ min 4 r.sinkRate && (r.lanes = 1 || r.lanes = 2 || r.lanes = 4) && r.lanes ≤ r.sinkLanes &&
  portFits (s.portHeads p) r.rate r.lanes

/-- PORT_TRAINING_COMPLETE (R267, R268). -/
def portTrained (p : Nat) (r : TrainResult) (s : State) : State :=
  let x := s.dp p
  if !x.training || (r.ok && !s.trainOk p r) then s else
  let job := x.job
  let s := s.modDp p fun x => { x with training := false, job := none }
  let s := s.modDp p fun x =>
    { x with dpcdRev := r.dpcdRev, sinkRate := r.sinkRate, sinkLanes := r.sinkLanes, mst := r.mst, psr := r.psr, psr2 := r.psr2
             psrTrain := r.psrTrain }
  let s := if !x.hpd then s
    else if r.ok then
      ((s.setDpState p 2).modDp p fun x => { x with rate := r.rate, lanes := r.lanes, lastRate := r.rate, lastLanes := r.lanes }).emit
        (.dpSignal p 1 r.rate)
    else s.setDpState p 3
  s.finish? job 0 0 (s.dpReply p)

/-- Lock is lost: a trained lane lacks clock recovery, equalisation or symbol lock, or interlane alignment is not done (R268). -/
def lockLost (d : DpcdStatus) (lanes : Nat) : Bool :=
  !d.aligned || (List.range lanes).any fun i => match d.lanes[i]? with
    | some l => !(l.cr && l.eq && l.symbol)
    | none => true

/-- A test request asks for what DP_PATTERN accepts (R482). DESIGN CHOICE (log entry 109): its fields are those of DP_PATTERN, and one
that DP_PATTERN would refuse is not honoured. -/
def testOk (q : TestRequest) : Bool :=
  1 ≤ q.pattern && q.pattern ≤ 8 && !(q.pattern = 7 && q.rate < 3) && 1 ≤ q.rate && q.rate ≤ 4 &&
  (q.lanes = 1 || q.lanes = 2 || q.lanes = 4) && q.swing + q.pre ≤ 3

/-- The fields of a test request as DP_PATTERN carries them. -/
def testLevels (q : TestRequest) : Nat :=
  q.pattern + 256 * q.rate + 65536 * q.lanes + 16777216 * q.swing + m32 * q.pre

/-- HPD_SHORT_PULSE: the device reads the link status and retrains on lost lock (R268). It honours an automated test request only
while the port is under DP_PATTERN (R276). -/
def hpdShort (p : Nat) (d : DpcdStatus) (s : State) : State :=
  let x := s.dp p
  if !s.dpOn p || !x.hpd then s
  else if x.pattern ≠ 0 then
    match d.test with
    | some q => s.when (testOk q) (·.drivePattern p q.pattern (testLevels q))
    | none => s
  else s.when (lockLost d x.lanes && x.st = 2 && !x.training) (·.autoTrain p)

/-- HPD_LONG_LOW (R268). A port whose block is off follows the pin alone and stays RELEASED (R374, R377). -/
def hpdLow (p : Nat) (s : State) : State :=
  if !s.dpOn p then s.modDp p fun x => { x with hpd := false } else
  (s.modDp p fun x => { x with hpd := false, dpcdRev := 0, sinkRate := 0, sinkLanes := 0, mst := false, psr := false
                               psr2 := false, psrTrain := false }).setDpState p 0

/-- HPD_RISE (R268). The sink's capabilities are read by the next training (R267). -/
def hpdRise (p : Nat) (s : State) : State :=
  let x := s.dp p
  if x.hpd then s
  else if !s.dpOn p then s.modDp p fun x => { x with hpd := true } else
  let s := (s.modDp p fun x => { x with hpd := true }).setDpState p 1
  if (s.portHeads p).isEmpty || x.training || x.lastRate = 0 then s else s.autoTrain p

end Sys2Proof.Machine
end

