-- ==== Sys2Proof/Machine/Render.lean ====
section
/-! DEFINITION. The arithmetic of the pixel path and of the treatments: scaling, look-up, blending, hatch, border, Picot, text
(spec/09 R226-R245, spec/02 R54-R66). Machine/Pixels.lean runs it over the layers of a head. -/
namespace Sys2Proof.Machine

/-! ### Expansion and scaling (R226-R229) -/

/-- An 8-bit component widened to 10 bits, and the components of RGB565 (Tables 9-3 and 9-9). -/
def widen8 (v : Nat) : Nat := v * 4 + v / 64
def widen5 (v : Nat) : Nat := v * 32 + v
def widen6 (v : Nat) : Nat := v * 16 + v / 4

/-- The direction of a ratio `d` ÷ `n` is pre-decimated: it is below 1/4 (R229). -/
def preDecimated (d n : Nat) : Bool := 4 * d < n

/-- Source sample i and phase p of destination column or row `dx` at the ratio `d` ÷ `n` (R228). Pre-decimated, the crop counts
halved and the ratio twice. -/
def srcPos (d n origin dx : Nat) (phase : Int) : Int × Nat :=
  let e : Int := d
  let k : Int := if preDecimated d n then
      64 * e * origin + 32 * (2 * dx + 1) * n - 64 * e + 2 * e * phase
    else 128 * e * origin + 64 * (2 * dx + 1) * n - 64 * e + 2 * e * phase
  let q := (k + e) / (2 * e)
  (q / 64, (q % 64).toNat)

/-- Sample `i` of a line of `len` samples halved by averaging pairs, halves up (R229). DESIGN CHOICE (log entry 109): an odd last
sample pairs with itself. -/
def halved (len : Nat) (f : Nat → Nat) (i : Nat) : Nat := (f (2 * i) + f (min (2 * i + 1) (len - 1)) + 1) / 2

/-- A sample of a line of `len` samples, with the nearest edge outside it (R228). -/
def sampleAt (len : Nat) (f : Nat → Nat) (i : Int) : Nat := f (max 0 (min i ((len : Int) - 1))).toNat

/-- A filter sum rounded half up, shifted right by 8 and clamped to 10 bits. -/
def filterSum (terms : List Int) : Nat := (max 0 (min ((terms.sum + 128) / 256) 1023)).toNat

/-- The horizontal or vertical filter at a position (R228, R229): `table` 0 horizontal with 8 taps, 1 vertical with 6. -/
def filterAt (c : LayerCfg) (coefs : List (Nat × Int)) (reduced : Bool) (table : Nat) (len : Nat) (f : Nat → Nat) (i : Int)
    (p : Nat) : Nat :=
  let tap (k : Int) : Int := (sampleAt len f k : Nat)
  if c.nearest then sampleAt len f (if p < 32 then i else i + 1)
  else if reduced then
    if table = 0 then filterSum ((List.range 4).map fun (t : Nat) => Config.coefFour p t * tap (i - 1 + (t : Int)))
    else filterSum [(256 - 4 * (p : Int)) * tap i, 4 * (p : Int) * tap (i + 1)]
  else if table = 0 then filterSum ((List.range 8).map fun (t : Nat) => coefAt coefs 0 (8 * p + t) * tap (i - 3 + (t : Int)))
  else filterSum ((List.range 6).map fun (t : Nat) => coefAt coefs 1 (6 * p + t) * tap (i - 2 + (t : Int)))

/-- One component of a scaled video layer at destination (dx, dy), from a picture of `w` × `h` samples: pre-decimated in either
direction, filtered horizontally, then vertically (stages 3 and 4 of Table 9-3). DESIGN CHOICE (log entry 109): R228 does not say which
direction is filtered first; each sum is rounded and clamped before the other direction. -/
def scaled (c : LayerCfg) (coefs : List (Nat × Int)) (reduced : Bool) (w h : Nat) (f : Nat → Nat → Nat) (dx dy : Nat) : Nat :=
  let crop := c.cropOf w h
  let (dh, nh) := heldRatio c.dest.w crop.w
  let (dv, nv) := heldRatio c.dest.h crop.h
  let (i, p) := srcPos dh nh crop.x dx c.phaseH
  let (k, q) := srcPos dv nv crop.y dy c.phaseV
  -- Column x of the picture after the horizontal halving, then row y of that after the vertical halving.
  let wide := if preDecimated dh nh then ceilDiv w 2 else w
  let column (x y : Nat) : Nat := if preDecimated dh nh then halved w (fun x => f x y) x else f x y
  let tall := if preDecimated dv nv then ceilDiv h 2 else h
  let cell (x y : Nat) : Nat := if preDecimated dv nv then halved h (fun y => column x y) y else column x y
  filterAt c coefs reduced 1 tall (fun y => filterAt c coefs reduced 0 wide (fun x => cell x y) i p) k q

/-! ### Look-up and blending (R233, R234) -/

/-- 10-bit code to 12-bit linear. -/
def preLinear (l : List (Nat × Nat)) (comp code : Nat) : Nat := min ((preLutAt l comp code + 8) / 16) 4095

/-- 12-bit linear to output code at the head's depth. -/
def postCode (l : List (Nat × Nat)) (format comp linear : Nat) : Nat :=
  let e := postLutAt l comp linear
  if format = 1 then min ((e + 128) / 256) 255 else min ((e + 32) / 64) 1023

/-- Blend one component: weight `a` ÷ `d` (R233). -/
def blendOne (a d new out : Nat) : Nat := (2 * (a * new + (d - a) * out) + d) / (2 * d)

/-- The weight of a pixel: its alpha component by format, times the layer's global alpha. -/
def pixelWeight (format alphaPixel alpha : Nat) : Nat × Nat :=
  if format = 1 then (alphaPixel * alpha, 255 * 255) else if format = 2 then (alphaPixel * alpha, 3 * 255) else (alpha, 255)

/-- Blend the layers of a head at one pixel from the bottom up: each gives its weight and linear components, or nothing. -/
def blendPixel (layers : List (Option ((Nat × Nat) × List Nat))) : List Nat :=
  layers.foldl (fun out l => match l with
    | none => out
    | some ((a, d), new) => (new.zip out).map fun x => blendOne a d x.1 x.2) [0, 0, 0]

/-- The output code of one pixel of a head from its blended linear components. -/
def headCode (h : Head) (linear : List Nat) : List Nat := linear.zipIdx.map fun x => postCode h.postLut h.timing.format x.2 x.1

/-! ### Treatments (R54-R66, R243, R245) -/

/-- Hatch and cross-hatch at head coordinates (R243). -/
def hatchAt (y : Style) (px py : Nat) : Bool := (px + py) % y.hatchSpacing < y.hatchW
def crossHatchAt (y : Style) (px py : Nat) : Bool :=
  hatchAt y px py || decide ((((px : Int) - py) % y.hatchSpacing).toNat < y.hatchW)

/-- A pixel lies on the border of a rectangle; a dotted one alternates dashes of the border width and gaps, clockwise from
the top-left corner (R243). -/
def borderAt (y : Style) (r : Rect) (dotted : Bool) (px py : Nat) : Bool :=
  let dx := px - r.x
  let dy := py - r.y
  let w := y.borderW
  let inside := r.x ≤ px && px < r.right && r.y ≤ py && py < r.bottom
  let side : Option Nat := if dy < w then some dx else if r.w < dx + w + 1 then some (r.w + dy)
    else if r.h < dy + w + 1 then some (r.w + r.h + (r.w - dx)) else if dx < w then some (2 * r.w + r.h + (r.h - dy)) else none
  match side with
  | some n => inside && (!dotted || n % (w + y.dotGap) < w)
  | none => false

/-- The style of a state of a tile (R211): its treatment's, else the policy's, as the head has loaded it. -/
def styleFor (h : Head) (c : LayerCfg) (st : Nat) : Style :=
  let n := match c.treatments.find? fun t => t.1 = st with
    | some t => t.2
    | none => c.policy.style
  h.styles.getD n {}

/-- The Picot's footprint in a visible rectangle (R61); none when the tile is too small for a Picot (R62). -/
def footprint? (y : Style) (r : Rect) : Option Rect :=
  let n := y.picotSize + 4
  if r.w < y.picotSize + 8 || r.h < y.picotSize + 8 then none else
  some { x := if y.corner % 2 = 0 then r.x + 4 else r.right - 4 - n
         y := if y.corner < 2 then r.y + 4 else r.bottom - 4 - n, w := n, h := n }

/-- Levels of relative luminance, in parts of 1,023 × 10,000 × 1,000,000: of a mean in parts per million, and of a style colour. -/
def meanLevel (mean : Nat) : Nat := mean * 10230000
def colourLevel (c : Nat) : Nat := colourY c * 1000000

/-- The choice of R66 between two colours over a background level: 0 the first, 1 the second, 2 black, 3 white. DESIGN CHOICE (log
entry 75): white where both contrasts are equal. -/
def contrastChoice (a b m : Nat) : Nat :=
  let d := 10230000
  let k := 50000 * d
  let good (c : Nat) : Bool := 3 * (min (colourLevel c) m + k) ≤ max (colourLevel c) m + k
  if good a then 0 else if good b then 1 else if (1000000 * d + k) * k < (m + k) * (m + k) then 2 else 3

/-- The colour that R66 chooses. -/
def contrastOver (a b m : Nat) : Nat := [a, b, 0, 0x3FFFFFFF].getD (contrastChoice a b m) 0

/-- Hatch colour against the mean luminance of the treated picture, in parts per million (R66): 0 the style's hatch colour,
1 its alternate, 2 black, 3 white. -/
def hatchChoice (y : Style) (mean : Nat) : Nat := contrastChoice (y.colours.getD 4 0) (y.colours.getD 5 0) (meanLevel mean)

/-- Codes of a text. -/
def textCodes (t : String) : List Nat := t.toList.map Char.toNat

/-- Decimal digits. -/
def decimal (n : Nat) : List Nat := (Nat.toDigits 10 n).map Char.toNat

/-- The age readout of a STALE tile (Table 2-5), from A_eff in ns. -/
def ageText (ageNs : Nat) : List Nat :=
  textCodes "STALE " ++
  (if ageNs < 10 * nsPerSec then
    let n := ceilDiv ageNs (nsPerSec / 10)
    decimal (n / 10) ++ textCodes "." ++ decimal (n % 10) ++ textCodes " s"
  else if ageNs < 600 * nsPerSec then decimal (ceilDiv ageNs nsPerSec) ++ textCodes " s"
  else if ageNs < 6000 * nsPerSec then decimal (ceilDiv ageNs (60 * nsPerSec)) ++ textCodes " min"
  else textCodes ">99 min")

/-- The text or glyph drawn on a tile in a state (Table 2-4, R57, R243). -/
def stateText (y : Style) (st ageNs : Nat) : List Nat :=
  let m := st / 16 % 8
  match st % 16 with
  | 3 => ageText ageNs
  | 4 => textCodes "FROZEN"
  | 6 => if y.glyph then [0x80 + m] else textCodes (if m = 1 then "TIME?" else if m = 2 then "SRC?" else if m = 3 then "EVID?" else "DISPLAY?")
  | 7 => textCodes "NO SOURCE"
  | 8 => [0x80]
  | _ => []

/-- A character cell of the font (R243). -/
def fontCell (size : Nat) : Nat × Nat := [(8, 16), (12, 24), (16, 32)].getD size (8, 16)

/-- Text with its plate fits a visible rectangle less 4 px on each side (R59, R243). -/
def textFits (y : Style) (text : List Nat) (r : Rect) : Bool :=
  let (cw, ch) := fontCell y.textSize
  text.length * cw + 16 ≤ r.w && ch + 16 ≤ r.h

/-- Drawn over the whole tile (Table 2-4): desaturation, dark fill, hatch, border: 0 none, 1 solid, 2 dotted. -/
structure Treatment where
  grey : Bool := false
  fill : Bool := false
  hatch : Bool := false
  border : Nat := 0
deriving DecidableEq, Repr

def treatmentOf (st : Nat) : Treatment :=
  match st % 16 with
  | 3 => { grey := true, hatch := true }
  | 4 => { grey := true, hatch := true }
  | 5 => { hatch := st / 16 % 8 = 2 }
  | 6 => { border := 2 }
  | 7 => { fill := true }
  | 8 => { border := 1 }
  | _ => {}

/-- How a map cell's state is drawn (R245): desaturated, hatched, cross-hatched. -/
def cellTreatment (st : Nat) : Bool × Bool × Bool := (decide (st = 1), decide (st = 1 ∨ st = 2), decide (st = 3))

/-- A state with a Picot (R63). -/
def picotState (st : Nat) : Bool := st % 16 = 1 || st % 16 = 2 || (st % 16 = 5 && st / 16 % 8 = 1)

/-- What a tile shows in a frame, for the trace: state byte, Picot position or 255, hollow, ring, hatch colour, text. -/
def shownFacts (y : Style) (st picot ageNs mean : Nat) (r : Rect) : List Nat :=
  let text := stateText y st ageNs
  [st, if picotState st && (footprint? y r).isSome then picot else 255, b2n (st % 16 = 5), b2n (st % 16 = 2 || 128 ≤ st),
    hatchChoice y mean] ++ if textFits y text r then text else []

end Sys2Proof.Machine
end

