-- ==== Sys2Proof/Machine/Verdict.lean ====
section
/-! DEFINITION. The latch, the verdict, the tile's state, Picot and events (spec/02 R39-R72, spec/09 R223-R225, spec/08 R215). -/
namespace Sys2Proof.Machine

/-! ### The content latched (R223, R287) -/

/-- Output size of a picture, and lines cut off above it by its conformance window. -/
def Buf.outSize (b : Buf) : Nat × Nat × Nat := (b.outW, b.outH, b.cropY)

/-- The picture under reconstruction may be latched early: it is the next one in output order after the current output picture, and
the first row that the crop reads has been published. -/
def Ctx.earlyPicture (c : Ctx) (cropY : Nat) : Option Nat :=
  match c.cur with
  | none => none
  | some p =>
    let b := c.bufs.getD p.buf {}
    let newer := p.unit.info.output && (p.unit.info.start || (match c.latest with
      | some i => decide ((c.bufs.getD i {}).poc < b.poc)
      | none => true))
    let due := c.bufs.any fun x => x.awaitOutput && !x.decoding && (p.unit.info.start || decide (x.poc < b.poc))
    let first := (cropY + b.cropY) / max 1 b.ctu
    if newer && !due && b.rows.any fun r => r.1 = first then some b.seq else none

/-! ### Slices and their lines (R284-R289) -/

/-- Output rows [from, to) of slice `j` of a picture, `cropY` lines being cut off above. -/
def Buf.sliceSpan (b : Buf) (cropY j : Nat) : Int × Int :=
  let (a, n) := b.plan.getD j (0, 0)
  ((a * b.ctu : Nat) - (cropY : Int), ((a + n) * b.ctu : Nat) - (cropY : Int))

/-- The vertical ratio of a layer for a picture of `w` × `h` (R227). -/
def LayerCfg.ratioV (c : LayerCfg) (w h : Nat) : Nat × Nat :=
  heldRatio c.dest.h (c.cropOf w h).h

/-- The check line of a slice that begins at output row `r0` (R285). -/
def checkLine (c : LayerCfg) (t : Timing) (w h : Nat) (r0 : Int) : Nat :=
  let (d, n) := c.ratioV w h
  let y : Int := (c.dest.y : Int) + (r0 - 4 - (c.cropOf w h).y) * d / n
  max y.toNat (visibleRect c t).y

/-- The first line after those that read source rows below `r1`. -/
def endLine (c : LayerCfg) (w h : Nat) (r1 : Int) : Nat :=
  let (d, n) := c.ratioV w h
  ((c.dest.y : Int) - (-((r1 + 4 - (c.cropOf w h).y) * d) / n)).toNat

/-- The slice meets the crop. -/
def sliceInCrop (c : LayerCfg) (w h : Nat) (r : Int × Int) : Bool :=
  let k := c.cropOf w h
  decide (r.1 < (k.bottom : Int) ∧ (k.y : Int) < r.2)

/-- Every row of slice `j` is readable at local time `at_`. -/
def Buf.sliceReady (b : Buf) (j at_ : Nat) : Bool :=
  let (a, n) := b.plan.getD j (0, 0)
  !b.plan.isEmpty && (List.range n).all fun i => b.rows.any fun r => r.1 = a + i && r.2 ≤ at_

/-- The newest picture whose first slice with a check line is readable (R287). -/
def State.slicePicture (s : State) (ch : Nat) (k : LayerCfg) : Option Nat :=
  let c := s.ctx ch
  match c.cur with
  | none => none
  | some p =>
    let b := c.bufs.getD p.buf {}
    let (w, h, cy) := b.outSize
    match (List.range b.plan.length).find? fun j => sliceInCrop k w h (b.sliceSpan cy j) with
    | some j => if b.sliceReady j s.local then some b.seq else none
    | none => none

/-- The latest output picture of a channel. -/
def Ctx.latestSeq (c : Ctx) : Option Nat := match c.latest with
  | some i => if (c.bufs.getD i {}).seq = 0 then none else some (c.bufs.getD i {}).seq
  | none => none

/-- The tile is the slice-locked layer of its channel. -/
def State.sliceTile (s : State) (t : Tile) : Option Nat := match t.cfg.source with
  | some ch => let k := s.slice ch
               if isVideo t.layer && k.mode ≠ .off && k.layer = t.layer && k.head = t.head then some ch else none
  | none => none

/-- The clean timer starts again; a window that has passed clean by then stays passed (R291). -/
def Slk.restart (k : Slk) (at_ : Nat) : Slk :=
  { k with cleanSince := at_
           cleanPassed := if k.mode = .dropped && k.cleanSince + 2 * nsPerSec ≤ at_ then some (k.cleanPassed.getD (k.cleanSince + 2 * nsPerSec))
                          else k.cleanPassed }

/-- One late slice, at the elapsed instant of its check line (R290, R291). -/
def State.lateSlice (s : State) (ch at_ : Nat) : State :=
  s.modSlk ch fun k =>
    let recent := at_ :: k.lateAt.filter fun t => decide (at_ < t + nsPerSec)
    { k.restart at_ with
             late := k.late + 1, lateAt := recent
             pendingDrop := if k.mode = .locked && 3 ≤ recent.length && k.pendingDrop = none then some 2 else k.pendingDrop }

/-- The verdict instant of a slice-locked tile fixes the picture that the check lines of this frame judge (R287, R289). -/
def State.sliceVerdict (s : State) (t : Tile) : State :=
  match s.sliceTile t with
  | none => s
  | some ch =>
    let pic := ((s.slicePicture ch t.cfg).orElse fun _ => (s.ctx ch).latestSeq).getD 0
    let again := pic ≠ 0 && (s.slice ch).pic = pic
    let s := s.when again (·.lateSlice ch s.now)
    s.modSlk ch fun k => { k with pic, picFrame := (s.head t.head).frame, checked := [], lateNow := [] }

/-- What a tile latches at its latch instant. -/
def State.content (s : State) (t : Tile) : Option (Nat × Nat) :=
  if isVideo t.layer then
    match t.cfg.source with
    | none => none
    | some ch =>
      let c := s.ctx ch
      let early := match s.sliceTile t with
        | some ch => if decide ((s.slice ch).mode = SlkMode.locked) then s.slicePicture ch t.cfg else none
        | none => if t.cfg.rowLatch then c.earlyPicture t.cfg.crop.y else none
      (early.orElse fun _ => c.latestSeq).map fun n => (0x1000 + ch, n)
  else t.applied.map fun f => (graphicId t.layer, f.seq)

/-- The output picture before picture `seq`, which may itself be the latest one (R223, R287). -/
def Ctx.before (c : Ctx) (seq : Nat) : Option Buf := match c.shown with
  | some b => if b.seq = seq then c.prevOut else some b
  | none => none

/-- Cells of the latched picture that the tile's crop reads. -/
def Tile.readsCells (t : Tile) (r : GimpRec) (cells : List Nat) : Bool :=
  let cols := max 1 (ceilDiv r.width 32)
  (cropCells (t.cfg.cropOf r.width r.height) r.width r.height).any fun k => cells.contains (k.2 * cols + k.1)

/-- The tile sees the record of the latched picture as it is at the latch (R225); errors that the scrubber found there are met as the
picture is fetched after it (R25), and its next verdict sees them. -/
def State.seeLatched (s : State) (layer head : Nat) : State :=
  match (s.tile? layer head).bind (·.latched) with
  | some l =>
    let c := s.ctx (idIndex l.1)
    let bufs := if idType l.1 = 1 then c.bufs else []
    let prev := if idType l.1 = 1 then c.before l.2 else none
    let s := s.modTile layer head fun t =>
      { t with seen := s.rec? l.1 l.2, pic := (bufs.find? fun b => b.seq = l.2).orElse fun _ => t.pic.filter fun b => b.seq = l.2
               prevPic := prev, buffer := (t.applied.filter fun f => f.seq = l.2).or t.buffer }
    match s.tile? layer head, s.rec? l.1 l.2 with
    | some t, some r => s.readPixels l.1 l.2 (t.readsCells r)
    | _, _ => s
  | none => s.modTile layer head fun t => { t with seen := none, pic := none, prevPic := none }

/-- Latch (R223, R224): a paused tile keeps the frame it holds (R68). DESIGN CHOICE (log entry 72): a tile that is paused while it
shows no frame takes the next picture that it can latch, and then holds it; so does one that has none since a wake (R35). -/
def State.latch (s : State) (t : Tile) : State :=
  if t.cfg.guarded && t.cfg.paused && t.latched.isSome && t.freshFrom.isNone then
    -- The held frame stays under its hold.
    match t.latched with
    | some l => (if t.hold then s else s.placeHold t.layer t.head l).modTile t.layer t.head fun t =>
        { t with hold := true, latchFrame := some (s.head t.head).frame, frameCells := [], frameLines := [] }
    | none => s
  else
    let new := s.content t
    let s := match new with
      | some l => s.placeHold t.layer t.head l
      | none => s
    let s := match t.latched with
      | some l => if t.hold && new ≠ some l then s.dropHold t.layer t.head l else s
      | none => s
    -- R287: the previous output picture is held beside the one that is judged, as long as its buffer is there.
    let prev := match s.sliceTile t with
      | some ch => (new.bind fun l => (s.ctx ch).before l.2).bind fun b =>
          if (s.ctx ch).bufs.any fun x => x.seq = b.seq then some (0x1000 + ch, b.seq) else none
      | none => none
    let s := match prev with
      | some l => s.placeHold t.layer t.head l
      | none => s
    let s := match t.prevHeld with
      | some l => if some l ≠ new && some l ≠ prev then s.dropHold t.layer t.head l else s
      | none => s
    s.modTile t.layer t.head fun x => { x with latched := new, hold := new.isSome, prevHeld := prev
                                               latchFrame := some (s.head t.head).frame, frameCells := []
                                               frameLines := [] }

/-! ### Facts of the verdict -/

/-- Tainted cells of a record that a tile's crop meets, and the cells it meets (R52). `denied`: every cell (Table 9-3). -/
def taintOf (c : LayerCfg) (r : GimpRec) (extra : List Nat) (denied : Bool) : Nat × Nat :=
  let cells := cropCells (c.cropOf r.width r.height) r.width r.height
  let cols := max 1 (ceilDiv r.width 32)
  let bad := r.cells ++ r.mapCells.map (·.1) ++ extra
  (if denied then cells.length else (cells.filter fun k => bad.contains (k.2 * cols + k.1)).length, cells.length)

/-- Area of a tile's visible rectangle covered by layers above it with an alpha above zero, and by black strips (R52). DESIGN CHOICE
(log entry 73): a layer that is not scanned draws nothing (R218) and covers nothing. -/
def State.coveredArea (s : State) (t : Tile) (w h : Nat) : Nat :=
  let v := visibleRect t.cfg (s.head t.head).timing
  let above := ((s.blend t.head).dropWhile fun x => x.layer ≠ t.layer).drop 1
  let past := (above.filter fun x => s.scanned x && x.cfg.alpha ≠ 0).map fun x => (visibleRect x.cfg (s.head t.head).timing).meet v
  let strips := if isVideo t.layer && w ≠ 0 && h ≠ 0 then (t.cfg.strips w h).map (·.meet v) else []
  unionArea (past ++ strips)

/-- The impaired fraction is above num ÷ 65,536 (R52): tainted t of n cells, covered c of a pixels. -/
def impairedAbove (t n c a num : Nat) : Bool := decide ((t * max 1 a + c * max 1 n) * 65536 > num * (max 1 n * max 1 a))

/-- Criteria enabled for a tile (R33, R207): the channel's ENABLES as they were at the frame's decode-done (R209). -/
def State.freezeEnables (s : State) (c : LayerCfg) (r : GimpRec) : Nat :=
  let base := if r.decodeDone ≠ 0 then r.enables else match c.source with
    | some ch => (s.ctx ch).freeze.enables
    | none => 0
  (base ||| c.policy.freezeOn) &&& (15 ^^^ (c.policy.freezeOff % 16))

/-- FIRED bits that judge a frame: its own once it is output, else those of the channel's previous output frame (R195). -/
def State.firedBits (s : State) (r : GimpRec) : Nat :=
  if idType r.object ≠ 1 then 0
  else if r.flags.testBit 14 then r.fired
  else match (s.ctx (idIndex r.object)).prevSeq.bind (s.rec? r.object ·) with
    | some p => p.fired
    | none => 0

/-- The channel is silent for R50. -/
def State.sourceLost (s : State) (c : LayerCfg) : Bool := match c.source with
  | some ch => decide ((s.src ch).lastAccepted + max 10000000000 (2 * c.policy.boundUs * 1000) ≤ s.now)
  | none => false

/-- R208: the verdict instant lies in a contested interval, or the frame carries CONTESTED. -/
def State.contestedNow (s : State) (c : LayerCfg) (r : GimpRec) : Bool :=
  r.flags.testBit 5 || match c.source with
    | some ch => (s.src ch).contested && (s.src ch).contestedAt s.now
    | none => false

/-- Time is unproven for a frame whatever its evidence: a backward step after it (R326), REFCLK lost or its second after
return, and frames allocated between (R487, R489). -/
def State.arrivalUnproven (s : State) (r : GimpRec) : Bool :=
  let q := s.quota r.object
  decide (r.seq ≤ q.backSeq) || s.clk.refLost ||
  (match s.clk.refGoodAt with
    | some t => decide (s.now < t + nsPerSec)
    | none => false) ||
  q.lost.any fun x => decide (x.1 < r.seq) && (match x.2 with
    | some n => decide (r.seq ≤ n)
    | none => true)

/-- Network credit C in ns (R42). -/
def State.creditNs (s : State) (c : LayerCfg) : Nat := match c.source with
  | some ch => (s.src ch).creditUs * 1000
  | none => 0

/-- U in ns (R327). -/
def State.uncertNow (s : State) (r : GimpRec) : Nat := r.uncert * 1000 + s.uDev

/-- A read of `n` bytes by Tambour for a head is denied by GU_TAMB, or meets no memory (Table 9-3, R393). The fetch itself and the
violation it records are rows of GUARD_ACCESS_CHECK (log entry 74). -/
def State.fetchDenied (s : State) (head a n : Nat) : Bool :=
  (s.accessParts 5 a n).any fun p =>
    (s.guardCheck 5 head p.1 false).isSome || s.place p.1 = .unmapped || s.place (p.1 + p.2 - 1) = .unmapped

/-- A line of a component of a picture that Tambour reads for a head is denied by GU_TAMB (Table 9-3; log entry 74). -/
def State.lineDenied (s : State) (head : Nat) (l : Nat × Nat) (comp line : Nat) : Bool :=
  let (a, n) := Config.pictureLine l.1 l.2 comp line
  (s.accessParts 5 a n).any fun p => (s.guardCheck 5 head p.1 false).isSome

/-- Address and length of what is fetched of row `j` of a graphic layer's buffer: the part in its visible rectangle. -/
def State.graphicRow (s : State) (t : Tile) (f : Flip) (j : Nat) : Nat × Nat :=
  (f.address + j * f.pitch, min f.w (visibleRect t.cfg (s.head t.head).timing).w * formatBytes t.cfg.format)

/-- Rows of a graphic layer's buffer that its visible rectangle shows. -/
def State.graphicRows (s : State) (t : Tile) (f : Flip) : List Nat :=
  List.range (min f.h (visibleRect t.cfg (s.head t.head).timing).h)

/-- The buffer that a graphic tile shows: the one it has latched, which a paused tile keeps (R68, R223). -/
def Tile.shows (t : Tile) : Option Flip := t.latched.bind fun l => t.buffer.filter fun f => f.seq = l.2

/-- A fetch of a graphic tile is denied (Table 9-3). -/
def State.graphicDenied (s : State) (t : Tile) : Bool := match t.shows with
  | some f => !isVideo t.layer && (s.graphicRows t f).any fun j =>
      let (a, n) := s.graphicRow t f j
      s.fetchDenied t.head a n
  | none => false

/-- The record that judges a tile: that of its latched frame; after a wake, only of a frame received since (R35). -/
def State.judgedRec (s : State) (t : Tile) : Option GimpRec :=
  (t.latched.bind fun l => s.rec? l.1 l.2).filter fun r => match t.freshFrom with
    | some n => decide (n ≤ r.arrivalAt)
    | none => true

/-- A verdict: state byte, effective age in ns, U in ns, tainted cells met. -/
structure Verdict where
  state : Nat
  ageNs : Int := 0
  uncertNs : Nat := 0
  tainted : Nat := 0
deriving DecidableEq, Repr

/-- The ordered tests of R49 on a tile and the record of its latched frame. -/
def State.verdict (s : State) (t : Tile) : Verdict :=
  let h := s.head t.head
  let p := t.cfg.policy
  let v := visibleRect t.cfg h.timing
  let tScan := h.tScan (v.bottom - 1)
  match s.judgedRec t with
  | none => { state := if h.appliqueFault then 0x46 else if t.cfg.paused && t.freshFrom.isNone then 8 else 7 }
  | some r =>
  let evid := r.evidence ≤ 3
  let u := s.uncertNow r
  let arr : Int := (tScan : Int) - r.arrivalNs + s.creditNs t.cfg
  let ts : Int := (tScan : Int) - r.captureNs
  let age : Int := if evid then max (ts + u) arr else arr
  let bound : Int := (p.boundUs * 1000 : Nat)
  let (nt, nc) := taintOf t.cfg r t.frameCells (s.graphicDenied t)
  let cov := s.coveredArea t r.width r.height
  let late := decide (age * 65536 ≥ bound * p.late)
  let uOut := if evid then u else 0
  let out (st : Nat) : Verdict := ⟨st, age, uOut, nt⟩
  if h.appliqueFault then out 0x46
  else if t.cfg.paused then out 8
  else if r.released || s.sourceLost t.cfg then ⟨7, age, 0, nt⟩
  else if arr ≥ bound then out 3
  else if s.contestedNow t.cfg r then out 0x26
  else if s.firedBits r &&& s.freezeEnables t.cfg r ≠ 0 then out 4
  else if r.evidence > p.minEvidence then out 0x36
  else if s.arrivalUnproven r || (evid && (r.uncert = 0xFFFF || u > p.uMaxUs * 1000 || s.unproven)) then ⟨0x16, arr, uOut, nt⟩
  else if evid && decide (ts + u ≥ bound) then out 3
  else if impairedAbove nt nc cov v.area p.impaired then out 0x25
  else if impairedAbove nt nc cov v.area 0 then out (0x15 + 128 * b2n late)
  else if late then out 2
  else out 1

/-! ### The tile after its verdict -/

/-- A state byte that claims liveness (R215). -/
def liveByte (b : Nat) : Bool := picotState b

/-- Raise or hold the event of a change (R71, R215). The tile already has its new state. -/
def State.tileChanged (s : State) (i head prev : Nat) : State :=
  match s.tile? i head with
  | none => s
  | some t =>
    if t.state = prev then s else
    let s := s.modTile i head fun t => { t with changes := t.changes + 1 }
    let loss := liveByte prev && !liveByte t.state
    let quiet := match t.evtAt with
      | none => true
      | some at_ => decide (at_ + 250000000 ≤ s.now)
    match s.tile? i head with
    | some t => if loss || quiet then s.evtTile t false else s.modTile i head fun t => { t with heldEvt := true }
    | none => s

/-- Record a verdict on its tile (R63, R69, R70). DESIGN CHOICE (log entry 109): a tile that has latched no frame reports AGE 0xFFFFFFFF
and evidence 0 whatever its state (PAUSED and APPLIQUE_FAULT too), since its A_eff is not defined. -/
def State.takeVerdict (s : State) (t : Tile) (o : VerdictObs) : State :=
  let h := s.head t.head
  let v := s.verdict t
  let lost := v.state % 16 = 7
  let r := s.judgedRec t
  let advance := picotState v.state && t.shown ≠ t.latched
  let y := styleFor h t.cfg (v.state % 16)
  let vis := visibleRect t.cfg h.timing
  let clipped := (footprint? y vis).isNone
  let ageUs := if lost || r.isNone then 0xFFFFFFFF else sat32 (-(-v.ageNs / 1000)).toNat
  let mean := if t.lumaFrame = some (h.frame - 1) then t.lumaMean else o.lumaMean
  let new : Tile := { t with
    state := v.state, scannedByte := v.state, verdictByte := v.state, freshFrom := if r.isSome then none else t.freshFrom, judged := true, notScanned := false, clipped := clipped
    evidence := if lost then 0 else (r.map (·.evidence)).getD 0
    picot := if advance then (t.picot + 1) % 8 else t.picot
    picotShown := picotState v.state && !clipped && !h.closingFrame
    ageUs := ageUs, ageNs := v.ageNs.toNat, scanNs := h.tScan (vis.bottom - 1), uncertNs := v.uncertNs, tainted := v.tainted
    fired := (r.map s.firedBits).getD 0, seq := (t.latched.map (·.2)).getD 0, headFrame := h.frame, shown := t.latched
    hatchMean := mean }
  let shownState := if h.closingFrame then 7 else v.state
  let s := s.modTile t.layer t.head fun _ => new
  let s := s.emit (.tileShown t.head t.layer (shownFacts y shownState new.picot new.ageNs mean vis))
  (s.tileChanged t.layer t.head t.scannedByte).audFollow t.layer t.head (v.state = 1)

/-- TILE_VERDICT (R45, R49, R223): once per tile and head frame, at the fetch of its first visible line, which falls before the
frame's apply line (log entry 51). -/
def tileVerdict (head i : Nat) (o : VerdictObs) (s : State) : State :=
  match s.tile? i head with
  | none => s
  | some t =>
    if !s.scanned t || (s.head head).applied || t.latchFrame = some (s.head head).frame then s else
    let s := ((s.sliceVerdict t).latch t).seeLatched i head
    match s.tile? i head with
    | none => s
    | some t => if t.cfg.guarded then s.takeVerdict t o else s.modTile i head fun t => { t with shown := t.latched }

/-- A tile without a guard has no verdict and no row of its own: a scanned one that has not latched in the current frame has
done so by the apply line (R63, R223; log entry 51). -/
def State.latchUnguarded (s : State) (head : Nat) : State :=
  let frame := (s.head head).frame
  s.forEach ((s.tilesOn head).filter fun t => !t.cfg.guarded && s.scanned t && t.latchFrame ≠ some frame) fun t s =>
    (((s.sliceVerdict t).latch t).seeLatched t.layer head).modTile t.layer head fun t => { t with shown := t.latched }

end Sys2Proof.Machine
end

