-- ==== Sys2Proof/Machine/Slice.lean ====
section
/-! DEFINITION. The slice-locked path: locking, the row ring, check lines, dropping and returning (spec/11). -/
namespace Sys2Proof.Machine

/-! ### SLICE_LOCK (R278-R280) -/

/-- The channel is slice-locked: as accepted, and for a direct command while a lock is in force too (log entry 105). -/
def Slk.holds (k : Slk) (j : Job) : Bool := k.acc || (j.req.txn = 0 && k.mode ≠ .off)

/-- Refusals of a lock after its payload checks (R279). A direct command meets the genlock state in force; a staged one what its
transaction and the commands before it leave (log entry 105). -/
def State.lockErr (s : State) (j : Job) (ch i : Nat) : Option CmdResult :=
  let l := s.layer i
  let ok := l.cfg.source = some ch && l.head.isSome && (s.ratioErr l.cfg true).isNone
  match l.head with
  | none => some (.fail eState (layerId i))
  | some h =>
    if s.ledHead j h then some (.fail eBusy (headId h))
    else if (s.ctx ch).st = .unconfigured then some (.fail eState (0x1000 + ch))
    else if !ok then some (.fail eState (layerId i))
    else if (s.head h).accGenlockMode = 0 || (j.req.txn = 0 && (s.head h).genlock.st = .free) then some (.fail eState (headId h))
    else if 8 ≤ (s.slk.filter (·.holds j)).length then some (.fail eNoResource 0x1000)
    else none

def cmdSliceLock : Cmd where
  spec := specSliceLock
  param j _ := chkId j 0 [1] ++ chkId j 2 [3] ++ chk 4 (j.u8 4 ≤ 1) ++ chk 5 (j.u8 5 ≤ 1) ++ rsv j 6 2 ++ chk 8 (j.u32 8 ≤ 262144)
  names j := nameAt j 0 ++ nameAt j 2
  run j s :=
    let ch := idIndex (j.u16 0)
    let i := idIndex (j.u16 2)
    let typ := (s.src ch).typ
    let k := s.slice ch
    if !(typ = 1 || typ = 2 || typ = 6) then .fail eParam 16
    else if j.u8 4 = 0 then
      if !k.holds j then .fail eState (j.u16 0)
      else .ok ((s.modSlk ch fun k => { k with acc := false }).affect j [if k.acc then k.accHead else k.head]) []
    else if k.holds j then .fail eBusy (j.u16 0)
    else match s.lockErr j ch i with
    | some e => e
    | none =>
      let h := ((s.layer i).head).getD 0
      .ok ((s.modSlk ch fun k => { k with acc := true, accLayer := i, accHead := h, accReserve := j.sliceReserve }).affect j [h]) []

/-- SRC_CLOSE, DEC_STOP and DEC_FLUSH release the lock of their channel (R279): a lock still to come is dropped, one in force ends at
its head's apply line (Table 11-2). -/
def State.sliceRelease (s : State) (j : Job) (ch : Nat) : State :=
  let comes (c : Change) : Bool := c.job.cls = 0x21 && c.job.op = 0x0A && c.job.u8 4 = 1 && idIndex (c.job.u16 0) = ch
  let s : State := { s.modSlk ch fun k => { k with acc := false } with txn := { s.txn with changes := s.txn.changes.filter fun c => !comes c } }
  if (s.slice ch).mode = .off then s else s.affect j [(s.slice ch).head]

def cmdSrcClose : Cmd where
  spec := specSrcClose
  param j _ := chkSrc j 0 ++ rsv j 2 2
  names j := nameAt j 0
  run j s :=
    let n := srcIndex (j.u16 0)
    let s := (s.leaveAll n).modSrc n fun _ => {}
    if n < 64 then
      let s := (s.sliceRelease j n).releaseFrames (j.u16 0)
      .ok { s with dec := { s.dec with ctxs := modAt s.dec.ctxs n fun _ => {} } } []
    else .ok s []

def cmdDecStop : Cmd where
  spec := specDecStop
  param := chkDec
  names j := nameAt j 0
  run j s :=
    let ch := idIndex (j.u16 0)
    if (s.ctx ch).running then .ok ((s.sliceRelease j ch).flushCtx ch .configured) [] else .fail eState (j.u16 0)

def cmdDecFlush : Cmd where
  spec := specDecFlush
  param := chkDec
  names j := nameAt j 0
  run j s :=
    let ch := idIndex (j.u16 0)
    if (s.ctx ch).running then .ok ((s.sliceRelease j ch).flushCtx ch .seeking) [] else .fail eState (j.u16 0)

/-! ### Reservations and the row ring (R281, R284) -/

/-- Reservations in force in the current Stitch: channel and luma samples. -/
def State.reserves (s : State) : List (Nat × Nat) :=
  (s.slk.zipIdx.filter fun x =>
    (x.1.mode ≠ .off && x.1.reserveFrom ≤ s.stitch) || (match x.1.freeAt with
      | some n => decide (s.stitch < n)
      | none => false)).map fun x => (x.2, x.1.reserve)

/-- The scan has fetched the last line that reads a slice (R284): its picture is older than the one being judged, or the scan
of that picture is past the slice's end, or the slice lies outside the crop. -/
def State.slotFree (s : State) (ch : Nat) (b : Buf) (j : Nat) : Bool :=
  let k := s.slice ch
  match s.tile? k.layer k.head with
  | none => false
  | some t =>
    let (w, h, cy) := b.outSize
    let span := b.sliceSpan cy j
    let hd := s.head k.head
    !sliceInCrop t.cfg w h span || b.seq < k.pic ||
      (b.seq = k.pic && (k.picFrame < hd.frame || decide (hd.tF + hd.timing.lines (endLine t.cfg w h span.2) ≤ s.localFine)))

/-- The ring slot of slice `j` of picture `seq` is not free when its decoding starts; the slices `later` of that picture start no earlier
(R284). -/
def spills (s : State) (ch seq : Nat) (later : List Nat) (j : Nat) : Bool :=
  (s.ctx ch).bufs.any fun b =>
    b.slices.any fun k => k.started && !k.spilled && k.n % 4 = j % 4 && !(b.seq = seq && later.contains k.n) && !s.slotFree ch b k.n

/-- The SEQ of a channel's picture and the slices of it that have started. -/
def Ctx.begunSlices (c : Ctx) : Nat × List Nat := match c.cur with
  | some p => (p.unit.seq, (p.unit.slices.filter (·.started)).map (·.n))
  | none => (0, [])

/-- A slice starts whose ring slot is not free: it is written only to the frame heap, and it counts (R284). -/
def State.spillSlice (s : State) (ch n : Nat) : State :=
  let put (k : SliceIn) : SliceIn := if k.n = n then { k with spilled := true } else k
  (s.modCtx ch fun c => match c.cur with
    | some p => { c.modBuf p.buf fun b => { b with slices := b.slices.map put } with
        cur := some { p with unit := { p.unit with slices := p.unit.slices.map put } } }
    | none => c).modSlk ch fun k => { k with spill := k.spill + 1 }

/-- After a dispatch: judge the slots of the slices that have started, in their order, and let an ineligible picture that has begun drop
its layer (R284, R292). `before`: the channels' pictures and started slices before it. -/
def State.slicesBegun (s : State) (before : List (Nat × List Nat)) : State :=
  s.forEach ((List.range 64).filter fun ch => (s.slice ch).mode ≠ .off) fun ch s =>
    let (seq, now) := (s.ctx ch).begunSlices
    if seq = 0 then s else
    let (old, was) := before.getD ch (0, [])
    let new := if old = seq then now.filter fun n => !was.contains n else now
    let s := s.forEach new fun n s => s.when (spills s ch seq (new.dropWhile (· ≠ n)) n) (·.spillSlice ch n)
    let bad := old ≠ seq && !((s.ctx ch).bufs.any fun b => b.seq = seq && b.eligible)
    if bad then s.modSlk ch fun k => { k.restart s.now with pendingDrop := if k.mode = .locked then some 3 else k.pendingDrop } else s

/-- Dispatch at a Stitch boundary with the reservations of the slice-locked channels (R178, R283). -/
def State.dispatchAll (s : State) (cls : Nat → Nat) (base : Nat) : State :=
  (s.dispatch cls s.reserves base).slicesBegun (s.dec.ctxs.map Ctx.begunSlices)

/-- A channel that the planner pauses loses its lock mode (R292). -/
def State.sliceShed (s : State) (ch : Nat) : State :=
  if (s.slice ch).mode = .locked then s.modSlk ch fun k => { k with pendingDrop := some 4 } else s

/-- The counts of the second that ends are logged (R294). -/
def State.sliceBoundary (s : State) : State :=
  let s := s.forEach ((List.range 64).filter fun ch => (s.slice ch).freeAt.any fun n => n ≤ s.stitch) fun ch s =>
    s.modSlk ch fun k => { k with freeAt := none }
  if s.stitch % 2000 ≠ 0 then s else
  s.forEach (List.range 64) fun ch s =>
    let k := s.slice ch
    if k.late + k.early + k.spill = 0 then s else
    (s.record 0x0604 ((0x20 + k.head / 8) * 256 + k.head % 8) [0x1000 + ch, k.late, k.early, k.spill]).modSlk ch fun k => { k with late := 0, early := 0, spill := 0 }

/-! ### Check lines (R285-R291) -/

/-- The tile after a late slice (R288): cells tainted for this frame, and the state that a LIVE or LATE verdict becomes. -/
def State.markLate (s : State) (t : Tile) (cells : List Nat) (line : Nat) : State :=
  let late := decide (t.ageNs * 65536 ≥ t.cfg.policy.boundUs * 1000 * t.cfg.policy.late)
  let partial_ := t.state % 16 = 1 || t.state % 16 = 2
  let t1 := { t with frameCells := (t.frameCells ++ cells).eraseDups, frameLines := t.frameLines ++ cells.map fun c => (c, line) }
  let t2 := match t.seen with
    | some r => { t1 with tainted := (taintOf t.cfg r t1.frameCells false).1 }
    | none => t1
  let t3 := if t.cfg.guarded && t.judged && partial_ then { t2 with state := 0x15 + 128 * b2n late, scannedByte := 0x15 + 128 * b2n late } else t2
  let s := s.modTile t.layer t.head fun _ => t3
  if t3.state ≠ t.state then (s.tileChanged t.layer t.head t.state).audFollow t.layer t.head false else s

/-- Cells of the 32×32 grid in output rows [from, to) of a picture of `w` × `h`. -/
def rowCells (w h : Nat) (r : Int × Int) : List Nat :=
  let cols := ceilDiv w 32
  ((List.range (cols * ceilDiv h 32)).filter fun k => decide ((k / max 1 cols * 32 : Nat) < r.2 ∧ r.1 < (k / max 1 cols * 32 + 32 : Nat)))

/-- SLICE_CHECK_LINE (R285-R291): slice `j` of the picture judged in this head frame, at the departure of the first pixel of its
check line. -/
def sliceCheckLine (ch j : Nat) (s : State) : State :=
  let k := s.slice ch
  if k.mode = .off || k.pic = 0 || k.checked.contains j || (s.head k.head).frame ≠ k.picFrame then s else
  match s.tile? k.layer k.head, (s.ctx ch).bufs.find? fun b => b.seq = k.pic with
  | some t, some b =>
    let (w, h, cy) := b.outSize
    let hd := s.head k.head
    let span := b.sliceSpan cy j
    if b.plan.length ≤ j || !sliceInCrop t.cfg w h span then s else
    let need := hd.tF + hd.timing.lines (checkLine t.cfg hd.timing w h span.1) + hd.dTx * fine
    if s.localFine < need then s else
    let s := s.modSlk ch fun k => { k with checked := j :: k.checked }
    let onTime := b.eligible && b.sliceReady j (need / fine)
    if !onTime then
      let s := (s.lateSlice ch (s.now - (s.localFine - need) / fine)).modSlk ch fun k => { k with lateNow := j :: k.lateNow }
      if k.mode = .locked then s.markLate t (rowCells w h span) (checkLine t.cfg hd.timing w h span.1) else s
    else
      let early := match b.slices.find? fun x => x.n = j with
        | some x => decide ((x.arrival + 1500000) * fine < need)
        | none => false
      s.when early (·.modSlk ch fun k => { k with early := k.early + 1 })
  | _, _ => s

/-- SLICE_LOCK_RETURN (R291, Table 11-2): at an apply line, once a window of 2 s has passed clean. -/
def sliceReturn (ch : Nat) (s : State) : State :=
  let k := s.slice ch
  let hd := s.head k.head
  let line := hd.tF + hd.timing.lines hd.line
  let since := (s.localFine - line) / fine
  let clean := decide (k.cleanSince + 2 * nsPerSec + since ≤ s.now) || k.cleanPassed.any fun t => t + since ≤ s.now
  if k.mode = .dropped && hd.applied && clean && (!k.noReturn || k.justLocked) then
    (s.sliceMode ch .locked 1).modSlk ch fun k => { k with justLocked := false, lateAt := [], pendingDrop := none, cleanPassed := none }
  else s

/-- At a head's apply line: a drop that waits is made (R290, R292). -/
def State.sliceApply (s : State) (h : Nat) : State :=
  s.forEach ((List.range 64).filter fun ch => (s.slice ch).mode = .locked && (s.slice ch).head = h) fun ch s =>
    match (s.slice ch).pendingDrop with
    | some why => (s.sliceMode ch .dropped why).modSlk ch fun k => { k with pendingDrop := none, lateAt := [], cleanSince := s.now, cleanPassed := none }
    | none => s

end Sys2Proof.Machine
end

