-- ==== Sys2Proof/Machine/Pixels.lean ====
section
/-! DEFINITION. The pixels of a head's frame: the stages of Table 9-3 over its layers, the Appliqué stage, banners, and the picture that
an encoder takes (spec/09 R221-R250, spec/02 R54-R66, spec/12 R300). When the fetch is taken to happen: log entry 80. -/
namespace Sys2Proof.Machine

/-- A pixel of a head lies in a rectangle. -/
def Rect.has (r : Rect) (px py : Nat) : Bool := r.x ≤ px && px < r.right && r.y ≤ py && py < r.bottom

/-! ### Rows that are there in time (R223, R288) -/

/-- The first line that reads row `k` of a picture (R228; R285's line). -/
def State.rowLine (s : State) (t : Tile) (b : Buf) (k : Nat) : Nat :=
  let (w, h, cy) := b.outSize
  checkLine t.cfg (s.head t.head).timing w h ((k * b.ctu : Nat) - (cy : Int))

/-- Row `k` of a latched picture had been published at the fetch of a line (R223). -/
def State.rowInTime (s : State) (t : Tile) (b : Buf) (k line : Nat) : Bool :=
  let hd := s.head t.head
  (!b.decoding && b.rows.isEmpty) || b.rows.any fun r => r.1 = k && r.2 * fine ≤ hd.tF + hd.timing.lines line

/-- The fetch of a line reads row `k` of the latched picture, and not of the previous one. -/
def State.rowRead (s : State) (t : Tile) (b : Buf) (k line : Nat) : Bool :=
  match s.sliceTile t with
  | some ch =>
    let x := s.slice ch
    let late := x.lateNow.any fun j => (b.plan.getD j (0, 0)).1 ≤ k && k < (b.plan.getD j (0, 0)).1 + (b.plan.getD j (0, 0)).2
    x.mode ≠ .locked || !late
  | none => !t.cfg.rowLatch || s.rowInTime t b k line

/-- The picture that the fetch of a line reads row `k` from, if one has it. -/
def State.rowBuf (s : State) (t : Tile) (b : Buf) (k line : Nat) : Option Buf :=
  if s.rowRead t b k line && (b.row? k).isSome then some b
  else t.prevPic.filter fun q => q.width = b.width && q.height = b.height && q.ctu = b.ctu && q.chroma = b.chroma && (q.row? k).isSome

/-- Cells of a picture whose rows had not been published when a line that reads them was fetched, with that line (R223). -/
def State.missedCells (s : State) (t : Tile) : List (Nat × Nat) :=
  match t.pic with
  | some b =>
    if !t.cfg.rowLatch || (s.sliceTile t).isSome then [] else
    let (w, h, cy) := b.outSize
    (List.range (ceilDiv (h + cy) (max 1 b.ctu))).flatMap fun k =>
      let span : Int × Int := ((k * b.ctu : Nat) - (cy : Int), ((k + 1) * b.ctu : Nat) - (cy : Int))
      let line := s.rowLine t b k
      if sliceInCrop t.cfg w h span && !s.rowInTime t b k line then (rowCells w h span).map fun c => (c, line) else []
  | none => []

/-- The cells of rows not yet published count for the frame that showed them. -/
def State.rowLatchCells (s : State) (h : Nat) : State :=
  let frame := (s.head h).frame
  s.forEach ((s.tilesOn h).filter fun t => t.cfg.rowLatch && t.latchFrame = some frame) fun t s =>
    let cells := s.missedCells t
    if cells.isEmpty then s else
    s.modTile t.layer t.head fun t =>
      let c := (t.frameCells ++ cells.map (·.1)).eraseDups
      { t with frameCells := c, frameLines := t.frameLines ++ cells, tainted := match t.seen with
          | some r => (taintOf t.cfg r c false).1
          | none => t.tainted }

/-! ### Stages 1 and 2: fetch and expand -/

/-- A component of a fetched sample in 10 bits. -/
def expand (b : Buf) (v : Nat) : Nat := if b.bitDepth = 8 then widen8 (v % 256) else v % 1024

/-- A luma sample at coded coordinates, read for a line of the head; a denied read returns zero (Table 9-3). -/
def State.lumaSample (s : State) (t : Tile) (b : Buf) (line x y : Nat) : Nat :=
  match s.rowBuf t b (y / max 1 b.ctu) line with
  | some q => if s.lineDenied t.head ((t.latched.map (·.1)).getD 0, q.seq) 0 y then 0 else expand q (q.lumaAt x y)
  | none => Config.unreadSample ((t.latched.map (·.1)).getD 0) b.seq 0 x y % 1024

/-- A chroma sample at column `i` and line `j` of the planes: `comp` 1 Cb, 2 Cr. -/
def State.chromaSample (s : State) (t : Tile) (b : Buf) (line comp i j : Nat) : Nat :=
  match s.rowBuf t b (j / max 1 (chromaLines b.chroma b.ctu)) line with
  | some q =>
    if s.lineDenied t.head ((t.latched.map (·.1)).getD 0, q.seq) comp j then 0 else
    let (u, v) := q.chromaAt i j
    expand q (if comp = 1 then u else v)
  | none => Config.unreadSample ((t.latched.map (·.1)).getD 0) b.seq comp i j % 1024

/-- Chroma at luma position (x, y) by linear interpolation between `cols` × `lines` samples at a sample location type (stage 2);
4:2:2 horizontally only. Positions are in quarters of a chroma sample; one rounding, halves up. -/
def upsample (loc chroma cols lines : Nat) (f : Nat → Nat → Nat) (x y : Nat) : Nat :=
  let hq : Int := if loc % 2 = 0 then 2 * x else 2 * x - 1
  let vq : Int := if chroma = 2 then 4 * y else if loc / 2 = 0 then 2 * y - 1 else if loc / 2 = 1 then 2 * y else 2 * y - 2
  let fx := (hq % 4).toNat
  let fy := (vq % 4).toNat
  let near (n : Nat) (v : Int) : Nat := (max 0 (min v ((n : Int) - 1))).toNat
  let at_ (i j : Int) : Nat := f (near cols i) (near lines j)
  let i := hq / 4
  let j := vq / 4
  ((4 - fx) * (4 - fy) * at_ i j + fx * (4 - fy) * at_ (i + 1) j + (4 - fx) * fy * at_ i (j + 1) + fx * fy * at_ (i + 1) (j + 1) + 8) / 16

/-- Component `comp` of the output picture at (x, y), read for a line: 0 Y′, 1 Cb, 2 Cr, in 10 bits. -/
def State.pictureSample (s : State) (t : Tile) (b : Buf) (line comp x y : Nat) : Nat :=
  if comp = 0 then s.lumaSample t b line (b.cropX + x) (b.cropY + y) else
  let tall := if b.chroma = 2 then 1 else 2
  upsample b.chromaLoc b.chroma (chromaCols b.outW) (chromaLines b.chroma b.outH)
    (fun i j => s.chromaSample t b line comp (b.cropX / 2 + i) (b.cropY / tall + j)) x y

/-! ### Stages 3 to 6 of a layer -/

/-- What a layer gives the blend at a pixel: its weight and its 12-bit linear components. -/
abbrev LayerPixel := (Nat × Nat) × List Nat

/-- The pixel of a video layer that shows picture `b`: scaled, through the matrix and the pre-blend LUT; opaque black where the picture
does not reach (R226, R227). -/
def State.videoPixel (s : State) (t : Tile) (b : Buf) (px py : Nat) : LayerPixel :=
  let c := t.cfg
  let h := s.head t.head
  let w := pixelWeight 0 0 c.alpha
  if !(c.filled b.outW b.outH).has px py then (w, [0, 0, 0]) else
  let comp (k : Nat) : Nat := scaled c (h.coefs.getD c.coef []) (applies h.ladder 3 c.eff) b.outW b.outH (s.pictureSample t b py k)
    (px - c.dest.x) (py - c.dest.y)
  (w, (yuvToRgb b.matrix b.fullRange (comp 0) (comp 1) (comp 2)).zipIdx.map fun x => preLinear c.preLut x.2 x.1)

/-- Alpha and 10-bit components of a pixel word of a graphic format (Table 9-9). -/
def graphicComps (format word : Nat) : Nat × List Nat :=
  if format = 1 then (bits word 31 24, [widen8 (bits word 23 16), widen8 (bits word 15 8), widen8 (bits word 7 0)])
  else if format = 2 then (bits word 31 30, [bits word 29 20, bits word 19 10, bits word 9 0])
  else (0, [widen5 (bits word 15 11), widen6 (bits word 10 5), widen5 (bits word 4 0)])

/-- The pixel of a graphic layer with its buffer at the corner of its clip window (R221); nothing outside the buffer, and a denied
row is transparent (Table 9-3). -/
def State.graphicPixel (s : State) (t : Tile) (f : Flip) (px py : Nat) : Option LayerPixel :=
  let c := t.cfg
  let x := px - c.dest.x
  let y := py - c.dest.y
  let n := formatBytes c.format
  let (row, len) := s.graphicRow t f y
  if f.w ≤ x || f.h ≤ y || s.fetchDenied t.head row len then none else
  let word := leVal ((List.range n).map fun i => s.fabricRead (row + x * n + i))
  let (alpha, comps) := graphicComps c.format word
  some (pixelWeight c.format alpha c.alpha, comps.zipIdx.map fun x => preLinear c.preLut x.2 x.1)

/-- A tile has latched in the current frame of its head. -/
def State.drawsNow (s : State) (t : Tile) : Bool := s.scanned t && t.latchFrame = some (s.head t.head).frame

/-- What a tile's layer gives the blend at a pixel (R218, R233). -/
def State.layerPixel (s : State) (t : Tile) (px py : Nat) : Option LayerPixel :=
  if !(s.drawsNow t && (visibleRect t.cfg (s.head t.head).timing).has px py) then none
  else if isVideo t.layer then t.pic.map fun b => s.videoPixel t b px py
  else t.shows.bind fun f => s.graphicPixel t f px py

/-! ### Appliqué: colours (R241, R55, R66) -/

/-- Code of a 12-bit linear value through the Appliqué encoding LUT. -/
def applCode (format linear : Nat) : Nat := postCode [] format 0 linear

/-- The inverse of that LUT: the lowest linear value whose code is not below this one (log entry 81). -/
def applLinear (format code : Nat) : Nat :=
  if code ≤ applCode format 0 then 0 else min 4095 (1 + descend (fun j => applCode format j < code) 12 0)

/-- Codes of a style colour: its 10-bit linear components widened to 12 bits by their top bits (log entry 81). -/
def styleCode (format colour : Nat) : List Nat :=
  [bits colour 29 20, bits colour 19 10, bits colour 9 0].map fun v => applCode format (v * 4 + v / 256)

/-- Relative luminance of a pixel, times 4095 × 10,000. -/
def pixelY (format : Nat) (codes : List Nat) : Nat := luma709 (codes.map (applLinear format))

/-- The neutral grey of half a pixel's relative luminance (R55). -/
def greyOf (format : Nat) (codes : List Nat) : List Nat :=
  let v := applCode format (roundDiv (pixelY format codes) 20000).toNat
  [v, v, v]

/-- A pixel as the Appliqué stage leaves it: its codes, and 1 where it has painted, 2 where it has desaturated. -/
structure Px where
  codes : List Nat
  kind : Nat := 0
deriving DecidableEq, Repr

def Px.paint (format colour : Nat) : Px := ⟨styleCode format colour, 1⟩

/-! ### Appliqué: one tile (R54-R63, R242-R245) -/

/-- The Picot of a tile in a frame: position, the line from which it is drawn hollow, amber ring. -/
structure PicotDraw where
  pos : Nat
  hollowFrom : Option Nat
  ring : Bool
deriving DecidableEq, Repr

/-- Everything the stage draws for a guarded tile in a frame: its rectangle, style and treatment; the hatched areas of its cells, each
with its state; the colours that R66 gives its hatch, border, text, lit dot and amber ring; its text; its footprint and Picot. -/
structure Drawing where
  rect : Rect
  style : Style
  format : Nat
  treat : Treatment
  cells : List (Rect × Nat)
  hatch : Nat
  border : Nat
  ink : Nat
  lit : Nat
  amber : Nat
  text : List Nat
  foot : Option Rect
  picot : Option PicotDraw
deriving DecidableEq, Repr

/-- The part of a rectangle from a line on. -/
def Rect.below (r : Rect) (line : Nat) : Rect := { r with y := max r.y line, h := r.bottom - max r.y line }

/-- Cells of a tile that the stage marks: cell, state as R245 draws it, first line. Decoder taint is drawn on an IMPAIRED(PARTIAL) tile
(R56), a map's cells wherever the picture is shown (R245; log entry 82). -/
def State.cellMarks (s : State) (t : Tile) (st : Nat) : List (Nat × Nat × Nat) :=
  match t.seen with
  | none => []
  | some r =>
    if st % 16 = 7 then [] else
    let early := t.frameCells.filter fun c => !t.frameLines.any fun x => x.1 = c
    let all := if s.graphicDenied t then (cropCells (t.cfg.cropOf r.width r.height) r.width r.height).map fun k => k.2 * ceilDiv r.width 32 + k.1
      else []
    (r.mapCells.map fun c => (c.1, c.2, 0)) ++
    if st % 16 = 5 && st / 16 % 8 = 1 then
      ((r.cells ++ early ++ all).map fun c => (c, 2, 0)) ++ t.frameLines.map fun c => (c.1, 2, c.2)
    else []

/-- The byte of the state in which a tile is rendered: LOST in the closing frame (R270). -/
def State.shownByte (s : State) (t : Tile) : Nat := if (s.head t.head).closingFrame then 7 else t.state

/-- What the stage draws for a tile. -/
def State.drawing (s : State) (t : Tile) : Drawing :=
  let h := s.head t.head
  let st := s.shownByte t
  let y := styleFor h t.cfg (st % 16)
  let rect := visibleRect t.cfg h.timing
  let (w, hh) := match t.seen with
    | some r => (r.width, r.height)
    | none => (0, 0)
  let cols := max 1 (ceilDiv w 32)
  let colour (k : Nat) : Nat := y.colours.getD k 0
  let text := stateText y st t.ageNs
  let late := (t.frameLines.map (·.2)).min?
  { rect, style := y, format := h.timing.format, treat := treatmentOf st
    cells := (s.cellMarks t st).map fun m => ((hatchRect t.cfg h.timing w hh (m.1 % cols) (m.1 / cols)).below m.2.2, m.2.1)
    hatch := contrastOver (colour 4) (colour 5) (meanLevel t.hatchMean)
    border := contrastOver (colour 4) (colour 5) (meanLevel t.hatchMean)
    ink := contrastOver (colour 4) (colour 5) (colourLevel (colour 3))
    lit := contrastOver (colour 0) (colour 5) (colourLevel (colour 3))
    amber := contrastOver (colour 2) (colour 5) (colourLevel (colour 3))
    text := if textFits y text rect then text else []
    foot := footprint? y rect
    picot := if picotState st && !t.clipped then
        some { pos := t.picot, ring := st % 16 = 2 || 128 ≤ st
               hollowFrom := if st % 16 ≠ 5 then none else if t.verdictByte % 16 = 5 then some 0 else late }
      else none }

/-- A pixel lies on a state's hatch in one of the tile's cells. -/
def Drawing.cellHit (d : Drawing) (px py : Nat) : Bool :=
  d.cells.any fun c =>
    let (_, lines, cross) := cellTreatment c.2
    c.1.has px py && ((lines && hatchAt d.style px py) || (cross && crossHatchAt d.style px py))

/-- Steps 1 and 2 of R242: desaturation, of the tile or of its stale cells, and the dark fill. -/
def Drawing.treated (d : Drawing) (px py : Nat) (p : Px) : Px :=
  if !d.rect.has px py then p
  else if d.treat.fill then Px.paint d.format (d.style.colours.getD 6 0)
  else if d.treat.grey || d.cells.any fun c => (cellTreatment c.2).1 && c.1.has px py then ⟨greyOf d.format p.codes, 2⟩
  else p

/-- The characters' block, centred in the tile (R243); its plate reaches 4 px further. -/
def textBlock (r : Rect) (size n : Nat) : Rect :=
  let (cw, ch) := fontCell size
  { x := r.x + (r.w - n * cw) / 2, y := r.y + (r.h - ch) / 2, w := n * cw, h := ch }

def Rect.grow (r : Rect) (n : Nat) : Rect := { x := r.x - n, y := r.y - n, w := r.w + 2 * n, h := r.h + 2 * n }

/-- A pixel of a text drawn in a block is lit. -/
def textBit (size : Nat) (text : List Nat) (b : Rect) (px py : Nat) : Bool :=
  let (cw, _) := fontCell size
  b.has px py && Config.fontBit size (text.getD ((px - b.x) / cw) 0x20) ((px - b.x) % cw) (py - b.y)

/-- A quarter turn back: what lies clockwise of the top comes to it. -/
def turnBack : Nat → Int × Int → Int × Int
  | 0, p => p
  | n + 1, (x, y) => turnBack n (y, -x)

/-- A point lies within `rad` of dot `pos` of a Picot of size `s`: sixteenths of a pixel from its centre. The dots' centres lie at
6s; those at odd positions on the diagonals, so that a ≤ b√2 is asked of whole numbers (R60, log entry 83). -/
def inDot (s pos : Nat) (rad : Int) (at_ : Int × Int) : Bool :=
  let (x, y) := turnBack (pos / 2) at_
  let k : Int := 6 * (s : Int)
  if pos % 2 = 0 then decide (x * x + (y + k) * (y + k) ≤ rad * rad)
  else
    let a := x * x + y * y + k * k - rad * rad
    let b := k * (x - y)
    decide (0 ≤ b ∧ a * a ≤ 2 * (b * b)) || decide (a ≤ 0)

/-- The colour of a pixel of a footprint (R60, R61): ring, dots, or the footprint's own. DESIGN CHOICE (log entry 109): the seven unlit
dots take the style's unlit colour of R60 whatever its contrast with the footprint; the contrast rule of R66 governs the lit dot. -/
def Drawing.footColour (d : Drawing) (f : Rect) (px py : Nat) : Nat :=
  let own := d.style.colours.getD 3 0
  match d.picot with
  | none => own
  | some k =>
    let s := d.style.picotSize
    let at_ : Int × Int := (16 * ((px : Int) - f.x) + 8 - 8 * (f.w : Int), 16 * ((py : Int) - f.y) + 8 - 8 * (f.h : Int))
    let rad : Int := 2 * (s : Int)
    let hollow := match k.hollowFrom with
      | some line => decide (line ≤ py)
      | none => false
    let far := at_.1 * at_.1 + at_.2 * at_.2
    let outer : Int := 8 * (s : Int)
    if inDot s k.pos rad at_ then (if hollow && 16 < rad && inDot s k.pos (rad - 16) at_ then own else d.lit)
    else if (List.range 8).any fun n => n ≠ k.pos && inDot s n rad at_ then d.style.colours.getD 1 0
    else if k.ring && outer * outer < far && far ≤ (outer + 16) * (outer + 16) then d.amber
    else own

/-- Steps 3 to 7 of R242: cell hatches, whole hatch, border, text plate and text, footprint and Picot; what comes later replaces what
comes earlier. -/
def Drawing.marked (d : Drawing) (px py : Nat) (p : Px) : Px :=
  if !d.rect.has px py then p else
  let paint := Px.paint d.format
  let block := textBlock d.rect d.style.textSize d.text.length
  let inFoot := match d.foot with
    | some f => f.has px py
    | none => false
  if inFoot then paint (d.footColour (d.foot.getD {}) px py)
  else if !d.text.isEmpty && textBit d.style.textSize d.text block px py then paint d.ink
  else if !d.text.isEmpty && (block.grow 4).has px py then paint (d.style.colours.getD 3 0)
  else if d.treat.border ≠ 0 && borderAt d.style d.rect (d.treat.border = 2) px py then paint d.border
  else if (d.treat.hatch && hatchAt d.style px py) || d.cellHit px py then paint d.hatch
  else p

/-- A tile is drawn over what lies below it. -/
def Drawing.over (d : Drawing) (px py : Nat) (p : Px) : Px := d.marked px py (d.treated px py p)

/-! ### Banners (R247-R249) -/

/-- A strip: its place, style and text. -/
structure Strip where
  rect : Rect
  style : Style
  text : List Nat
deriving DecidableEq, Repr

/-- Height of a strip. -/
def stripHeight (y : Style) : Nat := (fontCell y.textSize).2 + 8

/-- Texts of the device's own banners (R249). -/
def linkLostText : List Byte := [0x53, 0x41, 0x46, 0x45, 0x54, 0x59, 0x20, 0x4C, 0x49, 0x4E, 0x4B, 0x20, 0x4C, 0x4F, 0x53, 0x54]
def clockFaultText : List Byte :=
  [0x44, 0x45, 0x56, 0x49, 0x43, 0x45, 0x20, 0x43, 0x4C, 0x4F, 0x43, 0x4B, 0x20, 0x46, 0x41, 0x55, 0x4C, 0x54]

/-- A flashing banner is drawn in this frame (R247). -/
def flashOn (tF : Nat) : Bool := 2 * (tF / fine) / nsPerSec % 2 = 0

/-- Codes of a banner's text. -/
def bannerText (n : Nat) (b : Banner) : List Byte := b.text.getD (bannerName n)

/-- Places of the shown host banners of a head: number and strip. Top banners stack downward below the device's strip, bottom ones
upward, in banner order; a flashing banner keeps its place (log entry 84). -/
def Head.strips (x : Head) (mask : Nat) : List (Nat × Strip) :=
  let dev := if x.linkLost then stripHeight (x.styles.getD 0 {}) else 0
  let shown := x.banners.zipIdx.filter fun b => mask.testBit b.2
  let place (acc : List (Nat × Strip) × Nat × Nat) (b : Banner × Nat) : List (Nat × Strip) × Nat × Nat :=
    let y := x.styles.getD b.1.style {}
    let n := stripHeight y
    let (l, top, bottom) := acc
    let codes := (bannerText b.2 b.1).map BitVec.toNat
    if b.1.position = 0 then (l ++ [(b.2, ⟨{ x := 0, y := top, w := x.timing.hAct, h := n }, y, codes⟩)], top + n, bottom)
    else (l ++ [(b.2, ⟨{ x := 0, y := bottom - n, w := x.timing.hAct, h := n }, y, codes⟩)], top, bottom - n)
  (shown.foldl place ([], dev, x.timing.vAct)).1

/-- A strip over what lies below it: a 4 px edge in amber around the text on its plate. -/
def Strip.over (b : Strip) (format px py : Nat) (p : Px) : Px :=
  if !b.rect.has px py then p else
  let paint := Px.paint format
  let inner := { b.rect with x := b.rect.x + 4, y := b.rect.y + 4, w := b.rect.w - 8, h := b.rect.h - 8 : Rect }
  let block := textBlock inner b.style.textSize b.text.length
  let colour (k : Nat) : Nat := b.style.colours.getD k 0
  if !inner.has px py then paint (colour 2)
  else if textBit b.style.textSize b.text block px py then paint (contrastOver (colour 4) (colour 5) (colourLevel (colour 3)))
  else paint (colour 3)

/-- The banners of a head's frame over what lies below them: the host's, then the device's, the clock fault last (R242, R249). -/
def Head.bannersOver (x : Head) (px py : Nat) (p : Px) : Px :=
  let f := x.timing.format
  let y := x.styles.getD 0 {}
  let host := (x.strips x.bannerMask).filter fun b => !(x.banners.getD b.1 {}).flash || flashOn x.tF
  let p := host.foldl (fun p b => b.2.over f px py p) p
  let p := if x.linkLost then
      Strip.over ⟨{ x := 0, y := 0, w := x.timing.hAct, h := stripHeight y }, y, linkLostText.map BitVec.toNat⟩ f px py p
    else p
  if !x.clockFault then p else
  let text := clockFaultText.map BitVec.toNat
  let fill := y.colours.getD 6 0
  if textBit y.textSize text (textBlock x.timing.active y.textSize text.length) px py then
    Px.paint f (contrastOver (y.colours.getD 4 0) (y.colours.getD 5 0) (colourLevel fill))
  else Px.paint f fill

/-! ### A head's frame -/

/-- The tiles of a head that the current frame draws, from the bottom up. -/
def State.drawnTiles (s : State) (h : Nat) : List Tile := (s.blend h).filter s.drawsNow

/-- A pixel after the post-blend LUT (stages 1 to 8). -/
def State.blended (s : State) (h px py : Nat) : List Nat :=
  headCode (s.head h) (blendPixel ((s.drawnTiles h).map fun t => s.layerPixel t px py))

/-- The drawings of the guarded tiles, from the bottom up (R242). -/
def State.drawings (s : State) (h : Nat) : List (Tile × Drawing) :=
  ((s.drawnTiles h).filter (·.cfg.guarded)).map fun t => (t, s.drawing t)

/-- A pixel of a head's frame: blended, then drawn over by tiles and banners. -/
def State.headPixel (s : State) (h px py : Nat) : Px :=
  (s.head h).bannersOver px py ((s.drawings h).foldl (fun p d => d.2.over px py p) ⟨s.blended h px py, 0⟩)

/-- The 30-bit code value of a pixel; 8-bit codes are shifted left by 2 (R274). -/
def codeWord (format : Nat) (codes : List Nat) : Nat :=
  let k := if format = 1 then 4 else 1
  codes.getD 0 0 * k * 2 ^ 20 + codes.getD 1 0 * k * 2 ^ 10 + codes.getD 2 0 * k

/-- Every pixel of an area in raster order. -/
def rasterOf {α : Type} (r : Rect) (f : Nat → Nat → α) : List α :=
  (List.range r.h).flatMap fun j => (List.range r.w).map fun i => f (r.x + i) (r.y + j)

/-- The frame of a head as composed. -/
def State.composePicture (s : State) (h : Nat) : List (Nat × Nat) :=
  let t := (s.head h).timing
  rasterOf t.active fun px py =>
    let p := s.headPixel h px py
    (codeWord t.format p.codes, p.kind)

/-- Mean luminance in parts per million of the picture treated for a tile: what lies under it, desaturated and filled, without what is
drawn over it (R66). -/
def State.treatedMean (s : State) (h : Nat) (below : List Drawing) (d : Drawing) : Nat :=
  let f := (s.head h).timing.format
  let ys := rasterOf d.rect fun px py =>
    pixelY f (d.treated px py (below.foldl (fun p b => b.over px py p) ⟨s.blended h px py, 0⟩)).codes
  ys.sum * 1000000 / max 1 (40950000 * d.rect.area)

/-- The active lines of a composed frame have been fetched: its pixels, and the means that the next frame's hatches go by. A tile
without a guard has no verdict and no row of its own: one that is scanned has latched by now (R63, R223; log entry 51). -/
def State.shoot (s : State) (h : Nat) : State :=
  let x := s.head h
  if !x.composing || x.shot.isSome then s else
  let s := (s.latchUnguarded h).rowLatchCells h
  let ds := s.drawings h
  let means := ds.zipIdx.map fun d => (d.1.1, s.treatedMean h ((ds.take d.2).map (·.2)) d.1.2)
  let pic := s.composePicture h
  (s.modHead h fun x => { x with shot := some pic }).forEach means fun m s =>
    s.modTile m.1.layer h fun t => { t with lumaMean := m.2, lumaFrame := some x.frame }

/-! ### What is sent, and its CRCs (R250, R274) -/

/-- The pixels sent: the composed ones but for the faults of the output stage. -/
def sentPixels (o : ScanObs) (shot : List (Nat × Nat)) : List Nat :=
  shot.zipIdx.map fun p => match o.faults.find? fun f => f.1 = p.2 with
    | some f => f.2 % 2 ^ 30
    | none => p.1.1

/-- The words of CRC_RENDER. -/
def renderWords (shot : List (Nat × Nat)) : List Nat :=
  shot.filterMap fun p => if p.2 = 1 then some (0x40000000 + p.1) else if p.2 = 2 then some 0x80000000 else none

/-- The words of CRC_OUTPUT: a desaturated pixel shows whether it was sent grey. -/
def outputWords (shot : List (Nat × Nat)) (sent : List Nat) : List Nat :=
  (shot.zip sent).filterMap fun p =>
    let w := p.2
    if p.1.2 = 1 then some (0x40000000 + w)
    else if p.1.2 = 2 then some (if bits w 29 20 = bits w 19 10 && bits w 19 10 = bits w 9 0 then 0x80000000 else 0xBFFFFFFF)
    else none

/-! ### The encoder's conversion (R300) -/

/-- Y′CbCr 4:2:0 samples at `n` bits of a picture of `w` × `h` pixels of a head's format: luma of every pixel; chroma of every even
column and pair of rows, filtered [1, 2, 1] and averaged, with the nearest pixel beyond an edge, and one rounding. -/
def encoderSamples (n format w h : Nat) (pixels : List Nat) : Samples :=
  let (k, top) : Nat × Nat := if format = 1 && n = 8 then (4, 255) else (1, 1023)
  let at_ (x : Int) (y : Nat) : List Nat :=
    let p := pixels.getD (y * w + (max 0 (min x ((w : Int) - 1))).toNat) 0
    [bits p 29 20 / k, bits p 19 10 / k, bits p 9 0 / k]
  let row (i y : Nat) : List (Nat × List Nat) := [(1, at_ (2 * (i : Int) - 1) y), (2, at_ (2 * (i : Int)) y), (1, at_ (2 * (i : Int) + 1) y)]
  let plane (comp : Nat) : List Nat := rasterOf { w := w / 2, h := h / 2 } fun i j => codeChroma n top comp (row i (2 * j) ++ row i (2 * j + 1))
  { y := rasterOf { w, h } fun x y => codeLuma n top (at_ x y), cb := plane 2, cr := plane 0 }

/-- Bits per sample of a channel's coded pictures. -/
def EncCfg.depth (c : EncCfg) : Nat := if c.codec = 2 && c.profile = 2 then 10 else 8

end Sys2Proof.Machine
end

