-- ==== Sys2Proof/Machine/Scan.lean ====
section
/-! DEFINITION. The events of a head's frame: its apply line, its start and the end of its last active line, with the scan-out
and Appliqué CRCs and the attestation record (spec/10 R256-R275, spec/09 R250, R251, spec/12 R298, R308-R313). -/
namespace Sys2Proof.Machine

/-- The origin of a head in the log (Table 1-2). -/
def headOrigin (h : Nat) : Nat := (0x20 + h / 8) * 256 + h % 8

/-! ### The apply line (R131, R257-R263) -/

/-- Start of the frame after one of `n` lines, with the steering ratio of the current frame (R257). -/
def Head.startAfter (h : Head) (n : Nat) : Nat := h.tF + (h.timing.lines n * nsPerSec / ((nsPerSec : Int) + h.steerPpb).toNat)

/-- Lines that SNAP adds: the gap from the free start to the next target in lines, halves down (Table 10-3). The gap is known to
a few units of head time (log entry 45). -/
def snapLines (t : Timing) (g : Genlock) (free : Nat) : Nat :=
  let m := nsPerSec * t.den * fine
  let phase := g.phaseNs * fine * t.num % m
  let gap := ((-(((free : Int) - g.epochNs * fine) * t.num - phase)) % m).toNat
  ceilDiv (2 * t.vTotal * (gap - 4 * t.num) - m) (2 * m)

/-- Lines added to the current frame for genlock acquisition (R263; log entry 46). -/
def Head.acquireLines (h : Head) (free : Nat) : Nat :=
  if h.genlock.st ≠ .acquiring || h.nextTiming.isSome || errWithin h.timing h.genlock h.tF 1 then 0
  else if h.genlock.mode = 1 then snapLines h.timing h.genlock free else 1

/-- The next frame start is fixed (R257, R260, Table 10-3). -/
def Head.fixNext (h : Head) : Head :=
  let n := if h.half then 2 * h.timing.vTotal else h.timing.vTotal
  let free := h.startAfter n
  let a := h.acquireLines free
  let next := if a = 0 then free else h.startAfter (n + a)
  { h with placeNext := false, nextTF := some (if h.placeNext then nextTarget h.timing h.genlock next else next) }

/-- APPLY_LINE_REACHED (R131, R132, R237, R257, R261). -/
def applyLineReached (h : Nat) (s : State) : State :=
  let x := s.head h
  if x.st = .untimed || x.applied || s.localFine < x.tF + x.timing.lines x.line then s else
  let limit := s.sampleAt h
  let s := (((s.chargeHead h).shoot h).latchUnguarded h).modHead h fun x => { x with applied := true, linkNext := s.ses.hbLost, half := x.halfWanted && x.timing.flags.testBit 2, ladder := s.nrg.inForce }
  let s := (s.applyWaiting (some h)).sliceApply h
  let s := s.forEach (s.tilesOn h) fun t s => s.serveTile t limit 33
  (s.modHead h Head.fixNext).settleTxns

/-! ### The frame start (R257-R263, R272, R298) -/

/-- Genlock states at a frame start (Table 10-3). -/
def Head.lockFrame (h : Head) : Head :=
  let g := h.genlock
  match g.st with
  | .free => h
  | .acquiring =>
    let run := if errWithin h.timing g h.tF 1 then g.goodRun + 1 else 0
    { h with genlock := { g with goodRun := run, badRun := 0, st := if 8 ≤ run then .locked else .acquiring } }
  | .locked =>
    let run := if errWithin h.timing g h.tF 2 then 0 else g.badRun + 1
    { h with genlock := { g with badRun := run, goodRun := 0, st := if 2 ≤ run then .acquiring else .locked } }

/-- The steering ratio of the frame that starts, in parts per 10^9 (R263). -/
def Head.steerFrame (h : Head) : Head :=
  let (e, m) := phaseErr h.timing h.genlock h.tF
  { h with steerPpb := if h.genlock.st = .locked then max (-10000) (min 10000 ((e * 1000000000).tdiv (max 1 (m : Int)))) else 0 }

/-- A virtual head's frame reaches its encode channel: whether the frame is encoded (R298, Table 12-2). -/
def State.encFrame (s : State) (h : Nat) : State :=
  let x := s.head h
  if !x.virtual then s else
  let ec := idIndex x.target
  let on := x.st = .scanning || x.st = .closing
  let s := s.when (on && (s.encode ec).st = .idle) (·.modEnc ec fun e => { e with st := .running, lastFrame := none })
  let e := s.encode ec
  let step := e.cfg.divider * (if e.halved then 2 else 1)
  let due := match e.lastFrame with
    | some n => decide (n + step ≤ x.frame)
    | none => true
  let take : Bool := on && e.st = .running && e.stopping = none && (due || x.closingFrame)
  let pic : EncPic := { head := h, frame := x.frame, w := x.timing.hAct, h := x.timing.vAct, num := x.timing.num
                        den := x.timing.den * step, tF := x.tF / fine, ts := x.tF * 90000 / (nsPerSec * fine) % m32, uncertNs := s.uDev
                        established := s.clk.established, rate := [e.targetQp, e.qpMax, e.window, e.maxPic, e.peakKbps], idr := e.idr }
  if take then
    (s.modEnc ec fun e => { e with idr := none, lastFrame := some x.frame, pics := e.pics ++ [pic] }).modHead h fun x => { x with composed := true }
  else s

/-- The banners that a frame starts with (R247-R249): 8 is "SAFETY LINK LOST", 9 "DEVICE CLOCK FAULT". -/
def State.drawBanners (s : State) (h : Nat) : State :=
  let mask := s.bannersShown h
  let s := s.modHead h fun x => { x with bannerMask := mask }
  let x := s.head h
  let s := s.forEach x.banners.zipIdx fun b s =>
    s.when (mask.testBit b.2 && (!b.1.flash || flashOn x.tF)) (·.emit (.bannerShown h b.2 (b.1.text.getD (bannerName b.2))))
  let s := s.when x.linkLost (·.emit (.bannerShown h 8 linkLostText))
  s.when x.clockFault (·.emit (.bannerShown h 9 clockFaultText))

/-- A change of a SAFE input reaches Tambour (R248): a banner changes in the current frame when the first line of its strip has not
been fetched. The change reaches it at once (DESIGN CHOICE, log entry 84). -/
def State.bannersFollow (s : State) (h : Nat) : State :=
  let x := s.head h
  let now := s.bannersShown h
  if !x.composing || x.ended || now = x.bannerMask then s else
  let ahead (n : Nat) : Bool := (x.strips (now ||| x.bannerMask)).any fun b =>
    b.1 = n && decide (s.localFine < x.tF + x.timing.lines b.2.rect.y)
  let moved := (List.range 8).filter fun n => now.testBit n ≠ x.bannerMask.testBit n && ahead n
  let s := s.modHead h fun x => { x with bannerMask := moved.foldl (fun m n => m ^^^ 2 ^ n) x.bannerMask }
  s.forEach (moved.filter now.testBit) fun n s =>
    let b := x.banners.getD n {}
    s.when (!b.flash || flashOn x.tF) (·.emit (.bannerShown h n (b.text.getD (bannerName n))))

/-- The banners of every head follow the inputs. -/
def State.bannersAll (s : State) : State := (s.forEach (List.range 32) fun h s => s.bannersFollow h).bannersEndSr

/-- Tiles of a head that are not scanned in its frame (R47). -/
def State.markNotScanned (s : State) (h : Nat) : State :=
  let x := s.head h
  let mark (t : Tile) : Tile :=
    if t.head = h && t.cfg.guarded && !(x.composing && t.latchFrame = some x.frame) then { t with notScanned := true } else t
  { s with lay := { s.lay with tiles := s.lay.tiles.map mark } }

/-- HEAD_FRAME_START (R257-R263, R270-R275, R298, R312). -/
def frameStart (h : Nat) (s : State) : State :=
  let x := s.head h
  match x.nextTF with
  | none => s
  | some n =>
  if x.st = .untimed || s.localFine < n then s else
  let old := x.timing
  let s := (s.chargeHead h).modHead h fun x =>
    { x with tF := n, charged := 0, nextTF := none, frame := x.frame + 1, applied := false, ended := false, composed := false, shot := none }
  let s := match x.nextTiming with
    | some t => (s.modHead h fun x =>
        { x with timing := t, nextTiming := none, accTiming := if x.accTiming = some t then none else x.accTiming
                 applyLine := keepLine t x.applyLine }).encTiming h old t |>.releaseHidden h
    | none => s
  let s := s.modHead h fun x => (if x.nextTiming.isSome then x else x.lockFrame).steerFrame
  -- R272: the exit triggers of self-refresh; Table 10-7: the closing frame.
  let wake := x.st = .selfRefresh && (x.exitSr || s.anyBanner h || s.clk.clockFault)
  let s := s.modHead h fun x =>
    { x with st := if wake then .scanning else x.st, exitSr := false, closingFrame := x.st = .closing
             attest := x.attestPending.getD x.attest, attestPending := none }
  let x := s.head h
  let on := x.st = .scanning || x.st = .closing || x.st = .srEntry
  let s := s.modHead h fun x =>
    { x with clockFault := on && s.clk.clockFault, linkLost := on && (if wake then s.ses.hbLost else x.linkNext)
             composed := on && !x.virtual, recDue := on || x.st = .selfRefresh }
  let s := s.encFrame h
  -- R275: a selection comes into force.
  let s := match (s.head h).crcPending with
    | some (sel, js) =>
      let old := (s.head h).crcWaiting
      (s.modHead h fun x => { x with crcSel := some sel, crcPending := none, crcWaiting := js, crcOut := [] }).forEach old fun j s =>
        s.finish j eBusy (headId h) []
    | none => s
  if (s.head h).composing then (s.emit (.frame h (s.head h).frame (s.head h).closingFrame)).drawBanners h
  else s.markNotScanned h

/-! ### CRCs (R250, R251, R274, R275) -/

/-- CRC-32 over one little-endian 32-bit word per pixel. -/
def wordsCrc (ws : List Nat) : Nat := if ws.isEmpty then 0 else crc32 (ws.flatMap (leBytes 4))

/-- The rectangle of a region selector (R274). -/
def cropRegion (t : Timing) (sel : Nat) : Rect :=
  let w := t.hAct / 2
  let h := t.vAct / 2
  match sel with
  | 1 => { x := 0, y := 0, w := t.hAct, h := t.vAct }
  | 2 => { x := 0, y := 0, w, h }
  | 3 => { x := w, y := 0, w := t.hAct - w, h }
  | 4 => { x := 0, y := h, w, h := t.vAct - h }
  | 5 => { x := w, y := h, w := t.hAct - w, h := t.vAct - h }
  | 6 => { x := 0, y := 0, w, h := t.vAct }
  | 7 => { x := w, y := 0, w := t.hAct - w, h := t.vAct }
  | _ => {}

/-- Pixels of a region in raster order. -/
def regionWords (t : Timing) (pixels : List Nat) (sel : Nat) : List Nat :=
  let r := cropRegion t sel
  (List.range r.h).flatMap fun j => (pixels.drop ((r.y + j) * t.hAct + r.x)).take r.w

/-- The CRCs of a selection (Table 10-8). -/
def regionCrcs (t : Timing) (pixels : List Nat) (sel : Nat) : List Nat :=
  (List.range 4).map fun n =>
    let k := bits sel (4 * n + 3) (4 * n)
    if k = 0 then 0 else wordsCrc (regionWords t pixels k)

/-- The Appliqué comparison of a frame (R251). -/
def State.compareAppl (s : State) (h render output : Nat) : State :=
  let x := s.head h
  let bad := render ≠ output
  let sets := bad && x.mismatchRun = 1 && !x.appliqueFault
  let run := if bad then 0 else min 120 (x.matchRun + 1)
  let s := s.modHead h fun x =>
    { x with crcFrame := x.frame, crcRender := render, crcOutput := output, matchRun := run
             mismatchRun := if bad then min 255 (x.mismatchRun + 1) else 0
             mismatches := if bad then satAdd32 x.mismatches 1 else x.mismatches
             faults := if sets then satAdd32 x.faults 1 else x.faults
             appliqueFault := sets || (x.appliqueFault && run < 120) }
  s.when sets (·.record 0x0601 (headOrigin h) [headId h])

/-! ### The attestation record (R312, Tables 12-4 and 12-5) -/

/-- One entry. -/
def Tile.attestEntry (t : Tile) (x : Head) : List Byte :=
  let lost := x.closingFrame && !t.notScanned
  leBytes 2 (layerId t.layer) ++ leBytes 1 (if lost then 7 else t.state) ++ leBytes 1 (if lost then 0 else t.evidence) ++
  leBytes 4 (if lost then 0xFFFFFFFF else t.ageUs) ++ leBytes 1 (if lost then 0xFF else t.picotByte) ++
  leBytes 1 (b2n t.notScanned + 2 * b2n t.clipped) ++ leBytes 2 (sat16 t.tainted)

/-- Flags of a record at its frame's last active line. -/
def State.attestFlags (s : State) (h : Nat) : Nat :=
  let x := s.head h
  b2n x.appliqueFault + 2 * b2n x.linkLost + 4 * b2n x.clockFault + 8 * b2n s.clk.established + 16 * b2n x.closingFrame +
  32 * b2n (x.st = .selfRefresh) + 64 * b2n x.virtual + 128 * b2n (x.virtual && !x.composed) + 256 * b2n (x.genlock.st = .locked)

/-- Bytes 0-239 of the record of the current frame; `out`: the words of CRC_OUTPUT, and the pixels sent. -/
def State.attestBytes (s : State) (h : Nat) (out sent : List Nat) : List Byte :=
  let x := s.head h
  let entries := ((s.blend h).filter fun t => t.cfg.guarded).flatMap fun t => t.attestEntry x
  let composed := x.composing
  [0x4A, 0x58, 0x41, 0x54, 1] ++ leBytes 1 h ++ leBytes 2 (s.attestFlags h) ++ leBytes 8 x.frame ++ timeBytes (x.tF / fine) ++
  zeros 4 ++ padTo 192 entries ++ leBytes 4 (if composed then wordsCrc out else 0) ++
  leBytes 4 (if composed then wordsCrc (regionWords x.timing sent 1) else 0) ++ zeros 8

/-! ### The picture of a virtual head (R308, R309) -/

/-- State of a cell of the map: the first that applies (R309). -/
def State.mapCell (s : State) (h : Nat) (tiles : List Tile) (cell : Rect) : Nat :=
  let t := (s.head h).timing
  let hits := tiles.filter fun k => k.cfg.guarded && !((visibleRect k.cfg t).meet cell).empty
  let drawn (k : Tile) (st : Nat) : Bool := (s.drawing k).cells.any fun c => c.2 = st && !(c.1.meet cell).empty
  let st (k : Tile) : Nat := s.shownByte k
  if hits.any fun k => st k % 16 = 6 || drawn k 3 then 3
  else if hits.any fun k => [3, 4, 7, 8].contains (st k % 16) || drawn k 1 then 1
  else if hits.any fun k => st k % 16 = 5 && (st k / 16 % 8 = 2 || (st k / 16 % 8 = 1 && drawn k 2)) then 2
  else 0

/-- The samples of a composed frame as its encoder takes them (R300), its cells, and the capture time of its SEI in ns (R308). -/
def State.finishPicture (s : State) (h : Nat) (sent : List Nat) : State :=
  let x := s.head h
  if !(x.virtual && x.composed) then s else
  let t := x.timing
  let tiles := (s.tilesOn h).filter fun k => k.latchFrame = some x.frame
  let cols := ceilDiv t.hAct 32
  let cells := (List.range (cols * ceilDiv t.vAct 32)).map fun k =>
    s.mapCell h tiles (Rect.meet { x := k % max 1 cols * 32, y := k / max 1 cols * 32, w := 32, h := 32 } t.active)
  let ages := (tiles.filter fun k => k.cfg.guarded && !x.closingFrame && picotState k.state).map fun k => k.scanNs - k.ageNs
  let cap := ages.min?.getD (x.tF / fine)
  let yuv := encoderSamples (s.encode (idIndex x.target)).cfg.depth t.format t.hAct t.vAct sent
  s.modEnc (idIndex x.target) fun e => { e with pics := e.pics.map fun p =>
    if p.head = h && p.frame = x.frame then { p with ended := true, cells, captureNs := cap, yuv, endStitch := s.stitch } else p }

/-! ### The end of the last active line (R250, R251, R270, R275, Table 10-7) -/

/-- A head has finished its closing frame. -/
def State.closeHead (s : State) (h : Nat) : State :=
  let x := s.head h
  let s := s.modHead h fun x =>
    { x with st := .disabled, closingFrame := false, composed := false, crcSel := none, crcPending := none, crcWaiting := [], crcOut := [] }
  let s := s.forEach (s.tilesOn h) fun t s => if t.cfg.guarded && t.cfg.paused then s else s.releaseTile t.layer h
  let s := s.markNotScanned h
  let s := s.forEach (x.crcWaiting ++ (x.crcPending.map (·.2)).getD []) fun j s => s.finish j eState (headId h) []
  if x.virtual && (s.encode (idIndex x.target)).st = .running then
    (s.modEnc (idIndex x.target) fun e => { e with st := .idle }).evtEncode (idIndex x.target) 8 0 HeadState.disabled.code 0 x.frame
  else s

/-- The entry to self-refresh is decided (Table 10-7, R271, R272). -/
def State.decideSr (s : State) (h : Nat) (allPaused : Bool) : State :=
  let x := s.head h
  let job := x.srJob
  if allPaused && !x.srFail then
    (((s.modHead h fun x => { x with st := .selfRefresh, srJob := none, exitSr := false }).markNotScanned h).emit (.dpSignal (idIndex x.target) 2 1)).finish?
      job 0 0 []
  else
    ((s.modHead h fun x => { x with st := .scanning, srJob := none, srFail := false }).countRefusal 1).finish? job eRefused 1 []

/-- A head's pixels leave the device: to its encode channel, or over a trained link that sends no pattern (R269, R276). -/
def State.sends (s : State) (x : Head) : Bool :=
  let p := s.dp (idIndex x.target)
  x.virtual || (p.st = 2 && p.pattern = 0 && s.dpOn (idIndex x.target))

/-- LAST_ACTIVE_LINE_END. -/
def lastLineEnd (h : Nat) (obs : ScanObs) (s : State) : State :=
  let x := s.head h
  if x.st = .untimed || x.ended || s.localFine < x.tF + x.timing.lines x.timing.vAct then s else
  let s := (s.chargeHead h).modHead h fun x => { x with ended := true }
  let s := (s.markNotScanned h).shoot h
  let shot := ((s.head h).shot).getD []
  let sent := sentPixels obs shot
  let judged := (s.tilesOn h).filter fun t => t.cfg.guarded && x.composing && t.latchFrame = some x.frame
  let allPaused := judged.all fun t => t.state % 16 = 8
  let s := if x.composing then s.modHead h fun x => { x with lastAllPaused := allPaused } else s
  let s := if x.composing && (x.st = .scanning || x.st = .closing) then s.compareAppl h (wordsCrc (renderWords shot)) (wordsCrc (outputWords shot sent)) else s
  let s := match x.composing, x.crcSel with
    | true, some sel =>
      let js := x.crcWaiting
      let s := s.modHead h fun x => { x with crcOut := regionCrcs x.timing sent sel, crcOutFrame := x.frame, crcWaiting := [] }
      s.forEach js fun j s => s.finish j 0 0 ((s.head h).crcReply h sel)
    | _, _ => s
  let s := if x.recDue then
      let bytes := s.attestBytes h (outputWords shot sent) sent
      s.modHead h fun x => { x with recs := x.recs ++ [(x.frame, bytes)], recDue := false }
    else s
  let s := s.finishPicture h sent
  let s := s.when (x.composing && s.sends x) (·.emit (.picture h x.frame sent))
  if x.st = .closing && x.closingFrame then s.closeHead h
  else if x.st = .srEntry then s.decideSr h allPaused
  else s

end Sys2Proof.Machine
end

