-- ==== Sys2Proof/Machine/Encode.lean ====
section
/-! DEFINITION. Encode channels, rate control, the Gimp SEI and RTP of coded pictures, attestation records (spec/12). -/
namespace Sys2Proof.Machine

/-! ### ENC commands (R295-R297, R305) -/

/-- Values of LEVEL (Table 12-1) with the largest picture and rate of the codec's standard: macroblocks, or luma samples
(PRESUMED, log entry 43). -/
def encLevels (codec : Nat) : List (Nat × Nat × Nat) :=
  if codec = 1 then [(30, 1620, 40500), (31, 3600, 108000), (32, 5120, 216000), (40, 8192, 245760), (41, 8192, 245760),
    (42, 8704, 522240), (50, 22080, 589824), (51, 36864, 983040)]
  else [(90, 552960, 16588800), (93, 983040, 33177600), (120, 2228224, 66846720), (123, 2228224, 133693440),
    (150, 8912896, 267386880), (153, 8912896, 534773760)]

/-- Size and rate of a head fit a level: `w` × `h` at num ÷ den pictures a second. -/
def levelFits (codec level w h num den : Nat) : Bool :=
  match (encLevels codec).find? fun l => l.1 = level with
  | none => false
  | some (_, size, rate) =>
    let u := if codec = 1 then 16 else 1
    let a := ceilDiv w u
    let b := ceilDiv h u
    a * b ≤ size && a * a ≤ 8 * size && b * b ≤ 8 * size && a * b * num ≤ rate * den

/-- CTU or macroblock size. -/
def EncCfg.ctu (c : EncCfg) : Nat := if c.codec = 1 then 16 else 32

/-- A_hdr, S_row, rows and S_min of a picture (R305). -/
def EncCfg.hdr (w h : Nat) : Nat := 514 + ceilDiv w 32 * ceilDiv h 32
def EncCfg.rowSkip (c : EncCfg) (w : Nat) : Nat := 8 + ceilDiv w c.ctu
def EncCfg.rowCount (c : EncCfg) (h : Nat) : Nat := ceilDiv h c.ctu
def EncCfg.least (c : EncCfg) (w h : Nat) : Nat := EncCfg.hdr w h + c.rowCount h * c.rowSkip w

/-- The configuration a command carries (Table 12-1). DEST is taken as the network carries it, most significant byte first: the
spec says so of NET and SRC payloads only (06), and this model reads every address of a payload alike (DESIGN CHOICE, log entry
104). -/
def encCfgOf (j : Job) : EncCfg :=
  { codec := j.u8 2, profile := j.u8 3, level := j.u8 4, sweep := j.u8 5, period := j.u8 6, divider := j.u8 7, sliceRows := j.u16 8
    port := idIndex (j.u16 12), udpDst := j.u16 14, dest := beVal (j.bytes 16 16), ssrc := j.u32 32, pt := j.u8 36, dscp := j.u8 37
    hop := j.u8 38, udpSrc := j.u16 40, payload := j.u16 42 }

def cmdEncConfig : Cmd where
  spec := specEncConfig
  param j _ :=
    let c := encCfgOf j
    chkId j 0 [8] ++ chk 2 (c.codec = 1 || c.codec = 2) ++
    chk 3 (if c.codec = 1 then c.profile = 3 else c.profile = 1 || c.profile = 2) ++
    chk 4 ((encLevels c.codec).any fun l => l.1 = c.level) ++ chk 5 (c.sweep ≤ 1) ++ chk 6 (8 ≤ c.period && c.period ≤ 120) ++
    chk 7 (1 ≤ c.divider && c.divider ≤ 8) ++ chk 8 (c.sliceRows ≤ 256) ++ rsv j 10 2 ++
    chk 12 (idType (j.u16 12) = 13 && (c.port < 4 || !idInRange (j.u16 12))) ++ chk 14 (1 ≤ c.udpDst) ++ chk 16 (c.dest ≠ 0) ++
    chk 36 (96 ≤ c.pt && c.pt ≤ 127) ++ chk 37 (c.dscp ≤ 63) ++ chk 38 (1 ≤ c.hop) ++ rsv j 39 1 ++ chk 40 (1 ≤ c.udpSrc) ++
    chk 42 (512 ≤ c.payload && c.payload ≤ 1400) ++ rsv j 44 4
  names j := nameAt j 0 ++ nameAt j 12
  run j s :=
    let ec := idIndex (j.u16 0)
    let e := s.encode ec
    let c := encCfgOf j
    if e.st = .running || e.st = .idle then .fail eState (j.u16 0)
    else
      let d : Enc := {}
      .ok (s.modEnc ec fun e =>
        { e with st := .configured, cfg := c, targetQp := d.targetQp, qpMax := d.qpMax, window := d.window, maxPic := d.maxPic
                 peakKbps := d.peakKbps
                 reconfigured := e.reconfigured || (e.st = .configured && 0 < e.pictures &&
                   (e.cfg.codec ≠ c.codec || e.cfg.profile ≠ c.profile || e.cfg.level ≠ c.level)) }) []

/-- The virtual head of a channel as accepted. -/
def State.boundHead (s : State) (ec : Nat) : Option Head := s.heads.find? fun h => h.accTarget = 0x8000 + ec

/-- The encode core with the most spare capacity, the first of equals, seen from a channel (R297). -/
def State.spareCore (s : State) (ec : Nat) : Nat :=
  let a := fracSum (s.coreLoads 0 ec)
  let b := fracSum (s.coreLoads 1 ec)
  if b.1 * a.2 < a.1 * b.2 then 1 else 0

/-- R296: the head and the settings can be encoded. -/
def Enc.startable (e : Enc) (t : Timing) : Bool :=
  t.vAct % 2 = 0 && levelFits e.cfg.codec e.cfg.level t.hAct t.vAct t.num (t.den * e.cfg.divider) &&
  e.cfg.sliceRows ≤ e.cfg.rowCount t.vAct && e.cfg.least t.hAct t.vAct ≤ e.maxPic

def cmdEncStart : Cmd where
  spec := specEncStart
  param j _ := chkId j 0 [8] ++ rsv j 2 2
  names j := nameAt j 0
  run j s :=
    let ec := idIndex (j.u16 0)
    let e := s.encode ec
    if e.st = .running || e.st = .idle then .ok s [] else
    match s.boundHead ec with
    | none => .fail eState (j.u16 0)
    | some h =>
      let t := h.newTiming
      if e.st = .unconfigured || !h.timed || !e.startable t then .fail eState (j.u16 0) else
      let load := encLoad t e.cfg.divider
      let core := s.spareCore ec
      if !s.coreFits core ec (encRatio t e.cfg.divider) then .fail eNoResource 0x8000 else
      let (r, s) := s.takeFree
      .ok ((s.modEnc ec fun e =>
        { e with st := if h.st = .scanning then .running else .idle, core, load, halved := false
                 idr := some (if e.reconfigured then 3 else 0), reconfigured := false, pics := [], stopping := none, prevRows := []
                 sizes := [], sweep := none, seqNo := r % 65536, pictures := 0, octets := 0, packets := 0, lastSr := s.now
                 lastFrame := none }).evtEncode ec 1 0 core 0 h.frame) []

def cmdEncStop : Cmd where
  spec := specEncStop
  param j _ := chkId j 0 [8] ++ rsv j 2 2
  names j := nameAt j 0
  run j s := .ok (s.encHalt (idIndex (j.u16 0)) 0) []

def cmdEncSetRate : Cmd where
  spec := specEncSetRate
  param j s :=
    let ec := idIndex (j.u16 0)
    let least := match s.boundHead ec with
      | some h => if h.timed then (s.encode ec).cfg.least h.newTiming.hAct h.newTiming.vAct else 0
      | none => 0
    chkId j 0 [8] ++ chk 2 (j.u8 2 ≤ 1) ++ chk 3 (j.u8 3 ≤ 51) ++ chk 4 (j.u8 3 ≤ j.u8 4 && j.u8 4 ≤ 51) ++ rsv j 5 1 ++
    chk 6 (1 ≤ j.u16 6 && j.u16 6 ≤ 240) ++ chk 8 (least ≤ j.u32 8 && j.u32 8 ≤ 16777216) ++ rsv j 16 4
  names j := nameAt j 0
  run j s :=
    let now := j.u8 2 = 1
    .ok (s.modEnc (idIndex (j.u16 0)) fun e =>
      { e with targetQp := j.u8 3, qpMax := j.u8 4, window := j.u16 6, maxPic := j.u32 8, peakKbps := j.u32 12
               idr := if now && (e.st = .running || e.st = .idle) && e.idr = none then some 1 else e.idr }) []

/-! ### Rate control (R305-R307) -/

/-- The estimate est(r, q): `num` ÷ `den` × 2^((q0 − q) ÷ 6), or without the power when q0 is none. -/
structure Est where
  num : Nat
  den : Nat
  q0 : Option Nat
deriving DecidableEq, Repr

/-- est > b ÷ d, exactly. -/
def Est.above (e : Est) (q : Nat) (b : Int) (d : Nat) : Bool :=
  if b < 0 then true else
  let x := e.num * d
  let y := b.toNat * e.den
  match e.q0 with
  | none => decide (y < x)
  | some q0 => decide (y ^ 6 * 2 ^ q < x ^ 6 * 2 ^ q0)

/-- A row as it was coded: size and QP, 255 for skip. -/
abbrev CodedRow := Nat × Nat

/-- The loop of code_picture (R306): rows still to code with their sizes coded and skipped, and the rows coded so far. -/
def codeRows (rn : Int) (sRow qpMax : Nat) (est : Nat → Est) : List (Nat × Nat) → Nat → Nat → Nat → Option Nat → List CodedRow
  | [], _, _, _, _ => []
  | (_, skip) :: rest, r, qp, bytes, some f => (skip, 255) :: codeRows rn sRow qpMax est rest (r + 1) qp (bytes + skip) (some f)
  | (coded, skip) :: rest, r, qp, bytes, none =>
    let left := rest.length + 1
    let e := est r
    let qp := if e.above qp (rn - bytes) left && qp < qpMax then qp + 1 else qp
    let room : Int := rn - bytes - (left - 1 : Nat) * sRow
    let stop := (qp = qpMax && e.above qp room 1) || decide ((coded : Int) > room)
    if stop then (skip, 255) :: codeRows rn sRow qpMax est rest (r + 1) qp (bytes + skip) (some r)
    else (coded, qp) :: codeRows rn sRow qpMax est rest (r + 1) qp (bytes + coded) none

/-- The window cap W_B (R306); none without a cap. -/
def EncPic.windowCap (p : EncPic) : Option Nat :=
  let peak := p.rate.getD 4 0
  if peak = 0 then none else some (peak * 125 * p.rate.getD 2 1 * p.den / max 1 p.num)

/-- Bytes of the pictures before this one in its window. -/
def windowSum (sizes : List Nat) (window : Nat) : Nat := (sizes.take (window - 1)).sum

/-- Rows of a picture as rate control codes them, and the reason of a truncation: 1 MAX_PIC, 2 window. -/
def Enc.codePicture (e : Enc) (p : EncPic) (obs : EncObs) : List CodedRow × Nat :=
  let nr := e.cfg.rowCount p.h
  let sRow := e.cfg.rowSkip p.w
  let maxPic := p.rate.getD 3 0
  let (pn, why) : Int × Nat := match p.windowCap with
    | none => (maxPic, 1)
    | some w =>
      let left : Int := (w : Int) - windowSum e.sizes (p.rate.getD 2 1)
      if left < maxPic then (left, 2) else (maxPic, 1)
  let rn := pn - EncCfg.hdr p.w p.h
  let rows := (List.range nr).map fun r => ((obs.rows.getD r ([], [])).1.length, (obs.rows.getD r ([], [])).2.length)
  let est (r : Nat) : Est := match e.prevRows[r]? with
    | some (size, q) => if q = 255 then ⟨rn.toNat, max 1 nr, none⟩ else ⟨size, 1, some q⟩
    | none => ⟨rn.toNat, max 1 nr, none⟩
  if rn < (nr * sRow : Nat) then (rows.map fun r => (r.2, 255), why)
  else (codeRows rn sRow (p.rate.getD 1 51) est rows 0 (p.rate.getD 0 0) 0 none, why)

/-! ### Slices (R301) -/

/-- First row and rows of each slice: SLICE_ROWS whole rows, the last what remains. -/
def EncCfg.slicePlan (c : EncCfg) (nr : Nat) : List (Nat × Nat) :=
  let n := if c.sliceRows = 0 then nr else c.sliceRows
  (List.range (ceilDiv nr (max 1 n))).map fun k => (k * n, min n (nr - k * n))

/-- The slices' NAL units of a picture whose rows were coded so: each its header and the rows sent; the buffer of a row that was
discarded is never sent (R306). -/
def EncCfg.sliceNals (c : EncCfg) (obs : EncObs) (rows : List CodedRow) : List (List Byte) :=
  (c.slicePlan rows.length).zipIdx.map fun p =>
    obs.heads.getD p.2 [] ++ (List.range p.1.2).flatMap fun i =>
      let r := p.1.1 + i
      let b := obs.rows.getD r ([], [])
      if (rows.getD r (0, 255)).2 = 255 then b.2 else b.1

/-! ### Gradual refresh (R303, R304) -/

/-- Columns or rows N, band width and positions K. -/
def EncCfg.waveOf (c : EncCfg) (w h : Nat) : Nat × Nat × Nat :=
  let n := if c.sweep = 0 then ceilDiv w 32 else ceilDiv h 32
  let band := ceilDiv n (max 1 c.period)
  (n, band, ceilDiv n (max 1 band))

/-- Some part of the band at position k was coded as skip, rows from luma line `from_` on being skipped. -/
def EncCfg.bandSkipped (c : EncCfg) (w h k : Nat) (from_ : Option Nat) : Bool := match from_ with
  | none => false
  | some y =>
    let (n, band, _) := c.waveOf w h
    c.sweep = 0 || decide (y < 32 * min ((k + 1) * band) n)

/-! ### The Gimp SEI (R308, R309, Tables 8-4 and 8-5) -/

/-- Runs of equal states, each of at most 64 cells. -/
def mapRuns : List Nat → List (Nat × Nat)
  | [] => []
  | c :: cs => match mapRuns cs with
    | (d, n) :: rs => if c = d && n < 64 then (d, n + 1) :: rs else (c, 1) :: (d, n) :: rs
    | [] => [(c, 1)]

/-- A cell-state map. -/
def mapBytes (cols rows : Nat) (cells : List Nat) : List Byte :=
  leBytes 1 cols ++ leBytes 1 rows ++ (mapRuns cells).map fun r => BitVec.ofNat 8 (r.1 * 64 + (r.2 - 1))

/-- The SEI payload of a picture, UUID included (R308). -/
def EncPic.sei (p : EncPic) (cells : List Nat) : List Byte :=
  gimpUuid ++ [1, BitVec.ofNat 8 (b2n p.established + 6)] ++ beBytes 6 (p.captureNs / nsPerSec) ++ beBytes 4 (p.captureNs % nsPerSec) ++
  beBytes 4 (p.frame % m32) ++ beBytes 4 (sat32 p.uncertNs) ++ mapBytes (ceilDiv p.w 32) (ceilDiv p.h 32) cells

/-- Emulation prevention of the codecs' NAL units. -/
def emulate : List Byte → Nat → List Byte
  | [], _ => []
  | b :: bs, z =>
    if 2 ≤ z && b.toNat ≤ 3 then 3 :: b :: emulate bs (b2n (b = 0)) else b :: emulate bs (if b = 0 then z + 1 else 0)

/-- A prefix SEI NAL unit with one message of a payload type, as the codecs' standards lay it out. -/
def seiNalOf (codec type : Nat) (payload : List Byte) : List Byte :=
  let head : List Byte := if codec = 1 then [0x06] else [0x4E, 0x01]
  head ++ emulate (leBytes 1 type ++ List.replicate (payload.length / 255) (0xFF : Byte) ++ leBytes 1 (payload.length % 255) ++
    payload ++ [0x80]) 0

/-- The prefix SEI NAL unit of a user_data_unregistered message. -/
def seiNal (codec : Nat) (payload : List Byte) : List Byte := seiNalOf codec 5 payload

/-! ### The recovery point SEI (R303) -/

/-- Exp-Golomb code of `n`, as bits. -/
def expGolomb (n : Nat) : List Bool :=
  let k := Nat.log2 (n + 1)
  List.replicate k false ++ (List.range (k + 1)).map fun i => (n + 1).testBit (k - i)

/-- Bits to bytes: a stop bit when the last byte is not full, then zeros (payload alignment of both standards). -/
def alignBits (bs : List Bool) : List Byte :=
  let l := if bs.length % 8 = 0 then bs else bs ++ [true]
  (List.range (ceilDiv l.length 8)).map fun i =>
    BitVec.ofNat 8 ((List.range 8).foldl (fun a k => 2 * a + b2n (l.getD (8 * i + k) false)) 0)

/-- The recovery point SEI of a sweep of `k` positions: the count K - 1, as recovery_frame_cnt (H.264) or recovery_poc_cnt (HEVC).
exact_match is 1 and broken_link 0: the spec states neither (DESIGN CHOICE, log entry 103). -/
def recoverySei (codec k : Nat) : List Byte :=
  let n := k - 1
  let count := if codec = 1 then expGolomb n else expGolomb (2 * n - 1)
  let body := alignBits (count ++ [true, false] ++ if codec = 1 then [false, false] else [])
  seiNalOf codec 6 body

/-! ### RTP (R311) -/

/-- Cut a byte string into pieces of at most `n` bytes. -/
def pieces (n : Nat) : Nat → List Byte → List (List Byte)
  | 0, _ => []
  | fuel + 1, l => if l.isEmpty then [] else l.take n :: pieces n fuel (l.drop n)

/-- RTP payloads of one NAL unit: one packet, or FU packets. -/
def EncCfg.payloads (c : EncCfg) (nal : List Byte) : List (List Byte) :=
  if nal.length ≤ c.payload then [nal] else
  let h := if c.codec = 1 then 1 else 2
  let b0 := byteAt nal 0
  let body := nal.drop h
  let ps := pieces (c.payload - h - 1) body.length body
  let typ := if c.codec = 1 then b0 % 32 else b0 / 2 % 64
  let ind : List Byte := if c.codec = 1 then [BitVec.ofNat 8 (b0 / 32 * 32 + 28)]
    else [BitVec.ofNat 8 (b0 / 128 * 128 + 49 * 2 + b0 % 2), nal.getD 1 0]
  ps.zipIdx.map fun p =>
    ind ++ [BitVec.ofNat 8 ((if p.2 = 0 then 128 else 0) + (if p.2 + 1 = ps.length then 64 else 0) + typ)] ++ p.1

/-- An RTP packet. -/
def EncCfg.rtpPacket (c : EncCfg) (marker : Bool) (seq ts : Nat) (payload : List Byte) : List Byte :=
  [0x80, BitVec.ofNat 8 (128 * b2n marker + c.pt)] ++ beBytes 2 seq ++ beBytes 4 ts ++ beBytes 4 c.ssrc ++ payload

/-- Send a picture's NAL units. -/
def State.sendPicture (s : State) (ec ts : Nat) (nals : List (List Byte)) : State :=
  let c := (s.encode ec).cfg
  let ps := nals.flatMap c.payloads
  s.forEach ps.zipIdx fun p s =>
    let e := s.encode ec
    let b := c.rtpPacket (p.2 + 1 = ps.length) e.seqNo ts p.1
    (s.sendRtp ec c.port c.udpDst (.rtp (c.ip false) e.seqNo ts b) b.length c.dest).modEnc ec fun e =>
      { e with seqNo := (e.seqNo + 1) % 65536, packets := e.packets + 1, octets := e.octets + p.1.length }

/-! ### ENCODE_PICTURE_DONE (R302-R310, R224) -/

/-- An error in a reconstruction buffer has been read: those cells of the channel's pictures are tainted (R24; log entry 68). -/
def State.taintEnc (s : State) (e : EccPixel) : State :=
  s.modEnc (idIndex e.object) fun x => { x with taint := (x.taint ++ e.cells).eraseDups }

/-- A P picture reads the reconstruction buffer, and with it what the scrubber found there (R25). -/
def State.readRecon (s : State) (ec : Nat) : State :=
  let mine (e : EccPixel) : Bool := e.object = 0x8000 + ec
  let found := s.pwr.scrubFound
  ({ s with pwr := { s.pwr with scrubFound := found.filter fun e => !mine e } }).forEach (found.filter mine) fun e s => s.taintEnc e

/-- The bytes that do not belong to rows: the NAL units before the slices, and the slices' headers. They fit the header allowance
A_hdr, and no skipped row takes more than S_row (R305). -/
def EncCfg.holds (c : EncCfg) (p : EncPic) (obs : EncObs) (first : List (List Byte)) : Bool :=
  decide (((first ++ obs.before ++ obs.heads).map List.length).sum ≤ EncCfg.hdr p.w p.h) &&
  obs.rows.all fun r => r.2.length ≤ c.rowSkip p.w

/-- The map of a picture (R304, R307, R309): rows skipped from line `cut` on are stale, cells past an overrun sweep's announced
recovery point unproven, tainted cells of the reconstruction buffer impaired (log entry 68). -/
def EncPic.mapOf (p : EncPic) (column : Bool) (cut : Option Nat) (past : Bool) (reached : Nat) (taint : List Nat) : List Nat :=
  let cols := max 1 (ceilDiv p.w 32)
  p.cells.zipIdx.map fun x =>
    let line := x.2 / cols
    let at_ := if column then x.2 % cols else line
    let skipped := match cut with
      | some y => decide (y < 32 * (line + 1))
      | none => false
    if x.1 = 3 || (past && reached ≤ at_) then 3
    else if skipped || x.1 = 1 then 1
    else if taint.contains x.2 then 2
    else x.1

/-- A picture has been coded and leaves. -/
def State.pictureDone (s0 : State) (ec : Nat) (p : EncPic) (obs : EncObs) : State :=
  let s := s0.when p.idr.isNone (·.readRecon ec)
  let e := s.encode ec
  let c := e.cfg
  let (rows, why) := e.codePicture p obs
  let first := rows.findIdx? fun r => r.2 = 255
  let cut := first.map fun r => r * c.ctu
  let (n, band, k) := c.waveOf p.w p.h
  -- The wave (R303, R304).
  let idr := p.idr.isSome
  let (pos, m) := e.sweep.getD (0, 0)
  let held := !idr && c.bandSkipped p.w p.h pos cut
  let reached := if held then pos * band else (pos + 1) * band
  let ends := !held && n ≤ reached
  let past := !idr && k ≤ m + 1 && !ends
  let sweep := if idr || ends then none else some (if held then pos else pos + 1, m + 1)
  -- R24: an IDR picture leaves nothing of the reconstruction buffer in use (log entry 68).
  let taint := if idr then [] else e.taint
  let cells := p.mapOf (c.sweep = 0) cut past reached taint
  let recovery := if !idr && e.sweep.isNone then some (k - 1) else none
  let nals := obs.before ++ (recovery.map fun _ => recoverySei c.codec k).toList ++ [seiNal c.codec (p.sei cells)] ++ c.sliceNals obs rows
  let size := (nals.map List.length).sum
  let facts : CodedFacts :=
    { samples := p.yuv, depth := c.depth, matrix := 1, fullRange := false, chromaLoc := 0, ctu := c.ctu, size := (p.w, p.h), idr
      order := if idr then 0 else e.order, slices := c.slicePlan rows.length
      band := if idr then none else some (pos * band, min ((pos + 1) * band) n)
      recovery, reference := if idr then none else e.lastCoded, dpb := 1, reorder := 0, constrainedIntra := !idr
      refreshed := if idr then 0 else pos * band }
  let s := (s.modEnc ec fun e =>
    { e with pics := e.pics.drop 1, prevRows := rows, sizes := (size :: e.sizes).take 239, sweep := sweep, taint := taint
             pictures := e.pictures + 1, order := facts.order + 1
             lastCoded := some p.frame }).addWork 7 (p.w * (p.h - p.charged) * s.hoop.otp.costs.getD 2 0)
  let s := (s.emit (.coded ec p.frame facts)).sendPicture ec p.ts nals
  let s := match p.idr with
    | some r => s.evtEncode ec 5 r 0 0 p.frame
    | none => s
  let s := match first with
    | some r => s.evtEncode ec 3 why r (rows.length - r) p.frame
    | none => s
  let s := s.when held (·.evtEncode ec 4 0 pos (m + 1 - k) p.frame)
  let sum := windowSum e.sizes (p.rate.getD 2 1) + size
  let s := match p.windowCap with
    | some w => s.when (first = some 0 && w < sum) (·.evtEncode ec 7 0 (sat32 (sum - w)) 0 p.frame)
    | none => s
  -- R224: the encode core has consumed the picture; Table 12-5: TRUNCATED is final.
  let s := s.drainHolds p.head p.frame
  let mark (r : Nat × List Byte) : Nat × List Byte :=
    if r.1 = p.frame && first.isSome then (r.1, putAt r.2 7 [r.2.getD 7 0 ||| 4]) else r
  let s := s.modHead p.head fun h => { h with recs := h.recs.map mark }
  match (s.encode ec).stopping with
  | some r => if (s.encode ec).pics.isEmpty then s.encEnd ec r else s
  | none => s

/-- The lines that a channel has coded of its oldest picture by the end of a Stitch are charged (R358): a CTU row is coded once its
lines and the 8 below have been composed (R310; log entry 99). -/
def State.chargeEncode (s : State) : State :=
  s.forEach (List.range 16) fun ec s =>
    match (s.encode ec).pics with
    | [] => s
    | p :: rest =>
      let composed := if p.ended || (s.head p.head).frame ≠ p.frame then p.h else min p.h (s.linesDone p.head)
      let ctu := (s.encode ec).cfg.ctu
      let n := max p.charged (if composed = p.h then p.h else (composed - 8) / ctu * ctu)
      (s.addWork 7 (p.w * (n - p.charged) * s.hoop.otp.costs.getD 2 0)).modEnc ec fun e =>
        { e with pics := { p with charged := n } :: rest }

/-- An encode core that holds a picture whose last line had been composed before the Stitch that has just ended has not finished
its admitted work (R18; log entry 68): one overrun of ENC0 each. The Stitch number has already moved on. -/
def State.encOverruns (s : State) : State :=
  let late (core : Nat) : Bool := s.enc.any fun e => e.core = core && e.pics.any fun p => p.ended && p.endStitch + 1 < s.stitch
  { s with dec := { s.dec with overruns := modAt s.dec.overruns 4 fun n => n + b2n (late 0) + b2n (late 1) } }

/-- The NAL units that the encoder itself writes before the slices of a picture, at their largest: the recovery point SEI of a
sweep and the Gimp SEI of its cells (R303, R308). -/
def Enc.ownNals (e : Enc) (p : EncPic) : List (List Byte) :=
  [recoverySei e.cfg.codec (e.cfg.waveOf p.w p.h).2.2, seiNal e.cfg.codec (p.sei p.cells)]

/-- ENCODE_PICTURE_DONE (R300, R301): the oldest picture whose last active line has ended, coded within its allowances (R305). -/
def encodeDone (ec : Nat) (obs : EncObs) (s : State) : State :=
  let e := s.encode ec
  match e.pics with
  | p :: _ => if p.ended && e.cfg.holds p obs (e.ownNals p) then s.pictureDone ec p obs else s
  | [] => s

/-- NTP time of the local clock: the inverse of R204's reading. -/
def State.ntpNs (s : State) : Nat := ((s.local : Int) - s.utcOffset * nsPerSec + 2208988800 * nsPerSec).toNat

/-- RTCP_SENDER_REPORT (R311): once a second while the channel runs. -/
def senderReport (ec : Nat) (s : State) : State :=
  let e := s.encode ec
  if !(e.st = .running || e.st = .idle) || s.now < e.lastSr + nsPerSec then s else
  let ntp := s.ntpNs
  let b := [0x80, 200] ++ beBytes 2 6 ++ beBytes 4 e.cfg.ssrc ++ beBytes 4 (ntp / nsPerSec) ++
    beBytes 4 (ntp % nsPerSec * m32 / nsPerSec) ++ beBytes 4 (s.local * 90000 / nsPerSec) ++ beBytes 4 e.packets ++ beBytes 4 e.octets
  (s.modEnc ec fun e => { e with lastSr := s.now }).sendRtp ec e.cfg.port e.cfg.udpDst (.rtcp (e.cfg.ip true) b) b.length
    e.cfg.dest

/-! ### Attestation (R313-R316) -/

/-- ATTEST_CONFIG. DESIGN CHOICE (log entry 104): DEST is read most significant byte first, as in NET and SRC payloads. -/
def cmdAttestConfig : Cmd where
  spec := specAttestConfig
  param j _ :=
    let send := (j.u8 2).testBit 1
    let f (off : Nat) (ok : Bool) (n : Nat) : List Nat := if send then chk off ok else chk off (uAt j.req.payload off n = 0)
    chkId j 0 [6] ++ chk 2 (j.u8 2 ≤ 3 && (!send || (j.u8 2).testBit 0)) ++ rsv j 3 1 ++
    f 4 (idType (j.u16 4) = 13 && (idIndex (j.u16 4) ≤ 4 || !idInRange (j.u16 4))) 2 ++ f 6 (1 ≤ j.u16 6) 2 ++
    f 8 (uAt j.req.payload 8 16 ≠ 0) 16 ++ f 24 (1 ≤ j.u16 24) 2 ++ f 26 (j.u8 26 ≤ 63) 1 ++ f 27 (1 ≤ j.u8 27) 1 ++ rsv j 28 20
  names j := nameAt j 0 ++ nameAt j 4
  run j s :=
    let a : AttestCfg := { record := (j.u8 2).testBit 0, send := (j.u8 2).testBit 1, port := idIndex (j.u16 4), udpDst := j.u16 6
                           dest := beVal (j.bytes 8 16), udpSrc := j.u16 24, dscp := j.u8 26, hop := j.u8 27 }
    .ok (s.modHead (idIndex (j.u16 0)) fun x => { x with attestPending := some a }) []

def cmdAttestRead : Cmd where
  spec := specAttestRead
  param j _ := chkId j 0 [6] ++ chk 2 (1 ≤ j.u8 2 && j.u8 2 ≤ 3) ++ rsv j 3 1
  names j := nameAt j 0
  run j s :=
    let ring := (s.head (idIndex (j.u16 0))).ring
    let n := j.u8 2
    let recs := if j.u64 4 = 0 then keepNewest n ring else (ring.dropWhile fun r => r.1 ≠ j.u64 4).take n
    let body := recs.flatMap (·.2)
    if recs.isEmpty then .fail eState (j.u16 0)
    else if recs.length < n then .part s recs.length body else .ok s body

/-- ATTEST_RECORD_COMPLETE (R313, R314): the oldest record of a head is finished. -/
def attestComplete (h : Nat) (s : State) : State :=
  let x := s.head h
  match x.recs with
  | [] => s
  | (frame, bytes) :: rest =>
    -- R408: the records of a Bobbin that restarts are completed when it serves again.
    if s.hoop.bobbinDown.contains (egressBobbin (h / 16)) then s
    else if s.enc.any fun e => e.pics.any fun p => p.head = h && p.frame = frame then s else
    let full := match s.hoop.keys.getD 4 none with
      | some k => bytes ++ (hmacSha256 k bytes).take 16
      | none => putAt bytes 7 [bytes.getD 7 0 ||| 2] ++ zeros 16
    let s := s.modHead h fun x => { x with recs := rest, ring := if x.attest.record then keepNewest 1024 (x.ring ++ [(frame, full)]) else x.ring }
    if !(x.attest.send && x.attest.record) then s else
    let p := s.net.ports.getD x.attest.port {}
    let ip : IpOut := { dest := x.attest.dest, port := x.attest.udpDst, src := x.attest.udpSrc, dscp := x.attest.dscp, hop := x.attest.hop }
    if p.enable && p.link && s.portPowered x.attest.port then (s.txFrame x.attest.port (ipUdp x.attest.dest + full.length)).emit (.attest h ip full)
    else (s.modHead h fun x => { x with attestDrops := x.attestDrops + 1 }).record 0x0605 (headOrigin h) [headId h, x.attestDrops + 1]

end Sys2Proof.Machine
end

