-- ==== Sys2Proof/Machine/Link.lean ====
section
/-! DEFINITION. Lacing links: link layer, training, power, beacons and tests (spec/19 R430-R448, R451, R454-R457). -/
namespace Sys2Proof.Machine

def State.lk (s : State) (n : Nat) : Lk := s.lnk.links.getD n {}

/-- Energy of a link's nine lanes in each direction, in pJ a Stitch: ACTIVE, IDLE, SLEEP or OFF (Table 15-1). They run in TRAINING
and TEST, and not in DISABLED, FAILED and QUIET. -/
def laneRate (costs : List Nat) (l : Lk) : Nat :=
  if l.st = 1 || l.st = 4 then 18 * costs.getD 10 0
  else if l.st ≠ 2 then 0 else 9 * ((costs.drop 10 |>.take 3).getD l.txPower 0 + (costs.drop 10 |>.take 3).getD l.rxPower 0)

/-- Charge the lanes up to an instant (R354, R447). -/
def Lk.charge (costs : List Nat) (now : Nat) (l : Lk) : Lk :=
  { l with laneWork := l.laneWork + laneRate costs l * (now - l.laneAt), laneAt := now }

/-- No flit of VC2 or VC3, and no LLC that acknowledges or frees one, in the last 2,000 Stitches (R447); 0: none since
reset. -/
def Lk.quiet23 (l : Lk) (stitch : Nat) : Bool :=
  max l.lastTx23 l.lastRx23 = 0 || max l.lastTx23 l.lastRx23 + 2000 ≤ stitch

/-- When ACTIVE was left, for a link that goes from `a` to `b` (R437). -/
def leftAt (now : Nat) (a b : Lk) : Option Nat :=
  if b.st = 2 || b.st = 0 then none else if a.st = 2 then some now else b.leftActive

/-- Change a link; a change of its state or power is preceded by the charge of its lanes so far. -/
def State.modLk (s : State) (n : Nat) (f : Lk → Lk) : State :=
  let g (l : Lk) : Lk :=
    let l1 := f l
    if l1.st = l.st && l1.txPower = l.txPower && l1.rxPower = l.rxPower then l1
    else
      let l0 := l.charge s.hoop.otp.costs s.clk.elapsed
      { l1 with laneWork := l0.laneWork, laneAt := l0.laneAt, leftActive := leftAt s.now l l1 }
  { s with lnk := { s.lnk with links := modAt s.lnk.links n g } }

/-- EVT_LINK (Table 19-14), at most once per code and link in a Stitch (R457). -/
def State.evtLink (s : State) (n code reason lane arg0 arg1 : Nat) : State :=
  s.raiseOnce 0x05 (0xC000 + n) code
    (leBytes 1 code ++ leBytes 1 reason ++ leBytes 1 lane ++ zeros 1 ++ leBytes 4 (sat32 arg0) ++ leBytes 4 (sat32 arg1))

/-- A forward entry or an open Lacing channel uses the link (R446, R454). -/
def State.linkInUse (s : State) (n : Nat) : Bool :=
  !(s.lk n).fwds.isEmpty || s.net.srcs.any fun c => c.st ≠ .closed && (c.typ = 5 || c.typ = 6) && (c.paths.getD 0 {}).port = n

/-! ### Flits -/

/-- A flit's 64 bytes (Table 19-1). -/
def flitBytes (type vc : Nat) (first last : Bool) (seq : Nat) (payload : List Byte) : List Byte :=
  let b := [BitVec.ofNat 8 (type * 16 + vc * 4 + 2 * b2n first + b2n last), BitVec.ofNat 8 seq] ++ padTo 58 payload
  b ++ leBytes 4 (crc32c b)

/-- Something is sent on a link: its direction wakes by itself (R445). -/
def State.sendFlit (s : State) (n : Nat) (bytes : List Byte) : State :=
  (s.modLk n fun l => { l with txPower := if l.txPower = 3 then 3 else 0, quietSince := s.now }).emit (.flit n bytes)

/-- An LLC flit with the state of the receive side (Table 19-3). -/
def State.sendLlc (s : State) (n : Nat) (nak : Bool) (entering : Nat) : State :=
  let l := s.lk n
  let p := leBytes 1 ((l.rxSeq + 255) % 256) ++ leBytes 1 (b2n nak + 2 * b2n l.rxAny + 4 * entering) ++
    l.freed.flatMap (leBytes 2)
  (s.sendFlit n (flitBytes 2 0 true true 0 p)).modLk n fun l => { l with unacked := 0 }

/-- Send again everything outstanding (R436). -/
def State.resend (s : State) (n : Nat) : State :=
  let s := s.forEach (s.lk n).replay fun f s => s.sendFlit n f.bytes
  s.modLk n fun l => { l with resends := satAdd32 l.resends 1, resendRun := l.resendRun + 1, oldestAt := s.now }

/-- Credits the transmitter holds on a VC (R435). -/
def Lk.credit (l : Lk) (v : Nat) : Nat :=
  l.peerCredits.getD v 0 - (l.used.getD v 0 + m16 - l.peerFreed.getD v 0) % m16

/-- Send one DATA flit. -/
def State.sendData (s : State) (n vc : Nat) (first last : Bool) (payload : List Byte) : State :=
  let l := s.lk n
  let b := flitBytes 1 vc first last l.txSeq payload
  (s.sendFlit n b).modLk n fun l => { l with
    txSeq := (l.txSeq + 1) % 256, replay := l.replay ++ [{ seq := l.txSeq, vc, bytes := b }],
    used := modAt l.used vc fun u => (u + 1) % m16, txFlits := l.txFlits + 1,
    oldestAt := if l.replay.isEmpty then s.now else l.oldestAt,
    lastTx23 := if vc ≥ 2 then s.stitch else l.lastTx23 }

/-! ### Training (R438, R439, R443) -/

/-- Begin training. -/
def State.trainLink (s : State) (n : Nat) (taps : Bool) : State :=
  s.modLk n fun l => { l with
    st := 1, trainingAt := s.now, tapSearch := taps }

/-- A link in ACTIVE retrains (R443). -/
def State.retrain (s : State) (n reason lane : Nat) (taps : Bool) : State :=
  ((s.trainLink n taps).modLk n fun l => { l with retrains := satAdd32 l.retrains 1 }).evtLink n 2 reason lane 0 0

/-- Discard what the link layer holds (R437); a message of which a part has left is lost (R453). -/
def Lk.discard (l : Lk) : Lk :=
  { l with queue := l.queue.filter (!·.started), turn := 0, replay := [], txSeq := 0, rxSeq := 0, rxAny := false, unacked := 0, discarding := false, used := List.replicate 4 0,
           peerFreed := List.replicate 4 0, freed := List.replicate 4 0, resendRun := 0, leftActive := none }

/-- LINK_TRAIN's reply (Table 19-7). -/
def trainReply (l : Lk) (n : Nat) (r : LinkTrainResult) (result us : Nat) : List Byte :=
  leBytes 2 (0xC000 + n) ++ leBytes 1 l.st ++ leBytes 1 result ++ leBytes 1 r.failLanes ++ leBytes 1 r.skew ++
    leBytes 2 (sat16 (r.fom.min?.getD 0)) ++ leBytes 4 l.transit ++ leBytes 2 (sat16 us) ++ zeros 2

/-- A credit split is valid (R448). -/
def creditsOk (c : List Nat) : Bool := c.length = 4 && c.all (fun x => 8 ≤ x && x ≤ 496) && c.sum ≤ 512

/-- The candidates (PRE, POST) of the tap search (R441). -/
def tapCandidates : List (Nat × Nat) := (List.range 5).flatMap fun p => (List.range 9).map fun q => (2 * p, 2 * q)

/-- The candidate with the highest figure of merit, and with the lower PRE + POST on a tie (R441); DESIGN CHOICE (log entry 108): with
the lower PRE where that ties too. -/
def bestTaps (foms : List Nat) : Taps :=
  let better (a b : (Nat × Nat) × Nat) : Bool := a.2 < b.2 || (a.2 = b.2 && b.1.1 + b.1.2 < a.1.1 + a.1.2)
  let best := (tapCandidates.zip (foms.map sat16)).foldl (fun a b => match a with
    | none => some b
    | some x => if better x b then some b else some x) (none : Option ((Nat × Nat) × Nat))
  match best with
  | some x => { pre := x.1.1, main := 63 - x.1.1 - x.1.2, post := x.1.2 }
  | none => {}

/-- RESULT of a training (Table 19-7): what it found, its time (Table 19-6), and step 7 judged against this device's settings
(R439). -/
def State.trainResult (s : State) (l : Lk) (r : LinkTrainResult) : Nat :=
  if r.result ≠ 0 then r.result
  else if l.trainingAt + (if l.tapSearch then 11100000 else 2100000) < s.now then 7
  else if r.peerId = s.lnk.localId || (l.peerCfg ≠ 0xFF && r.peerId ≠ l.peerCfg) then 5
  else if !(creditsOk r.peerCredits && creditsOk l.credits) then 6 else 0

/-- A direction enters OFF: it announces that, and an ACTIVE link goes to QUIET (R445, Table 19-5). -/
def State.linkOff (s : State) (n : Nat) : State :=
  let s := if (s.lk n).st = 2 then (s.sendLlc n false 3).modLk n fun l => { l with st := 5 } else s
  s.modLk n fun l => { l with txPower := 3 }

/-- LINK_TRAINING_COMPLETE: a training ends. A direction whose policy is OFF enters it from ACTIVE. -/
def linkTrained (n : Nat) (r : LinkTrainResult) (s : State) : State :=
  let l := s.lk n
  if !(n < 4 && l.st = 1) then s else
  let result := s.trainResult l r
  let us := (s.now - l.trainingAt) / 1000
  let s1 :=
    if result = 0 then
      let s1 := s.modLk n fun l => { l with
        st := 2, peerId := r.peerId, peerSerial := r.peerSerial, peerPresent := true, peerCredits := r.peerCredits,
        transit := ceilDiv r.roundTrip 2, fom := r.fom.map sat16, skew := r.skew, leftActive := none, resendRun := 0,
        rxPower := 0, txPower := 0, quietSince := s.now,
        taps := if l.tapSearch then r.search.map bestTaps else l.taps }
      let s1 := s1.evtLink n 1 0 0xFF (s1.lk n).transit (r.fom.min?.getD 0)
      let s1 := if l.replay.isEmpty then s1 else s1.resend n
      s1.when (l.policy = 3) (·.linkOff n)
    else
      (s.modLk n fun l => { l with st := 3, retryAt := s.now + 100000000, peerPresent := false, skew := r.skew }).evtLink n 3 result 0xFF 0 0
  match l.job with
  | none => s1
  | some j => (s1.modLk n fun l => { l with job := none }).finish j 0 0 (trainReply (s1.lk n) n r result us)

/-- LINK_RETRY_TIMER: 100 ms after a failed training. -/
def linkRetry (n : Nat) (s : State) : State :=
  let l := s.lk n
  if n < 4 && l.st = 3 && l.enable && l.retryAt ≤ s.now then s.trainLink n false else s

/-- LINK_RETRAIN_TRIGGER: a trigger of R443 (1 LOS, 2 LOL, 3 resend limit, 4 margin, 5 peer). -/
def linkTrigger (n cause lane : Nat) (s : State) : State :=
  let l := s.lk n
  let s1 := s.modLk n fun l => { l with los := l.los + b2n (cause = 1 && l.los < 65535), lol := l.lol + b2n (cause = 2 && l.lol < 65535) }
  if !(n < 4 && l.st = 2 && 1 ≤ cause && cause ≤ 5) then s
  else if cause = 1 && l.rxPower ≥ 2 then s
  else if cause = 3 && l.resendRun < 8 then s
  else if cause = 4 && !(l.badRun.any fun b => b ≥ 3) then s
  else s1.retrain n cause lane false

/-- LINK_ACTIVE_LOSS_TIMEOUT: not back in ACTIVE within 1 s (R437). -/
def linkLoss (n : Nat) (s : State) : State :=
  match (s.lk n).leftActive with
  | some t => if (s.lk n).st ≠ 2 && t + nsPerSec ≤ s.now then s.modLk n Lk.discard else s
  | none => s

/-! ### Receiving (R433, R436, R451) -/

/-- R451's condition for ALIGNED. -/
def State.linkAligned (s : State) (l : Lk) : Bool :=
  let o := l.offsets.headD 0
  (match l.lastBeacon with
    | some t => decide (s.now - t ≤ (if l.rxPower = 2 then 2001 else 4) * stitchNs)
    | none => false) && s.clk.established && l.peerEstablished && o.natAbs + sigma3 l.offsets ≤ 1000000

/-- BEACON_RECEIVE (R451). -/
def linkBeacon (n : Nat) (b : Beacon) (s : State) : State :=
  let l := s.lk n
  if !(n < 4 && l.st = 2) then s else
  let o : Int := s.local - l.transit - b.timeNs
  let s := s.modLk n fun l => { l with
    offsets := (o :: l.offsets).take 64, lastBeacon := some s.now, stitchDelta := b.stitch - s.stitch,
    peerEstablished := b.established, peerUnproven := b.unproven, peerUdev := b.uDev }
  let ok := s.linkAligned (s.lk n)
  let s1 := s.modLk n fun l => { l with aligned := ok }
  if ok && !l.aligned then s1.evtLink n 7 0 0xFF 0 0
  else if !ok && l.aligned then s1.evtLink n 6 0 0xFF o.natAbs 0 else s1

/-- LINK_MISALIGNED: the conditions of R451 have ceased to hold. -/
def linkMisaligned (n : Nat) (s : State) : State :=
  let l := s.lk n
  if n < 4 && l.aligned && !s.linkAligned l then
    (s.modLk n fun l => { l with aligned := false }).evtLink n 6 0 0xFF (l.offsets.headD 0).natAbs 0
  else s

/-- The resend limit of R436. -/
def State.resendLimit (s : State) (n : Nat) : State := if (s.lk n).resendRun ≥ 8 then s.retrain n 3 0xFF false else s

/-- An LLC payload (Table 19-3): acknowledgement, credits, NAK and the peer's power state. -/
def llcReceive (n : Nat) (p : List Byte) (s : State) : State :=
  let l := s.lk n
  if !(n < 4 && (l.st = 2 || l.st = 5)) then s else
  let ack := byteAt p 0
  let f := byteAt p 1
  let pos := l.replay.findIdx? fun x => x.seq = ack
  let gone := if f.testBit 1 then (match pos with
    | some i => i + 1
    | none => 0) else 0
  let newFreed := (List.range 4).map fun v => uAt p (2 + 2 * v) 2
  let counts := (l.replay.take gone).any (fun x => x.vc ≥ 2) || newFreed.getD 2 0 ≠ l.peerFreed.getD 2 0 ||
    newFreed.getD 3 0 ≠ l.peerFreed.getD 3 0
  let s := s.modLk n fun l => { l with
    replay := l.replay.drop gone, peerFreed := newFreed, rxPower := bits f 3 2,
    resendRun := if gone > 0 then 0 else l.resendRun, oldestAt := if gone > 0 then s.now else l.oldestAt,
    lastRx23 := if counts then s.stitch else l.lastRx23 }
  let s := if f.testBit 0 && l.st = 2 && !(s.lk n).replay.isEmpty then (s.resend n).resendLimit n else s
  let l1 := s.lk n
  if l1.st = 2 && l1.rxPower = 3 then s.modLk n fun l => { l with st := 5 }
  else if l1.st = 5 && l1.rxPower ≠ 3 && l1.txPower ≠ 3 then s.trainLink n false else s

/-- FLIT_RECEIVE (R432, R436). -/
def flitReceive (n : Nat) (f : Flit) (s : State) : State :=
  let l := s.lk n
  if !(n < 4 && (l.st = 2 || l.st = 5)) then s else
  let type := byteAt f.bytes 0 / 16
  let vc := byteAt f.bytes 0 / 4 % 4
  let nak (s : State) : State :=
    if l.discarding then s else (s.sendLlc n true 0).modLk n fun l => { l with discarding := true }
  if f.bytes.length ≠ 64 || uAt f.bytes 60 4 ≠ crc32c (f.bytes.take 60) then
    let s := s.modLk n fun l => { l with crcErrors := l.crcErrors + 1 }
    if type = 1 then nak s else s
  else match type with
  | 1 =>
    if byteAt f.bytes 1 ≠ l.rxSeq then nak s else
    let s := s.modLk n fun l => { l with
      rxSeq := (l.rxSeq + 1) % 256, rxFlits := l.rxFlits + 1, unacked := l.unacked + 1, discarding := false,
      unackedAt := if l.unacked = 0 then s.now else l.unackedAt, freed := modAt l.freed vc fun x => (x + 1) % m16,
      rxAny := true, lastRx23 := if vc ≥ 2 then s.stitch else l.lastRx23
      -- A peer that sends has left IDLE or SLEEP (R445).
      rxPower := if l.rxPower = 3 then 3 else 0 }
    if (s.lk n).unacked ≥ 64 then s.sendLlc n false 0 else s
  | 2 => llcReceive n (f.bytes.drop 2) s
  | 4 =>
    let p := f.bytes.drop 2
    linkBeacon n { timeNs := uAt p 0 8 % 2 ^ 48 * nsPerSec + uAt p 8 4, stitch := uAt p 12 8,
                   established := (byteAt p 20).testBit 0, unproven := (byteAt p 20).testBit 1, uDev := uAt p 21 4 } s
  | _ => s

/-- REPLAY_TIMEOUT: no acknowledgement of the oldest flit for 2 µs (R436). -/
def replayTimeout (n : Nat) (s : State) : State :=
  let l := s.lk n
  if n < 4 && l.st = 2 && !l.replay.isEmpty && l.oldestAt + 2000 ≤ s.now then (s.resend n).resendLimit n else s

/-- LLC_ACK_TIMER: 1 µs since the oldest flit not acknowledged (R433). -/
def llcAckTimer (n : Nat) (s : State) : State :=
  let l := s.lk n
  if n < 4 && l.st = 2 && l.unacked > 0 && l.unackedAt + 1000 ≤ s.now then s.sendLlc n false 0 else s

/-- MARGIN_MEASURE: eye width (mUI) and height (mV) of each lane in turn (R442, R443). -/
def marginMeasure (n : Nat) (m : List Nat) (s : State) : State :=
  let l := s.lk n
  if !(n < 4 && l.st = 2) then s else
  let w (k : Nat) : Nat := m.getD (2 * k) 0
  let h (k : Nat) : Nat := m.getD (2 * k + 1) 0
  let fom (k : Nat) : Nat := sat16 (min (1000 * w k / 300) (1000 * h k / 30))
  let lanes := List.range 8
  let s1 := s.modLk n fun l => { l with
    fom := lanes.map fom, eyeW := sat16 ((lanes.map w).min?.getD 0), eyeH := sat16 ((lanes.map h).min?.getD 0),
    badRun := lanes.map fun k => if fom k < 250 then l.badRun.getD k 0 + 1 else 0,
    marginLow := lanes.map fun k => fom k < 1000 || (l.marginLow.getD k false && fom k < 1100) }
  let s1 := s1.forEach (lanes.filter fun k => fom k < 1000 && !l.marginLow.getD k false) fun k s => s.evtLink n 5 0 k (fom k) 0
  match lanes.find? fun k => (s1.lk n).badRun.getD k 0 ≥ 3 with
  | some k => s1.retrain n 4 k false
  | none => s1

/-! ### Power of a direction (R445-R447) -/

/-- LINK_IDLE_ENTRY. -/
def linkIdle (n : Nat) (s : State) : State :=
  let l := s.lk n
  if n < 4 && l.st = 2 && (l.policy = 1 || l.policy = 2) && l.txPower = 0 && l.replay.isEmpty && l.queue.isEmpty && l.quietSince + l.idleNs ≤ s.now then
    (s.sendLlc n false 1).modLk n fun l => { l with txPower := 1, idleSince := s.now }
  else s

/-- LINK_SLEEP_ENTRY. -/
def linkSleep (n : Nat) (s : State) : State :=
  let l := s.lk n
  if n < 4 && l.st = 2 && l.policy = 2 && l.txPower = 1 && l.idleSince + l.sleepUs * 1000 ≤ s.now then
    (s.sendLlc n false 2).modLk n fun l => { l with txPower := 2 }
  else s

/-- At a Stitch boundary: beacons (R445, R451), credit stalls, and the sleep of rung 23 (R447). -/
def State.linkBoundary (s : State) (uDev : Nat) (unproven : Bool) : State :=
  s.forEach (List.range 4) fun n s =>
    let l := s.lk n
    let s := if l.stalled then s.modLk n fun l => { l with creditStalls := satAdd32 l.creditStalls 1, stalled := false } else s
    if l.st ≠ 2 then s else
    let shed := s.nrg.inForce ≥ 23 && l.quiet23 s.stitch && l.policy ≠ 3
    let s := if shed && l.txPower < 2 then (s.sendLlc n false 2).modLk n fun l => { l with txPower := 2 } else s
    -- A direction that only the rung kept asleep wakes when it ends.
    let wake := l.shedSleep && !shed && l.policy ≠ 2 && l.txPower = 2
    let s := s.modLk n fun l => { l with shedSleep := shed, txPower := if wake then 0 else l.txPower
                                         quietSince := if wake then s.now else l.quietSince }
    let pw := (s.lk n).txPower
    if pw ≤ 1 || (pw = 2 && s.stitch - l.lastTxBeacon ≥ 2000) then
      let p := timeBytes s.local ++ leBytes 8 s.stitch ++ leBytes 1 (b2n s.clk.established + 2 * b2n unproven) ++
        leBytes 4 (sat32 uDev)
      (s.sendFlit n (flitBytes 4 1 true true 0 p)).modLk n fun l => { l with lastTxBeacon := s.stitch }
    else s

/-! ### Commands -/

def cmdLinkTrain : Cmd where
  spec := specLinkTrain
  param j _ := chkId j 0 [0xC] ++ chk 2 (j.u8 2 ≤ 1) ++ rsv j 3 1
  names j := nameAt j 0
  run j s :=
    let n := idIndex (j.u16 0)
    let l := s.lk n
    if l.job.isSome then .fail eBusy (j.u16 0)
    else if l.st = 0 || l.st = 4 || l.st = 5 then .fail eState (j.u16 0)
    else
      let s1 := if l.st = 2 then s.retrain n 6 0xFF (j.u8 2 = 1) else s.trainLink n (j.u8 2 = 1)
      .later (s1.modLk n fun l => { l with job := some j })

def cmdLinkTxeq : Cmd where
  spec := specLinkTxeq
  param j _ :=
    let k := (j.len - 8) / 4
    chkId j 0 [0xC] ++ chk 2 (j.u8 2 ≤ 2) ++ chk 3 (j.u8 3 ≤ 8 && j.u8 3 = k) ++ rsv j 4 4 ++
    (List.range k).flatMap fun i =>
      let o := 8 + 4 * i
      chk o (j.u8 o ≤ 7 && !(List.range i).any fun q => j.u8 (8 + 4 * q) = j.u8 o) ++
      chk (o + 2) (j.u8 (o + 1) + j.u8 (o + 2) + j.u8 (o + 3) = 63 && 32 ≤ j.u8 (o + 2))
  names j := nameAt j 0
  run j s :=
    let n := idIndex (j.u16 0)
    let l := s.lk n
    match j.u8 2 with
    | 0 => .ok (s.forEach (List.range (j.u8 3)) fun i s =>
        let o := 8 + 4 * i
        s.modLk n fun l => { l with taps := l.taps.set (j.u8 o) { pre := j.u8 (o + 1), main := j.u8 (o + 2), post := j.u8 (o + 3) } }) []
    | 1 => if l.st = 0 || l.st = 4 || l.st = 5 then .fail eState (j.u16 0)
      else .ok (if l.st = 2 then s.retrain n 6 0xFF true else s.trainLink n true) []
    | _ => .ok (s.modLk n fun l => { l with taps := List.replicate 8 {} }) []

def cmdLinkLowpower : Cmd where
  spec := specLinkLowpower
  param j _ := chkId j 0 [0xC] ++ chk 2 (j.u8 2 ≤ 3) ++ rsv j 3 1 ++ chk 4 (j.u16 4 = 0 || 100 ≤ j.u16 4) ++
    chk 6 (j.u16 6 = 0 || 10 ≤ j.u16 6)
  names j := nameAt j 0
  run j s :=
    let n := idIndex (j.u16 0)
    let l := s.lk n
    if j.u8 2 = 3 && s.linkInUse n then .fail eBusy (j.u16 0) else
    let s1 := s.modLk n fun l => { l with
      policy := j.u8 2, idleNs := if j.u16 4 = 0 then 1000 else j.u16 4, sleepUs := if j.u16 6 = 0 then 100 else j.u16 6,
      quietSince := s.now }
    if j.u8 2 = 3 then .ok (s1.linkOff n) []
    else
      let s2 := s1.modLk n fun l => { l with txPower := if l.txPower = 3 || l.txPower > j.u8 2 then 0 else l.txPower }
      .ok (if l.st = 5 && l.rxPower ≠ 3 then s2.trainLink n false else s2) []

/-- The first credit field that breaks the limits of R448. -/
def creditErr (j : Job) : List Nat :=
  let c (v : Nat) : Nat := j.u16 (8 + 2 * v)
  let upTo (v : Nat) : Nat := ((List.range (v + 1)).map c).sum
  match (List.range 4).find? fun v => c v < 8 || c v > 496 || upTo v > 512 with
  | some v => [24 + 2 * v]
  | none => []

/-- A link goes to DISABLED (Table 19-5); a LINK_TRAIN that waits is answered with this error. -/
def State.stopLink (s : State) (n : Nat) (e : Err) : State :=
  let old := s.lk n
  if old.st = 0 then s else
  let s := (s.modLk n fun l => { l.discard with
    st := 0, job := none, prbs := { l.prbs with generate := false, check := false }, loop := 0, loopUntil := none,
    aligned := false, peerPresent := false, peerId := 0xFF }).evtLink n 4 0 0xFF 0 0
  s.finish? old.job e.status e.detail []

def State.disableLink (s : State) (n : Nat) : State := s.stopLink n ⟨eState, 0xC000 + n⟩

/-- LINK_CONFIG's port layout (R448). -/
def linkConfigPort (j : Job) (s : State) : State :=
  let n := idIndex (j.u16 0)
  let old := s.lk n
  let newCredits := (List.range 4).map fun v => j.u16 (8 + 2 * v)
  let idChange := s.lnk.localId ≠ j.u8 4
  let s := { s with lnk := { s.lnk with localId := j.u8 4 } }
  let s := s.modLk n fun l => { l with enable := j.u8 3 = 1, peerCfg := j.u8 5, credits := newCredits }
  let s :=
    if j.u8 3 = 0 then s.disableLink n
    else if old.st = 0 then (s.modLk n Lk.discard).trainLink n false
    else if old.st = 2 && old.credits ≠ newCredits then s.retrain n 6 0xFF false else s
  if idChange then s.forEach (List.range 4) fun k s => if (s.lk k).st = 2 then s.retrain k 6 0xFF false else s else s

/-- A test ends: the link trains again when enabled (Table 19-5). -/
def State.endTest (s : State) (n : Nat) : State :=
  let l := s.lk n
  if l.st = 4 && !l.prbs.generate && !l.prbs.check && l.loop = 0 then
    if l.enable then s.trainLink n false else s.modLk n fun l => { l with st := 0 }
  else s

/-- The checker listens to what it does not generate itself: the errors it has found since it was last asked, and its lock, are free
values (log entry 28). -/
def State.prbsCheck (s : State) (n : Nat) : State :=
  let l := s.lk n
  if !(l.prbs.check && !((l.loop = 1 || l.loop = 2) && l.prbs.generate)) then s else
  let (v, s) := s.takeFree
  s.modLk n fun l => { l with prbs := { l.prbs with
    errors := l.prbs.errors.mapIdx fun m e => if l.prbs.lanes.testBit m then satAdd32 e (Config.freeNat (v + m)) else e
    lock := l.prbs.lock.mapIdx fun m _ => l.prbs.lanes.testBit m && Config.freeNat (v + 8 + m) % 2 = 1 } }

/-- LINK_PRBS's reply (Table 19-12). In a near-end loopback of a running generator the checker is locked and sees exactly the
injected errors. -/
def prbsReply (n : Nat) (s : State) : List Byte :=
  let l := s.lk n
  let p := l.prbs
  let own := (l.loop = 1 || l.loop = 2) && p.generate
  let lane (m : Nat) : List Byte :=
    let on := p.lanes.testBit m
    let e := p.errors.getD m 0
    let k := b2n (p.check && on && (own || p.lock.getD m false))
    let rate := if on && p.rate ≠ 0 && p.generate then (s.now - p.since) / 1000000 * 16000000 / 10 ^ p.rate else 0
    leBytes 4 (if own && p.check && on then sat32 (e + rate) else e) ++ leBytes 2 (sat16 (p.injected.getD m 0 + rate)) ++ leBytes 1 k ++ zeros 1
  leBytes 2 (0xC000 + n) ++ leBytes 1 (b2n (p.generate || p.check)) ++ leBytes 1 p.pattern ++
    leBytes 4 (if p.check then sat32 ((s.now - p.since) / 1000000) else 0) ++ (List.range 8).flatMap lane

def cmdLinkPrbs : Cmd where
  spec := specLinkPrbs
  param j _ :=
    chkId j 0 [0xC] ++ chk 2 (j.u8 2 ≤ 5) ++ chk 3 ([7, 15, 31].contains (j.u8 3)) ++ chk 5 (j.u8 5 ≤ 3) ++
    chk 6 (if j.u8 5 = 2 then 2 ≤ j.u8 6 && j.u8 6 ≤ 64 else j.u8 6 = 0) ++
    chk 7 (if j.u8 5 = 3 then 3 ≤ j.u8 7 && j.u8 7 ≤ 12 else j.u8 7 = 0) ++ rsv j 8 4
  names j := nameAt j 0
  run j s :=
    let n := idIndex (j.u16 0)
    let l := s.lk n
    let act := j.u8 2
    let start := 1 ≤ act && act ≤ 3
    if start && s.linkInUse n then .fail eBusy (j.u16 0)
    else if start && !(l.st = 2 || l.st = 3 || l.st = 4) then .fail eState (j.u16 0)
    else
      let s := match act with
        | 0 => ((s.prbsCheck n).modLk n fun l => { l with prbs := { l.prbs with generate := false, check := false } }).endTest n
        | 4 => s.prbsCheck n
        | 5 => s.modLk n fun l => { l with prbs := { l.prbs with
            errors := List.replicate 8 0, injected := List.replicate 8 0, since := s.now } }
        | _ => s.modLk n fun l => { l with st := 4, prbs := { l.prbs with
            generate := act ≠ 2, check := act ≠ 1, pattern := j.u8 3, lanes := j.u8 4, since := s.now,
            rate := j.u8 7, errors := if act = 1 then l.prbs.errors else List.replicate 8 0, lock := List.replicate 8 false } }
      -- Injected errors: one bit, or BURST bits, on every selected lane; a rate injects while the generator runs.
      let k := if (s.lk n).prbs.generate then (match j.u8 5 with
        | 1 => 1
        | 2 => j.u8 6
        | _ => 0) else 0
      let s := s.modLk n fun l =>
        let own := (l.loop = 1 || l.loop = 2) && l.prbs.check
        { l with prbs := { l.prbs with
            injected := l.prbs.injected.mapIdx fun m x => if l.prbs.lanes.testBit m then x + k else x,
            errors := l.prbs.errors.mapIdx fun m x => if own && l.prbs.lanes.testBit m then satAdd32 x k else x } }
      .ok s (prbsReply n s)

def cmdLinkLoop : Cmd where
  spec := specLinkLoop
  param j _ := chkId j 0 [0xC] ++ chk 2 (j.u8 2 ≤ 3) ++ rsv j 3 1 ++ chk 4 (j.u32 4 ≤ 3600000)
  names j := nameAt j 0
  run j s :=
    let n := idIndex (j.u16 0)
    let l := s.lk n
    if j.u8 2 = 0 then .ok ((s.modLk n fun l => { l with loop := 0, loopUntil := none }).endTest n) []
    else if s.linkInUse n then .fail eBusy (j.u16 0)
    else if !(l.st = 2 || l.st = 3 || l.st = 4) then .fail eState (j.u16 0)
    else .ok (s.modLk n fun l => { l with
      st := 4, loop := j.u8 2, loopUntil := if j.u32 4 = 0 then none else some (s.now + j.u32 4 * 1000000) }) []

/-- LINK_LOOP_EXPIRY. -/
def linkLoopExpiry (n : Nat) (s : State) : State :=
  match (s.lk n).loopUntil with
  | some t => if t ≤ s.now then (s.modLk n fun l => { l with loop := 0, loopUntil := none }).endTest n else s
  | none => s

def cmdLinkStatus : Cmd where
  spec := specLinkStatus
  param j _ := chkId j 0 [0xC] ++ rsv j 2 2
  names j := nameAt j 0
  run j s :=
    let n := idIndex (j.u16 0)
    let l := s.lk n
    .ok s (leBytes 2 (j.u16 0) ++ leBytes 1 l.st ++ leBytes 1 (b2n l.aligned + 2 * b2n l.shedSleep + 4 * b2n l.peerPresent) ++
      leBytes 1 l.txPower ++ leBytes 1 l.rxPower ++ leBytes 1 s.lnk.localId ++ leBytes 1 l.peerId ++ leBytes 8 l.peerSerial ++
      leBytes 4 l.transit ++ leBytes 4 (unsigned 32 (satS 32 (l.offsets.headD 0))) ++ leBytes 4 (sat32 (sigma3 l.offsets)) ++
      leBytes 4 (unsigned 32 (satS 32 l.stitchDelta)) ++ leBytes 8 l.txFlits ++ leBytes 8 l.rxFlits ++ leBytes 8 l.crcErrors ++
      leBytes 4 l.resends ++ leBytes 4 l.retrains ++ l.fom.flatMap (leBytes 2) ++ leBytes 2 l.eyeW ++ leBytes 2 l.eyeH ++
      leBytes 2 l.los ++ leBytes 2 l.lol ++ leBytes 4 l.creditStalls ++ zeros 4)

end Sys2Proof.Machine
end

