-- ==== Sys2Proof/Machine/Energy.lean ====
section
/-! DEFINITION. The energy model, the planner and its shed ladder, the reservoir, the correction, ENERGY commands (spec/15).
Energies are whole picojoules rounded down, c is held times 2^32 (log entry 20). -/
namespace Sys2Proof.Machine

/-- E_SUS in pJ (R351). -/
def Nrg.eSus (n : Nrg) : Nat := n.pSus * 500000

/-- Corrected energy (R358). -/
def Nrg.corrected (n : Nrg) (pj : Nat) : Nat := n.c * pj / m32

def toUj (pj : Nat) : Nat := sat32 (pj / 1000000)

/-! ### Effective classes (R363) -/

/-- The layers, each with its head and settings: those in force, or (`acc`) those accepted, which a command would bring. A plan
knows only what has taken effect (R360). -/
def State.layersAs (s : State) (acc : Bool) : List (Nat × Option Nat × LayerCfg) :=
  if acc then s.lay.layers.zipIdx.map fun x => (x.2, x.1.head, x.1.cfg)
  else (s.lay.tiles.map fun t => (t.layer, some t.head, t.cfg)) ++
    (s.lay.layers.zipIdx.filter fun x => (s.tilesOf x.2).isEmpty).map fun x => (x.2, none, x.1.base)

/-- The lowest class among an object's own and those of the layers it serves. -/
def lowestClass (own : Nat) (layers : List (Nat × Option Nat × LayerCfg)) : Nat := (layers.map fun l => l.2.2.eff).foldl min own

/-- What a head is bound to, in force or as accepted. -/
def Head.targetAs (x : Head) (acc : Bool) : Nat := if acc then x.accTarget else x.target

def State.chClassAs (s : State) (acc : Bool) (ch : Nat) : Nat :=
  lowestClass (s.nrg.chClass.getD ch 4) ((s.layersAs acc).filter fun l => l.2.2.source = some ch)

def State.headClassAs (s : State) (acc : Bool) (h : Nat) : Nat :=
  lowestClass (s.nrg.headClass.getD h 4) ((s.layersAs acc).filter fun l => l.2.1 = some h)

def State.encClassAs (s : State) (acc : Bool) (ec : Nat) : Nat :=
  let hs := (List.range 32).filter fun h => (s.head h).targetAs acc = 0x8000 + ec
  lowestClass (s.nrg.encClass.getD ec 4) ((s.layersAs acc).filter fun l => hs.any fun h => l.2.1 = some h)

/-- Effective classes in force. -/
def State.chClass (s : State) (ch : Nat) : Nat := s.chClassAs false ch
def State.headClass (s : State) (h : Nat) : Nat := s.headClassAs false h
def State.encClass (s : State) (ec : Nat) : Nat := s.encClassAs false ec

/-! ### The ladder (R362, Table 15-4) -/

/-- Bit n: a rung of class n is applied (Table 15-6). -/
def shedClasses (pos : Nat) : Nat :=
  ((List.range 8).map fun c => b2n ([1, 2, 3, 4, 6].any fun st => applies pos st c) * 2 ^ c).sum

/-! ### The model (R354, R356) -/

/-- The leakage factor times 65,536 at a temperature in m°C (R356). -/
def leakFactor (table : List Nat) (mC : Int) : Nat :=
  let x := (max 0 (min (mC + 40000) 150000)).toNat
  let i := min (x / 5000) 29
  let part := x - i * 5000
  (table.getD i 0 * (5000 - part) + table.getD (i + 1) 0 * part) / 5000

/-- The temperature that indexes a domain: its hottest healthy sensor, 105 °C without one (R404). The package diodes, sensors 16
and 17, lie on the substrate and in no domain (R500). -/
def State.domainTemp (s : State) (d : Nat) : Int :=
  let ts := ((s.hoop.sensors.take 16).zipIdx.filter fun x => !x.1.faulty && Config.sensorDomain x.2 = d).map fun x => x.1.mC
  match ts with
  | [] => 105000
  | t :: ts => ts.foldl max t

/-- Lanes and ports of a domain that are on, per Stitch (Table 15-1): DisplayPort lanes of a trained link or of a test pattern,
Lacing lanes at their present state, PCIe lanes in L0, which they leave in DOZE. -/
def State.lanes (s : State) (d : Nat) : Nat :=
  if 13 ≤ d && d < 17 then
    (((List.range 4).map fun i => s.ports.getD (4 * (d - 13) + i) {}).map fun p =>
      (if p.pattern ≠ 0 then p.patternLanes else if p.st = 2 then p.lanes else 0) * s.cost 9).sum
  else if d = 17 then (s.lnk.links.map (laneRate s.hoop.otp.costs)).sum
  else if d = 18 then
    ((s.net.ports.take 4).map fun p => if p.link then (if p.curSpeed = 1 then s.cost 13 else s.cost 14) else 0).sum
  else if d = 19 then b2n (s.pcieOn && s.pwr.pstate < 2) * 4 * s.cost 15
  else 0

/-- Leakage and clocked base of a domain that is on (Table 15-2); the AON island's base is its figure in RUN and HUSH (R355). -/
def State.domainBase (s : State) (d : Nat) : Nat :=
  if !s.domainOn d then 0 else
  s.hoop.otp.leakMw.getD d 0 * 500000 * leakFactor s.hoop.otp.leakTable (s.domainTemp d) / 65536 +
  (if d = 0 && 2 ≤ s.pwr.pstate then 0 else s.hoop.otp.baseMw.getD d 0 * 500000)

/-- A running test is charged at its block's share of Table 15-3 (R478), in pJ a Stitch: by cluster code. -/
def blockFigure (cluster : Nat) : Nat :=
  let mw := if 0x10 ≤ cluster && cluster ≤ 0x13 then 4800 / 4 else if cluster = 0x18 then 1600
    else if 0x20 ≤ cluster && cluster ≤ 0x23 then 4200 / 4 else if cluster = 0x30 then 4600 else if cluster = 0x50 then 4200
    else if cluster = 0x48 then 5000 else if cluster = 0x40 || cluster = 0x58 then 1200 / 2 else if cluster = 0x60 then 500
    else if cluster = 0x02 then 3000 else 400 / 2
  mw * 500000

def State.bistWork (s : State) : Nat :=
  if s.hoop.bist.st = 1 && s.hoop.bist.origin ≠ 0 then blockFigure (s.hoop.bist.origin / 256) else 0

/-- Composition of one head in a Stitch, in pJ: its output and the fetch of its enabled layers, each with whether it uses the
4 × 2 filter; a frame in `every` is composed, each `slow` times its nominal period (Tables 9-17 and 15-1). -/
def State.composition (s : State) (t : Timing) (every slow ladder : Nat) (layers : List (Nat × Option Nat × LayerCfg)) : Nat :=
  let fetch := (layers.map fun x => if !x.2.2.enable then 0 else s.fetchArea x.1 x.2.2 t * s.fetchCost x.1 x.2.2 ladder).sum
  (t.hAct * t.vAct * s.cost 3 + fetch) * t.num / max 1 (t.den * 2000 * max 1 every * max 1 slow)

/-- A virtual head's frames composed (R298): one in DIVIDER, or 2 × DIVIDER; none while its channel does not run. -/
def State.every (s : State) (target : Nat) (halved : Bool) : Option Nat :=
  if idType target = 7 then some 1
  else if idType target ≠ 8 then none
  else
    let e := s.encode (idIndex target)
    if e.st = .running || e.st = .idle then some (max 1 e.cfg.divider * (if halved then 2 else 1)) else none

/-- Composition of head `h` in a Stitch at a ladder position, counting the layers that `keep` admits. -/
def State.headForecast (s : State) (acc : Bool) (h pos : Nat) (keep : LayerCfg → Bool) : Nat :=
  let x := s.head h
  let t := if acc then x.newTiming else x.timing
  let on := if acc then x.counts && x.st ≠ .selfRefresh else x.st = .scanning || x.st = .closing || x.st = .srEntry
  if !on || s.leaving (s.stitch + 2) (8 + h / 8) then 0 else
  match s.every (x.targetAs acc) (applies pos 1 (s.encClassAs acc (idIndex (x.targetAs acc)))) with
  | none => 0
  | some n =>
    let half := t.flags.testBit 2 && applies pos 6 (s.headClassAs acc h)
    s.composition t n (if half then 2 else 1) pos ((s.layersAs acc).filter fun l => l.2.1 = some h && keep l.2.2)

/-- HUSH decodes watch channels only, those of effective class 0 (R378): a Stitch spent in HUSH, or for which an entry to it has
left the other channels out (R381). -/
def State.hushes (s : State) (stitch ch : Nat) : Bool :=
  (s.pwr.pstate = 1 || s.pwr.trans.any fun t => t.target = 1 && !t.waking && t.stitch + 3 ≤ stitch) && s.chClass ch ≠ 0

/-- Pictures that a channel is expected to decode in a Stitch at a position (R359), each counted by `size`; a slice-locked channel
counts its whole RESERVE. -/
def State.chExpected (s : State) (acc : Bool) (ch pos : Nat) (size : Nat × Nat × Nat × Bool → Nat) : Nat :=
  let c := s.ctx ch
  let k := s.slice ch
  if !(c.st = .seeking || c.st = .recovering || c.st = .decoding || c.st = .shed) then 0
  else if applies pos 4 (s.chClassAs acc ch) || s.hushes (s.stitch + 2) ch ||
      (List.range 4).all (fun i => s.leaving (s.stitch + 2) (3 + i)) then 0
  else if acc && k.acc then k.accReserve
  else if k.mode ≠ .off then k.reserve
  else
    let skip := applies pos 2 (s.chClassAs acc ch)
    ((c.recent.filter fun x => decide (s.now < x.1 + nsPerSec) && !(skip && x.2.2.2)).map size).sum / 2000

/-- Capacity that a channel is expected to take, in luma samples (R178, R180). -/
def State.chForecast (s : State) (ch pos : Nat) : Nat := s.chExpected false ch pos fun x => x.2.1

/-- Energy of a channel's decoding in a Stitch, by luma samples (Table 15-1). -/
def State.chEnergy (s : State) (acc : Bool) (ch pos : Nat) : Nat :=
  s.chExpected acc ch pos (fun x => x.2.2.1) * s.cost (if (s.ctx ch).codec = 1 then 0 else 1)

/-- Energy of an encode channel in a Stitch: one that is IDLE encodes nothing. -/
def State.encEnergy (s : State) (acc : Bool) (ec pos : Nat) : Nat :=
  let e := s.encode ec
  if e.st = .running then e.load / (if applies pos 1 (s.encClassAs acc ec) then 4000 else 2000) * s.cost 2 else 0

/-- Usable bytes of DRAM traffic in a Stitch (Table 1-5), and those admitted at a position. -/
def dramPerStitch : Nat := 109000000
def State.dramAt (s : State) (pos : Nat) : Nat := min dramPerStitch (s.nrg.dram.getD pos (s.nrg.dram.getLastD 0))

/-- The model energy of a Stitch at a ladder position (R358, R359). -/
def State.forecast (s : State) (acc : Bool) (pos : Nat) : Nat :=
  let decode := ((List.range 64).map fun ch => s.chEnergy acc ch pos).sum
  let encode := ((List.range 16).map fun ec => s.encEnergy acc ec pos).sum
  let compose := ((List.range 32).map fun h => s.headForecast acc h pos fun _ => true).sum
  let dram := s.dramAt pos * (s.cost 7 + s.cost 8)
  let lane (d : Nat) : Nat :=
    if d = 17 && 23 ≤ pos then
      -- Rung 23: the device's own directions that carried no VC2 or VC3 flit sleep; the peer governs the others (R447).
      (s.lnk.links.map fun l => laneRate s.hoop.otp.costs
        (if l.quiet23 s.stitch && l.policy ≠ 3 then { l with txPower := max l.txPower 2 } else l)).sum
    else s.lanes d
  let on := (List.range 21).filter fun d => !s.leaving (s.stitch + 2) d
  decode + encode + compose + dram + s.bistWork + (on.map fun d => s.domainBase d + lane d).sum

/-- The model energy of the work that ran in the Stitch that ends, by domain (R358). -/
def State.ran (s : State) (dramBytes : Nat) : List Nat :=
  (List.range 21).map fun d =>
    let dram := if d = 12 then dramBytes * s.cost 7 else if d = 2 then dramBytes * s.cost 8 else 0
    let lane := if d = 17 then
        (s.lnk.links.map fun (l : Lk) => (l.charge s.hoop.otp.costs s.now).laneWork / 500000).sum
      else s.lanes d
    let test := if s.bistWork ≠ 0 && clusterDomain (s.hoop.bist.origin / 256) = some d then s.bistWork else 0
    s.nrg.work.getD d 0 + dram + lane + s.domainBase d + test

/-! ### Events (R371) -/

def State.evtEnergy (s : State) (code a0 a1 : Nat) : State :=
  s.raiseOnce 0x03 0 code (leBytes 1 code ++ leBytes 1 s.nrg.ladder ++ zeros 2 ++ leBytes 4 a0 ++ leBytes 4 a1 ++ leBytes 4 (toUj s.nrg.r))

/-! ### The end of a Stitch (R353, R365) -/

/-- Work in progress is charged up to the end of the Stitch: rows, coded lines and composed lines (R358). -/
def State.chargeWork (s : State) : State := s.chargeRows.chargeEncode.forEach (List.range 32) fun h s => s.chargeHead h

def State.endOfStitch (s : State) (dramBytes : Nat) : State :=
  let s := s.chargeWork
  let model := s.ran (min dramBytes dramPerStitch)
  let n := s.nrg
  let act := n.corrected model.sum
  let r := min (n.eRes * 1000000) (n.r + n.eSus - act)
  let fresh (l : Lk) : Lk := { l.charge s.hoop.otp.costs s.now with laneWork := 0 }
  let done : EnergyRec := { c := n.c, model }
  let low (x : Nat) : Bool := decide (10 * x < n.eRes * 1000000)
  let s1 := { s with
    nrg := { n with r, drawing := decide (r < n.r), hist := (done :: n.hist).take 120000, work := List.replicate 21 0
                    breachCount := n.breachCount + b2n n.breach }
    lnk := { s.lnk with links := s.lnk.links.map fresh } }
  let s2 := s1.when (low r && !low n.r) (·.evtEnergy 5 0 0)
  if n.inForce = 30 && r = 0 && n.eSus < act && !n.breach then
    (({ s2 with nrg := { s2.nrg with breach := true, breachCount := 1, clearRun := 0 } }).evtEnergy 3 (toUj (act - n.eSus)) 0).record
      0x0801 0 [toUj (act - n.eSus)]
  else s2

/-! ### Planning (R359, R360) -/

/-- The first position from `pos` whose corrected forecast fits. -/
def State.climb (s : State) (limit : Nat) : Nat → Nat → Nat
  | 0, pos => pos
  | k + 1, pos => if 30 ≤ pos then pos else if limit < s.nrg.corrected (s.forecast false pos) then s.climb limit k (pos + 1) else pos

/-- Luma samples that each channel's work takes of the decode cores in a Stitch, in order of class, slice-locked channels first
(R17, R178); the channel of a fold is given what is left. -/
def reserveUpTo (want : Nat → Nat) : List Nat → Nat → List (Nat × Nat)
  | [], _ => []
  | ch :: rest, left => (ch, min (want ch) left) :: reserveUpTo want rest (left - min (want ch) left)

/-- The plan of the Stitch after next at a ladder position (R17): no more work than the capacities of Table 1-5, as reduced by
throttling and by clusters that are off or are to be gated (R361, R381). -/
def State.planAt (s : State) (pos : Nat) : Plan :=
  let cores := s.coreUses (s.stitch + 2)
  let cap := (cores.map fun c => stitchNs / c.mult).sum
  let keys := (List.range 64).map fun ch => (if (s.slice ch).mode ≠ .off then 0 else 1000) + 100 * s.chClass ch + ch
  let order := (sortBy (fun a b => decide (a < b)) keys).map fun k => k % 100
  let given := reserveUpTo (fun ch => s.chForecast ch pos) order cap
  let reserved := (List.range 64).map fun ch => ((given.find? fun g => g.1 = ch).map (·.2)).getD 0
  { pos, energy := s.nrg.corrected (s.forecast false pos), reserved, spare := cap - reserved.sum, dram := s.dramAt pos
    cores := cores.map fun c => (c.core, c.mult) }

/-- plan_energy (R359): the plan of Stitch k+2. -/
def State.planEnergy (s : State) (dramForecast : List Nat) : State :=
  let s := { s with nrg := { s.nrg with dram := dramForecast } }
  let n := s.nrg
  let f (pos : Nat) : Nat := n.corrected (s.forecast false pos)
  let excess := (n.planned.map fun p => p.energy - n.eSus).sum
  let draw := min (n.r - excess) ((34000 - n.pSus) * 500000)
  let top := s.climb (n.eSus + draw) 31 n.ladder
  -- descend_ok: the 2,000 preceding plans fitted one rung lower and left the ladder where it was.
  let pos := if top = n.ladder && 0 < top && 2000 ≤ n.descRun then top - 1 else top
  let fits := decide (0 < pos ∧ 10 * f (pos - 1) ≤ 9 * n.eSus)
  let desc := if pos ≠ n.ladder then 0 else if fits then n.descRun + 1 else 0
  let clear := if n.breach && f pos ≤ n.eSus then n.clearRun + 1 else 0
  let done := n.breach && 2000 ≤ clear
  let s1 := { s with nrg := { n with ladder := pos, descRun := desc, planned := n.planned ++ [s.planAt pos]
                                     clearRun := if done then 0 else clear, breach := n.breach && !done
                                     breachCount := if done then 0 else n.breachCount } }
  let s2 := if n.ladder < pos then s1.evtEnergy 1 n.ladder (toUj (f pos))
    else if pos < n.ladder then s1.evtEnergy 2 n.ladder (toUj (f pos)) else s1
  s2.when done (·.evtEnergy 4 (sat32 n.breachCount) 0)

/-- A position takes effect at the start of its Stitch (R360): encode channels (R298), decode contexts (R181, R292); heads
apply it at an apply line. -/
def State.shedTo (s : State) (pos : Nat) : State :=
  let s := { s with nrg := { s.nrg with inForce := pos } }
  let s := s.forEach (List.range 16) fun ec s =>
    let e := s.encode ec
    let want := applies pos 1 (s.encClass ec)
    if !(e.st = .running || e.st = .idle) || want = e.halved then s else
    (s.modEnc ec fun e => { e with halved := want }).evtEncode ec 6 (b2n want) (e.cfg.divider * (if want then 2 else 1)) 0 0
  let s := s.forEach (List.range 64) fun ch s =>
    let c := s.chClass ch
    let pause := applies pos 4 c || s.hushes s.stitch ch
    let s := if (s.ctx ch).sub0 = applies pos 2 c then s else s.modCtx ch fun x => { x with sub0 := applies pos 2 c }
    if pause then
      if (s.ctx ch).running && (s.ctx ch).st ≠ .shed then (s.sliceShed ch).shedChannel ch else s
    else s.resumeChannel ch
  s.forEach (List.range 32) fun h s =>
    let want := applies pos 6 (s.headClass h)
    if (s.head h).halfWanted = want then s else s.modHead h fun x => { x with halfWanted := want }

/-- The boundary that ends one Stitch and begins the next (R17, R353, R359-R362): the Stitch number has already moved on. -/
def State.energyBoundary (s : State) (obs : StitchObs) : State :=
  let s := s.endOfStitch obs.dramBytes
  let plans := s.nrg.planned
  -- The plan of the Stitch that ends is done with; the list is then led by that of the Stitch that begins.
  let plans := if 3 ≤ plans.length then plans.drop 1 else plans
  let pos := if 2 ≤ plans.length then (plans.head?.map (·.pos)).getD s.nrg.inForce else s.nrg.inForce
  let s := ({ s with nrg := { s.nrg with planned := plans } }).shedTo pos
  -- R355: Bobbin 10 is gated and plans no Stitches.
  if !s.domainOn 2 then { s with nrg := { s.nrg with planned := [], descRun := 0, inForce := s.nrg.ladder } }
  -- R408: while Bobbin 10 restarts, the last plan is repeated.
  else if s.hoop.bobbinDown.contains 10 then
    { s with nrg := { s.nrg with planned := s.nrg.planned ++ s.nrg.planned.getLast?.toList } }
  else s.planEnergy obs.dramForecast

/-! ### Correction (R357) -/

/-- ENERGY_CORRECTION_UPDATE: the energies of the rails over the last 10 ms in µJ, empty when no reading is valid. -/
def energyCorrection (rails : List Nat) (s : State) : State :=
  if rails.isEmpty then s else
  let uj := rails.sum
  let mw := uj / 10
  let n := s.nrg
  let modelled := ((n.hist.take 20).map fun e => e.model.sum).sum
  let step : Int := if modelled = 0 then 0 else (((uj * 1000000 * m32 / modelled : Nat) : Int) - (n.c : Int)) / 16
  let c := (max ((m32 / 2 : Nat) : Int) (min ((n.c : Int) + step) ((2 * m32 : Nat) : Int))).toNat
  let atLimit := decide (c = m32 / 2 ∨ c = 2 * m32)
  let s1 := { s with nrg := { n with c, boardMw := mw, lastRail := s.now, corrLimit := atLimit, pmbusLost := false } }
  let s2 := s1.when n.pmbusLost (·.evtEnergy 8 (sat32 mw) 0)
  s2.when (atLimit && !n.corrLimit) (·.evtEnergy 6 (c / 65536) (sat32 mw))

/-- PMBUS_LOST: no valid reading for 50 ms. -/
def pmbusLost (s : State) : State :=
  if s.nrg.pmbusLost || s.now < s.nrg.lastRail + 50000000 then s
  else ({ s with nrg := { s.nrg with pmbusLost := true } }).evtEnergy 7 0 0

/-! ### Commands (R368-R370) -/

/-- ENERGY_SET_BUDGET: never refused for the load it leaves (R352, R367). -/
def cmdEnergySetBudget : Cmd where
  spec := specEnergySetBudget
  param j _ := chk 0 (8000 ≤ j.u32 0 && j.u32 0 ≤ 34000) ++ chk 4 (j.u32 4 ≤ 60000000)
  run j s :=
    let n := s.nrg
    .ok { s with nrg := { n with pSus := j.u32 0, eRes := j.u32 4, r := min n.r (j.u32 4 * 1000000) } } []

def cmdEnergyGet : Cmd where
  spec := specEnergyGet
  param j _ := chk 0 (j.u8 0 ≤ 1) ++ rsv j 1 3
  run j s :=
    let n := s.nrg
    let one (d : Nat) (e : EnergyRec) : Nat :=
      let m := e.model.getD d 0
      if j.u8 0 = 0 then e.c * m / m32 else m
    let last (k d : Nat) : Nat := ((n.hist.take k).map (one d)).sum
    .ok s (leBytes 4 n.pSus ++ leBytes 4 (toUj n.r) ++ leBytes 4 (n.c / 65536) ++ leBytes 4 (if n.pmbusLost then 0xFFFFFFFF else sat32 n.boardMw) ++
      leBytes 1 n.ladder ++ leBytes 1 (shedClasses n.ladder) ++
      leBytes 2 (b2n n.breach + 2 * b2n n.pmbusLost + 4 * b2n n.corrLimit + 8 * b2n n.drawing) ++
      (List.range 21).flatMap fun d => leBytes 4 (toUj (last 1 d)) ++ leBytes 4 (toUj (last 2000 d)) ++ leBytes 4 (toUj (last 120000 d)))

/-- A layer named by an identifier is guarded (R106). -/
def State.guardedLayer (s : State) (id : Nat) : Bool :=
  (idType id = 3 || idType id = 4) && (s.layer (layerIndex id)).cfg.guarded

def cmdEnergySetClass : Cmd where
  spec := specEnergySetClass
  param j _ := chkId j 0 [1, 3, 4, 6, 8] ++ chk 2 (j.u8 2 ≤ 7) ++ rsv j 3 1
  names j := nameAt j 0
  protect j s := if s.guardedLayer (j.u16 0) then some 16 else none
  run j s :=
    let c := j.u8 2
    let i := idIndex (j.u16 0)
    .ok (match idType (j.u16 0) with
      | 1 => { s with nrg := { s.nrg with chClass := modAt s.nrg.chClass i fun _ => c } }
      | 6 => { s with nrg := { s.nrg with headClass := modAt s.nrg.headClass i fun _ => c } }
      | 8 => { s with nrg := { s.nrg with encClass := modAt s.nrg.encClass i fun _ => c } }
      -- R517: of a layer placed on no head, at the next Stitch boundary.
      | _ => if (s.layerHeads (layerIndex (j.u16 0))).isEmpty && j.req.txn = 0 then s.atBoundary j else s.putClass j) []

/-! ### Load in a breach (R366) -/

/-- Commands that R366 names whatever they add: DEC_START, SLICE_LOCK lock, ENC_START, HEAD_ENABLE, LAYER_ENABLE, applied to an
object of effective class 0, and those that move the object they name to class 0. -/
def State.loads0 (j : Job) (before after : State) : Bool :=
  let id := j.u16 0
  let i := idIndex id
  let cls (s : State) : Nat := match idType id with
    | 1 => s.chClassAs true i
    | 6 => s.headClassAs true i
    | 8 => s.encClassAs true i
    | _ => (s.layer (layerIndex id)).cfg.eff
  match 256 * j.cls + j.op with
  | 0x1102 | 0x2502 | 0x2106 | 0x2005 => cls after = 0
  | 0x210A => j.u8 4 = 1 && cls after = 0
  | 0x4003 | 0x1201 => cls before ≠ 0 && cls after = 0
  | _ => false

/-- The forecast of class-0 work as accepted, at position 30: class-0 channels and encode channels, the output of class-0 heads with
the fetch of their class-0 layers, and a targeted BIST run (R478). -/
def State.forecast0 (s : State) : Nat :=
  let decode := ((List.range 64).map fun ch => if s.chClassAs true ch = 0 then s.chEnergy true ch 30 else 0).sum
  let compose := ((List.range 32).map fun h =>
    if s.headClassAs true h = 0 then s.headForecast true h 30 (fun c => c.eff = 0) else 0).sum
  let encode := ((List.range 16).map fun ec => if s.encClassAs true ec = 0 then s.encEnergy true ec 30 else 0).sum
  decode + compose + encode + s.bistWork

/-- The last check of R104: in a breach, a command that would raise the forecast of class-0 work (R366), with the state it would
leave. DETAIL is the shortfall in mW. -/
def budgetErr (j : Job) (before after : State) : Option Err :=
  if !before.nrg.breach then none
  else if State.loads0 j before after || before.forecast0 < after.forecast0 then
    some ⟨eBudget, sat16 (2 * (after.nrg.corrected (after.forecast true 30) - after.nrg.eSus) / 1000000)⟩
  else none

/-- What a command gives once the budget has been asked (R104 step 7). -/
def withBudget (j : Job) (s : State) (r : CmdResult) : CmdResult :=
  let ask (s1 : State) : CmdResult := match budgetErr j s s1 with
    | some e => .fail e.status e.detail
    | none => r
  match r with
  | .ok s1 _ | .part s1 _ _ | .later s1 | .done s1 => ask s1
  | .fail _ _ | .failWith _ _ _ => r

end Sys2Proof.Machine
end

