-- ==== Sys2Proof/Machine/Flags.lean ====
section
/-! DEFINITION. Status words and flags computed from the state: HIF_STATUS (Table 3-6), GET_STATUS flags (Table 4-30). -/
namespace Sys2Proof.Machine

/-- Commands taken from PCIe and not completed. -/
def State.pcieOutstanding (s : State) : Bool := (s.hif.inflight ++ s.hif.held).any fun j => j.req.transport = .pcie

/-- `QUIESCED` (Table 3-6). -/
def State.quiesced (s : State) : Bool := !s.hif.enable && !s.pcieOutstanding

/-- HIF_STATUS. -/
def State.hifStatus (s : State) : Nat :=
  b2n s.hif.ready + 2 * s.hif.hoopState + 16 * b2n s.hif.panic + 32 * b2n s.hif.cfgErr + 64 * b2n s.quiesced

/-- `DOMAINS_ON` (Table 4-30). -/
def State.domainsOn (s : State) : Nat := ((List.range 21).map fun d => b2n (s.domainOn d) * 2 ^ d).sum

/-- `FLAGS` of GET_STATUS section 0 (Table 4-30). -/
def State.statusFlags (s : State) : Nat :=
  b2n s.clk.established + 2 * b2n s.ses.supervised + 4 * b2n s.ses.hbLost + 8 * b2n s.nrg.breach

/-- Transactions that count against the limit of four (Table 5-2). -/
def State.openTxns (s : State) : Nat := s.txn.live.length

end Sys2Proof.Machine
end

