-- ==== Sys2Proof/Machine/Session.lean ====
section
/-! DEFINITION. Sessions, roles, the heartbeat and event masks (spec/03 R94-R99, spec/04 R110), NOP, IDENTIFY, GET_STATUS. -/
namespace Sys2Proof.Machine

/-! ### Small SYS commands (R115-R117) -/

def cmdNop : Cmd where
  spec := specNop
  run j s := .ok s j.req.payload

def cmdIdentify : Cmd where
  spec := specIdentify
  run _ s :=
    let o := s.hoop.otp
    .ok s (leBytes 4 0x4A587264 ++ leBytes 4 o.rev ++ leBytes 8 o.serial ++ leBytes 4 s.hoop.fwHoop ++ leBytes 4 s.hoop.fwBobbin ++
      leBytes 2 0x0100 ++ leBytes 1 o.lifecycle ++ leBytes 1 s.hoop.running ++ leBytes 2 o.dramGib ++ zeros 2 ++
      leBytes 4 o.arb ++ zeros 28)

/-- Cluster codes of Table 1-2 in ascending order. -/
def clusterCodes : List Nat :=
  [0x01, 0x02, 0x10, 0x11, 0x12, 0x13, 0x18, 0x20, 0x21, 0x22, 0x23, 0x30, 0x40, 0x48, 0x50, 0x58, 0x60, 0x70]

def cmdGetStatus : Cmd where
  spec := specGetStatus
  param j _ := chk 0 (j.u8 0 ≤ 2) ++ rsv j 1 3
  run j s :=
    match j.u8 0 with
    | 0 => .ok s (leBytes 8 s.stitch ++ timeBytes s.local ++ leBytes 1 s.hif.hoopState ++ leBytes 1 s.pwr.pstate ++
        leBytes 1 s.ses.sessions.length ++ leBytes 1 s.openTxns ++ leBytes 2 s.statusFlags ++ zeros 2 ++ leBytes 4 s.domainsOn)
    -- R420: the recovery loader serves section 0 only.
    | 1 => if s.loader then .fail eState 0 else
      .ok s (clusterCodes.zipIdx.flatMap fun c => leBytes 1 c.1 ++ zeros 3 ++ leBytes 4 (s.pwr.eccCorr.getD c.2 0) ++
        leBytes 4 (s.pwr.eccUnc.getD c.2 0))
    | _ => if s.loader then .fail eState 0 else .ok s (s.pwr.domainOff.flatMap (leBytes 4))

/-- R110: bit 12 always reads as 1. -/
def maskOf (n : Nat) : Nat := n ||| 0x1000

def cmdSetEventMask : Cmd where
  spec := specSetEventMask
  param j _ := rsvBits j 0 4 0xFFFF0001 ++ rsv j 4 4
  run j s :=
    if j.req.session = 0 then
      .ok { s with ses := { s.ses with masks0 := s.ses.masks0.set (index0 j.req.transport) (maskOf (j.u32 0)) } } []
    else .ok (s.modSession j.req.session fun x => { x with mask := maskOf (j.u32 0) }) []

/-! ### Opening and closing (R94-R97) -/

/-- The transports a role can be opened over (Table 3-10). -/
def roleOver (role : Nat) (tr : Transport) : Bool :=
  match tr with
  | .network => true
  | .pcie | .spi => role = 2 || role = 4
  | .safetySpi => false

/-- A challenge belongs to the sender: the transport, and on the network the source address and port (R91). -/
def Challenge.of (c : Challenge) (r : Request) : Bool :=
  c.transport = r.transport && (r.transport ≠ .network || (c.peer = r.peer && c.udp = r.udp))

/-- Give a network session the events held since a reset (R137). -/
def State.giveHeld (s : State) (give : State → Event → State) : State :=
  if s.now < s.ses.heldUntil then s.ses.heldEvents.foldl give s else s

def cmdSessionOpen : Cmd where
  spec := specSessionOpen
  param j _ :=
    if j.u8 0 = 0 then chk 1 (j.u8 1 = 0) ++ rsv j 2 2 ++ chk 4 (j.bytes 4 16 = zeros 16) ++ chk 20 (j.bytes 20 16 = zeros 16)
    else chk 0 (j.u8 0 ≤ 1) ++ chk 1 (1 ≤ j.u8 1 && j.u8 1 ≤ 4) ++ rsv j 2 2
  run j s :=
    let r := j.req
    let others := s.ses.challenges.filter fun c => !c.of r
    if j.u8 0 = 0 then
      let (b, s) := s.takeBytes 16
      let c : Challenge := { transport := r.transport, peer := r.peer, udp := r.udp, bytes := b, issued := s.now }
      .ok { s with ses := { s.ses with challenges := others ++ [c] } } (b ++ zeros 4)
    else
    let role := j.u8 1
    let nonce := j.bytes 4 16
    -- One MODE 1 request uses up the challenge, whatever it is answered (R96).
    let used := { s with ses := { s.ses with challenges := others } }
    match s.ses.challenges.find? fun c => c.of r && s.now < c.issued + 10000000000 with
    | none => .failWith used eState 0
    | some c =>
    if !roleOver role r.transport then .failWith used eDenied 0 else
    match s.hoop.keys.getD (role - 1) none with
    | none => .failWith used eNoObject 17
    | some key =>
    if (hmacSha256 key (c.bytes ++ nonce ++ [BitVec.ofNat 8 role])).take 16 ≠ j.bytes 20 16 then
      .failWith ({ used with ses := { used.ses with proofFailures := satAdd32 used.ses.proofFailures 1 } }.record
        0x0501 0 [role, index0 r.transport]) eDenied 0
    else if role = 3 && s.ses.sessions.any (fun x => x.role = 3 && x.transport = .network) then .failWith used eBusy 0
    else match ((List.range 15).map (· + 1)).find? fun n => !s.ses.sessions.any fun x => x.number = n with
    | none => .failWith used eNoResource 0
    | some n =>
      let x : Session := { number := n, role, transport := r.transport, peer := r.peer, udp := r.udp, port := r.port,
                           key := if r.transport = .network then hmacSha256 key (nonce ++ c.bytes) else [], lastAccepted := s.now }
      let s1 := { used with ses := { used.ses with sessions := used.ses.sessions ++ [x] } }
      let pay := zeros 16 ++ leBytes 1 n ++ zeros 3
      if r.transport = .network then
        -- Held events follow the reply, ahead of any later event (R137).
        let s2 := s1.replyAt j 0 0 s.stitch32 pay
        .done (s2.giveHeld fun s e => if x.mask.testBit e.op then s.offerNet n e else s)
      else .ok s1 pay

/-- A session that closes abandons its update unless it has been activated (R421); chunks that wait are answered. -/
def State.abandonUpdate (s : State) (n : Nat) (tr : Transport) : State :=
  let u := s.hoop.upd
  if (u.st = .receiving || u.st = .verified) && u.session = n && u.transport = tr then
    let s1 := { s with hoop := { s.hoop with upd := { u with st := .idle, chunks := [] } } }
    s1.forEach u.chunks fun c s => s.finish c.2.2 eState 0 []
  else s

/-- A session closes (R76, R97): its transactions roll back, its deferred commands and shadow copies are discarded. -/
def State.closeSession (s : State) (n : Nat) : State :=
  match s.session? n with
  | none => s
  | some x =>
    let s := (s.rollbackSession n x.transport).abandonUpdate n x.transport
    { s with
      ses := { s.ses with sessions := s.ses.sessions.filter fun y => y.number ≠ n }
      txn := { s.txn with
        deferred := s.txn.deferred.filter fun d => d.job.req.session ≠ n
        live := s.txn.live.map fun y => { y with orphan := y.orphan || (y.session = n && y.transport = x.transport) } } }

def cmdSessionClose : Cmd where
  spec := specSessionClose
  param j _ := chk 0 (j.u8 0 ≤ 15 && !(j.u8 0 = 0 && j.req.session = 0)) ++ rsv j 1 3
  run j s :=
    let n := if j.u8 0 = 0 then j.req.session else j.u8 0
    match s.session? n with
    | none => .fail eSession n
    | some _ =>
    if n ≠ j.req.session && s.roleOf j.req ≠ 2 then .fail eDenied 4
    -- The reply leaves in the session that closes.
    else .done ((s.reply j 0 0 []).closeSession n)

/-- NETWORK_SESSION_IDLE_CLOSE: no accepted datagram for 300 s (R97). -/
def sessionIdle (n : Nat) (s : State) : State :=
  match s.session? n with
  | some x => if x.transport = .network && x.lastAccepted + 300000000000 ≤ s.now then s.closeSession n else s
  | none => s

/-! ### The safety heartbeat (R98, R99) -/

/-- Supervision is suspended from the seal of an entry into DOZE or REST, 12 µs after the sleep request (R386, Table 16-5). -/
def State.hbPaused (s : State) : Bool :=
  s.ses.hbSuspended || s.pwr.trans.any fun t => !t.waking && decide (2 ≤ t.target) && t.origin.any fun o => decide (o + 12000 ≤ s.now)

/-- The window of the heartbeat has ended without one (R99), before supervision was suspended. -/
def State.hbOverdue (s : State) : Bool :=
  s.ses.supervised && !s.ses.hbLost && !s.hbPaused && decide (s.ses.hbDeadline ≤ s.now)

def cmdSafetyHeartbeat : Cmd where
  spec := specSafetyHeartbeat
  param j _ := chk 0 (j.u16 0 = 0 || (20 ≤ j.u16 0 && j.u16 0 ≤ 1000)) ++ rsv j 2 2
  run j s :=
    let p := if j.u16 0 = 0 then s.ses.hbPeriodMs else j.u16 0
    -- A heartbeat at or after the deadline is late: the link is lost first (R99).
    let late := s.hbOverdue
    let s := if late then ({ s with ses := { s.ses with hbLost := true, hbLostAt := s.ses.hbDeadline } }).record 0x0502 0 [s.ses.hbPeriodMs] else s
    let s1 := if s.ses.hbLost then s.record 0x0503 0 [(s.now - s.ses.hbLostAt) / 1000000] else s
    .ok { s1 with ses := { s1.ses with supervised := true, hbPeriodMs := p, hbDeadline := s.now + p * 1000000, hbLost := false } }
      (leBytes 4 (j.u32 4))

/-- HEARTBEAT_LOST: the window has ended (R99). -/
def heartbeatLost (s : State) : State :=
  if !(s.hbOverdue) then s else
  ({ s with ses := { s.ses with hbLost := true, hbLostAt := s.ses.hbDeadline } }).record 0x0502 0 [s.ses.hbPeriodMs]

/-- HELD_EVENTS_DISCARD: 60 s after READY (R137). -/
def heldDiscard (s : State) : State :=
  if s.ses.heldUntil ≤ s.now then { s with ses := { s.ses with heldEvents := [] } } else s

end Sys2Proof.Machine
end

