-- ==== Sys2Proof/Machine/Power.lean ====
section
/-! DEFINITION. Power states, entry, wake and PSTATE commands (spec/16). -/
namespace Sys2Proof.Machine

/-- RTC time in counts of 1/32,768 s. -/
def State.rtcTicks (s : State) : Nat := s.rtc.1 * 32768 + s.rtc.2

/-- EVT_PSTATE (Table 16-11). -/
def State.evtPstate (s : State) (code state prev reason arg0 : Nat) : State :=
  s.raise 0x0A 0 (leBytes 1 code ++ leBytes 1 state ++ leBytes 1 prev ++ leBytes 1 reason ++ leBytes 4 arg0 ++ zeros 8)

/-! ### Checks (R378, R380) -/

/-- The checks of an entry to HUSH (R378). -/
def State.hushErr (s : State) : Option Err :=
  let watch := (List.range 64).filter fun ch => s.chClass ch = 0 && (s.src ch).st ≠ .closed
  let load := (watch.map fun ch => s.chForecast ch 0).sum
  let room := (((s.coreUses s.stitch).filter fun c => c.core < 2).map fun c => stitchNs / c.mult).sum
  if 8 < watch.length then some ⟨eState, 0x1000⟩
  else match (List.range 32).find? fun h => 8 ≤ h && (s.head h).st = .selfRefresh with
    | some h => some ⟨eState, headId h⟩
    | none => if room < load then some ⟨eNoResource, 0x1000⟩ else none

/-- Link directions in use in the last 2,000 Stitches (R447). -/
def State.linkBusy (s : State) : Bool :=
  s.lnk.links.any fun l => !l.quiet23 s.stitch

/-- The first refuser of Table 16-4, in check order. -/
def State.refuser (s : State) (target : Nat) : Option Nat :=
  let deep := 2 ≤ target
  let shown (h : Nat) : Bool := [HeadState.scanning, .closing, .srEntry, .selfRefresh].contains (s.head h).st && s.anyBanner h
  if s.ses.vetoes0.any id || s.ses.sessions.any (·.veto) then some 9
  else if !s.txn.live.isEmpty then some 2
  else if s.hoop.upd.st = .receiving || s.hoop.upd.st = .verified then some 3
  else if s.hoop.sampler.st = .copying then some 4
  else if deep && s.hoop.sensors.any (fun x => !x.faulty && 100000 < x.mC) then some 10
  else if s.linkBusy then some 8
  else if deep && s.aud.tones.any (·.playing) then some 7
  else if (List.range 32).any shown then some 5
  else if s.lay.tiles.any (fun t => (s.head t.head).st = .scanning && t.cfg.guarded && t.judged && picotState t.state) then some 1
  else none

/-! ### Entry (R381, R382) -/

/-- Close the heads that an entry does not keep (R378, R381 step 2). -/
def State.closeHeads (s : State) (target : Nat) : State :=
  s.forEach (List.range 32) fun h s =>
    if s.kept target h then s else (s.modHead h fun x => { x with accEnable := false }).setDisable h

/-- Heads that an entry does not keep have ended their closing frames. -/
def State.headsClosed (s : State) (target : Nat) : Bool :=
  (List.range 32).all fun h => s.kept target h || (s.head h).st = .untimed || (s.head h).st = .disabled

/-- An entry begins. -/
def State.startEntry (s : State) (target : Nat) (job : Option Job) : State :=
  let t : Transition := { target, waking := false, job, stitch := s.stitch }
  ({ s with pwr := { s.pwr with trans := some t } }).closeHeads target

/-- Step 3 and 4 of Table 16-5, at the boundary of the first Stitch for which no work was planned for the domains to be gated, or
later, once the heads are closed: the request replies, ENTERED is raised, the sleep request is latched and the ports of those domains close. -/
def State.pstateBoundary (s : State) : State :=
  match s.pwr.trans with
  | none => s
  | some t =>
    if t.waking || t.origin.isSome || s.stitch < t.stitch + 3 || !s.headsClosed t.target then s else
    let s := (s.finish? t.job 0 0 []).evtPstate 1 t.target s.pwr.pstate 0 0
    { s with pwr := { s.pwr with trans := some { t with origin := some s.now, job := none }
                                 portOpen := s.pwr.portOpen.mapIdx fun d x => x && s.onIn t.target d } }

/-- Begin an exit (R384): the domains of its target power up. -/
def State.startExit (s : State) (target source : Nat) (job : Option Job) : State :=
  let t : Transition := { target, waking := true, origin := some s.now, job, source, stitch := s.stitch, rtc := s.rtcTicks }
  { s with pwr := { s.pwr with trans := some t, latched := none } }

/-- State that DOZE and REST lose: pictures, latched frames and verdicts (R35, R377), tones and audio in progress. What commands
have set stays: a lock, and the claim of a tone (R376). -/
def State.dropPictures (s : State) : State :=
  let s := s.forEach (List.range 96) fun n s =>
    if n < 64 && (s.ctx n).running then
      (s.modSlk n fun k => { k with pic := 0, checked := [], lateNow := [], lateAt := [], cleanSince := s.now, cleanPassed := none }).flushCtx n .seeking
    else s.releaseFrames (srcId n)
  let tile (t : Tile) : Tile := { t.toLost with queue := [], applied := none }
  let layer (l : Layer) : Layer := { l with queue := [], applied := none }
  -- The packets that wait for their frames are lost with the pictures (log entry 70).
  let lose (c : Src) : Src := { c with wait := [], cand := none }
  let s := { s with net := { s.net with srcs := s.net.srcs.map lose } }
  let s := { s with lay := { s.lay with tiles := s.lay.tiles.map tile, layers := s.lay.layers.map layer } }
  let s := s.forEach (List.range 64) fun k s => s.settleFlips (128 + k)
  let group (g : Group) : Group := { g with buffer := [], played := none }
  let quiet (t : Tone) : Tone := { t with playing := false }
  s.modAud fun a => { a with tones := a.tones.map quiet, groups := a.groups.map group }

/-- Shared-SRAM banks that are not retained lose their contents, and are initialised again on the wake (R375): their bytes, and the
records of the Gimp table, which lies in one of them (R196; log entry 100). The numbers of the records go on. -/
def State.dropBanks (s : State) : State :=
  let kept (bank : Nat) : Bool := s.pwr.wake.retain.testBit bank
  let empty (q : Quota) : Quota := { q with recs := [], lost := [] }
  let gone := !kept (Config.gimpBank % 16)
  { s with mem := s.mem.filter fun c => !(s.place c.1 = .sram && !kept ((c.1 - 0x1000000000) / 0x400000))
           dec := if gone then { s.dec with gimpCh := s.dec.gimpCh.map empty, gimpG := s.dec.gimpG.map empty } else s.dec }

/-- The ports of Ethernet in a state: DOZE keeps ETH0 at 10GBASE-R, REST none (Table 16-2). -/
def State.gateEth (s : State) (st : Nat) : State :=
  let down (p : NetPort) : NetPort := { p with link := false, curSpeed := 0, fecActive := false }
  let slow (p : NetPort) : NetPort :=
    { p with curSpeed := if p.link then 2 else 0, fecActive := false, searchRate := 2, searchSince := s.now }
  let f (i : Nat) (p : NetPort) : NetPort := if st < 2 then p else if st = 2 && i = 0 then slow p else down p
  { s with net := { s.net with ports := s.net.ports.mapIdx f } }

/-- The domains of a state are gated (Table 16-5 steps 5-8). -/
def State.gate (s : State) (st : Nat) : State :=
  let on := (List.range 21).map (s.onIn st)
  let s := s.forEach ((List.range 16).filter fun p => !on.getD (13 + p / 4) true) fun p s =>
    -- A training that is cut off is answered as a command to a block that is off (log entry 101).
    let job := (s.dp p).job
    ((s.modDp p fun x => { x with training := false, job := none, pattern := 0 }).setDpState p 4).finish? job eDomainOff (0xF20D + p / 4) []
  let s := s.forEach (if on.getD 17 true then [] else List.range 4) fun n s => s.disableLink n
  let s := s.forEach (if st = 1 then (List.range 64).filter fun ch => s.chClass ch ≠ 0 else []) fun ch s =>
    (s.sliceShed ch).shedChannel ch
  let s := if 2 ≤ st then (s.dropPictures.dropBanks).gateEth st else s
  let s := if st = 3 then
      let s := s.forEach (s.ses.sessions.map (·.number)) fun n s => s.closeSession n
      { s with hif := { s.hif with ready := false, pcieUp := false } }
    else s
  { s with pwr := { s.pwr with on, portOpen := on, pstate := st } }

/-- A source is enabled and valid in a state (R383, Table 16-7). -/
def State.wakeValid (s : State) (st source : Nat) : Bool :=
  1 ≤ source && source ≤ 7 && s.pwr.wake.sources.testBit (source - 1) && (if 6 ≤ source then st = 2 else 1 ≤ st)

/-- A wake source is latched (R382, R384). -/
def State.wakeBy (s : State) (source : Nat) : State :=
  match s.pwr.trans with
  | none => if s.wakeValid s.pwr.pstate source then s.startExit s.pwr.wake.target source none else s
  | some t =>
    if t.waking then
      -- R384: an event latched during the exit is counted and not acted on.
      if s.wakeValid s.pwr.pstate source then { s with pwr := { s.pwr with exitEvents := s.pwr.exitEvents + 1 } } else s
    else if !s.wakeValid t.target source then s else
    match t.origin with
    | none =>
      -- Before the reply of step 3.
      let s1 := ({ s with pwr := { s.pwr with trans := none } }).countRefusal 6
      match t.job with
      | some j => s1.finish j eRefused 6 []
      | none => s1.evtPstate 3 s.pwr.pstate s.pwr.pstate 6 0
    | some o =>
      if (s.now - o) / 40 < 300 then
        (({ s with pwr := { s.pwr with trans := none, portOpen := s.pwr.on } }).countRefusal 6).evtPstate 4 s.pwr.pstate s.pwr.pstate 6 0
      else if s.pwr.latched.isNone then { s with pwr := { s.pwr with latched := some source } } else s

/-- PSTATE_ENTRY_COMPLETE: 16 µs after the sleep request (Table 16-5, R373, R388). -/
def pstateEntryComplete (s : State) : State :=
  match s.pwr.trans with
  | none => s
  | some t =>
    match t.waking, t.origin with
    | false, some o =>
      if s.now < o + 16000 then s else
      let deep := 2 ≤ t.target
      let s1 := s.gate t.target
      let s2 := { s1 with
        pwr := { s1.pwr with trans := none, lastStitch := s.stitch, enteredRtc := s.rtcTicks, sealRtc := s.rtcTicks
                             sealLocal := s.local - (s.now - (o + 12000)) }
        ses := { s1.ses with hbSuspended := s1.ses.hbSuspended || deep } }
      match s.pwr.latched with
      | some w => s2.startExit s.pwr.wake.target w none
      | none => s2
    | _, _ => s

/-! ### Exit (R384-R386) -/

/-- Local time after REST (R385): the RTC's, or the sealed time moved on by the RTC when that is not later. -/
def State.restTime (s : State) : Nat :=
  let rtcNs := s.rtc.1 * nsPerSec + s.rtc.2 * nsPerSec / 32768
  if s.pwr.sealLocal < rtcNs then rtcNs else s.pwr.sealLocal + (s.rtcTicks - s.pwr.sealRtc) * nsPerSec / 32768

/-- The exit from REST (R385): PCIe comes back from reset, the local clock is loaded, both domains listen again and READY rises
(Table 3-8). The domain that was active stays the active one, and the clock holds over from its last steering (R320, R327). -/
def State.leaveRest (s : State) : State :=
  let h := s.hif
  let s := { s with hif := { h with
    ready := true, pcieUp := true, enable := false, irqStatus := 0, irqMask := 0, sqs := List.replicate 4 {}, cqs := List.replicate 4 {}
    eq := {}, rbuf := {}, apertureBase := 0, fenceValue := 0, msix := true } }
  let t := s.restTime
  let s := (s.modClk fun c => { c with localNs := s.pwr.sealLocal }).stepClock ((t : Int) - (s.pwr.sealLocal : Int))
  let again (d : Domain) : Domain := { d with st := .listening, master := none, lockRun := 0 }
  (s.modClk fun c => { c with domains := c.domains.map again, stepDue := true, referenceSeen := false }).raiseIrq 10

/-- WAKE_COMPLETE: the target is reached; what commands created is kept by the image of R376. -/
def wakeComplete (s : State) : State :=
  match s.pwr.trans with
  | none => s
  | some t =>
    if !t.waking then s else
    let prev := s.pwr.pstate
    let ms := (t.rtc - s.pwr.enteredRtc) * 1000 / 32768
    let s1 := if prev = 3 then s.leaveRest else s
    let on := (List.range 21).map (s1.onIn t.target)
    let s2 := { s1 with pwr := { s1.pwr with
      on, portOpen := on, pstate := t.target, trans := none, lastWake := t.source, lastStitch := s1.stitch } }
    let s3 := if 2 ≤ prev then { s2 with ses := { s2.ses with hbSuspended := false, hbDeadline := s2.now + s2.ses.hbPeriodMs * 1000000 } } else s2
    let eth (i : Nat) (p : NetPort) : NetPort :=
      if 5 ≤ i || prev < 2 || (i = 0 && prev = 2) then p else { p with searchRate := 1, searchSince := s3.now }
    let s4 := { s3 with net := { s3.net with ports := s3.net.ports.mapIdx eth } }
    let s5 := s4.forEach (if t.target = 0 then List.range 4 else []) fun n s =>
      if (s.lk n).enable && (s.lk n).st = 0 then s.trainLink n false else s
    let wait (x : Tile) : Tile := if x.cfg.guarded then { x with freshFrom := some s5.now } else x
    let s5 := if 2 ≤ prev then { s5 with lay := { s5.lay with tiles := s5.lay.tiles.map wait } } else s5
    let s6 := if t.target = 0 then s5.modIo fun x => { x with electrodes := x.electrodes.map Electrode.restart } else s5
    (s6.evtPstate 2 t.target prev t.source (sat32 ms)).finish? t.job 0 0 []

/-! ### Requests (R379) -/

/-- A refused entry: its reply, or REFUSED for a scheduled one (R380). -/
inductive Entry where
  | err (e : Err)
  | refused (refuser : Nat)
  | start

/-- The checks of an entry. -/
def State.entry (s : State) (target : Nat) : Entry :=
  match (if target = 1 then s.hushErr else none) with
  | some e => .err e
  | none => match s.refuser target with
    | some i => .refused i
    | none => .start

def State.setVeto (s : State) (r : Request) (v : Bool) : State :=
  if r.session ≠ 0 then s.modSession r.session fun x => { x with veto := v }
  else { s with ses := { s.ses with vetoes0 := modAt s.ses.vetoes0 (index0 r.transport) fun _ => v } }

def cmdPstateRequest : Cmd where
  spec := specPstateRequest
  param j _ :=
    let sched := j.u8 1 = 1
    chk 0 (j.u8 0 ≤ 5 && (!sched || (1 ≤ j.u8 0 && j.u8 0 ≤ 3))) ++ chk 1 (j.u8 1 ≤ 1) ++ rsv j 2 2 ++ chk 4 (sched = (j.u32 4 ≠ 0))
  run j s :=
    let target := j.u8 0
    if s.pwr.trans.isSome || (s.hoop.bist.st = 1) then .fail eBusy 0
    else if target = 4 then .ok (s.setVeto j.req true) []
    else if target = 5 then .ok (s.setVeto j.req false) []
    else if j.u8 1 = 1 then .ok { s with pwr := { s.pwr with scheduled := some (target, j.u32 4) } } []
    else if target = s.pwr.pstate then .ok s []
    else if s.pwr.pstate < target && s.clk.refLost then .fail eBusy 0
    else if target < s.pwr.pstate then .later (s.startExit target 8 (some j))
    else match s.entry target with
      | .err e => .fail e.status e.detail
      | .refused i => .failWith (s.countRefusal i) eRefused i
      | .start => .later (s.startEntry target (some j))

/-- SCHEDULED_ENTRY: the RTC second is AT (R379, R380). -/
def scheduledEntry (s : State) : State :=
  match s.pwr.scheduled with
  | none => s
  | some (target, at_) =>
    if s.rtc.1 % m32 ≠ at_ then s else
    let s := { s with pwr := { s.pwr with scheduled := none } }
    let st := s.pwr.pstate
    if s.pwr.trans.isSome || s.hoop.bist.st = 1 || target ≤ st then s
    else if s.clk.refLost then s.evtPstate 3 st st 0 0
    else match s.entry target with
      | .err _ => s.evtPstate 3 st st 0 0
      | .refused i => (s.countRefusal i).evtPstate 3 st st i 0
      | .start => s.startEntry target none

/-- RTC_ALARM (R383). -/
def rtcAlarm (s : State) : State :=
  if s.pwr.wake.alarm ≠ 0 && s.rtc.1 % m32 = s.pwr.wake.alarm && !(s.clk.faults.any fun f => f.1 = 1) then s.wakeBy 1 else s

/-- An enabled input has changed (R383): a SAFE input, or GPIO0-GPIO7. -/
def State.wakeInput (s : State) (i : Nat) : State :=
  if i < 8 && s.pwr.wake.gpioMask.testBit i then s.wakeBy 5
  else if 48 ≤ i && s.pwr.wake.safeMask.testBit (i - 48) then s.wakeBy 4 else s

/-- An approach group that is scanned reports approach (R383). -/
def State.wakeApproach (s : State) (before : State) : State :=
  let rose := (List.range 4).any fun g =>
    s.pwr.wake.touchGroups.testBit g && s.io.approach.getD g false && !before.io.approach.getD g false
  if rose then s.wakeBy 2 else s

def cmdWakeConfig : Cmd where
  spec := specWakeConfig
  param j _ :=
    rsvBits j 0 2 0xFF80 ++ chk 2 (j.u8 2 ≤ 1) ++ rsvBits j 8 4 0xFC000000 ++ chk 13 (j.u8 13 < 16) ++ rsv j 14 2
  run j s :=
    let w : Wake := { sources := j.u16 0, target := j.u8 2, gpioMask := j.u8 3, alarm := j.u32 4, retain := j.u32 8
                      safeMask := j.u8 12, touchGroups := j.u8 13 }
    .ok { s with pwr := { s.pwr with wake := w } } []

def cmdPstateStatus : Cmd where
  spec := specPstateStatus
  run _ s :=
    let veto := s.ses.vetoes0.any id || s.ses.sessions.any (·.veto)
    let (p, a) := s.pwr.scheduled.getD (0xFF, 0)
    .ok s (leBytes 1 s.pwr.pstate ++ leBytes 1 p ++ leBytes 1 s.pwr.lastWake ++ leBytes 1 (b2n veto + 2 * b2n s.pwr.trans.isSome) ++
      leBytes 4 a ++ leBytes 8 s.pwr.lastStitch)

def cmdRefusalLog : Cmd where
  spec := specRefusalLog
  run _ s :=
    .ok s (leBytes 4 s.pwr.refTotal ++ zeros 4 ++
      (List.range 10).flatMap fun i => leBytes 4 (s.pwr.refCount.getD i 0) ++ leBytes 8 (s.pwr.refLast.getD i 0))

end Sys2Proof.Machine
end

