-- ==== Sys2Proof/Machine/Hoop.lean ====
section
/-! DEFINITION. Hoop management: sensors, the event log, the Sampler, keys and images, update, the debug port (spec/18). -/
namespace Sys2Proof.Machine

def State.modHoop (s : State) (f : Hoop → Hoop) : State := { s with hoop := f s.hoop }

/-! ### Sensors and supplies (R403-R406, R494) -/

/-- EVT_THERMAL (Table 18-1), at most once per code and sensor in a Stitch. -/
def State.evtThermal (s : State) (sensor code : Nat) (temp : Int) (arg : Nat) : State :=
  s.raiseOnce 0x08 (0xF300 + sensor) code (leBytes 1 code ++ zeros 3 ++ leBytes 4 (unsigned 32 temp) ++ leBytes 4 arg ++ zeros 4)

/-- One reading of a sensor, with the codes of the events it raises. -/
def Sensor.read (x : Sensor) (mC : Int) : Sensor × List Nat :=
  let plausible := decide (-55000 ≤ mC ∧ mC ≤ 150000 ∧ mC - x.mC ≤ 20000 ∧ x.mC - mC ≤ 20000)
  if x.faulty then
    let run := if plausible then x.okRun + 1 else 0
    if 100 ≤ run then ({ x with mC, faulty := false, okRun := 0 }, [6]) else ({ x with mC, okRun := run }, [])
  else if !plausible then ({ x with mC, faulty := true, okRun := 0 }, [5])
  else if !x.warned && 95000 ≤ mC then ({ x with mC, warned := true }, [1])
  else if x.warned && mC ≤ 90000 then ({ x with mC, warned := false }, [2])
  else ({ x with mC }, [])

/-- Hottest and coolest healthy sensors. -/
def State.extremes (s : State) : Option ((Nat × Int) × (Nat × Int)) :=
  let l := (s.hoop.sensors.zipIdx.filter fun x => !x.1.faulty).map fun x => (x.2, x.1.mC)
  match l with
  | [] => none
  | y :: ys => some (ys.foldl (fun a b => if a.2 < b.2 then b else a) y, ys.foldl (fun a b => if b.2 < a.2 then b else a) y)

/-- The temperature difference between regions (R494). -/
def State.checkGradient (s : State) : State :=
  match s.extremes with
  | none => s
  | some (hot, cold) =>
    let d := hot.2 - cold.2
    if !s.hoop.gradient then
      if 30000 < d then
        (s.modHoop fun h => { h with gradient := true, gradientSensor := hot.1, gradientOkSince := none
                                     throttlePending := some (Config.sensorDomain hot.1) }).evtThermal hot.1 3 hot.2 cold.1
      else s
    else s.modHoop fun h => { h with
      gradientOkSince := if d ≤ 25000 then some (h.gradientOkSince.getD s.now) else none }

/-- The setpoint nearest to a wanted one that R507 allows from `mv` after `dt` ns: 0.55-0.85 V, at most 10 mV in each 10 µs, and
at most 0.30 V from VDD_SRAM. -/
def coreStep (mv want sram dt : Nat) : Nat :=
  let goal := max 550 (min want 850)
  let goal := max (sram - 300) (min goal (sram + 300))
  let reach := 10 * (dt / 10000)
  max (mv - reach) (min goal (mv + reach))

/-- The Hoop moves the VDD_CORE setpoint; in HUSH, DOZE and REST it stays (R507). -/
def State.setCore (s : State) (want : Nat) : State :=
  let h := s.hoop
  if s.pwr.pstate ≠ 0 then s else
  let mv := coreStep h.coreMv want (h.supplies.getD 2 800) (s.now - h.coreMvAt)
  if mv = h.coreMv then s else
  (s.modHoop fun h => { h with coreMv := mv, coreMvAt := s.now }).emit (.vout mv)

/-- Nominal voltages of the monitors in mV (Table 23-6); the first two follow the VDD_CORE setpoint. -/
def supplyNominal (setpoint : Nat) : List Nat := [setpoint, setpoint, 800, 750, 1800, 3300, 900, 1200, 1050, 900, 500]

/-- A reading lies more than 5% from nominal (R404). -/
def outOfWindow (nominal mv : Nat) : Bool := mv * 100 > nominal * 105 || mv * 100 < nominal * 95

/-- Supply excursions are logged at their start and end (R404). -/
def State.checkSupplies (s : State) (mv : List Nat) : State :=
  let nom := supplyNominal s.hoop.coreMv
  s.forEach (List.range 11) fun i s =>
    let out := outOfWindow (nom.getD i 0) (mv.getD i 0)
    if out = s.hoop.supplyOut.getD i false then s else
    (s.modHoop fun h => { h with supplyOut := modAt h.supplyOut i fun _ => out }).record 0x0B01 0 [i, mv.getD i 0, b2n out]

/-- SENSOR_SAMPLE (R403). -/
def sensorSample (o : SensorObs) (s : State) : State :=
  let reads := s.hoop.sensors.zipIdx.map fun x => x.1.read (o.temps.getD x.2 x.1.mC)
  let s1 := s.modHoop fun h => { h with
    sensors := reads.map (·.1), sampleStitch := s.stitch32, supplies := o.supplies
    rails := o.rails.mapIdx fun i r => if i < h.pmbus.length then r else none }
  let s2 := s1.forEach reads.zipIdx fun r s => s.forEach r.1.2 fun code s => s.evtThermal r.2 code r.1.1.mC 0
  ((s2.checkSupplies o.supplies).setCore o.wantMv).checkGradient

/-- GRADIENT_CLEAR (R494). -/
def gradientClear (s : State) : State :=
  match s.hoop.gradient, s.hoop.gradientOkSince with
  | true, some t =>
    if s.now < t + nsPerSec then s else
    let i := s.hoop.gradientSensor
    (s.modHoop fun h => { h with gradient := false, gradientOkSince := none, throttle := none, throttlePending := none }).evtThermal i 4
      (s.hoop.sensors.getD i {}).mC 0
  | _, _ => s

/-- The words of a group of SENSOR_READ (R406). -/
def State.sensorWords (s : State) (g : Nat) : List Nat :=
  let h := s.hoop
  let temps := h.sensors.map fun x => if x.faulty then 0x80000000 else unsigned 32 x.mC
  let supplies := (List.range 11).map (fun i => h.supplies.getD i 0) ++ [h.coreMv]
  let rails := (List.range 4).flatMap fun i => match h.rails.getD i none with
    | some w => (List.range 4).map fun k => w.getD k 0
    | none => List.replicate 4 0xFFFFFFFF
  match g with
  | 0 => temps
  | 1 => supplies
  | 2 => rails
  | _ => temps ++ supplies ++ rails

def cmdSensorRead : Cmd where
  spec := specSensorRead
  param j _ := chk 0 (j.u8 0 ≤ 3) ++ rsv j 1 3
  run j s :=
    let w := s.sensorWords (j.u8 0)
    .ok s (leBytes 1 (j.u8 0) ++ leBytes 1 w.length ++ zeros 2 ++ leBytes 4 s.hoop.sampleStitch ++ w.flatMap (leBytes 4))

/-! ### The log (R410-R412) -/

/-- Bytes 0-27 of a record (Table 18-8). -/
def Rec.head (r : Rec) : List Byte :=
  leBytes 8 r.stitch ++ leBytes 2 r.code ++ leBytes 2 r.origin ++ (List.range 4).flatMap fun i => leBytes 4 (r.args.getD i 0)

def Rec.logBytes (r : Rec) : List Byte := r.head ++ leBytes 4 r.seq
def Rec.samplerBytes (r : Rec) : List Byte := r.head ++ leBytes 4 (crc32 r.head)

/-- An entry of the incident table (R412). -/
def Incident.bytes (i : Incident) : List Byte :=
  leBytes 4 i.number ++ leBytes 8 i.stitch ++ leBytes 2 i.code ++ leBytes 2 i.origin ++ leBytes 2 i.position ++ leBytes 1 i.slot ++
  leBytes 1 (b2n i.valid) ++ zeros 12

/-- The entries a LOG_READ can see, oldest first, each with its number. -/
def State.logEntries (s : State) (source : Nat) : List (Nat × List Byte) :=
  match source with
  | 0 => s.hoop.log.map fun r => (r.seq, r.logBytes)
  | 1 => s.hoop.summary.map fun r => (r.seq, r.logBytes)
  | _ => s.hoop.sampler.incidents.reverse.map fun i => (i.number, i.bytes)

/-- A run of at most `n` items: OK, or OK_PARTIAL when fewer follow (R111). -/
def partialReply (s : State) (n : Nat) (head : Nat → List Byte) (items : List (List Byte)) : CmdResult :=
  let got := items.take n
  let payload := head got.length ++ got.flatten
  if got.length < n then .part s got.length payload else .ok s payload

def cmdLogRead : Cmd where
  spec := specLogRead
  param j _ := chk 0 (j.u8 0 ≤ 2) ++ chk 1 (1 ≤ j.u8 1 && j.u8 1 ≤ 31) ++ rsv j 2 2
  run j s :=
    let es := s.logEntries (j.u8 0)
    let from_ := if j.u32 4 = 0 then es else es.dropWhile fun e => e.1 ≠ j.u32 4
    if j.u32 4 ≠ 0 && from_.isEmpty then .fail eState 0
    else partialReply s (j.u8 1) (fun n => leBytes 4 es.length ++ leBytes 1 n ++ zeros 3) (from_.map (·.2))

/-! ### The Sampler (R425-R429) -/

def State.modSampler (s : State) (f : Sampler → Sampler) : State := s.modHoop fun h => { h with sampler := f h.sampler }

/-- The store freezes and its copy to flash begins (R427). -/
def State.freezeSampler (s : State) : State :=
  let m := s.hoop.sampler
  let t := m.trigger.getD {}
  let s1 := (s.modSampler fun m => { m with st := .frozen, copyFailed := false }).evtSampler 2 t.code t.origin
  if s.hoop.flashPresent then s1.modSampler fun m => { m with st := .copying }
  else (s1.modSampler fun m => { m with copyFailed := true }).evtSampler 4 t.code t.origin

/-- SAMPLER_FREEZE: the POST records after a trigger are written (R426). -/
def samplerFreeze (s : State) : State :=
  let m := s.hoop.sampler
  if m.st = .postTrigger && m.remaining = 0 then s.freezeSampler else s

/-- The last 64 entries before a trigger's own log entry (R411). Where a reset has lost that entry or the ring has overwritten it, the
ring holds no entry that precedes it. -/
def summaryOf (log : List Rec) (trigger : Option Rec) : List Rec :=
  match trigger with
  | none => keepNewest 64 log
  | some t =>
    let own (r : Rec) : Bool := r.stitch = t.stitch && r.code = t.code && r.origin = t.origin && r.args = t.args
    if log.any own then keepNewest 64 (log.takeWhile fun r => !own r) else []

/-- SAMPLER_COPY_DONE (R427). -/
def samplerCopyDone (ok : Bool) (s : State) : State :=
  let m := s.hoop.sampler
  if m.st ≠ .copying then s else
  let t := m.trigger.getD {}
  if !ok then (s.modSampler fun m => { m with st := .frozen, copyFailed := true }).evtSampler 4 t.code t.origin
  else
    let i : Incident := { number := m.incident, stitch := t.stitch, code := t.code, origin := t.origin, position := m.triggerPos.getD 0
                          slot := (m.incident - 1) % 4, valid := true, records := m.ring }
    (s.modHoop fun h => { h with
      summary := summaryOf h.log m.trigger
      sampler := { m with st := .armed, ring := [], trigger := none, triggerPos := none, incidents := (i :: m.incidents).take 4 }
    }).evtSampler 3 t.code t.origin

/-- BROWN_OUT (R426, R510): the store freezes at once. -/
def brownOut (mv : Nat) (s : State) : State :=
  if 500 ≤ mv then s else
  let s1 := s.trigger 0x0104 0 [mv]
  if s1.hoop.sampler.st = .postTrigger then s1.freezeSampler else s1

def cmdSamplerArm : Cmd where
  spec := specSamplerArm
  param j _ := chk 0 (j.u16 0 ≤ 1024) ++ rsv j 2 2
  run j s :=
    let post := j.u16 0
    match s.hoop.sampler.st with
    | .armed => .ok (s.modSampler fun m => { m with post }) []
    | .frozen => .ok (s.modSampler fun m => { m with
        st := .armed, post, ring := [], trigger := none, triggerPos := none, copyFailed := false }) []
    | .postTrigger => .fail eBusy 0
    | .copying => .fail eBusy 0

def cmdSamplerTrigger : Cmd where
  spec := specSamplerTrigger
  run j s := .ok (s.trigger 0x0107 0 [j.u32 0, j.req.session]) []

def SamplerState.code : SamplerState → Nat
  | .armed => 0 | .postTrigger => 1 | .frozen => 2 | .copying => 3

def cmdSamplerRead : Cmd where
  spec := specSamplerRead
  param j _ := chk 0 (j.u8 0 ≤ 4) ++ chk 1 (1 ≤ j.u8 1 && j.u8 1 ≤ 31) ++ rsv j 2 2
  run j s :=
    let m := s.hoop.sampler
    let held : Option (List Rec × Option Nat) := if j.u8 0 = 0 then some (m.ring, m.triggerPos) else
      (m.incidents[j.u8 0 - 1]?).bind fun i => if i.valid then some (i.records, some i.position) else none
    match held with
    | none => .fail eState 0
    | some (rs, pos) =>
      if rs.length ≤ j.u32 4 then .fail eState 0
      else partialReply s (j.u8 1)
        (fun n => leBytes 1 m.st.code ++ leBytes 1 n ++ leBytes 2 (pos.getD 0xFFFF) ++ leBytes 4 m.lost)
        ((rs.drop (j.u32 4)).map Rec.samplerBytes)

/-! ### Linmi images (R417, R418) -/

/-- Sections of an image: type, offset, length. -/
def imgSections (b : List Byte) : List (Nat × Nat × Nat) :=
  (List.range (min (uAt b 13 1) 7)).map fun i => (uAt b (72 + 12 * i) 2, uAt b (76 + 12 * i) 4, uAt b (80 + 12 * i) 4)

/-- The bytes of the first section of a type. -/
def imgSection (b : List Byte) (type : Nat) : Option (List Byte) :=
  ((imgSections b).find? fun x => x.1 = type).map fun x => (b.drop (256 + x.2.1)).take x.2.2

/-- Sections lie within the payload, aligned, without overlapping, and are those the image's type has (R418, R420). -/
def sectionsOk (b : List Byte) : Bool :=
  let ss := imgSections b
  let len := uAt b 16 4
  let n (t : Nat) : Nat := (ss.filter fun x => x.1 = t).length
  let apart (x y : Nat × Nat × Nat) : Bool := x.2.1 + x.2.2 ≤ y.2.1 || y.2.1 + y.2.2 ≤ x.2.1
  1 ≤ uAt b 13 1 && uAt b 13 1 ≤ 7 && ss.all (fun x => 1 ≤ x.1 && x.1 ≤ 4 && x.2.1 % 64 = 0 && x.2.1 + x.2.2 ≤ len) &&
  (List.range ss.length).all (fun i => (List.range i).all fun k => apart (ss.getD i (0, 0, 0)) (ss.getD k (0, 0, 0))) &&
  (match uAt b 6 1 with
    | 1 => ss.length = 1 && n 1 = 1
    | 2 => ss.length = 1 && n 2 = 1
    | _ => n 1 = 1 && n 2 = 1 && n 3 = 1 && n 4 ≤ 1)

/-- The running revision's bit of REV_MASK. -/
def State.revBit (s : State) : Nat := if s.hoop.otp.rev = 0xA0 then 0 else 1

/-- R418 and R423: the first failure of an image, as status and DETAIL. `types`: the image types accepted. -/
def State.imageErr (s : State) (b : List Byte) (types : List Nat) : Option Err :=
  let o := s.hoop.otp
  let type := uAt b 6 1
  let slot := uAt b 14 1
  if b.take 4 ≠ [0x4C, 0x4E, 0x4D, 0x49] then some ⟨eParam, 0⟩
  else if uAt b 4 2 ≠ 1 then some ⟨eParam, 4⟩
  else if sha384 (b.drop 256) ≠ (b.drop 24).take 48 then some ⟨eIntegrity, 1⟩
  else if 4 ≤ slot || o.revoked.testBit slot || !Config.ecdsaP384Verify slot (b.take 160) ((b.drop 160).take 96) then some ⟨eIntegrity, 2⟩
  else if uAt b 12 1 < o.arb then some ⟨eVersion, o.arb⟩
  else if !(uAt b 7 1).testBit s.revBit then some ⟨eVersion, 2 ^ s.revBit⟩
  else if !types.contains type then some ⟨eParam, 6⟩
  else if uAt b 16 4 + 256 ≠ b.length || !sectionsOk b || (type = 1 && 1536 * 1024 < uAt b 16 4) then some ⟨eParam, 72⟩
  else none

/-! ### Update (R420-R424) -/

def State.modUpd (s : State) (f : Upd → Upd) : State := s.modHoop fun h => { h with upd := f h.upd }

/-- The slot an update writes: the one not running, or slot A under the recovery loader (R420, R421). -/
def State.targetSlot (s : State) : Nat := if s.loader then 0 else 1 - s.hoop.running

def State.setSlot (s : State) (i : Nat) (f : Slot → Slot) : State := s.modHoop fun h => { h with slots := modAt h.slots i f }

/-- The update's own session sends the request (R421). -/
def State.ownsUpdate (s : State) (r : Request) : Bool :=
  s.hoop.upd.session = r.session && s.hoop.upd.transport = r.transport

def cmdUpdBegin : Cmd where
  spec := specUpdBegin
  param j _ := chk 0 (257 ≤ j.u32 0 && j.u32 0 ≤ 29360128) ++ rsv j 8 8
  run j s :=
    match s.hoop.upd.st with
    | .trial => .fail eState 0
    | .receiving | .verified | .activated => .fail eBusy 0
    | .idle =>
      -- The loader erases slot A when it has read the image's TYPE.
      let s1 := if s.loader then s else s.setSlot s.targetSlot fun _ => {}
      .ok (s1.modUpd fun u => { u with
        st := .receiving, session := j.req.session, transport := j.req.transport, length := j.u32 0, crc := j.u32 4, received := []
        chunks := [] }) []

def cmdUpdChunk : Cmd where
  spec := specUpdChunk
  param j _ := rsv j 4 4
  run j s :=
    let u := s.hoop.upd
    let data := j.req.payload.drop 8
    let off := j.u32 0
    if u.st ≠ .receiving || !s.ownsUpdate j.req then .fail eState 0
    else if off + data.length ≤ u.received.length then
      if (u.received.drop off).take data.length = data then .ok s [] else .fail eIntegrity 3
    else if off ≠ u.received.length || u.length < off + data.length then .fail eParam 16
    else
      let got := u.received ++ data
      let erase := s.loader && u.received.length < 256 && 256 ≤ got.length && uAt got 6 1 = 3
      .later ((s.when erase (·.setSlot s.targetSlot fun _ => {})).modUpd fun u =>
        { u with received := got, chunks := u.chunks ++ [(off, data, j)] })

/-- UPD_CHUNK_PROGRAMMED: the oldest chunk is in flash (R422); a Sampler copy takes precedence. -/
def updChunkProgrammed (s : State) : State :=
  if s.hoop.sampler.st = .copying then s else
  match s.hoop.upd.chunks with
  | [] => s
  | (_, _, j) :: rest => (s.modUpd fun u => { u with chunks := rest }).finish j 0 0 []

def cmdUpdVerify : Cmd where
  spec := specUpdVerify
  param j _ := rsv j 0 4
  run j s :=
    let u := s.hoop.upd
    let b := u.received
    if u.st ≠ .receiving || !s.ownsUpdate j.req || b.length ≠ u.length || !u.chunks.isEmpty then .fail eState 0
    else
      let types := if !s.loader then [3] else if u.recoveryHoop then [1, 2, 3] else [1, 3]
      let err := if crc32 b ≠ u.crc then some ⟨eIntegrity, 3⟩ else s.imageErr b types
      match err with
      | some e => .failWith (s.modUpd fun u => { u with st := .idle }) e.status e.detail
      | none =>
        let type := uAt b 6 1
        let arb := uAt b 12 1
        let slot : Slot := { valid := true, version := uAt b 8 4, arb, bytes := b }
        let s1 := if type = 3 then s.setSlot s.targetSlot fun _ => slot else s
        .ok (s1.modUpd fun u => { u with st := .verified, imgType := type, imgArb := arb, imgVersion := uAt b 8 4 })
          (leBytes 1 type ++ leBytes 1 arb ++ zeros 2)

/-- The KEYS section is written to the key area (R413): 32 zero bytes erase a key, an absent key stays. -/
def State.writeKeys (s : State) (b : List Byte) : State :=
  match (imgSection b 4).bind Config.unwrapKeys with
  | none => s
  | some ks => s.modHoop fun h => { h with
      flashKeys := h.flashKeys.mapIdx fun i old => match ks[i]? with
        | some k => if k.isEmpty then old else if k = zeros 32 then none else some k
        | none => old }

/-- A warm reset 100 ms later. -/
def State.warmIn100 (s : State) : State := s.modHoop fun h => { h with warmAt := some (s.now + 100000000) }

def cmdUpdActivate : Cmd where
  spec := specUpdActivate
  param j _ := chk 0 (j.u8 0 ≤ 1) ++ rsv j 1 3
  run j s :=
    let u := s.hoop.upd
    if u.st ≠ .verified || !s.ownsUpdate j.req then .fail eState 0
    else if u.imgType = 1 then .ok (s.modHoop fun h => { h with
        fwHoop := u.imgVersion, upd := { h.upd with st := .idle, recoveryHoop := true } }) []
    else if u.imgType = 2 then .ok (s.modHoop fun h => { h with fwBobbin := u.imgVersion, upd := { h.upd with st := .idle } }) []
    else
      let slot := s.targetSlot
      let s1 := (s.writeKeys u.received).record 0x0A01 0 [slot, u.imgVersion, u.imgArb]
      let s2 := s1.modHoop fun h => { h with
        summary := keepNewest 64 h.log, bootSlot := slot
        upd := { h.upd with st := .activated, previous := h.running, noTrial := s.loader } }
      .ok (if j.u8 0 = 1 || s.loader then s2.warmIn100 else s2) []

/-- A trial ends without confirmation (Table 18-6). -/
def State.failTrial (s : State) (result : Nat) : State :=
  let sl := s.hoop.slots.getD s.hoop.running {}
  (s.record 0x0A03 0 [s.hoop.running, sl.version, sl.arb]).modHoop fun h => { h with
    bootSlot := h.upd.previous, upd := { h.upd with st := .idle, lastResult := result } }

/-- The update is another open session's: it is that session's to roll back until its trial begins (R421). -/
def State.othersUpdate (s : State) (r : Request) : Bool :=
  let u := s.hoop.upd
  !s.ownsUpdate r && (match u.st with
    | .receiving | .verified => true
    | .activated => s.ses.sessions.any fun x => x.number = u.session && x.transport = u.transport
    | _ => false)

def cmdUpdRollback : Cmd where
  spec := specUpdRollback
  param j _ := rsv j 0 4
  run j s :=
    let u := s.hoop.upd
    if s.othersUpdate j.req then .fail eState 0 else
    match u.st with
    | .receiving | .verified =>
      let s1 := s.modUpd fun u => { u with st := .idle, chunks := [] }
      .ok (s1.forEach u.chunks fun c s => s.finish c.2.2 eState 0 []) []
    | .activated => .ok (s.modHoop fun h => { h with bootSlot := h.running, upd := { h.upd with st := .idle } }) []
    | .trial => .ok (s.failTrial 4).warmIn100 []
    | .idle =>
      let other := 1 - s.hoop.running
      let sl := s.hoop.slots.getD other {}
      if !sl.valid then .fail eState 0
      else if sl.arb < s.hoop.otp.arb then .fail eVersion s.hoop.otp.arb
      else .ok (s.modHoop fun h => { h with bootSlot := other }) []

def UpdState.code : UpdState → Nat
  | .idle => 0 | .receiving => 1 | .verified => 2 | .activated => 3 | .trial => 4

def cmdUpdStatus : Cmd where
  spec := specUpdStatus
  run _ s :=
    let h := s.hoop
    let u := h.upd
    let a := h.slots.getD 0 {}
    let b := h.slots.getD 1 {}
    let v (x : Slot) : Nat := if x.valid then x.version else 0
    .ok s (leBytes 1 u.st.code ++ leBytes 1 h.running ++ leBytes 1 u.lastResult ++ leBytes 1 h.otp.arb ++ leBytes 4 u.received.length ++
      leBytes 4 u.length ++ leBytes 4 (v a) ++ leBytes 4 (v b) ++ leBytes 1 a.arb ++ leBytes 1 b.arb ++
      leBytes 1 (b2n a.valid + 2 * b2n b.valid) ++ leBytes 1 h.otp.lifecycle ++
      leBytes 4 (if u.st = .trial then (u.trialUntil - s.now) / 1000000 else 0) ++ zeros 4)

/-- TRIAL_HEALTHY (R424): the OTP counter advances and the configuration's OTP requests are applied (R414). -/
def trialHealthy (s : State) : State :=
  let h := s.hoop
  let due := h.upd.st = .trial || (h.upd.st = .idle && h.upd.noTrial)
  let healthy := s.hif.ready && h.bobbinDown.isEmpty && h.bobbinOkSince + nsPerSec ≤ s.now && !h.samplerSinceReset &&
    s.now ≤ h.releasedAt + 60 * nsPerSec
  if !(due && healthy) then s else
  let sl := h.slots.getD h.running {}
  let (life, revoke) : Nat × Nat := match imgSection sl.bytes 3 with
    | some c =>
      let (_, _, _, l, r, _) := Config.boardConfig c
      (l, r)
    | none => (0, 0)
  let secure := h.otp.lifecycle = 0 && life = 1
  let otp := { h.otp with arb := max h.otp.arb sl.arb, revoked := h.otp.revoked ||| revoke, lifecycle := if secure then 1 else h.otp.lifecycle }
  (s.modHoop fun h => { h with
    otp, debugOpen := h.debugOpen && !secure, upd := { h.upd with st := .idle, lastResult := 1, noTrial := false }
  }).record 0x0A02 0 [h.running, sl.version, sl.arb]

/-- TRIAL_TIMEOUT: 60 s without health. -/
def trialTimeout (s : State) : State :=
  if s.hoop.upd.st = .trial && s.hoop.upd.trialUntil ≤ s.now then (s.failTrial 2).warmIn100 else s

/-! ### The debug port (R415, R416) -/

/-- DEBUG_UNLOCK_CHALLENGE: the serial number and 40 random bytes. -/
def debugUnlockChallenge (s : State) : State :=
  if s.hoop.otp.lifecycle ≠ 1 then s else
  let (r, s) := s.takeBytes 40
  let c := leBytes 8 s.hoop.otp.serial ++ r
  (s.modHoop fun h => { h with unlock := some (c, s.now) }).emit (.debugPort c)

/-- A signed response to an outstanding challenge. -/
def responseOk (key : Nat) (c : Option (List Byte × Nat)) (now : Nat) (sig : List Byte) : Bool := match c with
  | some (b, t) => decide (now ≤ t + 60 * nsPerSec) && Config.ecdsaP384Verify key b sig
  | none => false

/-- DEBUG_UNLOCK_RESPONSE. -/
def debugUnlockResponse (sig : List Byte) (s : State) : State :=
  if s.hoop.otp.lifecycle ≠ 1 then s else
  let ok := responseOk 4 s.hoop.unlock s.now sig
  (s.modHoop fun h => { h with unlock := none, debugOpen := h.debugOpen || ok }).record 0x0504 0 [b2n ok]

/-- FIELD_RETURN_CHALLENGE: "FRTN", the serial number and 36 random bytes, on an unlocked port in SECURE. -/
def fieldReturnChallenge (s : State) : State :=
  if s.hoop.otp.lifecycle ≠ 1 || !s.hoop.debugOpen then s else
  let (r, s) := s.takeBytes 36
  let c := [0x46, 0x52, 0x54, 0x4E] ++ leBytes 8 s.hoop.otp.serial ++ r
  (s.modHoop fun h => { h with fieldReturn := some (c, s.now) }).emit (.debugPort c)

/-- FIELD_RETURN_RESPONSE up to the warm reset of step 4: whether it was accepted. -/
def State.fieldReturnResponse (s : State) (sig : List Byte) : State × Bool :=
  if s.hoop.otp.lifecycle ≠ 1 || !s.hoop.debugOpen then (s, false) else
  let ok := responseOk 5 s.hoop.fieldReturn s.now sig
  let s1 := s.modHoop fun h => { h with fieldReturn := none }
  if !ok then (s1.record 0x0505 0 [0], false) else
  let gone : List (Option (List Byte)) := List.replicate 5 none
  ((s1.modHoop fun h => { h with keys := gone, flashKeys := gone, otp := { h.otp with lifecycle := 2 } }).record 0x0505 0 [1], true)

end Sys2Proof.Machine
end

