-- ==== Sys2Proof/Machine/Ingest.lean ====
section
/-! DEFINITION. Packets: filter, contention, sequence spaces, merge, reorder and delivery (spec/06 R142-R159). -/
namespace Sys2Proof.Machine

/-! ### Acceptance (R150-R152, Table 6-4) -/

/-- A packet passes to the channel as accepted: counters, activity, path and jitter. -/
def State.accepted (s : State) (n : Nat) (k : PktRec) : State :=
  let c := s.src n
  let p := c.paths.getD k.path {}
  let s := if c.dual && p.down then s.evtNet (srcId n) 6 k.path 0 0 else s
  let s := if c.st = .silent then s.evtNet (srcId n) 12 0xFF (sat32 ((k.at_ - c.lastAccepted) / 1000000)) 0 else s
  let hz := if c.typ = 4 then audHz c.p2 else 90000
  let jit := match k.path, c.jitterRef with
    | 0, some (a, ts) =>
      let d : Int := ((k.arrival : Int) - a) - signed 32 (k.ts + m32 - ts % m32) * nsPerSec / hz
      ((c.jitterNs : Int) + ((d.natAbs : Int) - c.jitterNs) / 16).toNat
    | _, _ => c.jitterNs
  s.modSrc n fun c =>
    { c with st := .active, lastArrival := k.arrival, lastAccepted := k.at_, jitterNs := jit
             jitterRef := if k.path = 0 then some (k.arrival, k.ts) else c.jitterRef
             paths := modAt c.paths k.path fun p =>
               { p with accepted := p.accepted + 1, lastAccepted := some k.at_, down := false, ownedLast := k.at_ } }

/-- A contention packet (R148, R151): its interval, and the CONTESTED flag of the frames whose ARRIVAL lies in it (R208). -/
def State.contend (s : State) (n : Nat) (k : PktRec) : State :=
  let s := s.modPortCtr k.port fun c => { c with rxContention := c.rxContention + 1 }
  let c := s.src n
  let until_ := k.at_ + 2 * nsPerSec
  let going := c.contested && k.at_ < c.contestedUntil
  let s := if c.contested && !going then s.evtNet (srcId n) 8 0xFF (sat32 c.contestCount) 0 else s
  let recent := c.pastContests.filter fun x => decide (s.now < x.2 + 10 * nsPerSec)
  let s := s.modSrc n fun c =>
    { c with contested := true, contestedUntil := if going then max c.contestedUntil until_ else until_
             contestedSince := if going then min c.contestedSince k.at_ else k.at_
             pastContests := if going || c.contestedUntil = 0 then recent else (c.contestedSince, c.contestedUntil) :: recent
             contestCount := if going then c.contestCount + 1 else 1
             ctr := { c.ctr with contention := c.ctr.contention + 1 } }
  let s := if n < 64 then s.modQuota (0x1000 + n) fun q => { q with recs := q.recs.map fun r =>
      if k.at_ ≤ r.arrivalAt && r.arrivalAt < until_ then { r with flags := setFlag r.flags 5 } else r } else s
  if going then s else s.evtNet (srcId n) 7 k.path k.ssrc (k.src % m32)

/-- CONTEST_CLEAR (R151). -/
def contestClear (n : Nat) (s : State) : State :=
  let c := s.src n
  if c.contested && c.contestedUntil ≤ s.now then
    (s.modSrc n fun c => { c with contested := false }).evtNet (srcId n) 8 0xFF (sat32 c.contestCount) 0
  else s

/-- CHANNEL_SILENT (Table 6-4). -/
def channelSilent (n : Nat) (s : State) : State :=
  let c := s.src n
  if c.st = .active && c.lastAccepted + nsPerSec ≤ s.now then
    (s.modSrc n fun c => { c with st := .silent }).evtNet (srcId n) 11 0xFF 0 0
  else s

/-- PATH_DOWN (Table 6-13). A path that has accepted nothing yet counts from the opening of its channel. -/
def pathDown (n path : Nat) (s : State) : State :=
  let c := s.src n
  let p := c.paths.getD path {}
  let quiet := decide (p.lastAccepted.getD p.since + 100000000 ≤ s.now)
  if c.st ≠ .closed && c.dual && path < 2 && !p.down && quiet then
    (s.modSrc n fun c => { c with paths := modAt c.paths path fun p => { p with down := true } }).evtNet (srcId n) 5 path 0 0
  else s

/-! ### Access units (R153-R157) -/

/-- A run of pending packets with one timestamp, in number order. -/
def unitRuns : List PktRec → List (List PktRec)
  | [] => []
  | k :: ks => match unitRuns ks with
    | [] => [[k]]
    | r :: rs => match r with
      | [] => [k] :: rs
      | x :: _ => if k.ts = x.ts && !k.marker then (k :: r) :: rs else [k] :: r :: rs

/-- The numbers of a unit: its first, its last, and whether its marker packet is there. The gap before the next unit belongs
to it while its marker is missing. -/
def unitSpan (nextE : Option Int) (run : List PktRec) (after : Option PktRec) : Int × Int × Bool :=
  let lo := (run.head?.map (·.ext)).getD 0
  let hi := (run.getLast?.map (·.ext)).getD 0
  let start := match nextE with
    | some e => e
    | none => lo
  let marked := run.any (·.marker)
  (start, if marked then hi else match after with
    | some k => k.ext - 1
    | none => hi, marked)

/-- Missing numbers of a unit. -/
def unitMissing (start last : Int) (run : List PktRec) : List Int :=
  ((List.range (last - start + 1).toNat).map fun (i : Nat) => start + (i : Int)).filter fun e => !run.any fun k => k.ext = e

/-- The packet of a unit that arrived first: its DEPTH and REORDER govern it (R156). -/
def unitFirst (run : List PktRec) : Option PktRec :=
  run.foldl (fun a k => match a with
    | none => some k
    | some b => if k.at_ < b.at_ then some k else a) none

/-- Whether the unit at the front is delivered now: complete (R153), a TYPE 3 frame at its marker (R157), the end of its
window, or a packet more than REORDER above its lowest missing number (R154). The flag is "under R154". -/
def State.unitDue (s : State) (c : Src) (run : List PktRec) (after : Option PktRec) : Option Bool :=
  let (start, last, marked) := unitSpan c.nextE run after
  let gaps := unitMissing start last run
  match unitFirst run with
  | none => none
  | some f =>
  if marked && (gaps.isEmpty || c.typ = 3) then some false
  else if f.at_ + f.depthNs ≤ s.now then some true
  else match gaps.head?, c.h with
  | some g, some h => if g + (f.reorder : Int) < h then some true else none
  | _, _ => none

/-- A sample row data segment of RFC 4175: bytes, line, and first pixel (R157). -/
structure Segment where
  len : Nat
  line : Nat
  off : Nat
deriving DecidableEq, Repr

/-- The segment headers of an RFC 4175 payload and the data after them. -/
def segments : Nat → List Byte → List Segment × List Byte
  | 0, b => ([], b)
  | n + 1, b =>
    if b.length < 6 then ([], []) else
    let g : Segment := { len := beVal (b.take 2), line := beVal ((b.drop 2).take 2) % 0x8000, off := beVal ((b.drop 4).take 2) % 0x8000 }
    if byteAt b 4 < 0x80 then ([g], b.drop 6)
    else
      let (gs, rest) := segments n (b.drop 6)
      (g :: gs, rest)

/-- The sample groups of 4:2:2 10-bit data, five octets each: Cb, Y0, Cr, Y1. -/
def groups : Nat → List Byte → List (Nat × Nat × Nat × Nat)
  | 0, _ => []
  | n + 1, b =>
    if b.length < 5 then [] else
    let v := beVal (b.take 5)
    (bits v 39 30, bits v 29 20, bits v 19 10, bits v 9 0) :: groups n (b.drop 5)

/-- Write the sample groups of a segment from pixel `x` of line `y` into a picture `w` wide. -/
def putGroups (w y : Nat) : Nat → List (Nat × Nat × Nat × Nat) → Samples → Samples
  | _, [], p => p
  | x, (cb, y0, cr, y1) :: gs, p =>
    let c := y * chromaCols w + x / 2
    putGroups w y (x + 2) gs
      (if x + 1 < w then { y := (p.y.set (y * w + x) y0).set (y * w + x + 1) y1, cb := p.cb.set c cb, cr := p.cr.set c cr } else p)

/-- Unpack the payload of a TYPE 3 packet into a picture; with the segments that it brought. -/
def unpackInto (w h : Nat) (raw : List Byte) (p : Samples) : Samples × List Segment :=
  let b := raw.drop 2
  let (gs, data) := segments b.length b
  let (p, _) := gs.foldl (fun (a : Samples × List Byte) g =>
    let (p, data) := a
    (if g.line < h then putGroups w g.line g.off (groups g.len (data.take g.len)) p else p, data.drop g.len)) (p, data)
  (p, gs)

/-- The picture that a TYPE 3 or 5 frame starts from: the channel's previous frame (R157, R453); where there is none of its size,
values that the spec does not state (log entry 63). -/
def State.startFrame (s : State) (ch w h depth chroma : Nat) : State × Samples :=
  let c := s.ctx ch
  let prev := c.latest.map fun i => c.bufs.getD i {}
  match prev.bind fun b => if b.width = w && b.height = h && b.bitDepth = depth && b.chroma = chroma then b.row? 0 else none with
  | some p => (s, p)
  | none =>
    let n := chromaCols w * chromaLines chroma h
    let at_ (k i : Nat) : Nat := Config.freeNat (s.free + k + i) % 2 ^ depth
    ({ s with free := s.free + w * h + 2 * n },
      { y := (List.range (w * h)).map (at_ 0), cb := (List.range n).map (at_ (w * h)), cr := (List.range n).map (at_ (w * h + n)) })

/-- A frame of TYPE 3 is delivered (R157): its packets are unpacked into a heap buffer over the channel's previous frame, and every
cell that a part of it without data touches is tainted. Its last row is written at DECODE_DONE. -/
def State.deliverFrame (s : State) (ch : Nat) (d : Delivery) (a : AuInfo) (run : List PktRec) : State :=
  let object := 0x1000 + ch
  let (w, h) := ((s.src ch).p1, (s.src ch).p2)
  -- The frame before it is whole by then.
  let s := match (s.ctx ch).cur with
    | some p => s.plainDone ch p []
    | none => s
  let (s, r) := s.fillRec ch d a.seis a.field
  let (s, base) := s.startFrame ch w h 10 2
  let (pic, segs) := run.foldl (fun (x : Samples × List Segment) k =>
    let (p, gs) := unpackInto w h k.raw x.1
    (p, x.2 ++ gs)) (base, [])
  let there (x y : Nat) : Bool := segs.any fun g => g.line = y && g.off ≤ x && x < g.off + g.len / 5 * 2
  let cols := ceilDiv w 32
  let cells := ((List.range (w * h)).filterMap fun n =>
    if there (n % max 1 w) (n / max 1 w) then none else some (n / max 1 w / 32 * cols + n % max 1 w / 32)).eraseDups
  let (s, seq) := s.allocRec object { r with cells, width := w, height := h }
  let c := s.ctx ch
  match (List.range c.bufs.length).find? c.free with
  | none => (s.discardRec object seq).modCtx ch fun c => { c with discarded := c.discarded + 1 }
  | some i =>
    let u : CpbUnit := { seq, info := a, arrival := d.arrival, stitch := s.stitch, lost := d.lost }
    s.modCtx ch fun c => { c.modBuf i fun _ => { plainBuf seq w h 10 2 pic with decoding := true } with
      cur := some { unit := u, buf := i, rowsLeft := [] } }

/-- The facts of an access unit whose packets tell none. -/
def noInfo : AuInfo :=
  { bytes := 0, sps := none, missingPs := none, start := false, cra := false, rasl := false, recovery := none, poc := 0
    frameNum := 0, refKind := 0, refs := [], dropRefs := [], skippable := false, field := false, rowBins := []
    ctu := 16, slices := [], byRows := true, reorders := false, seis := [] }

/-- The packets of a unit that are handed on: a fragmentation unit with a missing fragment is discarded whole (R154). `fu`: the
fragments of the one under way. -/
def keepWhole : List PktRec → List PktRec → List PktRec
  | _, [] => []
  | fu, k :: ks =>
    let joins := fu.getLast?.any fun x => x.ext + 1 = k.ext
    if k.fragment = 0 then k :: keepWhole [] ks
    else if k.fragment = 1 then keepWhole [k] ks
    else if k.fragment = 2 then keepWhole (if joins then fu ++ [k] else []) ks
    else if joins then fu ++ k :: keepWhole [] ks
    else keepWhole [] ks

/-- Arrival of the newest packet: in local time and on the elapsed counter (R155). -/
def newestOf (l : List PktRec) : Nat × Nat :=
  l.foldl (fun a k => if k.arrival ≥ a.1 then (k.arrival, k.at_) else a) (0, 0)

/-- Slices that have lost some of their packets: those of the packets on either side of a gap, unless the gap ends with the slice or
begins before its first packet (R154, R183). -/
def hurtSlices (gaps : List Int) (run : List PktRec) (gone : List Nat) : List Nat :=
  ((run.filter fun k => (gaps.contains (k.ext + 1) && !k.endsSlice) || (gaps.contains (k.ext - 1) && 2 ≤ k.fragment)).map
    (·.slice)).eraseDups.filter fun j => !gone.contains j

/-- Deliver the unit at the front (R153-R155). -/
def State.deliverRun (s : State) (n : Nat) (run rest : List PktRec) (after : Option PktRec) (early : Bool) : State :=
  let c := s.src n
  let (start, last, marked) := unitSpan c.nextE run after
  let gaps := unitMissing start last run
  let kept := if c.typ = 3 then run else keepWhole [] run
  let newest := newestOf (if kept.isEmpty then run else kept)
  let ts := (run.head?.map (·.ts)).getD 0
  let wait := match unitFirst run with
    | some f => s.now - f.at_
    | none => 0
  let s := s.modSrc n fun c =>
    { c with wait := rest, nextE := some (last + 1), tail := if marked then none else some ts
             delivered := ((start, last, ts) :: c.delivered).take 64
             waitPeakNs := if early then max c.waitPeakNs wait else c.waitPeakNs
             ctr := { c.ctr with delivered := c.ctr.delivered + kept.length, lost := c.ctr.lost + gaps.length
                                 frames := c.ctr.frames + 1, incomplete := c.ctr.incomplete + b2n early } }
  let d : Delivery := { arrival := newest.1, at_ := newest.2, ts, legacy := run.any (·.legacy), lost := !gaps.isEmpty }
  let info := (kept.findSome? (·.au)).getD noInfo
  let gone := if gaps.isEmpty then [] else (List.range info.slices.length).filter fun j => !kept.any fun k => k.slice = j
  if c.typ = 3 then s.deliverFrame n d info run else s.deliverUnit n d info none gone (hurtSlices gaps run gone)

/-- Deliver every unit that is due, in number order. -/
def flushUnits (n : Nat) : Nat → State → State
  | 0, s => s
  | fuel + 1, s =>
    let c := s.src n
    match unitRuns c.wait with
    | [] => s
    | run :: rest =>
      let after := rest.head?.bind List.head?
      match s.unitDue c run after with
      | none => s
      | some early => flushUnits n fuel (s.deliverRun n run rest.flatten after early)

/-! ### Slices (R282) -/

/-- The channel delivers slice by slice: it is slice-locked, or such a unit is under way. -/
def State.bySlice (s : State) (n : Nat) : Bool :=
  n < 64 && ((s.src n).part.isSome || ((s.src n).typ ≤ 2 && (s.slice n).mode ≠ .off))

/-- The first slice of a unit is delivered: the unit, with its record, is in the CPB (R282). `run`: packets of it. -/
def State.openUnit (s : State) (n : Nat) (run : List PktRec) (d : Delivery) : State :=
  let seq := (s.quota (0x1000 + n)).nextSeq
  let f := unitFirst run
  let p : PartUnit := { ts := d.ts, seq, firstAt := (f.map (·.at_)).getD s.now, depthNs := (f.map (·.depthNs)).getD 0, next := 0 }
  let first (u : CpbUnit) : CpbUnit := if u.seq = seq then { u with whole := false } else u
  ((s.deliverUnit n d ((run.findSome? (·.au)).getD noInfo)).modCtx n fun c => { c with cpb := c.cpb.map first }).modSrc n fun c =>
    { c with part := some p }

/-- A span of numbers has been delivered for a unit. -/
def Src.spanDone (c : Src) (start last : Int) (ts : Nat) : List (Int × Int × Nat) := match c.delivered with
  | (a, b, x) :: l => if c.part.isSome && x = ts then (a, last, ts) :: l else ((start, last, ts) :: (a, b, x) :: l).take 64
  | [] => [(start, last, ts)]

/-- Slices of which nothing has come are delivered, lost whole, at the first packet `k` of a later one (R282). The gap before that
packet belongs to them, up to where the packet's own slice begins. -/
def State.skipSlices (s : State) (n : Nat) (k : PktRec) : State :=
  let c := s.src n
  let start := c.nextE.getD k.ext
  let last := if k.fragment ≤ 1 then k.ext - 1 else start - 1
  let from_ := (c.part.map (·.next)).getD 0
  let run := c.wait.filter fun x => x.ts = k.ts
  let s := match c.part with
    | some _ => s
    | none => s.openUnit n run { arrival := k.arrival, at_ := k.at_, ts := k.ts, legacy := k.legacy, lost := true }
  let seq := ((s.src n).part.map (·.seq)).getD 0
  let s := s.forEach ((List.range k.slice).drop from_) fun j s =>
    (s.deliverSlice n seq { n := j, arrival := 0, stitch := s.stitch, lost := true } 0).sliceGone n seq j
  s.modSrc n fun x =>
    { x with nextE := some (last + 1), tail := none, delivered := c.spanDone start last k.ts
             part := x.part.map fun p => { p with next := k.slice }
             ctr := { x.ctr with lost := x.ctr.lost + (last + 1 - start).toNat, frames := x.ctr.frames + b2n c.part.isNone
                                 incomplete := x.ctr.incomplete + b2n c.part.isNone } }

/-- Packets `mine` of one slice are delivered; `last` is the last number that goes with them. -/
def State.deliverPart (s : State) (n : Nat) (mine rest : List PktRec) (last : Int) (early : Bool) : State :=
  let c := s.src n
  let start := c.nextE.getD ((mine.head?.map (·.ext)).getD 0)
  let gaps := unitMissing start last mine
  let kept := keepWhole [] mine
  let newest := newestOf (if kept.isEmpty then mine else kept)
  let ts := (mine.head?.map (·.ts)).getD 0
  let j := (mine.head?.map (·.slice)).getD 0
  let marked := mine.any (·.marker)
  let k : SliceIn := { n := j, arrival := newest.1, stitch := s.stitch, lost := !gaps.isEmpty }
  let s := s.modSrc n fun c =>
    { c with wait := rest, nextE := some (last + 1), tail := none
             delivered := c.spanDone start last ts
             ctr := { c.ctr with delivered := c.ctr.delivered + kept.length, lost := c.ctr.lost + gaps.length
                                 frames := c.ctr.frames + b2n c.part.isNone, incomplete := c.ctr.incomplete + b2n (early && c.part.isNone) } }
  let s := match c.part with
    | some _ => s
    | none => s.openUnit n mine { arrival := newest.1, at_ := newest.2, ts, legacy := mine.any (·.legacy), lost := !gaps.isEmpty }
  let seq := ((s.src n).part.map (·.seq)).getD 0
  let s := ((s.deliverSlice n seq k newest.2).when kept.isEmpty (·.sliceGone n seq j)).modSrc n fun c =>
    { c with part := c.part.map fun p => { p with next := j + 1 } }
  if marked then
    match (s.src n).part with
    | some p => (s.closeSlices n p.seq).modSrc n fun c => { c with part := none }
    | none => s
  else s

/-- Close a unit whose end has not come: numbers up to `last` are lost with it. -/
def State.closePart (s : State) (n : Nat) (p : PartUnit) (last : Option Int) : State :=
  let c := s.src n
  let gone := match last, c.nextE with
    | some l, some e => (l + 1 - e).toNat
    | _, _ => 0
  (s.closeSlices n p.seq).modSrc n fun c =>
    { c with part := none, tail := if last.isSome then none else some p.ts
             nextE := match last with
               | some l => some (l + 1)
               | none => c.nextE
             ctr := { c.ctr with lost := c.ctr.lost + gone, incomplete := c.ctr.incomplete + 1 } }

/-- The slice at the front is delivered when it is complete, when a packet of a later slice or unit is there, or at the end of
its window. -/
def State.frontSlice (s : State) (n : Nat) (k : PktRec) (ks : List PktRec) : Option State :=
  let c := s.src n
  let mine := (k :: ks).takeWhile fun x => x.ts = k.ts && x.slice = k.slice
  let rest := (k :: ks).drop mine.length
  let hi := (mine.getLast?.map (·.ext)).getD k.ext
  let ends := (mine.getLast?.map (·.endsSlice)).getD false
  let past := match unitFirst mine with
    | some f => decide (f.at_ + f.depthNs ≤ s.now)
    | none => false
  let past := past || match c.part with
    | some p => decide (p.firstAt + p.depthNs ≤ s.now)
    | none => false
  if ends && (unitMissing (c.nextE.getD k.ext) hi mine).isEmpty then some (s.deliverPart n mine rest hi false)
  else match rest.head? with
  | some x => some (s.deliverPart n mine rest (if ends then hi else x.ext - 1) true)
  | none => if past then some (s.deliverPart n mine rest hi true) else none

/-- One delivery that is due on a slice-locked channel. -/
def State.sliceStep (s : State) (n : Nat) : Option State :=
  let c := s.src n
  match c.wait, c.part with
  | [], some p => if p.firstAt + p.depthNs ≤ s.now then some (s.closePart n p none) else none
  | [], none => none
  | k :: ks, some p =>
    if p.ts ≠ k.ts then some (s.closePart n p (some (k.ext - 1)))
    else if p.next < k.slice then some (s.skipSlices n k) else s.frontSlice n k ks
  | k :: ks, none => if 0 < k.slice then some (s.skipSlices n k) else s.frontSlice n k ks

/-- Deliver every slice that is due, in number order. -/
def flushSlices (n : Nat) : Nat → State → State
  | 0, s => s
  | fuel + 1, s => match s.sliceStep n with
    | some s => flushSlices n fuel s
    | none => s

/-- Deliver what is due. -/
def State.flush (s : State) (n : Nat) : State :=
  if s.bySlice n then flushSlices n (2 * (s.src n).wait.length + 4) s else flushUnits n (s.src n).wait.length s

/-- REORDER_WINDOW_EXPIRY (R154). -/
def reorderExpiry (n : Nat) (s : State) : State := if (s.src n).st = .closed then s else s.flush n

/-- TYPE 4: numbers that fall more than REORDER below the highest are declared lost (R158). -/
def State.audioLost (s : State) (n : Nat) : State :=
  let c := s.src n
  match c.h, c.nextE with
  | some h, some e =>
    let upto := h - (c.reorder : Int)
    let gone := ((List.range (upto - e).toNat).map fun (i : Nat) => e + (i : Int)).filter fun x => !c.seen.any fun y => y.1 = x
    if e < upto then
      s.modSrc n fun c => { c with nextE := some upto, ctr := { c.ctr with lost := c.ctr.lost + gone.length } }
    else s
  | _, _ => s

/-- Insert a packet in number order. -/
def insertPkt (k : PktRec) : List PktRec → List PktRec
  | [] => [k]
  | x :: xs => if k.ext ≤ x.ext then k :: x :: xs else x :: insertPkt k xs

/-- A packet of the established space is taken (R152-R154). -/
def State.takePkt (s : State) (n : Nat) (k : PktRec) : State :=
  let c := s.src n
  match c.seen.find? fun x => x.1 = k.ext with
  | some (_, ts, path, arrival) =>
    if ts ≠ k.ts then s.contend n k
    else
      let d : Int := if path = 0 then (k.arrival : Int) - arrival else (arrival : Int) - k.arrival
      -- Of two copies in the same nanosecond, path B's is the duplicate.
      let swap := k.path = 0 && path = 1 && k.arrival = arrival
      (s.accepted n k).modSrc n fun c =>
        { c with seen := if swap then c.seen.map (fun x => if x.1 = k.ext then (x.1, ts, 0, arrival) else x) else c.seen
                 wait := if swap then c.wait.map (fun x => if x.ext = k.ext then k else x) else c.wait
                 ctr := { c.ctr with duplicates := c.ctr.duplicates + 1 }
                 skews := if path = k.path then c.skews
                   else (s.now, d) :: c.skews.filter fun x => decide (s.now < x.1 + nsPerSec) }
  | none =>
  let s := s.accepted n k
  let h := match c.h with
    | some h => max h k.ext
    | none => k.ext
  let behind := match c.h with
    | some h => decide (k.ext < h)
    | none => false
  let late := (match c.nextE with
    | some e => decide (k.ext < e)
    | none => false) || (c.tail = some k.ts)
  -- A repeat is recognised while its unit is among the 64 delivered last (R149).
  let low := c.delivered.foldl (fun a r => min a r.1) (h - 4096)
  let s := s.modSrc n fun c =>
    { c with h := some h, seen := (k.ext, k.ts, k.path, k.arrival) :: c.seen.filter fun x => low ≤ x.1
             ctr := { c.ctr with reordered := c.ctr.reordered + b2n (behind && !late), late := c.ctr.late + b2n late } }
  if late then
    -- The unit's run reaches up to this packet (R153); it is never patched in (R154).
    let s := s.modSrc n fun c => if c.tail = some k.ts && c.nextE.all (fun e => decide (e ≤ k.ext)) then
        { c with nextE := some (k.ext + 1), tail := if k.marker then none else c.tail
                 delivered := match c.delivered with
                   | (a, _, ts) :: l => (a, k.ext, ts) :: l
                   | [] => [] }
      else c
    s.flush n
  else if c.typ = 4 then
    let s := s.modSrc n fun c => { c with nextE := some (c.nextE.getD k.ext), ctr := { c.ctr with delivered := c.ctr.delivered + 1 } }
    (s.audPacket (n - 64) k.ts k.audio).audioLost n
  else (s.modSrc n fun c => { c with wait := insertPkt k c.wait }).flush n

/-! ### Sequence spaces (R149) -/

/-- The extension of a 16-bit number nearest `h`. -/
def extend (h : Int) (seq : Nat) : Int := h + signed 16 (unsigned 16 ((seq : Int) - h))

/-- Discard the held candidate as strays. -/
def State.stray (s : State) (n : Nat) : State :=
  s.modSrc n fun c => match c.cand with
    | some d => { c with cand := none, ctr := { c.ctr with strays := c.ctr.strays + d.pkts.length } }
    | none => c

/-- An in-window packet of the established space arrives while a candidate is held (rules 2 and 3). -/
def State.candidateEstablished (s : State) (n : Nat) : State :=
  let c := s.src n
  match c.cand with
  | none => s
  | some d =>
    if d.inter then s
    else if 2 ≤ d.pkts.length then
      let s := s.modSrc n fun c => { c with cand := some { d with inter := true, pkts := [] } }
      s.forEach d.pkts fun k s => s.contend n k
    else if c.reorder ≤ d.established + 1 then s.stray n
    else s.modSrc n fun c => { c with cand := some { d with established := d.established + 1 } }

/-- The stream has restarted: the candidate becomes the established space (rule 1). -/
def State.restart (s : State) (n : Nat) (pkts : List PktRec) : State :=
  let c := s.src n
  let lo := pkts.foldl (fun (a : Option Int) k => match a with
    | none => some k.ext
    | some e => some (min e k.ext)) none
  let first := (pkts.head?.map (·.ext)).getD 0
  let s := (s.modSrc n fun c => { c with cand := none, wait := [], seen := [], delivered := [], tail := none, h := none
                                         nextE := lo }).evtNet (srcId n) 10 0xFF (unsigned 32 (c.h.getD 0)) (unsigned 32 first)
  s.forEach pkts fun k s => s.takePkt n k

/-- A media packet of the owned SSRC (R149, R152). -/
def State.mediaPkt (s : State) (n : Nat) (seq : Nat) (k : PktRec) : State :=
  let c := s.src n
  match c.h with
  | none => s.takePkt n { k with ext := seq }
  | some h =>
  let e := extend h seq
  let k := { k with ext := e }
  let below := e < h - (c.reorder : Int)
  if !below && e ≤ h + 3000 then (s.candidateEstablished n).takePkt n k
  else
  let gone := below && c.delivered.any fun r => decide (r.1 ≤ e ∧ e ≤ r.2.1) && r.2.2 = k.ts
  let pending := below && ((c.wait.any fun x => x.ext = e && x.ts = k.ts) ||
    (c.typ = 4 && c.seen.any fun x => x.1 = e && x.2.1 = k.ts))
  if gone || pending then s.takePkt n k else
  let jump (s : State) : State :=
    s.modSrc n fun c => { c with cand := some { pkts := [k], hc := e, lastAt := k.at_, established := 0 } }
  match c.cand with
  | none => jump s
  | some d =>
    let ce := extend d.hc seq
    if d.hc - (c.reorder : Int) ≤ ce && ce ≤ d.hc + 3000 then
      let k := { k with ext := ce }
      if d.inter then (s.modSrc n fun c => { c with cand := some { d with hc := max d.hc ce, lastAt := k.at_ } }).contend n k
      else
        let pkts := d.pkts ++ [k]
        if 3 ≤ pkts.length then s.restart n pkts
        else s.modSrc n fun c => { c with cand := some { d with pkts, hc := max d.hc ce, lastAt := k.at_, established := 0 } }
    else jump (s.stray n)

/-- CANDIDATE_TIMEOUT (rules 3 and 4). -/
def candidateTimeout (n : Nat) (s : State) : State :=
  match (s.src n).cand with
  | some d => if !d.inter && d.lastAt + 100000000 ≤ s.now then s.stray n else s
  | none => s

/-! ### The filter (R145-R147, R150) -/

/-- A sender passes the source checks of a path (R145). -/
def PathFilter.permits (f : PathFilter) (src port : Nat) : Bool :=
  (f.sources.isEmpty || f.sources.contains src) && (f.srcPort = 0 || f.srcPort = port)

/-- The SSRC judgement of a packet that passes R145: the state with the owned SSRC, and whether the packet belongs to it. -/
def State.ownSsrc (s : State) (n path ssrc at_ : Nat) : State × Bool :=
  let p := (s.src n).paths.getD path {}
  match p.before.filter fun b => at_ < b.2.2 with
  | some (f, owned, _) => (s, if f.ssrcFixed then ssrc = f.ssrc else owned.all (· = ssrc))
  | none =>
  let own (s : State) : State := s.modSrc n fun c =>
    { c with paths := modAt c.paths path fun p => { p with owned := some ssrc, ownedLast := at_ } }
  if p.filter.ssrcFixed then
    (s.modSrc n fun c => { c with paths := modAt c.paths path fun p => { p with owned := some p.filter.ssrc } }, ssrc = p.filter.ssrc)
  else match p.owned with
  | none => (own s, true)
  | some o =>
    if o = ssrc then (s, true)
    else if p.ownedLast + nsPerSec ≤ at_ then ((own s).evtNet (srcId n) 9 path o ssrc, true)
    else (s, false)

/-- The ingest Bobbin that serves a channel or stream (R15). -/
def bobbinOf (n : Nat) : Nat := if n < 64 then n / 8 else (n - 64) % 8

/-- R159: pass a packet to a Bobbin, or drop it. -/
def State.passBobbin (s : State) (n port : Nat) : State × Bool :=
  let b := bobbinOf n
  if s.net.bobbinPkts.getD b 0 < 4000 then
    ({ s with net := { s.net with bobbinPkts := modAt s.net.bobbinPkts b (· + 1) } }, true)
  else
    let first := s.net.bobbinDrops.getD b 0 = 0
    (({ s with net := { s.net with
        bobbinDrops := modAt s.net.bobbinDrops b (· + 1)
        dropPorts := if first then modAt s.net.dropPorts b fun _ => port else s.net.dropPorts } }).modPortCtr port fun c =>
      { c with rxOverload := c.rxOverload + 1 }, false)

/-- One path of one channel is offered a packet whose destination it matches. DESIGN CHOICE (log entry 109): while the path owns no SSRC
yet, an RTCP packet is a stranger's. -/
def State.offerPath (s : State) (n path : Nat) (k : Packet) : State :=
  let c := s.src n
  let arrival := s.stamp k.port
  let at_ := s.now - (s.local - arrival)
  let p := c.paths.getD path {}
  -- A packet stamped before the filter changed is judged by the one before (R146).
  let (f, known) := match p.before with
    | some (g, owned, t) => if at_ < t then (g, owned) else (p.filter, p.owned)
    | none => (p.filter, p.owned)
  let stranger (s : State) : State :=
    (s.modSrc n fun c => { c with ctr := { c.ctr with strangers := c.ctr.strangers + 1 } }).modPortCtr k.port fun c =>
      { c with rxStranger := c.rxStranger + 1 }
  if !f.permits k.src k.udpSrc then stranger s else
  let rtcpStranger : Bool := match k.body with
    | .rtcp ssrc _ => (if f.ssrcFixed then some f.ssrc else known) ≠ some ssrc
    | _ => false
  if rtcpStranger then stranger s else
  let (s, pass) := s.passBobbin n k.port
  if !pass then s else
  match k.body with
  | .other _ | .pdelayReq .. => s
  | .rtcp _ sr =>
    match sr with
    | some (ntp, ts) => s.modSrc n fun c => { c with sr := some { ntpNs := ntp, rtp := ts, at_ := s.now } }
    | none => s
  | .rtp p =>
    let (s, mine) := s.ownSsrc n path p.ssrc at_
    let c := s.src n
    let r : PktRec :=
      { ext := 0, ts := p.ts, marker := p.marker, arrival, at_, fragment := p.fragment, raw := p.raw
        legacy := s.clk.legacy.getD k.port false, path, port := k.port, ssrc := p.ssrc, src := k.src
        au := p.au, slice := p.slice, endsSlice := p.endsSlice, audio := p.audio, depthNs := c.depthUs * 1000, reorder := c.reorder }
    -- A packet of the owned SSRC with another payload type is not the channel's media: it has no effect (log entry 64).
    if !mine then s.contend n r else if p.pt = c.pt then s.mediaPkt n p.seq r else s

/-- Whether a path of an open channel matches a packet's destination (R145, R147). -/
def Src.matches_ (c : Src) (path : Nat) (k : Packet) : Bool :=
  let p := c.paths.getD path {}
  c.installed && c.typ ≤ 4 && (path = 0 || c.dual) && p.port = k.port && p.dst = k.dst &&
  match k.body with
  | .rtp _ => k.udpDst = p.udp
  | .rtcp _ _ => k.udpDst = p.udp + 1 || (c.rtcpMux && k.udpDst = p.udp)
  | .other _ | .pdelayReq .. => false

/-- A domain answers a Pdelay_Req that arrives on a port: an enabled one on that port with that domainNumber and transport,
whose mechanism is the peer delay (R318). -/
def State.answersPdelay (s : State) (port number transport : Nat) : Bool :=
  s.clk.domains.any fun x => x.st ≠ .disabled && x.delay = 1 && x.port = port && x.number = number && x.transport = transport

/-- PACKET_RECEIVE (R138, R142, R145-R159). A Pdelay_Req of the peer-delay mechanism is answered at once by one
Pdelay_Resp (R318; DESIGN CHOICE, log entry 106). -/
def packetReceive (k : Packet) (s : State) : State :=
  if !s.portRx k.port then s else
  let p := s.port k.port
  let (fc, fu, fs) := k.fec
  let s := if k.port < 4 && p.fecActive then s.modPort k.port fun x =>
      { x with fecSinceEvt := x.fecSinceEvt + fu
               ctr := { x.ctr with fecCorrected := x.ctr.fecCorrected + fc, fecUncorrected := x.ctr.fecUncorrected + fu
                                   fecSymbolErr := x.ctr.fecSymbolErr + fs } } else s
  if !k.fcsOk then s.modPortCtr k.port fun c => { c with rxFcsErr := c.rxFcsErr + 1 } else
  let (s, good) := s.takeFrame k.port k.vlan k.frameLen
  if !good then s else
  let unmatched (s : State) : State := s.modPortCtr k.port fun c => { c with rxUnmatched := c.rxUnmatched + 1 }
  match k.body with
  | .other known => if known then s else unmatched s
  | .pdelayReq number transport requester =>
    if s.answersPdelay k.port number transport then
      (s.txFrame k.port (54 + ptpHeaders transport)).emit (.ptpResponse k.port transport requester)
    else unmatched s
  | _ =>
    if k.port = 4 then unmatched s else
    let hits := (List.range 96).flatMap fun n => ([0, 1].filter fun i => (s.src n).matches_ i k).map fun i => (n, i)
    if hits.isEmpty then unmatched s else s.forEach hits fun h s => s.offerPath h.1 h.2 k

end Sys2Proof.Machine
end

