-- ==== Sys2Proof/Machine/Engine.lean ====
section
/-! DEFINITION. Engine resets, Bobbin watchdogs, uncorrectable errors and the scrubber (spec/01 R13, R14, R23-R25, spec/04 R118,
spec/08 R198, spec/18 R408). What an engine loses beyond the spec's words is log entry 56. -/
namespace Sys2Proof.Machine

/-- The engine codes of a cluster (Table 1-2). -/
def engineCodes (cluster : Nat) : List Nat :=
  match cluster with
  | 0x01 => List.range 4
  | 0x02 => List.range 12 ++ [0x10, 0x11]
  | 0x10 | 0x11 | 0x12 | 0x13 | 0x18 => List.range 2
  | 0x20 | 0x21 | 0x22 | 0x23 | 0x30 => List.range 8
  | 0x40 => List.range 7
  | 0x48 => List.range 4
  | 0x50 => List.range 16
  | 0x58 => List.range 3
  | 0x60 => List.range 9
  | 0x70 => List.range 6
  | _ => []

/-- An origin names a cluster or one of its engines. -/
def engineExists (o : Nat) : Bool :=
  !(engineCodes (o / 256)).isEmpty && (o % 256 = 0xFF || (engineCodes (o / 256)).contains (o % 256))

/-- The engines an origin names. -/
def enginesOf (o : Nat) : List Nat :=
  if o % 256 = 0xFF then (engineCodes (o / 256)).map fun e => o / 256 * 256 + e else [o]

/-- Index of a cluster in Table 1-2's order. -/
def clusterIndex (o : Nat) : Option Nat := clusterCodes.findIdx? (· = o / 256)

/-- Every live record of a quota is retired and its frames count as released (R198). -/
def State.retireQuota (s : State) (object : Nat) : State :=
  s.modQuota object fun q => { q with recs := q.recs.map fun r => if r.live then { r with live := false, released := true } else r }

/-- An ingest Bobbin restarts: the packets it held are lost, its Gimp quotas are retired (R408). -/
def State.dropIngest (s : State) (b : Nat) : State :=
  let mine (n : Nat) : Bool := bobbinOf n = b
  let lose (n : Nat) (c : Src) : Src := if mine n then { c with wait := [], cand := none } else c
  let s1 := { s with net := { s.net with srcs := s.net.srcs.mapIdx lose } }
  s1.forEach ((List.range 64).filter mine) fun ch s => s.retireQuota (0x1000 + ch)

/-- Bobbin 11 restarts: commands taken and not completed complete with E_INTERNAL (R408, R112). -/
def State.dropCommands (s : State) : State :=
  let held := s.hif.held
  let s1 := s.forEach s.hif.inflight fun j s => s.finish j eInternal 0x020B []
  ({ s1 with hif := { s1.hif with held := [] } }).forEach held fun j s => s.reply j eInternal 0x020B []

/-- Bobbin 8 or 9 restarts: datagrams not yet sent are dropped (R408), those of coded streams that it forwards too. -/
def State.dropEgress (s : State) (b : Nat) : State :=
  let lost (q : FwdTx) : Bool := q.vc = 3 && egressBobbin (q.channel / 32) = b
  let drops := (s.lnk.links.map fun l => (l.queue.filter lost).length).sum
  let keep (l : Lk) : Lk := { l with queue := l.queue.filter fun q => !lost q }
  let s := { s with lnk := { s.lnk with links := s.lnk.links.map keep } }
  s.egressDrop b drops

/-- A Bobbin is down until it reports again (R408). -/
def State.bobbinFalls (s : State) (b : Nat) : State :=
  s.modHoop fun h => { h with bobbinDown := if h.bobbinDown.contains b then h.bobbinDown else b :: h.bobbinDown }

/-- A decode core restarts: the pictures dealt to it are lost. -/
def State.dropCore (s : State) (core : Nat) : State :=
  let hit (c : Ctx) : Bool := match c.cur with
    | some p => p.cores.contains core
    | none => false
  s.forEach ((List.range 64).filter fun ch => hit (s.ctx ch)) fun ch s =>
    (s.dropCur ch).modCtx ch fun c => if c.running && c.st ≠ .shed then { c with st := .seeking } else c

/-- An encode core restarts: the pictures it holds are lost, and a new sweep begins with the next one. An IDR that one of them was to
be is the next one's: the restart itself causes none (R302). -/
def State.dropEncCore (s : State) (core : Nat) : State :=
  let hit (e : Enc) : Bool := (e.st = .running || e.st = .idle) && e.core = core
  s.forEach ((List.range 16).filter fun ec => hit (s.encode ec)) fun ec s =>
    let e := s.encode ec
    let s := s.forEach e.pics fun p s => s.drainHolds p.head p.frame
    let s := s.modEnc ec fun e => { e with pics := [], idr := (e.pics.findSome? (·.idr)).or e.idr, prevRows := [], sweep := none }
    match e.stopping with
    | some reason => s.encEnd ec reason
    | none => s

/-- A head pipeline restarts: the frames its tiles held are released, and they are LOST until a new verdict (R50, R118). -/
def State.dropHeadTiles (s : State) (h : Nat) : State :=
  s.forEach (s.tilesOn h) fun t s =>
    (s.releaseTile t.layer h).modTile t.layer h Tile.toLost

/-- A console port restarts: the frames that wait for the bus are lost, and their commands complete with E_INTERNAL (R112). -/
def State.dropConsole (s : State) (p o : Nat) : State :=
  let q := (s.cbus p).queue
  (s.modCbus p fun c => { c with queue := [], plcaLost := false, lastBeacon := s.now }).forEach q fun f s => s.finish f.job eInternal o []

/-- What one engine loses in its reset. -/
def State.engineLoses (s : State) (o : Nat) : State :=
  let e := o % 256
  match o / 256 with
  | 0x02 => if e < 8 then (s.dropIngest e).bobbinFalls e
      else if e = 11 then s.dropCommands.bobbinFalls 11
      else if e < 10 then (s.dropEgress e).bobbinFalls e
      else if e < 11 then s.bobbinFalls e else s
  | 0x10 => s.dropCore e
  | 0x11 => s.dropCore (2 + e)
  | 0x12 => s.dropCore (4 + e)
  | 0x13 => s.dropCore (6 + e)
  | 0x18 => s.dropEncCore e
  | 0x20 => s.dropHeadTiles e
  | 0x21 => s.dropHeadTiles (8 + e)
  | 0x22 => s.dropHeadTiles (16 + e)
  | 0x23 => s.dropHeadTiles (24 + e)
  | 0x40 => if e < 5 then (s.portDown e).modPort e fun p => { p with searchRate := 1, searchSince := s.now } else s.dropConsole (e - 5) o
  | 0x48 => if (s.lk e).enable then (s.stopLink e ⟨eInternal, o⟩).trainLink e false else s
  | 0x50 =>
    let x := s.dp e
    let s1 := (s.modDp e fun x => { x with training := false, job := none, pattern := 0 }).finish? x.job eInternal o []
    s1.setDpState e (if x.hpd then 1 else 0)
  | _ => s

/-- An engine or cluster is reset (R25): ENGINE_RESET is logged (its cause code is not stated: a free value), and the device is
DEGRADED until it reports again. -/
def State.resetEngine (s : State) (o : Nat) (job : Option Job) : State :=
  let (cause, s) := s.takeFree
  let s1 := s.record 0x0201 o [cause % m32]
  let s2 := s1.forEach (enginesOf o) fun e s => s.engineLoses e
  { s2 with
    hoop := { s2.hoop with resetting := s2.hoop.resetting ++ [(o, job)] }
    hif := { s2.hif with hoopState := if s2.hif.hoopState = 2 then 3 else s2.hif.hoopState } }

/-- ENGINE_RESET_DONE: the engine has left reset; a RESET_BLOCK that waits replies. -/
def engineResetDone (o : Nat) (s : State) : State :=
  match s.hoop.resetting.find? fun r => r.1 = o with
  | none => s
  | some r =>
    let rest := s.hoop.resetting.erase r
    let up := (enginesOf o).filter fun e => e / 256 = 2
    let s1 := s.modHoop fun h => { h with
      resetting := rest, bobbinDown := h.bobbinDown.filter fun b => !up.contains (0x200 + b)
      bobbinOkSince := if up.isEmpty then h.bobbinOkSince else s.now }
    let s2 := { s1 with hif := { s1.hif with
      hoopState := if s1.hif.hoopState = 3 && rest.isEmpty && s1.hoop.bobbinDown.isEmpty then 2 else s1.hif.hoopState } }
    s2.finish? r.2 0 0 []

/-- R118's protected targets. -/
def resetProtected (o : Nat) : Bool :=
  [0x01, 0x70, 0x58].contains (o / 256) || [0x02FF, 0x020B, 0x0210, 0x0211].contains o

def cmdResetBlock : Cmd where
  spec := specResetBlock
  param j _ := rsv j 2 2
  run j s :=
    let o := j.u16 0
    if !engineExists o then .fail eNoObject 16
    else match clusterDomain (o / 256) with
    | none => .fail eNoObject 16
    | some d =>
      let dom := if o / 256 = 0x50 && o % 256 ≠ 0xFF then 13 + o % 256 / 4 else d
      let on := s.reachable dom || o / 256 = 0x58 || (o = 0x50FF && (List.range 4).any fun m => s.reachable (13 + m))
      if !on then .fail eDomainOff (0xF200 + dom)
      else if resetProtected o then .fail eProtected 16
      else if s.hoop.bist.st = 1 && (originCovers s.hoop.bist.origin o || originCovers o s.hoop.bist.origin) then .fail eBusy 0
      else .later (s.resetEngine o (some j))

/-- BOBBIN_WATCHDOG_MISS (R408): four boundaries missed. -/
def bobbinMiss (b : Nat) (s : State) : State :=
  if 12 ≤ b || !s.hif.ready || !(s.domainOn 2 || (b = 11 && s.pwr.pstate = 2)) || s.hoop.bobbinDown.contains b then s
  else (s.trigger 0x0101 (0x0200 + b) [4]).resetEngine (0x0200 + b) none

/-- A count of uncorrectable errors of a cluster. -/
def State.countUnc (s : State) (o : Nat) : State :=
  match clusterIndex o with
  | none => s
  | some i => { s with pwr := { s.pwr with eccUnc := modAt s.pwr.eccUnc i fun n => satAdd32 n 1 } }

/-- ECC_UNCORRECTABLE_CONTROL (R25, R198). -/
def eccControl (e : EccInfo) (s : State) : State :=
  if !engineExists e.origin then s else
  let s1 := (s.countUnc e.origin).trigger 0x0103 e.origin [e.address % m32, e.address / m32, e.syndrome % m32]
  let owner := if e.gimp = 0 then e.origin else if idType e.gimp = 1 then 0x0200 + idIndex e.gimp / 8 else 0x020B
  (s1.when (e.gimp ≠ 0) (·.retireQuota e.gimp)).resetEngine owner none

/-- An error in pixel data has been read (R24, R187): cells of a picture, or of an encode channel's reconstruction buffer. -/
def State.taintPixels (s : State) (e : EccPixel) : State :=
  if idType e.object = 8 then s.taintEnc e else s.when (e.object ≠ 0) (·.taintRead e)

/-- ECC_UNCORRECTABLE_PIXEL (R24, R187): counted, logged, and the cells tainted. -/
def eccPixel (e : EccPixel) (s : State) : State :=
  if !engineExists e.origin then s else
  ((s.countUnc e.origin).record 0x0302 e.origin [e.address % m32, e.address / m32]).taintPixels e

/-- A pass of the scrubber is complete a scrub period after the last one (R23). -/
def State.scrubDue (s : State) : Bool :=
  s.hif.ready && s.domainOn 12 && decide (s.pwr.scrubAt + s.hoop.scrubHours * 3600 * nsPerSec ≤ s.now)

/-- SCRUB_PASS (R23, R25): single-bit errors corrected, by cluster in Table 1-2's order; errors in control data act at once, those
in pixel data when their words are next read. -/
def scrubPass (o : ScrubObs) (s : State) : State :=
  if !s.scrubDue then s else
  let found := o.pixel.filter fun e => engineExists e.origin
  let s := { s with pwr := { s.pwr with
    eccCorr := s.pwr.eccCorr.mapIdx fun i n => satAdd32 n (o.corrected.getD i 0)
    scrubAt := s.now
    scrubFound := s.pwr.scrubFound ++ found } }
  let s := s.forEach found fun e s => (s.countUnc e.origin).record 0x0302 e.origin [e.address % m32, e.address / m32]
  s.forEach o.control fun e s => eccControl e s

/-! ### Accesses at a Guard unit (R389, R393, R395, R399) -/

/-- The engine of Table 1-2 that a master's sub-id names (Table 17-1); none for a host's access, the agent and network audio. -/
def masterEngine (unit sub : Nat) : Option Nat :=
  match unit with
  | 1 => if sub < 12 then some (0x0200 + sub) else some (0x4000 + (sub - 16))
  | 2 => if sub = 0 then some 0x0100 else none
  | 3 => some (0x1000 + 256 * (sub / 2) + sub % 2)
  | 4 => some (0x1800 + sub)
  | 5 => some (0x2000 + 256 * (sub / 8) + sub % 8)
  | 6 => some (0x4800 + sub)
  | 7 => if sub < 8 then some (0x6000 + sub) else none
  | _ => none

/-- An access that its unit takes up is answered. An engine that takes an error on its own control data treats it as an
uncorrectable error (R395, R25; it has no syndrome, log entry 107). -/
def State.serveAccess (s : State) (x : Access) (stalled : Bool) : State :=
  let r := s.access x stalled
  let s1 := r.1.emit (.fabricAnswer x.unit x.sub r.2.1 r.2.2)
  let hurt (a : Nat) : State := match masterEngine x.unit x.sub with
    | some o => s1.when x.control (eccControl { origin := o, address := a, syndrome := 0, gimp := 0 })
    | none => s1
  match r.2.2 with
  | .good => s1
  | .error a => hurt a
  | .domainOff _ => hurt x.address

/-- An access that reaches a unit: it stalls while the unit is closed (R399). -/
def guardAccess (x : Access) (s : State) : State :=
  let n := if x.write then x.data.length else x.length
  if !(x.unit < 9 && 0 < n && n ≤ 4096) then s else
  match (s.guard x.unit).update with
  | some u => s.modGuard x.unit fun g => { g with update := some { u with stalled := u.stalled ++ [.access x] } }
  | none => s.serveAccess x false

/-- What has stalled is checked: an access is answered, a PEEK or POKE replies. -/
def State.serveStalled (s : State) : Stalled → State
  | .access x => s.serveAccess x true
  | .job j => match runPeek true j s with
    | .ok s1 b => s1.finish j 0 0 b
    | .fail st d => s.finish j st d []
    | .failWith s1 st d => s1.finish j st d []
    | .part s1 _ b => s1.finish j 0 0 b
    | .later s1 | .done s1 => s1

/-- GUARD_UPDATE_REOPEN: the unit opens under its new program, and what stalled is checked in arrival order (R399). -/
def guardReopen (u : Nat) (s : State) : State :=
  match (s.guard u).update with
  | none => s
  | some p =>
    let s := s.modGuard u fun g => { g with regions := p.program, update := none }
    (s.forEach p.stalled fun x s => s.serveStalled x).finish p.job 0 0 []

/-- APERTURE_ACCESS (R89): an access of PCIe through BAR2, at the base in force. -/
def aperture (offset : Nat) (write : Bool) (data : List Byte) (len : Nat) (s : State) : State :=
  if !(s.hif.pcieUp && s.domainOn 19) then s else
  guardAccess { unit := 0, sub := 0, address := (s.hif.apertureBase + offset % 2 ^ 28) % 2 ^ 40, write, data, length := len } s

end Sys2Proof.Machine
end

