-- ==== Sys2Proof/Machine/Forward.lean ====
section
/-! DEFINITION. Forwarding over Lacing links: LINK_CONFIG, sending and receiving messages (spec/19 R434, R448-R453). -/
namespace Sys2Proof.Machine

/-! ### Forward entries (R448, R449) -/

/-- Pictures per second of a channel as num over den: declared for TYPE 3, else those delivered in the last second (log entry 57). -/
def State.chRate (s : State) (ch : Nat) : Nat × Nat :=
  let c := s.src ch
  if c.typ = 3 then (c.p3, max 1 c.p4)
  else (((s.ctx ch).recent.filter fun x => decide (s.now < x.1 + nsPerSec)).length, 1)

/-- Bits per second of a KIND 5 entry as a fraction (R449): width × height × bytes per sample × 1.5 × rate. -/
def State.fwdRate (s : State) (ch : Nat) : Nat × Nat :=
  let c := s.src ch
  let x := s.ctx ch
  let (w, h, deep) : Nat × Nat × Bool := if c.typ = 3 || c.typ = 5 then (c.p1, c.p2, true) else (x.maxW, x.maxH, decide (x.bitDepth ≠ 8))
  let (num, den) := s.chRate ch
  (w * h * (if deep then 2 else 1) * 12 * num, den)

/-- Why a forward entry is refused: the refusals of R449 in the order of R104. -/
def State.fwdErr (s : State) (n ch stream kind : Nat) : Option Err :=
  let c := s.src ch
  let es := (s.lk n).fwds
  if es.any fun e => e.stream = stream then some ⟨eBusy, 0xC000 + n⟩
  else if kind = 6 && !(c.typ = 1 || c.typ = 2 || c.typ = 6) then some ⟨eState, 0x1000 + ch⟩
  else if kind = 5 && (s.ctx ch).st = .unconfigured && c.typ ≠ 3 && c.typ ≠ 5 then some ⟨eState, 0x1000 + ch⟩
  else if 32 ≤ es.length then some ⟨eNoResource, 0xC000⟩
  else if kind = 5 && !fracSumLe (s.fwdRate ch :: (es.filter fun e => e.kind = 5).map fun e => s.fwdRate e.channel) 100000000000 then
    some ⟨eNoResource, 0xC000⟩
  else none

def cmdLinkConfig : Cmd where
  spec := specLinkConfig
  param j _ :=
    chkId j 0 [0xC] ++ chk 2 (j.u8 2 ≤ 1) ++ chk 3 (j.u8 3 ≤ 1) ++
    (if j.u8 2 = 0 then chk 4 (j.u8 4 ≤ 3) ++ chk 5 (j.u8 5 ≤ 3 || j.u8 5 = 0xFF) ++ rsv j 6 2 ++ creditErr j
    else chkId j 4 [1] ++ chk 6 (1 ≤ j.u16 6 && j.u16 6 ≤ 4095) ++ chk 8 (j.u8 8 = 5 || j.u8 8 = 6) ++ rsv j 9 7)
  names j := nameAt j 0 ++ (if j.u8 2 = 0 then [] else nameAt j 4)
  run j s :=
    let n := idIndex (j.u16 0)
    let ch := idIndex (j.u16 4)
    if j.u8 2 = 0 then .ok (linkConfigPort j s) []
    else
      let e : FwdEntry := { channel := ch, stream := j.u16 6, kind := j.u8 8 }
      if j.u8 3 = 0 then .ok (s.modLk n fun l => { l with fwds := l.fwds.filter (· ≠ e) }) []
      else match s.fwdErr n ch e.stream e.kind with
      | some x => .fail x.status x.detail
      | none => .ok (s.modLk n fun l => { l with fwds := l.fwds ++ [e] }) []

/-! ### Sending (R434, R449, R450) -/

/-- The header flit's payload (Table 19-11), as it departs now. -/
def State.fwdHeader (s : State) (m : FwdTx) : List Byte :=
  let r := (s.rec? (0x1000 + m.channel) m.seq).getD { object := 0, seq := 0 }
  let size := s.src m.channel
  let c := s.ctx m.channel
  let (w, h, depth) : Nat × Nat × Nat :=
    match c.bufs.find? fun b => b.seq = m.seq with
    | some b => (b.outW, b.outH, b.bitDepth)
    | none => if size.typ = 3 || size.typ = 5 then (size.p1, size.p2, 10) else match c.sps with
      | some p => (p.outWidth, p.outHeight, p.bitDepth)
      | none => (c.maxW, c.maxH, c.bitDepth)
  leBytes 2 m.stream ++ leBytes 1 m.msg ++ leBytes 1 (if depth = 8 then 8 else 10) ++ leBytes 4 m.seq ++ leBytes 4 m.bodyLen ++
  timeBytes r.captureNs ++ leBytes 4 (sat32 (ceilDiv (s.local - r.arrivalNs) 1000)) ++ leBytes 1 r.evidence ++ zeros 1 ++
  leBytes 2 (sat16 (r.uncert + ceilDiv s.uDev 1000)) ++ leBytes 4 r.counter ++ leBytes 2 (if m.msg = 2 then m.firstRow else 0) ++
  leBytes 2 (if m.msg = 2 then m.rows else 0) ++ leBytes 2 (if m.msg = 1 then w else 0) ++ leBytes 2 (if m.msg = 1 then h else 0) ++ zeros 14

/-- The VC that sends next: one with a message and a credit; every eighth flit goes to VC3 when both are ready (R434). -/
def Lk.nextVc (l : Lk) : Option Nat :=
  let ready (v : Nat) : Bool := l.queue.any (fun m => m.vc = v) && 0 < l.credit v
  if l.replay.length ≥ 255 then none
  else if ready 2 && ready 3 then some (if l.turn = 7 then 3 else 2)
  else if ready 2 then some 2 else if ready 3 then some 3 else none

/-- Put the state of a message in place of the first one of its VC; a message that is finished leaves. -/
def putTx (v : Nat) (m : Option FwdTx) : List FwdTx → List FwdTx
  | [] => []
  | x :: xs => if x.vc = v then m.toList ++ xs else x :: putTx v m xs

/-- Bits as bytes, the first in bit 0. -/
def packBits (bs : List Bool) : List Byte :=
  (List.range (ceilDiv bs.length 8)).map fun i =>
    BitVec.ofNat 8 ((List.range 8).map fun k => b2n (bs.getD (8 * i + k) false) * 2 ^ k).sum

/-- The taint bitmap of a band: one bit for each 32×32 cell that its rows touch, in raster order (R450). -/
def State.bandTaint (s : State) (ch seq firstRow rows : Nat) : List Byte :=
  match (s.ctx ch).bufs.find? fun b => b.seq = seq with
  | none => []
  | some b =>
    let cols := ceilDiv b.outW 32
    let bad := ((s.rec? (0x1000 + ch) seq).map (·.cells)).getD [] ++ b.taintedCells
    let top := firstRow / 32
    packBits ((List.range (cols * (ceilDiv (firstRow + rows) 32 - top))).map fun k => bad.contains (top * cols + k))

/-- The rows of a band are read: what the scrubber found in their words is applied (R25, R187). -/
def State.readBand (s : State) (ch seq firstRow rows : Nat) : State :=
  match (s.ctx ch).bufs.find? fun b => b.seq = seq with
  | none => s
  | some b =>
    let cols := max 1 (ceilDiv b.outW 32)
    s.readPixels (0x1000 + ch) seq fun cells => cells.any fun k => 32 * (k / cols) < firstRow + rows && firstRow < 32 * (k / cols) + 32

/-- The next `n` bytes of what is left of a body: its samples or coded data, which are free bytes (log entry 57), then its tail. -/
def State.bodyBytes (s : State) (m : FwdTx) (n : Nat) : List Byte × State :=
  let (b, s) := s.takeBytes (min n (m.left - m.tail.length))
  (b ++ (m.tail.drop (m.tail.length - m.left)).take (n - b.length), s)

/-- Send one flit of the message at the front of a VC. -/
def State.sendNext (s : State) (n v : Nat) : State :=
  match (s.lk n).queue.find? fun m => m.vc = v with
  | none => s
  | some m =>
    let both := (s.lk n).queue.any fun x => x.vc = 5 - v
    let turned (l : Lk) : Lk := { l with turn := if v = 3 || !both then 0 else l.turn + 1 }
    if !m.started then
      let s1 := s.sendData n v true (m.left = 0) (s.fwdHeader m)
      s1.modLk n fun l => turned { l with queue := putTx v (if m.left = 0 then none else some { m with started := true }) l.queue }
    else
      let (b, s) := s.bodyBytes m (min 58 m.left)
      let s1 := s.sendData n v false (m.left ≤ 58) b
      s1.modLk n fun l => turned { l with queue := putTx v (if m.left ≤ 58 then none else some { m with left := m.left - 58 }) l.queue }

def drainFlits (n : Nat) : Nat → State → State
  | 0, s => s
  | fuel + 1, s =>
    match (s.lk n).nextVc with
    | some v => if (s.lk n).st = 2 then drainFlits n fuel (s.sendNext n v) else s
    | none => s

/-- Flits that wait are sent while credit and the replay buffer allow; a message that still waits is a credit stall. -/
def State.drainLink (s : State) (n : Nat) : State :=
  if (s.lk n).queue.isEmpty then s else
  let s1 := drainFlits n 256 s
  s1.modLk n fun l => { l with stalled := l.stalled || (l.st = 2 && !l.queue.isEmpty) }

/-- The record whose frame a message of an entry carries: the unit delivered last, or the frame under reconstruction. -/
def State.fwdSeq (s : State) (e : FwdEntry) : Option Nat :=
  let c := s.ctx e.channel
  let newest := ((s.quota (0x1000 + e.channel)).recs.find? (·.live)).map (·.seq)
  if e.kind = 6 then newest else match c.cur with
  | some p => some p.unit.seq
  | none => match c.latest with
    | some i => some (c.bufs.getD i {}).seq
    | none => none

/-- FORWARD_MESSAGE_SEND. -/
def forwardSend (n stream msg firstRow rows bodyLen : Nat) (s : State) : State :=
  match (s.lk n).fwds.find? fun e => e.stream = stream with
  | none => s
  | some e =>
  if !((e.kind = 6 && msg = 3) || (e.kind = 5 && (msg = 1 || (msg = 2 && 1 ≤ rows && rows ≤ 64)))) then s else
  match s.fwdSeq e with
  | none => s
  | some seq =>
    -- A coded stream is forwarded by Bobbin 8 or 9 (Table 1-3).
    let b := egressBobbin (e.channel / 32)
    if e.kind = 6 && s.hoop.bobbinDown.contains b then s.egressDrop b 1 else
    let s := s.when (msg = 2) (·.readBand e.channel seq firstRow rows)
    let tail := if msg = 2 then s.bandTaint e.channel seq firstRow rows else []
    let len := if msg = 1 then 0 else max bodyLen tail.length
    let m : FwdTx := { vc := if e.kind = 5 then 2 else 3, channel := e.channel, stream, msg, seq, firstRow, rows, bodyLen := len, left := len
                       tail }
    (s.modLk n fun l => { l with queue := l.queue ++ [m] }).drainLink n

/-! ### Receiving (R452, R453) -/

/-- UNCERT of a frame from a link, in µs. -/
def Lk.fwdUncert (l : Lk) (given : Nat) : Nat :=
  if l.aligned then sat16 (given + ceilDiv ((l.offsets.headD 0).natAbs + sigma3 l.offsets) 1000) else 0xFFFF

/-- Arrival of a message: on the elapsed counter and in local time. -/
def State.fwdArrival (s : State) (n : Nat) (m : FwdMsg) : Nat × Nat :=
  let at_ := m.firstAt - (s.lk n).transit - m.ageUs * 1000
  (at_, s.local - (s.now - at_))

/-- The record of a received frame: what the header carries (R452), subject to R38; the SEI of a coded unit is read for its map
only, and those that are ignored are counted (R199, R200). -/
def State.fwdRec (s : State) (n ch : Nat) (m : FwdMsg) : State × GimpRec :=
  let (at_, arrival) := s.fwdArrival n m
  let (sei, ignored) := readSeis ((m.au.map (·.seis)).getD [])
  let uncert := (s.lk n).fwdUncert m.uncert
  let future := (m.evidence = 1 || m.evidence = 2) && uncert ≠ 0xFFFF && decide (m.captureNs > arrival + uncert * 1000 + s.uDev)
  let field := m.au.any (·.field)
  let r : GimpRec :=
    { object := 0x1000 + ch, seq := 0, flags := b2n sei.isSome + 2 * b2n (m.evidence ≠ 0) + 16 * b2n future +
        32 * b2n ((s.src ch).contestedAt at_) + 4096 * b2n field
      captureNs := if future then 0 else m.captureNs, arrivalNs := arrival, arrivalAt := at_, filledNs := arrival
      evidence := if future then 4 else m.evidence, counter := if m.evidence ≠ 0 then m.counter else 0
      uncert := if future then 0 else uncert, mapRaw := sei.bind Sei.map }
  (s.modSrc ch fun c => { c with ctr := { c.ctr with seiIgnored := c.ctr.seiIgnored + ignored
                                                     demoted := c.ctr.demoted + b2n future } }, r)

/-- A message has come for a channel: it is active (Table 6-4). -/
def State.fwdHeard (s : State) (ch at_ arrival : Nat) : State :=
  let c := s.src ch
  let s := if c.st = .silent then s.evtNet (srcId ch) 12 0xFF (sat32 ((at_ - c.lastAccepted) / 1000000)) 0 else s
  s.modSrc ch fun c => { c with st := .active, lastArrival := arrival, lastAccepted := s.now }

/-- A coded access unit is delivered (R452); one cut short has its missing bytes declared lost (R453). -/
def State.fwdUnit (s : State) (n ch : Nat) (m : FwdMsg) : State :=
  let (at_, arrival) := s.fwdArrival n m
  let a := m.au.getD noInfo
  let s := s.modSrc ch fun c => { c with ctr := { c.ctr with delivered := c.ctr.delivered + 1, frames := c.ctr.frames + 1
                                                             incomplete := c.ctr.incomplete + b2n (!m.complete) } }
  let seq := (s.quota (0x1000 + ch)).nextSeq
  let d : Delivery := { arrival, at_, ts := 0, legacy := false, lost := !m.complete }
  let (s, r) := s.fwdRec n ch m
  let s1 := s.deliverUnit ch d a (some r) (if m.complete then [] else m.lostSlices)
  if (s.slice ch).mode = .off then s1 else
  let ks : List SliceIn := (List.range a.slices.length).map fun j => { n := j, arrival, stitch := s.stitch, lost := !m.complete }
  let whole (u : CpbUnit) : CpbUnit := if u.seq = seq then { u with slices := ks } else u
  s1.modCtx ch fun c => { c with cpb := c.cpb.map whole }

/-- Rows of a frame that no band has brought. -/
def CurPic.missingRows (p : CurPic) (h : Nat) : List Nat :=
  (List.range h).filter fun y => !p.bands.any fun b => b.1 ≤ y && y < b.1 + b.2

/-- A TYPE 5 frame is finished: the cells that missing rows touch are tainted, and it is output. -/
def State.finishBands (s : State) (ch : Nat) : State :=
  let c := s.ctx ch
  match c.cur with
  | none => s
  | some p =>
    let b := c.bufs.getD p.buf {}
    let cc := ceilDiv b.width 32
    let lost := p.missingRows b.height
    let carried := ((s.rec? (0x1000 + ch) p.unit.seq).map (·.cells)).getD []
    s.plainDone ch p ((List.range (cc * ceilDiv b.height 32)).filter fun k => carried.contains k || lost.any fun y => y / 32 = k / cc)

/-- A frame record begins a frame (MSG 1). It starts from the channel's previous frame (R453). -/
def State.fwdBegin (s : State) (n ch : Nat) (m : FwdMsg) : State :=
  let s := s.finishBands ch
  let k := s.src ch
  if k.p1 < m.width || k.p2 < m.height then
    -- A frame larger than the channel accepts is discarded (R143).
    s.modSrc ch fun c => { c with ctr := { c.ctr with incomplete := c.ctr.incomplete + 1 } }
  else
  let (_, arrival) := s.fwdArrival n m
  let (s, r) := s.fwdRec n ch m
  let (s, seq) := s.allocRec (0x1000 + ch) { r with width := m.width, height := m.height }
  let s := s.modSrc ch fun c => { c with ctr := { c.ctr with frames := c.ctr.frames + 1 } }
  let size := (s.now, m.width * m.height, m.width * m.height, false)
  let seen (c : Ctx) : Ctx := { c with recent := size :: c.recent.filter fun x => decide (s.now < x.1 + nsPerSec) }
  let (s, base) := s.startFrame ch m.width m.height m.depth 1
  let c := s.ctx ch
  match (List.range c.bufs.length).find? c.free with
  | none => (s.discardRec (0x1000 + ch) seq).modCtx ch fun c => seen { c with discarded := c.discarded + 1 }
  | some i =>
    let u : CpbUnit := { seq, info := noInfo, arrival, stitch := s.stitch, lost := false }
    let buf : Buf := { plainBuf seq m.width m.height m.depth 1 base with decoding := true, frameNum := m.seq }
    s.modCtx ch fun c => seen { c.modBuf i fun _ => buf with cur := some { unit := u, buf := i, rowsLeft := [] } }

/-- Put the lines of a band into a picture from luma line `y` on. -/
def putBand (w y : Nat) (p band : Samples) : Samples :=
  let put (at_ : Nat) (old new : List Nat) : List Nat := (old.take at_ ++ new ++ old.drop (at_ + new.length)).take old.length
  let c := chromaCols w * (y / 2)
  { y := put (y * w) p.y band.y, cb := put c p.cb band.cb, cr := put c p.cr band.cr }

/-- A band of rows (MSG 2): its samples and the cells it carries as tainted; its arrival raises the record's (R452). -/
def State.fwdBand (s : State) (n ch : Nat) (m : FwdMsg) : State :=
  let c := s.ctx ch
  match c.cur with
  | none => s
  | some p =>
    let b := c.bufs.getD p.buf {}
    if b.frameNum ≠ (m.seq : Int) then s else
    let (at_, arrival) := s.fwdArrival n m
    let got := m.samples.y.take (b.width * (b.height - m.firstRow))
    let pic := putBand b.width m.firstRow ((b.row? 0).getD {}) m.samples
    let rows := got.length / max 1 b.width
    let s := s.modRec (0x1000 + ch) p.unit.seq fun r => { r with
      arrivalNs := max r.arrivalNs arrival, arrivalAt := max r.arrivalAt at_
      cells := r.cells ++ m.cells.filter fun k => !r.cells.contains k }
    let p1 := { p with bands := p.bands ++ [(m.firstRow, rows)] }
    let s1 := s.modCtx ch fun c => { c.modBuf p.buf fun b => { b with rowPix := [(0, pic)] } with cur := some p1 }
    if (p1.missingRows b.height).isEmpty then s1.finishBands ch else s1

/-- FORWARDED_MESSAGE_RECEIVE. Messages for a stream with no open channel are dropped and counted. -/
def forwardReceive (n : Nat) (m : FwdMsg) (s : State) : State :=
  if !(n < 4 && (s.lk n).enable) then s else
  let fits (c : Src) : Bool := c.installed && (c.paths.getD 0 {}).port = n && (c.paths.getD 0 {}).udp = m.stream &&
    ((c.typ = 5 && (m.msg = 1 || m.msg = 2)) || (c.typ = 6 && m.msg = 3))
  match (s.net.srcs.take 64).findIdx? fits with
  | none => s.modLk n fun l => { l with dropped := satAdd32 l.dropped 1 }
  | some ch =>
    let (at_, arrival) := s.fwdArrival n m
    let s1 := s.fwdHeard ch at_ arrival
    match m.msg with
    | 1 => if m.complete then s1.fwdBegin n ch m else s1
    | 2 => s1.fwdBand n ch m
    | _ => s1.fwdUnit n ch m

end Sys2Proof.Machine
end

