-- ==== Sys2Proof/Machine/SelfTest.lean ====
section
/-! DEFINITION. BIST runs, their results, and DisplayPort patterns (spec/21). -/
namespace Sys2Proof.Machine

def State.modBist (s : State) (f : Bist → Bist) : State := s.modHoop fun h => { h with bist := f h.bist }

/-- The engines a target holds, by number in its cluster. -/
def targetUnits (o n : Nat) : List Nat := if o % 256 = 0xFF then List.range n else [o % 256]

/-- The first object of a target that is not idle, in Table 21-4's order. -/
def State.notIdle (s : State) (o : Nat) : Option Nat :=
  match o / 256 with
  | 0x10 | 0x11 | 0x12 | 0x13 => ((List.range 64).find? fun ch => (s.ctx ch).running).map (0x1000 + ·)
  | 0x18 => ((List.range 16).find? fun ec => (s.encode ec).st = .running || (s.encode ec).st = .idle).map (0x8000 + ·)
  | 0x20 | 0x21 | 0x22 | 0x23 =>
    let k := o / 256 - 0x20
    ((targetUnits o 8).find? fun n => (s.head (8 * k + n)).st ≠ .untimed && (s.head (8 * k + n)).st ≠ .disabled).map
      fun n => headId (8 * k + n)
  | 0x40 => ((targetUnits o 7).find? fun n => (s.port n).enable).map (0xD000 + ·)
  | 0x48 => ((targetUnits o 4).find? fun n => (s.lk n).st ≠ 0).map (0xC000 + ·)
  | 0x50 => ((targetUnits o 16).find? fun p =>
      s.heads.any (fun h => h.target = 0x7000 + p || h.accTarget = 0x7000 + p) || (s.dp p).pattern ≠ 0).map (0x7000 + ·)
  | 0x60 =>
    let ports := if o % 256 < 8 then [o % 256] else List.range 8
    (ports.find? fun p => (s.audPort p).enable || (s.groupOf (0x9000 + p)).isSome).map (0x9000 + ·)
  | _ => none

/-- Clusters that only a die run tests, or none (Table 21-4). -/
def testProtected (o : Nat) : Bool := [0x01, 0x02, 0x30, 0x58, 0x70].contains (o / 256)

/-- The power domain of a target that is off. -/
def State.targetOff (s : State) (o : Nat) : Option Nat :=
  match clusterDomain (o / 256) with
  | none => none
  | some d =>
    let ds := if o / 256 = 0x50 then (if o % 256 = 0xFF then [13, 14, 15, 16] else [13 + o % 256 / 4]) else if o / 256 = 0x58 then [] else [d]
    ds.find? fun d => !s.reachable d

def cmdBistRun : Cmd where
  spec := specBistRun
  param j _ :=
    let engine := j.u16 0 ≠ 0 && engineExists (j.u16 0) && j.u16 0 % 256 ≠ 0xFF
    chk 2 (1 ≤ j.u8 2 && j.u8 2 ≤ 3 && !(engine && 2 ≤ j.u8 2)) ++ chk 3 (j.u8 3 ≤ 1) ++ rsv j 4 4
  run j s :=
    let o := j.u16 0
    let b := s.hoop.bist
    let next : Bist := { st := 1, kind := j.u8 2, config := j.u8 3, origin := o }
    if o = 0 then
      if b.st = 1 || s.hoop.sampler.st = .copying then .fail eBusy 0
      else if s.hoop.upd.st = .trial then .fail eState 0
      else .ok ((s.modBist fun _ => { next with diePending := true }).warmIn100) []
    else if !engineExists o then .fail eNoObject 16
    else match s.targetOff o with
    | some d => .fail eDomainOff (0xF200 + d)
    | none =>
    if testProtected o then .fail eProtected 16
    else if b.st = 1 then .fail eBusy 0
    else match s.notIdle o with
    | some id => .fail eBusy id
    | none => .later (s.modBist fun _ => { next with job := some j })

/-- The clusters a run tests, by index in Table 1-2's order: AONC never is. -/
def Bist.tests (b : Bist) (i : Nat) : Bool := i < 17 && (b.origin = 0 || clusterIndex b.origin = some i)

/-- A run's results (R475, R481). -/
def Bist.results (b : Bist) (o : BistObs) : Bist :=
  let words (ws : List Nat) : Nat := crc32 (ws.flatMap (leBytes 4))
  let misr := (List.range 18).map fun i => if 2 ≤ b.kind && b.tests i then words (o.blocks.getD i []) else 0
  let fail (w : List Nat) : BistFail := { path := w.getD 0 0, fkind := w.getD 1 0, bit := w.getD 2 0, data := w.getD 3 0 }
  { b with st := 2, failures := sat16 o.failures.length, records := (o.failures.take 256).map fail
           dieSig := if b.origin = 0 && 2 ≤ b.kind then words (misr.take 17) else 0
           durationMs := sat16 o.durationMs, misr, diePending := false, job := none }

/-- BIST_COMPLETE (R474, R476, R478, R479): a die run ends after its warm reset and before READY. -/
def bistComplete (o : BistObs) (s : State) : State :=
  let b := s.hoop.bist
  if b.st ≠ 1 then s
  else if b.diePending then
    if s.hif.ready || s.hoop.warmAt.isSome then s else s.modBist (·.results o)
  else ((s.modBist (·.results o)).resetEngine b.origin none).finish? b.job 0 0 []

def BistFail.bytes (f : BistFail) : List Byte := leBytes 4 f.path ++ leBytes 1 f.fkind ++ leBytes 1 f.bit ++ zeros 2 ++ leBytes 4 f.data

def cmdBistResult : Cmd where
  spec := specBistResult
  param j _ := chk 0 (j.u8 0 ≤ 1) ++ rsv j 1 1 ++ chk 2 (j.u8 0 ≠ 0 || j.u16 2 = 0)
  run j s :=
    let b := s.hoop.bist
    let n := b.records.length
    let flags := b2n (b.st ≠ 0 && b.origin = 0) + 2 * b2n (b.st = 2 && b.failures = 0) + 4 * b2n (n < b.failures)
    let head := leBytes 1 b.st ++ leBytes 1 b.kind ++ leBytes 1 b.config ++ leBytes 1 flags ++ leBytes 2 b.origin ++ leBytes 2 b.failures ++
      leBytes 4 b.dieSig ++ leBytes 2 n ++ leBytes 2 b.durationMs
    if j.u8 0 = 0 then .ok s (head ++ (List.range 18).flatMap fun i => leBytes 4 (b.misr.getD i 0))
    else if n ≤ j.u16 2 then .fail eState 0
    else
      let got := (b.records.drop (j.u16 2)).take 82
      let payload := head ++ got.flatMap BistFail.bytes
      if j.u16 2 + got.length < n then .part s got.length payload else .ok s payload

def cmdDpPattern : Cmd where
  spec := specDpPattern
  param j _ :=
    chkId j 0 [7] ++ chk 2 (j.u8 2 ≤ 8 && !(j.u8 2 = 7 && j.u8 3 < 3)) ++ chk 3 (1 ≤ j.u8 3 && j.u8 3 ≤ 4) ++
    chk 4 (j.u8 4 = 1 || j.u8 4 = 2 || j.u8 4 = 4) ++ chk 5 (j.u8 5 ≤ 3 && j.u8 5 + j.u8 6 ≤ 3) ++ chk 6 (j.u8 6 ≤ 3) ++ rsv j 7 1
  names j := nameAt j 0
  run j s := if (s.dp (idIndex (j.u16 0))).training then .fail eBusy (j.u16 0) else .ok (s.affectPort j) []

end Sys2Proof.Machine
end

