-- ==== Sys2Proof/Machine/Table.lean ====
section
/-! DEFINITION. The table of all commands by class and opcode (R105), and the rules that need it: unknown classes and
opcodes (R74), commands held by ORDERED (R78). -/
namespace Sys2Proof.Machine

/-- Commands of the index, in the order of spec/opcode_table.json, part 1. -/
def cmdPart0 : List Cmd :=
  [cmdNop, cmdIdentify, cmdGetStatus, cmdSetEventMask, cmdResetBlock, cmdPeek, cmdPoke, cmdSessionOpen,
   cmdSessionClose, cmdSafetyHeartbeat, cmdTxnBegin, cmdTxnCommit, cmdTxnRollback, cmdTxnQuery, cmdSrcOpen,
   cmdSrcClose, cmdSrcSetFilter, cmdSrcJoin, cmdSrcLeave, cmdSrcGetStats, cmdSrcSetJitter, cmdSrcSetCredit,
   cmdNetPortConfig, cmdNetAddr, cmdNetStats, cmdNetLoop, cmdDecConfig, cmdDecStart, cmdDecStop, cmdDecFlush,
   cmdDecGetPool, cmdDecSetConceal]

/-- Commands of the index, in the order of spec/opcode_table.json, part 2. -/
def cmdPart1 : List Cmd :=
  [cmdFreshSetPolicy, cmdFreshGetState, cmdFreezeSet, cmdFreshSetTreatment, cmdProvRead, cmdTilePause, cmdTileResume,
   cmdLayerBind, cmdLayerPlace, cmdLayerScale, cmdLayerFlip, cmdLayerEnable, cmdLayerDisable, cmdBlendOrder,
   cmdLayerAlpha, cmdCoefLoad, cmdLutLoadPre, cmdLutLoadPost, cmdTableRead, cmdFenceCreate, cmdFenceSignal,
   cmdFenceDestroy, cmdApplStyleLoad, cmdApplBanner, cmdApplSafeMap, cmdApplStatus, cmdHeadTiming, cmdHeadBindPort,
   cmdHeadApplyLine, cmdHeadGenlock, cmdHeadSelfRefresh, cmdHeadEnable]

/-- Commands of the index, in the order of spec/opcode_table.json, part 3. -/
def cmdPart2 : List Cmd :=
  [cmdHeadDisable, cmdHeadGetCrc, cmdPortTrain, cmdSliceLock, cmdEncConfig, cmdEncStart, cmdEncStop, cmdEncSetRate,
   cmdAttestConfig, cmdAttestRead, cmdAudPortConfig, cmdAudRoute, cmdAudGroup, cmdAudTone, cmdAudStats,
   cmdTimeConfig, cmdTimeGet, cmdTimeSet, cmdTimeSlewLimit, cmdTimeAsym, cmdTimeStats, cmdTimeLegacyMode,
   cmdTouchConfig, cmdTouchStatus, cmdTouchRecal, cmdGpioConfig, cmdGpioStatus, cmdSafeStatus, cmdCbusConfig,
   cmdCbusSend, cmdLinkConfig, cmdLinkTrain]

/-- Commands of the index, in the order of spec/opcode_table.json, part 4. -/
def cmdPart3 : List Cmd :=
  [cmdLinkStatus, cmdLinkPrbs, cmdLinkLoop, cmdLinkTxeq, cmdLinkLowpower, cmdEnergySetBudget, cmdEnergyGet,
   cmdEnergySetClass, cmdPstateRequest, cmdPstateStatus, cmdWakeConfig, cmdRefusalLog, cmdGuardUpdate, cmdGuardRead,
   cmdGuardFaults, cmdGuardLock, cmdBistRun, cmdBistResult, cmdDpPattern, cmdLogRead, cmdSamplerRead, cmdSamplerArm,
   cmdSamplerTrigger, cmdSensorRead, cmdUpdBegin, cmdUpdChunk, cmdUpdVerify, cmdUpdActivate, cmdUpdRollback,
   cmdUpdStatus]

def cmdTable : List Cmd := cmdPart0 ++ cmdPart1 ++ cmdPart2 ++ cmdPart3

/-- The command whose execution is judged by the budget (R104 step 7). -/
def Cmd.budgeted (c : Cmd) : Cmd := { c with run := fun j s => withBudget j s (c.run j s) }

/-- The command of a class and opcode. -/
def lookup (cls op : Nat) : Option Cmd := cmdTable.find? fun c => c.spec.cls = cls && c.spec.op = op

/-- A class with at least one opcode. -/
def classKnown (cls : Nat) : Bool := cmdTable.any fun c => c.spec.cls = cls

/-- Begin a command that was taken from its transport (R74 steps 2 and 3 first). The loader refuses every opcode that it does not
serve with E_STATE (R420). -/
def beginAny (j : Job) (s : State) : State :=
  match lookup j.cls j.op with
  | some c => begin_ c.budgeted j s
  | none => s.reply j (if s.loader then eState else if classKnown j.cls then eOpcode else eClass) 0 []

/-- The commands of one source that were held begin, in their order, once their source lets them (R78). -/
def State.beginHeld (s : State) : State :=
  s.forEach s.hif.held fun j s =>
    let earlier := s.hif.held.takeWhile fun k => k ≠ j
    let fl := s.hif.inflight.filter fun k => sameSource j k && !k.deferred
    if !s.hif.held.contains j || earlier.any (sameSource j) || (!fl.isEmpty && (j.ordered || fl.any Job.ordered)) then s
    else beginAny j { s with hif := { s.hif with held := s.hif.held.erase j } }

/-! ### Deferred commands (R76) and transactions (R126-R130) -/

/-- Execute a staged or deferred command on the present state, with or without the budget's question. -/
def runJob (budget : Bool) (j : Job) (s : State) : CmdResult :=
  match lookup j.cls j.op with
  | some c => execCmd (if budget then c.budgeted else c) j s
  | none => .fail eOpcode 0

/-- The state a command leaves, or the state it began in when it fails. -/
def CmdResult.state (r : CmdResult) (s : State) : State :=
  match r with
  | .fail _ _ => s
  | .failWith s1 _ _ => s1
  | .ok s1 _ | .part s1 _ _ | .later s1 | .done s1 => s1

/-- Deferred commands whose Stitch has begun execute in the order of their acceptance (R76). -/
def State.runDeferred (s : State) : State :=
  let due := s.txn.deferred.filter fun d => d.stitch ≤ s.stitch
  let s1 := { s with txn := { s.txn with deferred := s.txn.deferred.filter fun d => !(d.stitch ≤ s.stitch) } }
  s1.forEach due fun d s => conclude d.job s (runJob true d.job s)

/-- The fix checks of R127: the first staged command that fails, counted from 1, with its status and DETAIL. -/
def fixErr : Nat → List Job → State → Option (Nat × Nat × Nat)
  | _, [], _ => none
  | n, j :: js, s =>
    match runJob true j s with
    | .fail st d | .failWith _ st d => some (n, st, d)
    | .ok s1 _ | .part s1 _ _ | .later s1 | .done s1 => fixErr (n + 1) js s1

/-- The present Stitch becomes the fix Stitch of a transaction (R126, R127). -/
def State.fixTxn (s : State) (x : Txn) (late : Bool) : State :=
  match fixErr 1 x.staged s with
  | some (n, st, d) => s.rollback x 5 st d n
  | none =>
    let s1 := s.modTxn x.handle fun x => { x with st := .fixed, sa := max x.sc (s.stitch + 2) }
    s1.when late (·.evtTxn x.handle 3 0 0 0 0)

/-- At a Stitch boundary: committing transactions whose fence lists hold are fixed. A list that first holds after the
boundary of its timeout no longer counts (R126). -/
def State.fixDue (s : State) : State :=
  s.forEach (s.txn.live.filter fun x => x.st = .committing) fun x s =>
    if (s.fenceShort x).isNone && (x.fences.isEmpty || s.boundaryAt < x.acceptedAt + x.timeoutNs + stitchNs) then s.fixTxn x false
    else s

/-- TXN_FENCE_TIMEOUT (R126): the boundary of the timeout has come and the list did not hold. -/
def txnFenceTimeout (h : Nat) (s : State) : State :=
  match s.txn? h with
  | none => s
  | some x =>
    if x.st ≠ .committing || x.fences.isEmpty || s.boundaryAt < x.acceptedAt + x.timeoutNs then s
    else if x.lateApply then s.fixTxn x true
    else s.rollback x 3 eFenceTimeout ((s.fenceShort x).getD (x.fences.headD (0, 0)).1) 0

/-- A transaction's flips on a head that takes its changes at S_a are applied there too (R133, R237). -/
def State.serveStaged (s : State) (x : Txn) (h : Nat) : State :=
  let flips := x.staged.filter fun j => j.cls = 0x20 && j.op = 0x04
  s.forEach ((s.tilesOn h).filter fun t => flips.any fun j => j.layer = t.layer) fun t s => s.serveTile t s.afterNow 0

/-- TXN_APPLY_GLOBAL (R129, R130, R131): S_a has begun. Each staged command takes effect; what affects a head waits for its
apply line. The commit replies with S_a. -/
def txnApplyGlobal (h : Nat) (s : State) : State :=
  match s.txn? h with
  | none => s
  | some x =>
    if x.st ≠ .fixed || s.stitch < x.sa then s else
    let now := (List.range 32).filter fun n => (s.head n).immediate
    let s0 := s.modTxn h fun x => { x with atOnce := now }
    let s1 := (s0.forEach x.staged fun j s => (runJob false j s).state s).forEach now fun n s => s.serveStaged x n
    let s2 := s1.modTxn h fun x => { x with st := .applying, commit := none }
    (s2.finish? x.commit 0 0 (leBytes 8 x.sa)).settleTxns

/-- What follows every row: held commands begin (R78); after a forward step, what was due in the Stitches crossed happens at
once (R324); transactions with no change left are APPLIED (R121). -/
def settle (s : State) : State :=
  let s := s.beginHeld
  let s := if s.clk.lastForward = some s.now then
      s.runDeferred.forEach (s.txn.live.map (·.handle)) txnApplyGlobal
    else s
  s.settleTxns

end Sys2Proof.Machine
end

