-- ==== Sys2Proof/Machine/Intake.lean ====
section
/-! DEFINITION. Requests from their arrival: commands on any transport, submission entries (R80, R82), command datagrams
(R91) and SPI packets (R92, R93). -/
namespace Sys2Proof.Machine

/-- A command that has been taken: a datagram accepted on ETH0 is a wake source (Table 16-7). -/
def State.accepted_ (s : State) (r : Request) : State :=
  if r.transport = .network && r.port = 0 then s.wakeBy 6 else s

/-- A host command from its arrival to its reply. -/
def host (c : Cmd) (r : Request) (s : State) : State :=
  match intake c.spec.cls c.spec.op c.spec.reply true r s with
  | (s1, none) => s1
  | (s1, some j) => takeUp c j (s1.accepted_ r)

/-- The class, the opcode, LEN and the request that the bytes of a packet spell (Table 3-1). -/
def parsePacket (b : List Byte) (from_ : Request) : Nat × Nat × Nat × Request :=
  (uAt b 0 1, uAt b 1 1, uAt b 2 2,
   { from_ with tag := uAt b 4 4, txn := uAt b 8 2, flags := uAt b 10 1, session := uAt b 11 1, stitch := uAt b 12 4
                payload := b.drop 16 })

/-- Admit a packet that was taken: LEN against the transport's length, then class and opcode (R74 steps 1-3). DETAIL of
E_LENGTH is R100's where the opcode is known, and free where it is not (log entry 58). -/
def takePacket (lenOk : Bool) (j : Job) (s : State) : State :=
  match lookup j.cls j.op with
  | some c => if lenOk then takeUp c.budgeted j s else s.reply j eLength (c.spec.len.nearest j.len) []
  | none =>
    if lenOk then
      if mustWait j s then { s with hif := { s.hif with held := s.hif.held ++ [j] } } else beginAny j s
    else
      let (d, s) := s.takeFree
      s.reply j eLength (d % m16) []

/-- The fault of a submission entry (R80, Table 3-3). -/
def entryFault (e : SqEntry) : Option Nat :=
  if 2 ≤ e.control then some eParam
  else if e.control = 1 then
    if e.address % 64 ≠ 0 then some eParam else if e.length < 16 || 1024 < e.length then some eLength else none
  else if e.address ≠ 0 then some eParam
  else if e.length < 16 || 48 < e.length then some eLength else none

/-- SQ_ENTRY_TAKE. A LENGTH that disagrees with LEN is a fault of the entry as well (DETAIL 0xFFFF, log entry 58). -/
def sqEntryTake (e : SqEntry) (s : State) : State :=
  match s.nextQueue with
  | none => s
  | some q =>
    let pkt := padTo (max 16 (min e.length 1024)) (if e.control % 2 = 1 then e.indirect else e.inline)
    let (cls, op, len, r) := parsePacket pkt { transport := .pcie, queue := q }
    match entryFault e with
    | some st =>
      match takeEntry cls op false r s with
      | (s1, some j) => s1.reply j st 0xFFFF []
      | (s1, none) => s1
    | none =>
      match takeEntry cls op ((lookup cls op).any fun c : Cmd => c.spec.reply) r s with
      | (s1, some j) => if len = e.length then takePacket true j s1 else s1.reply j eLength 0xFFFF []
      | (s1, none) => s1

/-- NETWORK_DATAGRAM_RECEIVE: a UDP datagram to port 47210 (Table 3-9, R91). -/
def datagramReceive (port peer udp : Nat) (b : List Byte) (s : State) : State :=
  match s.rxDatagram port peer (b.length - 24) with
  | (s1, false) => s1
  | (s1, true) =>
    let n := b.length - 24
    let pkt := (b.drop 8).take n
    let (cls, op, len, r) := parsePacket pkt { transport := .network, peer, udp, port, seq := uAt b 0 8 }
    let mac := b.drop (8 + n)
    let macOk := decide (40 ≤ b.length ∧ b.length ≤ 1048) && (if r.session = 0 then mac = zeros 16 else
      match s1.session? r.session with
      | some x => decide (mac = (hmacSha256 x.key (b.take (8 + n))).take 16)
      | none => false)
    match takeNet cls op macOk r s1 with
    | (s2, none) => s2
    | (s2, some j) => takePacket (len = n) j (s2.accepted_ r)

/-- SPI_WRITE_PACKET: the bytes after command byte 0x01, a preamble of length and CRC and the packet (R92, R93). A transfer
that ends before its preamble or its stated length has a bad CRC (log entry 62). -/
def spiWrite (safety : Bool) (b : List Byte) (s : State) : State :=
  if !(s.transportUp || (s.loader && !safety)) then s else
  let p := s.spiPort safety
  let n := uAt b 0 2
  let pkt := (b.drop 4).take n
  if b.length < 4 || pkt.length ≠ n || crc16 (b.take 2 ++ pkt) ≠ uAt b 2 2 then
    (s.emit (.spiStatus safety (s.spiStatus safety))).setSpiPort safety { p with crcErr := true, discarded := satAdd32 p.discarded 1 }
  else
    let full := padTo (max 16 n) pkt
    let (cls, op, len, r) := parsePacket full { transport := if safety then .safetySpi else .spi }
    match takeSpi cls op r s with
    | (s1, none) => s1
    | (s1, some j) => takePacket (len = n && 16 ≤ n) j s1

/-- SPI_READ_REPLY: command byte 0x02 (R92). -/
def spiRead (safety : Bool) (s : State) : State :=
  if !(s.transportUp || (s.loader && !safety)) then s else
  let p := s.spiPort safety
  let pkt := p.waiting.headD []
  let body := leBytes 2 pkt.length
  (s.setSpiPort safety { p with waiting := p.waiting.tail }).emit
    (.spiPacket safety (s.spiStatus safety) (body ++ leBytes 2 (crc16 (body ++ pkt)) ++ pkt))

/-- A transfer on an SPI port, its command byte first (R92): a write, a read, or ignored but for the status byte. -/
def spiTransfer (safety : Bool) (command : Nat) (b : List Byte) (s : State) : State :=
  match command with
  | 1 => spiWrite safety b s
  | 2 => spiRead safety s
  | _ => s.when (s.transportUp || (s.loader && !safety)) (·.emit (.spiStatus safety (s.spiStatus safety)))

end Sys2Proof.Machine
end

