-- ==== Sys2Proof/Machine/Reset.lean ====
section
/-! DEFINITION. Resets, start-up, the thermal trip and the clock monitors (spec/22, spec/18 R407, R409, R419, R424). -/
namespace Sys2Proof.Machine

/-! ### What a reset leaves (Table 22-3) -/

/-- Transactions rolled back by a reset raise one event each, with reason 6 (R137). Events of an earlier reset that READY has not
followed yet stay. -/
def State.resetEvents (s : State) : List Event :=
  let lost (x : Txn) : Event :=
    { op := 0x0B, source := 0, stitch := 0, data := padTo 16 (leBytes 2 x.handle ++ leBytes 1 2 ++ leBytes 1 6) }
  (if s.hif.ready then [] else s.ses.heldEvents) ++ s.txn.live.map lost

/-- Counters of a port, a domain, a link and a head that only PORST_B clears (R164, R334, R456, R259). -/
def NetPort.counters (p fresh : NetPort) : NetPort := { fresh with ctr := p.ctr }

def Domain.counters (d : Domain) : Domain :=
  { syncRx := d.syncRx, followUpRx := d.followUpRx, delayReqTx := d.delayReqTx, delayRespRx := d.delayRespRx, announceRx := d.announceRx
    timeouts := d.timeouts, relocks := d.relocks }

def Lk.counters (l : Lk) : Lk :=
  { los := l.los, lol := l.lol, retrains := l.retrains, resends := l.resends, crcErrors := l.crcErrors, txFlits := l.txFlits
    rxFlits := l.rxFlits, creditStalls := l.creditStalls, dropped := l.dropped }

/-- An update meets a reset (Table 18-6): an activated image is on trial, a trial has failed, anything else is abandoned. -/
def Upd.reset (u : Upd) : Upd :=
  let st : UpdState := match u.st with
    | .activated => if u.noTrial then .idle else .trial
    | .trial => .trial
    | .idle | .receiving | .verified => .idle
  { u with st, chunks := [], received := [], length := 0, recoveryHoop := false }

/-- A Sampler copy that a reset interrupts leaves the store frozen (R427). -/
def Sampler.reset (m : Sampler) : Sampler := if m.st = .copying then { m with st := .frozen, copyFailed := false } else m

/-- What PORST_B leaves of the Hoop: OTP, flash, the Sampler store and the BIST results. -/
def Hoop.persist (h : Hoop) : Hoop :=
  { otp := h.otp, flashKeys := h.flashKeys, flashPresent := h.flashPresent, slots := h.slots, bootSlot := h.bootSlot, running := h.running
    upd := h.upd.reset, summary := h.summary, sampler := h.sampler.reset, bist := if h.bist.st = 1 && !h.bist.diePending then { h.bist with st := 3, job := none } else h.bist
    trippedReport := h.trippedReport, pmbus := h.pmbus, scrubHours := h.scrubHours, heapGib := h.heapGib, boardGuard := h.boardGuard }

/-- The interrupt pins of the SPI ports follow TX_PENDING to 0 (R92). -/
def State.dropPins (s : State) : List Output :=
  ([false, true].filter fun b => (s.spiPort b).txPending).map fun b => .pin (spiIrqPin b) true

/-- The RTC, the elapsed counter and the model's own fields pass through every reset. -/
def State.porstKeeps (s : State) : State :=
  { State.reset with
    clk := { elapsed := s.clk.elapsed, rtcSec := s.clk.rtcSec, rtcSub := s.clk.rtcSub, rtcAt := s.clk.rtcAt }
    hoop := { s.hoop.persist with bist := { s.hoop.persist.bist with diePending := false } }
    ses := { heldEvents := s.resetEvents }
    out := s.dropPins ++ s.out, free := s.free, pending := s.pending }

/-- Every domain except PD_AON is reset: what PORST_B keeps, the Stitch number, the AON state and the counters that only PORST_B
clears remain (Table 22-3). -/
def State.sysKeeps (s : State) : State :=
  let c := s.clk
  let io := s.io
  let aon (i : Nat) (x : Inp) : Inp := if i < 8 || 48 ≤ i then x else {}
  { State.reset with
    clk := { elapsed := c.elapsed, rtcSec := c.rtcSec, rtcSub := c.rtcSub, rtcAt := c.rtcAt, stitch := c.stitch
             domains := c.domains.map Domain.counters, switches := c.switches, steps := c.steps
             faults := c.faults, refLost := c.refLost, refLostAt := c.refLostAt, refGoodAt := c.refGoodAt, clockFault := c.clockFault }
    -- The regulator of VDD_CORE is not reset: its setpoint stays (R507, log entry 77).
    hoop := { s.hoop.persist with coreMv := s.hoop.coreMv, coreMvAt := s.hoop.coreMvAt }
    ses := { heldEvents := s.resetEvents }
    pwr := { wake := s.pwr.wake, lastWake := s.pwr.lastWake, refTotal := s.pwr.refTotal, refCount := s.pwr.refCount
             refLast := s.pwr.refLast, domainOff := s.pwr.domainOff, eccCorr := s.pwr.eccCorr, eccUnc := s.pwr.eccUnc }
    net := { ports := s.net.ports.mapIdx fun i p => p.counters (State.reset.net.ports.getD i {}) }
    heads := s.heads.map fun h => { frame := h.frame }
    lnk := { links := s.lnk.links.map Lk.counters }
    io := { touchOn := io.touchOn, holdS := io.holdS, approachThr := io.approachThr, baseTc := io.baseTc, scans := io.scans
            electrodes := io.electrodes, approachRun := io.approachRun, approach := io.approach
            inputs := io.inputs.mapIdx aon, pairs := io.pairs, pairFaults := io.pairFaults }
    out := s.dropPins ++ s.out, free := s.free, pending := s.pending }

/-! ### The boot ROM (R413, R418, R419, R424, Table 22-4) -/

/-- The image of a slot can be booted: valid when written, not below the OTP counter, and R418 holds of its bytes. A slot that holds
the bundle of the factory has no bytes in the model (log entry 2). -/
def State.slotOk (s : State) (i : Nat) : Bool :=
  let x := s.hoop.slots.getD i {}
  x.valid && s.hoop.otp.arb ≤ x.arb && (x.bytes.isEmpty || (s.imageErr x.bytes [3]).isNone)

/-- The board configuration of the image that boots (R418, R391, R23, R174). An image without bytes is the factory's, whose
configuration is that of State.reset (log entry 2). -/
def Hoop.configured (h : Hoop) (bytes : List Byte) : Hoop :=
  match imgSection bytes 3 with
  | none => { h with scrubHours := 24, heapGib := 8, pmbus := [(0, 0), (0, 1), (0, 2), (0, 3)], boardGuard := [] }
  | some c =>
    let (scrub, heap, rails, _, _, gs) := Config.boardConfig c
    let region (w : List Nat) : Nat × Nat × Region :=
      let p := w.getD 4 0
      (w.getD 0 0, w.getD 1 0, { base := w.getD 2 0, sizeExp := w.getD 3 0, read := p.testBit 0, write := p.testBit 1, lock := p.testBit 2
                                 role := w.getD 5 0, owner := w.getD 6 0 })
    -- A value outside its permitted range (R23, R174) leaves the default (log entry 107). DESIGN CHOICE (log entry 107): the heap's
    -- size is held in whole GiB.
    { h with scrubHours := if 1 ≤ scrub && scrub ≤ 168 then scrub else 24
             heapGib := if 2 ≤ heap && (heap + 2) * 2 ^ 30 ≤ visibleDram h.otp.dramGib then heap else 8
             pmbus := rails.take 4
             boardGuard := gs.map region }

/-- The local clock is loaded from the RTC and time is not established (R321). -/
def State.loadLocal (s : State) : State :=
  let l := s.rtc.1 * nsPerSec + s.rtc.2 * nsPerSec / 32768
  { s with clk := { s.clk with localNs := l, boundary := l / stitchNs * stitchNs, established := false } }

/-- Steps 3 and 4 of Table 22-4. A trial that meets the reset has failed before the slot is chosen (Table 18-6). -/
def State.boot (s : State) (trialFailed : Bool) : State :=
  let s := (if trialFailed then s.failTrial 3 else s).loadLocal
  let h := s.hoop
  let named := h.bootSlot
  let life := h.otp.lifecycle
  let keys := if life = 2 then List.replicate 5 none else h.flashKeys
  let up := { h with keys, debugOpen := life ≠ 1, releasedAt := s.now, samplerSinceReset := false }
  if s.slotOk named || s.slotOk (1 - named) then
    let slot := if s.slotOk named then named else 1 - named
    let x := h.slots.getD slot {}
    let trial (u : Upd) : Upd := if u.st = .trial then { u with trialUntil := s.now + 60 * nsPerSec } else u
    let s1 := { s with hoop := { up.configured x.bytes with running := slot, upd := trial up.upd, fwHoop := x.version, fwBobbin := x.version }, hif := { s.hif with hoopState := 1 } }
    let bad := h.slots.getD named {}
    s1.when (slot ≠ named) (·.record 0x0A03 0 [named, bad.version, bad.arb])
  else
    let (code, s) := s.takeFree
    ({ s with hoop := up.configured [], hif := { s.hif with hoopState := 0, panic := true, panicCode := code % m32 } }).raiseIrq 9

/-- A warm reset (R495, R496); it is ignored while PORST_B is low, and causes that coincide give one reset. -/
def warmReset (s : State) : State :=
  if (s.hif.hoopState = 0 && !s.hif.panic) || (s.hif.hoopState = 1 && s.hoop.releasedAt = s.now) then s
  else s.sysKeeps.boot (s.hoop.upd.st = .trial)

/-- PORST_ASSERT. -/
def porstAssert (s : State) : State :=
  let failed := s.hoop.upd.st = .trial
  let s1 := s.porstKeeps
  if failed then s1.failTrial 3 else s1

/-- PORST_RELEASE: the boot ROM runs, once REFCLK is good; the electrodes start as R461 says (Table 22-4). -/
def porstRelease (s : State) : State :=
  if s.hif.hoopState ≠ 0 || s.hif.panic || s.hoop.awaitRef then s else
  (if s.clk.refLost then s.modHoop fun h => { h with awaitRef := true } else s.boot false).modIo fun x => { x with electrodes := x.electrodes.mapIdx fun i e => e.powerUp (s.touchRef i) }

/-- A device region locked to a unit, at a place the spec leaves open but that R390 permits. -/
def deviceRegion (unit : Nat) (x : Nat × Nat × Nat) : Nat × Nat × Region :=
  let n := 12 + x.2.2 % 25
  (unit, x.1 % 16, { base := x.2.1 % 2 ^ (40 - n) * 2 ^ n, sizeExp := n, read := true, write := true, lock := true, role := 0
                     owner := 0xFF })

/-- A region may stand in a unit's program: it has the form of R390, its index is free, and it overlaps none there (R394). -/
def GuardUnit.admits (u : GuardUnit) (i : Nat) (g : Region) : Bool :=
  (g.sizeExp = 0 || (12 ≤ g.sizeExp && g.sizeExp ≤ 36)) && g.base % 2 ^ g.sizeExp = 0 && g.top ≤ 2 ^ 40 &&
  !(u.regions.getD i {}).enabled && overlapPair (u.regions.set i g) = none

/-- The Guard programs loaded at start-up (R391): the device regions, then the board's. DESIGN CHOICE (log entry 107): a region of the
board's that the unit cannot hold is not loaded. -/
def State.guardPrograms (s : State) : List GuardUnit :=
  let put (g : List GuardUnit) (e : Nat × Nat × Region) : List GuardUnit :=
    modAt g e.1 fun u => if u.admits e.2.1 e.2.2 then { u with regions := u.regions.set e.2.1 e.2.2 } else u
  ([deviceRegion 5 Config.appliqueMemory, deviceRegion 1 Config.attestRings] ++ s.hoop.boardGuard).foldl put s.grd

/-- DEVICE_READY (R497-R499): steps 5-7 of Table 22-4. -/
def deviceReady (s : State) : State :=
  if s.hif.hoopState ≠ 1 || s.hif.panic || s.hif.ready || s.hoop.bist.diePending || s.clk.refLost then s else
  let held := s.ses.heldEvents.map fun e => { e with stitch := s.stitch32 }
  let m := s.hoop.sampler
  let again := m.st = .frozen && !m.copyFailed && s.hoop.flashPresent
  let s1 := { s with
    hif := { s.hif with ready := true, hoopState := 2 }
    grd := s.guardPrograms
    ses := { s.ses with spiStream := { opened := true }, safetyStream := { opened := true }, heldEvents := held
                        heldUntil := s.now + 60 * nsPerSec, heldGivenPcie := false }
    nrg := { s.nrg with lastRail := s.now }
    pwr := { s.pwr with scrubAt := s.now }
    hoop := { s.hoop with bobbinOkSince := s.now, trippedReport := none, sampler := if again then { m with st := .copying } else m } }
  let s2 := (s1.raiseIrq 10).forEach held fun e s => s.raise e.op e.source e.data
  match s.hoop.trippedReport with
  | some (i, mC, n) => s2.evtThermal i 7 mC n
  | none => s2

/-- DELAYED_WARM_RESET (R424, R479). -/
def delayedWarmReset (s : State) : State :=
  match s.hoop.warmAt with
  | some t => if t ≤ s.now then warmReset s else s
  | none => s

/-- HOOP_WATCHDOG_EXPIRY (R409). -/
def hoopWatchdog (s : State) : State :=
  if s.hif.hoopState = 0 then s else warmReset (s.trigger 0x0101 0x0100 [])

/-- FIELD_RETURN_RESPONSE (R416): an accepted one ends in a warm reset. -/
def fieldReturnResponse (sig : List Byte) (s : State) : State :=
  let (s1, ok) := s.fieldReturnResponse sig
  if ok then warmReset s1 else s1

/-! ### The thermal trip (R407) -/

/-- THERMAL_TRIP: the third sample in a row at or above 110 °C of a healthy sensor. -/
def thermalTrip (i : Nat) (mC : Int) (s : State) : State :=
  if s.hoop.tripped || mC < 110000 || 18 ≤ i || (s.hoop.sensors.getD i {}).faulty then s else
  let s1 := s.trigger 0x0102 (0) [i, unsigned 32 mC]
  let kept := s1.sysKeeps
  let alive := (List.range 21).map fun d => decide (d < 2)
  let h := s1.hoop
  { kept with
    clk := s1.clk
    hif := { kept.hif with hoopState := s1.hif.hoopState, panic := s1.hif.panic, pcieUp := false }
    pwr := { kept.pwr with on := alive, portOpen := alive }
    hoop := { h with
      tripped := true, trippedReport := some (i, mC, h.sampler.incident), log := []
      bist := if h.bist.st = 1 then { h.bist with st := 3, job := none, diePending := false } else h.bist
      resetting := [], upd := h.upd } }

/-- THERMAL_TRIP_RECOVERY: every healthy sensor reads below 95 °C. -/
def thermalRecovery (s : State) : State :=
  if s.hoop.tripped && s.hoop.sensors.all (fun x => x.faulty || x.mC < 95000) then warmReset s else s

/-! ### The clock monitors (R485-R492) -/

def State.modClockQuotas (s : State) (f : Quota → Quota) : State :=
  { s with dec := { s.dec with gimpCh := s.dec.gimpCh.map f, gimpG := s.dec.gimpG.map f } }

/-- REFCLK is lost (R487). -/
def State.loseRef (s : State) : State :=
  if s.clk.refLost then s else
  let s1 := (s.modClk fun c => { c with refLost := true, refLostAt := s.now, refGoodAt := none }).modClockQuotas fun q =>
    { q with lost := (q.last, none) :: q.lost }
  s1.forEach (List.range 4) fun p s => s.portDown p

/-- REFCLK is good again (R487, R489). -/
def State.regainRef (s : State) : State :=
  let back (q : Quota) : Quota := { q with lost := q.lost.map fun x => match x.2 with
    | none => (x.1, some q.last)
    | some _ => x }
  (s.modClk fun c => { c with
    refLost := false, refGoodAt := some s.now, referenceSeen := c.domains.any Domain.valid }).modClockQuotas back

/-- The input of Table 22-1 or the bit clock exists and is watched. -/
def State.watched (s : State) (input : Nat) : Bool :=
  input ≤ 4 || (8 ≤ input && input < 16 && (let p := s.audPort (input - 8); p.enable && !p.master))

/-- CLOCK_MONITOR_FINDING: kind 1 stop, 2 glitch, 3 rate change. -/
def clockFinding (input kind freq : Nat) (s : State) : State :=
  if !s.watched input || kind = 0 || 3 < kind then s else
  let s1 := (s.logOnly (0x0C00 + kind) 0 [input, sat32 freq]).modClk fun c => { c with
    faults := (input, s.now) :: c.faults.filter fun f => f.1 ≠ input }
  match input with
  | 0 => s1.loseRef
  | 1 => s1
  | 2 => { s1 with hif := { s1.hif with pcieUp := false, enable := false } }
  | _ =>
    let ports := if 8 ≤ input then [input - 8]
      else (List.range 8).filter fun k => let p := s1.audPort k; p.enable && p.master && p.clock = input - 2
    s1.forEach ports fun k s => s.audClockFault k kind

/-- CLOCK_GOOD_AGAIN: 10 ms without a finding (R486). -/
def clockGood (input : Nat) (s : State) : State :=
  match s.clk.faults.find? fun f => f.1 = input with
  | none => s
  | some f =>
    if s.now < f.2 + 10000000 then s else
    let s1 := s.modClk fun c => { c with faults := c.faults.filter fun f => f.1 ≠ input }
    match input with
    | 0 =>
      let s2 := s1.regainRef
      if s.hoop.awaitRef then (s2.modHoop fun h => { h with awaitRef := false }).boot false else s2
    | 2 => { s1 with hif := { s1.hif with pcieUp := s1.domainOn 19 } }
    | _ => s1

/-- CLOCK_FAULT_BANNER: REFCLK still lost after 1 s (R488). -/
def clockBanner (s : State) : State :=
  if s.clk.refLost && s.clk.refLostAt + nsPerSec ≤ s.now then (s.modClk fun c => { c with clockFault := true }).bannersEndSr else s

/-- REFCLK_RECOVERY_END: 1 s after REFCLK is good again (R489). -/
def refclkRecovery (s : State) : State :=
  match s.clk.refGoodAt with
  | some t => if t + nsPerSec ≤ s.now then s.modClk fun c => { c with refGoodAt := none, clockFault := false } else s
  | none => s

end Sys2Proof.Machine
end

