-- ==== Sys2Proof/Machine/Boundary.lean ====
section
/-! DEFINITION. The Stitch boundary (R16): everything that happens once per Stitch. -/
namespace Sys2Proof.Machine

/-- The Stitch number moves on, unless a forward step has already moved it over this boundary (R16, R324). -/
def State.nextStitch (s : State) : State :=
  if s.clk.stepDue then s.modClk fun c => { c with stepDue := false }
  else s.modClk fun c => { c with boundary := c.boundary + stitchNs, stitch := c.stitch + 1 }

/-- A boundary can be served: time has reached it, the device is out of PORST and not in REST. -/
def State.boundaryDue (s : State) : Bool :=
  s.pwr.pstate ≠ 3 && (s.hif.hoopState ≠ 0 || s.hif.panic) && (s.clk.stepDue || decide (s.clk.boundary + stitchNs ≤ s.local))

/-- Settings that take effect at a boundary: ports and sources, clock corrections, freeze criteria, throttling (R494). -/
def State.settingsBoundary (s : State) : State :=
  let s := s.clockBoundary.netBoundary
  let throttle (h : Hoop) : Hoop := match h.throttlePending with
    | some d => { h with throttle := some d, throttlePending := none }
    | none => h
  { s with dec := { s.dec with ctxs := s.dec.ctxs.map Ctx.takeFreeze }, hoop := throttle s.hoop }

/-- Layers on no head take their changes, and they and the tiles of UNTIMED heads have their flips served (R237, R517). -/
def State.layersBoundary (s : State) : State :=
  let s := s.applyWaiting none
  let s := s.forEach ((List.range 64).map (128 + ·)) fun i s => s.serveLayer i
  s.forEach (s.lay.tiles.filter fun t => (s.head t.head).st = .untimed) fun t s => s.serveTile t (s.sampleAt t.head) 1

/-- What happens at a boundary once the Stitch number has moved on. -/
def boundaryWork (obs : StitchObs) (s : State) : State :=
  let s := { s with ses := { s.ses with onceThisStitch := [] }, pwr := { s.pwr with offLogged := [] } }
  let s := s.audBoundary.ioBoundary.settingsBoundary.layersBoundary.fixDue
  let s := (s.energyBoundary obs).encOverruns
  let s := (s.dispatchAll s.chClass s.boundaryAt).pstateBoundary.sliceBoundary
  s.linkBoundary s.uDev s.unproven

/-- STITCH_BOUNDARY (R16). -/
def stitchBoundary (obs : StitchObs) (s : State) : State := if s.boundaryDue then boundaryWork obs s.nextStitch else s

end Sys2Proof.Machine
end

