-- ==== Sys2Proof/Machine/Hif.lean ====
section
/-! DEFINITION. BAR0 host registers, doorbells and interrupts (spec/03 R79-R88, Tables 3-5 to 3-8). -/
namespace Sys2Proof.Machine

def sizeOk (lo n : Nat) : Bool := lo ≤ n && n ≤ 4096

/-- R79's rule for the ring sizes. -/
def ringsOk (h : Hif) : Bool :=
  let used (q : Nat) : Bool := q ≠ 0
  sizeOk 16 (h.sqs.getD 0 {}).size && sizeOk 16 (h.cqs.getD 0 {}).size &&
  ((List.range 4).all fun i =>
    let a := (h.sqs.getD i {}).size
    let b := (h.cqs.getD i {}).size
    used a = used b && (!used a || sizeOk 16 a) && (!used b || sizeOk 16 b)) &&
  sizeOk 64 h.eq.size && sizeOk 16 h.rbuf.count

/-- HIF_CTRL.ENABLE written to 1 (R79, R81, Table 3-6). -/
def hifEnable (s : State) : State :=
  if !s.pcieOn || s.hif.enable then s
  else if !ringsOk s.hif then { s with hif := { s.hif with cfgErr := true } }
  else
    let h := s.hif
    let s1 := { s with
      hif := { h with
        enable := true, cfgErr := false, eqLost := 0,
        sqs := h.sqs.map fun q => { q with head := 0, tail := 0 },
        cqs := h.cqs.map fun q => { q with head := 0, tail := 0, phase := true, posted := 0 },
        eq := { h.eq with head := 0, tail := 0, phase := true, posted := 0, reserved := 0 },
        rbuf := { h.rbuf with cons := 0, prod := h.rbuf.count } }
      ses := { s.ses with pcieStream := { opened := true }, heldGivenPcie := true } }
    -- R137: held events, at the first 0 to 1 after the reset.
    if !s.ses.heldGivenPcie && s.now < s.ses.heldUntil then
      s.ses.heldEvents.foldl (fun s e => if s.wants .pcie e.op then s.offerPcie e else s) s1
    else s1

/-- HIF_CTRL.ENABLE written to 0: intake stops. -/
def hifDisable (s : State) : State := if s.pcieOn then { s with hif := { s.hif with enable := false } } else s

/-- The registers of a ring at +0x0 to +0x10: base, size, the doorbell, which is write-only and reads zero, and the device's own
index (Tables 3-5, 3-7). -/
def ringRead (base size index o : Nat) : Nat :=
  match o with
  | 0x0 => base % m32
  | 0x4 => base / m32 % 256
  | 0x8 => size
  | 0x10 => index
  | _ => 0

/-- What a 32-bit read at a BAR0 offset returns (R10, R11, R85-R87, Tables 3-5 to 3-8): reserved bits, write-only fields and
unlisted offsets read zero. HIF_FENCE_SIGNAL reads zero (log entry 52). -/
def State.registerRead (s : State) (offset : Nat) : Nat :=
  let h := s.hif
  if 0x100 ≤ offset && offset < 0x180 then
    let q := h.sqs.getD ((offset - 0x100) / 0x20) {}
    ringRead q.base q.size q.head (offset % 0x20)
  else if 0x180 ≤ offset && offset < 0x200 then
    let q := h.cqs.getD ((offset - 0x180) / 0x20) {}
    ringRead q.base q.size q.tail (offset % 0x20)
  else match offset with
  | 0x000 => 0x4A587264
  | 0x004 => s.hoop.otp.rev
  | 0x008 => s.hifStatus
  | 0x00C => b2n h.enable
  | 0x010 => s.stitch32
  | 0x014 => h.latchStitch
  | 0x018 => h.latchTimeS
  | 0x01C => h.latchTimeNs
  | 0x200 | 0x204 | 0x208 | 0x20C | 0x210 => ringRead h.eq.base h.eq.size h.eq.tail (offset - 0x200)
  | 0x214 => h.eqLost
  | 0x240 | 0x244 | 0x248 => ringRead h.rbuf.base h.rbuf.count 0 (offset - 0x240)
  | 0x24C => h.rbuf.prod
  | 0x250 => h.rbuf.cons
  | 0x300 => h.irqStatus
  | 0x304 => h.irqMask
  | 0x344 => h.fenceValue
  | 0x380 => h.apertureBase % m32
  | 0x384 => h.apertureBase / m32 % 256
  | 0x3F0 => h.scratch
  | 0x3F4 => h.panicCode
  | _ => 0

/-- A read of HIF_STITCH_LO (R86). -/
def hifStitchRead (s : State) : State :=
  if !s.pcieOn then s else
  ({ s with hif := { s.hif with
      latchStitch := s.stitch / m32 % m32, latchTimeS := s.local / nsPerSec % m32, latchTimeNs := s.local % nsPerSec } }).emit
    (.readValue (s.registerRead 0x010))

/-- SQn TAIL doorbell (Table 3-7). -/
def sqTail (q value : Nat) (s : State) : State :=
  let v := value % 4096
  if !(s.pcieOn && q < 4) then s
  else if v ≥ (s.hif.sqs.getD q {}).size then s.raiseIrq 6
  else { s with hif := { s.hif with sqs := modAt s.hif.sqs q fun x => { x with tail := v } } }

/-- CQn HEAD doorbell (Table 3-7, R83). -/
def cqHead (q value : Nat) (s : State) : State :=
  let v := value % 4096
  if !(s.pcieOn && q < 4) then s
  else if v ≥ (s.hif.cqs.getD q {}).size then s.raiseIrq 6
  else { s with hif := { s.hif with cqs := modAt s.hif.cqs q fun x => x.consume v } }

/-- EQ HEAD doorbell. -/
def eqHead (value : Nat) (s : State) : State :=
  let v := value % 4096
  if !s.pcieOn then s
  else if v ≥ s.hif.eq.size then s.raiseIrq 6
  else { s with hif := { s.hif with eq := s.hif.eq.consume v } }

/-- HIF_RBUF_PROD (R81). -/
def rbufProd (value : Nat) (s : State) : State :=
  let v := value % m16
  if !s.pcieOn then s
  else if (v + m16 - s.hif.rbuf.cons) % m16 > s.hif.rbuf.count then s.raiseIrq 6
  else { s with hif := { s.hif with rbuf := { s.hif.rbuf with prod := v } } }

/-- HIF_IRQ_STATUS, write 1 to clear. -/
def irqClear (value : Nat) (s : State) : State :=
  if !s.pcieOn then s else
  { s with hif := { s.hif with irqStatus := s.hif.irqStatus &&& (0x7FF ^^^ (value % 2048)) } }

/-- HIF_APERTURE_BASE (R89): bits [27:0] read zero. -/
def apertureBase (high : Bool) (value : Nat) (s : State) : State :=
  if !s.pcieOn then s else
  let b := s.hif.apertureBase
  { s with hif := { s.hif with apertureBase :=
      if high then b % m32 + value % 256 * m32 else b / m32 * m32 + value % m32 / 2 ^ 28 * 2 ^ 28 } }

/-- The value a fence takes (a saturating-free u64). -/
def State.setFence (s : State) (k v : Nat) : State :=
  { s with lay := { s.lay with fences := modAt s.lay.fences k (·.write s.now v) } }

/-- HIF_FENCE_SIGNAL (R88): index in bits [7:0], low word from HIF_FENCE_VALUE or the upper half of a 64-bit write. Where 2^32 is to be
added and the sum does not fit in 64 bits, the new value is free, and no lower than the old one (R240; log entry 97). -/
def fenceSignalWrite (value : Nat) (wide : Bool) (s : State) : State :=
  if !s.pcieOn then s else
  let k := value % 256
  let v := if wide then value / m32 % m32 else s.hif.fenceValue
  let s1 := if wide then { s with hif := { s.hif with fenceValue := v } } else s
  let f := s.lay.fences.getD k {}
  if !f.made then s1.raiseIrq 8 else
  let n := f.value / m32 * m32 + v
  if f.value ≤ n then s1.setFence k n
  else if n + m32 < m64 then s1.setFence k (n + m32)
  else
    let (x, s2) := s1.takeFree
    s2.setFence k (f.value + x % (m64 - f.value))

/-- A 40-bit base written in halves; bits [11:0] read zero. -/
def baseWrite (old : Nat) (high : Bool) (value : Nat) : Nat :=
  if high then old % m32 + value % 256 * m32 else old / m32 * m32 + value % m32 / 4096 * 4096

/-- A 32-bit write to a BAR0 offset (Table 3-5); RO, WO-less and unlisted offsets ignore it. -/
def registerWrite (offset value : Nat) (s : State) : State :=
  if !s.pcieOn then s else
  let h := s.hif
  let put (h : Hif) : State := { s with hif := h }
  let frozen := h.enable
  let ring (o : Nat) (i : Nat) (cq : Bool) : State :=
    match o with
    | 0x0 => if frozen then s else if cq then put { h with cqs := modAt h.cqs i fun q => { q with base := baseWrite q.base false value } }
        else put { h with sqs := modAt h.sqs i fun q => { q with base := baseWrite q.base false value } }
    | 0x4 => if frozen then s else if cq then put { h with cqs := modAt h.cqs i fun q => { q with base := baseWrite q.base true value } }
        else put { h with sqs := modAt h.sqs i fun q => { q with base := baseWrite q.base true value } }
    | 0x8 => if frozen then s else if cq then put { h with cqs := modAt h.cqs i fun q => { q with size := value % 8192 } }
        else put { h with sqs := modAt h.sqs i fun q => { q with size := value % 8192 } }
    | 0xC => if cq then cqHead i value s else sqTail i value s
    | _ => s
  if 0x100 ≤ offset && offset < 0x180 then ring (offset % 0x20) ((offset - 0x100) / 0x20) false
  else if 0x180 ≤ offset && offset < 0x200 then ring (offset % 0x20) ((offset - 0x180) / 0x20) true
  else match offset with
  | 0x00C => if value % 2 = 1 then hifEnable s else hifDisable s
  | 0x200 => if frozen then s else put { h with eq := { h.eq with base := baseWrite h.eq.base false value } }
  | 0x204 => if frozen then s else put { h with eq := { h.eq with base := baseWrite h.eq.base true value } }
  | 0x208 => if frozen then s else put { h with eq := { h.eq with size := value % 8192 } }
  | 0x20C => eqHead value s
  | 0x240 => if frozen then s else put { h with rbuf := { h.rbuf with base := baseWrite h.rbuf.base false value } }
  | 0x244 => if frozen then s else put { h with rbuf := { h.rbuf with base := baseWrite h.rbuf.base true value } }
  | 0x248 => if frozen then s else put { h with rbuf := { h.rbuf with count := value % 8192 } }
  | 0x24C => rbufProd value s
  | 0x300 => irqClear value s
  | 0x304 => put { h with irqMask := value % 2048 }
  | 0x340 => fenceSignalWrite (value % m32) false s
  | 0x344 => put { h with fenceValue := value % m32 }
  | 0x380 => apertureBase false value s
  | 0x384 => apertureBase true value s
  | 0x3F0 => put { h with scratch := value % m32 }
  | _ => s

end Sys2Proof.Machine
end

