-- ==== Sys2Proof/Machine/Hooks.lean ====
section
/-! DEFINITION. Rows whose event is also a wake source (Table 16-7), gives a link credit for waiting messages (R450), or meets
a port that a power state or a clock fault keeps down (Table 16-1, R487). -/
namespace Sys2Proof.Machine

/-- SQ_TAIL_DOORBELL: a write to any HIF_SQn_TAIL is wake source 7. -/
def tailRow (q value : Nat) (s : State) : State :=
  let s1 := sqTail q value s
  if s.pcieOn && q < 4 then s1.wakeBy 7 else s1

/-- REGISTER_WRITE, to an SQ TAIL offset included (Tables 3-5, 16-7). -/
def registerRow (offset value : Nat) (s : State) : State :=
  let s1 := registerWrite offset value s
  if s.pcieOn && 0x100 ≤ offset && offset < 0x180 && offset % 0x20 = 0xC then s1.wakeBy 7 else s1

/-- INPUT_DEBOUNCED_CHANGE: a change of an enabled input is wake source 4 or 5. -/
def inputRow (i : Nat) (s : State) : State :=
  let s1 := (inpDebounced i s).bannersAll
  if (s1.io.inputs.getD i {}).level ≠ (s.io.inputs.getD i {}).level then s1.wakeInput i else s1

/-- INPUT_RAW_TRANSITION, CHATTER_CLEAR, PAIR_FAULT and PAIR_OK can change the condition of a mapped banner (R248). -/
def rawRow (i : Nat) (pin : Bool) (s : State) : State := (inpRaw i pin s).bannersAll
def chatterRow (i : Nat) (s : State) : State := (inpChatterClear i s).bannersAll
def pairFaultRow (k : Nat) (s : State) : State := (pairFault k s).bannersAll
def pairOkRow (k : Nat) (s : State) : State := (pairOk k s).bannersAll

/-- APPROACH_SCAN: an approach group is wake source 2. -/
def approachRow (sig : List Int) (s : State) : State := (approachScan sig s).wakeApproach s

/-- WAKE_EVENT: wake sources 1-7 of Table 16-7. -/
def wakeRow (source : Nat) (s : State) : State := if 1 ≤ source && source ≤ 7 then s.wakeBy source else s

/-- ETH_LINK_UP: in DOZE only ETH0 runs, at 10 Gb/s (Table 16-1); without REFCLK no ETH port locks (R487). -/
def linkUpRow (p rate since : Nat) (s : State) : State :=
  if (2 ≤ s.pwr.pstate && !(s.pwr.pstate = 2 && p = 0 && rate = 2)) || (p < 4 && s.clk.refLost) then s else ethUp p rate since s

/-- LINK_TRAINING_COMPLETE: a link that becomes ACTIVE sends what waits. -/
def linkTrainedRow (n : Nat) (r : LinkTrainResult) (s : State) : State := (linkTrained n r s).drainLink n

/-- LLC_RECEIVE: returned credit lets waiting messages go. -/
def llcRow (n : Nat) (p : List Byte) (s : State) : State := (llcReceive n p s).drainLink n

/-- FLIT_RECEIVE: a flit carries the peer's acknowledgement and credit too. -/
def flitRow (n : Nat) (f : Flit) (s : State) : State := (flitReceive n f s).drainLink n

end Sys2Proof.Machine
end

