-- ==== Sys2Proof/Machine/RowsAudio.lean ====
section
/-! DEFINITION. Meanings of the rows of audio (spec/14). -/
namespace Sys2Proof.Machine

/-- `AUD_PORT_CONFIG` (R336): Command that configures a serial audio port. -/
def execAudPortConfig (t : Nat) (r : Request) (s : State) : Result :=
  .next (settle (host cmdAudPortConfig.budgeted r (s.tick t)))

/-- `AUD_ROUTE` (R343): Command that sets or removes an audio route. -/
def execAudRoute (t : Nat) (r : Request) (s : State) : Result :=
  .next (settle (host cmdAudRoute.budgeted r (s.tick t)))

/-- `AUD_GROUP` (R344): Command that replaces or dissolves an aligned audio group. -/
def execAudGroup (t : Nat) (r : Request) (s : State) : Result :=
  .next (settle (host cmdAudGroup.budgeted r (s.tick t)))

/-- `AUD_TONE` (R348): Command that starts, stops, claims or releases a tone. -/
def execAudTone (t : Nat) (r : Request) (s : State) : Result :=
  .next (settle (host cmdAudTone.budgeted r (s.tick t)))

/-- `AUD_STATS` (R350): Command that returns audio counters for a port, stream or group. -/
def execAudStats (t : Nat) (r : Request) (s : State) : Result :=
  .next (settle (host cmdAudStats.budgeted r (s.tick t)))

/-- `TONE_PHASE_CHANGE` (R348): A pulsed tone's on or off phase ends. -/
def onTonePhaseChange (t : Nat) (tone : Nat) (s : State) : Result :=
  .next (settle (tonePhase tone (s.tick t)))

/-- `TONE_DURATION_EXPIRY` (R348): A tone stops when its DURATION expires. -/
def onToneDurationExpiry (t : Nat) (tone : Nat) (s : State) : Result :=
  .next (settle (toneExpiry tone (s.tick t)))

/-- `NON_PCM_DETECT` (R346): IEC 61937 data is detected on an input pair, and its routes are muted. -/
def onNonPcmDetect (t : Nat) (src pair reason : Nat) (s : State) : Result :=
  .next (settle (audNonPcm src pair reason (s.tick t)))

/-- `NON_PCM_CLEAR` (R346): After 32,768 sample frames without indication, the non-PCM mute ends. -/
def onNonPcmClear (t : Nat) (src pair : Nat) (s : State) : Result :=
  .next (settle (audNonPcmClear src pair (s.tick t)))

/-- `STEER_LIMIT` (R345): The AUD PLL correction is held at its limit for 1 s, and STEER_LIMIT is raised. -/
def onSteerLimit (t : Nat) (group : Nat) (reached : Bool) (s : State) : Result :=
  .next (settle (steerLimit group reached (s.tick t)))

end Sys2Proof.Machine
end

