-- ==== Sys2Proof/Machine/RowsClock.lean ====
section
/-! DEFINITION. Meanings of the rows of clocks, resets and start-up (spec/22). -/
namespace Sys2Proof.Machine

/-- `CLOCK_MONITOR_FINDING` (R485): A clock monitor finds a stop, glitch or rate change on an input and acts on it. -/
def onClockMonitorFinding (t : Nat) (input kind freq : Nat) (s : State) : Result :=
  .next (settle (clockFinding input kind freq (s.tick t)))

/-- `CLOCK_GOOD_AGAIN` (R486): An input shows no finding for 10 ms and is good again. -/
def onClockGoodAgain (t : Nat) (input : Nat) (s : State) : Result :=
  .next (settle (clockGood input (s.tick t)))

/-- `CLOCK_FAULT_BANNER` (R488): REFCLK is still lost 1 s after the finding, and heads show DEVICE CLOCK FAULT. -/
def onClockFaultBanner (t : Nat) (s : State) : Result :=
  .next (settle (clockBanner (s.tick t)))

/-- `REFCLK_RECOVERY_END` (R489): 1 s after REFCLK is good again, the unproven condition and banner end. -/
def onRefclkRecoveryEnd (t : Nat) (s : State) : Result :=
  .next (settle (refclkRecovery (s.tick t)))

/-- `PORST_ASSERT` (R495): PORST_B low resets the whole die. -/
def onPorstAssert (t : Nat) (s : State) : Result :=
  .next (settle (porstAssert (s.tick t)))

/-- `PORST_RELEASE` (R497): PORST_B is released, and the start-up sequence begins. -/
def onPorstRelease (t : Nat) (s : State) : Result :=
  .next (settle (porstRelease (s.tick t)))

/-- `WARM_RESET` (R496): SYSRST_B or an internal cause resets every domain except AON. -/
def onWarmReset (t : Nat) (s : State) : Result :=
  .next (settle (warmReset (s.tick t)))

/-- `DEVICE_READY` (R497): Start-up finishes, READY is set and held reset events are raised. -/
def onDeviceReady (t : Nat) (s : State) : Result :=
  .next (settle (deviceReady (s.tick t)))

end Sys2Proof.Machine
end

