-- ==== Sys2Proof/Machine/RowsConsole.lean ====
section
/-! DEFINITION. Meanings of the rows of console inputs and the console bus (spec/20). -/
namespace Sys2Proof.Machine

/-- `TOUCH_CONFIG` (R463): Command that configures the touch front-end and electrodes. -/
def execTouchConfig (t : Nat) (r : Request) (s : State) : Result :=
  .next (settle (host cmdTouchConfig.budgeted r (s.tick t)))

/-- `TOUCH_STATUS` (R459): Command that returns touch scan count, mode, electrode states and signals. -/
def execTouchStatus (t : Nat) (r : Request) (s : State) : Result :=
  .next (settle (host cmdTouchStatus.budgeted r (s.tick t)))

/-- `TOUCH_RECAL` (R462): Command that recalibrates the named electrodes' baselines. -/
def execTouchRecal (t : Nat) (r : Request) (s : State) : Result :=
  .next (settle (host cmdTouchRecal.budgeted r (s.tick t)))

/-- `GPIO_CONFIG` (R468): Command that configures a GPIO or SAFE input. -/
def execGpioConfig (t : Nat) (r : Request) (s : State) : Result :=
  .next (settle (host cmdGpioConfig.budgeted r (s.tick t)))

/-- `GPIO_STATUS` (R464): Command that returns GPIO levels, stuck and chatter bits. -/
def execGpioStatus (t : Nat) (r : Request) (s : State) : Result :=
  .next (settle (host cmdGpioStatus.budgeted r (s.tick t)))

/-- `SAFE_STATUS` (R467): Command that returns SAFE input and pair levels and faults. -/
def execSafeStatus (t : Nat) (r : Request) (s : State) : Result :=
  .next (settle (host cmdSafeStatus.budgeted r (s.tick t)))

/-- `CBUS_CONFIG` (R471): Command that configures a console-bus port. -/
def execCbusConfig (t : Nat) (r : Request) (s : State) : Result :=
  .next (settle (host cmdCbusConfig.budgeted r (s.tick t)))

/-- `CBUS_SEND` (R473): Command that queues a console message on a console-bus port. -/
def execCbusSend (t : Nat) (r : Request) (s : State) : Result :=
  .next (settle (host cmdCbusSend.budgeted r (s.tick t)))

/-- `CBUS_FRAME_SENT` (R473): A queued console frame leaves the port, and CBUS_SEND replies OK. -/
def onCbusFrameSent (t : Nat) (port collisions lateCollisions : Nat) (s : State) : Result :=
  .next (settle (cbusSent port collisions lateCollisions (s.tick t)))

/-- `CBUS_SEND_TIMEOUT` (R473): A console frame not sent within 100 ms is dropped with E_TIMEOUT. -/
def onCbusSendTimeout (t : Nat) (port : Nat) (s : State) : Result :=
  .next (settle (cbusTimeout port (s.tick t)))

/-- `CONSOLE_FRAME_RECEIVE` (R472): A console-bus frame is received, checked, and its key or axis items raise events. -/
def onConsoleFrameReceive (t : Nat) (port : Nat) (f : ConsoleFrame) (s : State) : Result :=
  .next (settle (cbusReceive port f (s.tick t)))

/-- `PLCA_LOST` (R470): A follower receives no beacon for 4 ms and falls back to CSMA/CD. -/
def onPlcaLost (t : Nat) (port : Nat) (s : State) : Result :=
  .next (settle (plcaLost port (s.tick t)))

/-- `PLCA_BEACON` (R470): A PLCA beacon returns to a follower, which raises PLCA_OK. -/
def onPlcaBeacon (t : Nat) (port : Nat) (s : State) : Result :=
  .next (settle (plcaBeacon port (s.tick t)))

/-- `TOUCH_SCAN` (R459): An active touch scan measures electrodes and drives their state machines and baselines. -/
def onTouchScan (t : Nat) (raw : List Nat) (s : State) : Result :=
  .next (settle (touchScan raw (s.tick t)))

/-- `TOUCH_HOLD_LIMIT` (R459): A held electrode reaches its hold limit and becomes STUCK. -/
def onTouchHoldLimit (t : Nat) (electrode : Nat) (s : State) : Result :=
  .next (settle (touchHold electrode (s.tick t)))

/-- `APPROACH_SCAN` (R458): An 8 Hz approach scan of ganged groups can report approach as a wake. -/
def onApproachScan (t : Nat) (signals : List Int) (s : State) : Result :=
  .next (settle (approachRow signals (s.tick t)))

/-- `INPUT_DEBOUNCED_CHANGE` (R464): A raw input change holds for DEBOUNCE and becomes a debounced change, driving banners and events. -/
def onInputDebouncedChange (t : Nat) (input : Nat) (s : State) : Result :=
  .next (settle (inputRow input (s.tick t)))

/-- `INPUT_RAW_TRANSITION` (R465): A raw input transition is counted, and an input with too many enters CHATTER. -/
def onInputRawTransition (t : Nat) (input : Nat) (level : Bool) (s : State) : Result :=
  .next (settle (rawRow input level (s.tick t)))

/-- `CHATTER_CLEAR` (R465): An input's raw level is unchanged for CHATTER_W, and it leaves CHATTER. -/
def onChatterClear (t : Nat) (input : Nat) (s : State) : Result :=
  .next (settle (chatterRow input (s.tick t)))

/-- `INPUT_STUCK` (R466): An input stays active for STUCK ms, and STUCK is raised. -/
def onInputStuck (t : Nat) (input : Nat) (s : State) : Result :=
  .next (settle (inpStuck input (s.tick t)))

/-- `PAIR_FAULT` (R467): A SAFE pair's inputs disagree for longer than 10 ms, and a latched fault is raised. -/
def onPairFault (t : Nat) (pair : Nat) (s : State) : Result :=
  .next (settle (pairFaultRow pair (s.tick t)))

/-- `PAIR_OK` (R467): Both inputs of a faulted pair are inactive and agree for 100 ms, and the fault clears. -/
def onPairOk (t : Nat) (pair : Nat) (s : State) : Result :=
  .next (settle (pairOkRow pair (s.tick t)))

end Sys2Proof.Machine
end

