-- ==== Sys2Proof/Machine/RowsDecode.lean ====
section
/-! DEFINITION. Meanings of the rows of decoding (spec/07). -/
namespace Sys2Proof.Machine

/-- `DEC_CONFIG` (R170): Command that configures a decode context and reserves its pool and CPB. -/
def execDecConfig (t : Nat) (r : Request) (s : State) : Result :=
  .next (settle (host cmdDecConfig.budgeted r (s.tick t)))

/-- `DEC_START` (R171): Command that starts a decode context, which enters SEEKING. -/
def execDecStart (t : Nat) (r : Request) (s : State) : Result :=
  .next (settle (host cmdDecStart.budgeted r (s.tick t)))

/-- `DEC_STOP` (R171): Command that stops a decode context and releases its frames. -/
def execDecStop (t : Nat) (r : Request) (s : State) : Result :=
  .next (settle (host cmdDecStop.budgeted r (s.tick t)))

/-- `DEC_FLUSH` (R171): Command that discards a context's CPB and references and returns it to SEEKING. -/
def execDecFlush (t : Nat) (r : Request) (s : State) : Result :=
  .next (settle (host cmdDecFlush.budgeted r (s.tick t)))

/-- `DEC_GET_POOL` (R177): Command that returns a context's buffer pool, marks and holds. -/
def execDecGetPool (t : Nat) (r : Request) (s : State) : Result :=
  .next (settle (host cmdDecGetPool.budgeted r (s.tick t)))

/-- `DEC_SET_CONCEAL` (R171): Command that sets a context's concealment mode. -/
def execDecSetConceal (t : Nat) (r : Request) (s : State) : Result :=
  .next (settle (host cmdDecSetConceal.budgeted r (s.tick t)))

/-- `DECODE_ROW_COMPLETE` (R179): A CTU or macroblock row finishes reconstruction and is published with its completion time. -/
def onDecodeRowComplete (t : Nat) (ch : Nat) (row : RowInfo) (s : State) : Result :=
  .next (settle (decodeRow ch row (s.tick t)))

/-- `DECODE_DONE` (R195): A picture's last row completes, its Gimp fields are written, freeze criteria run and pictures are output. -/
def onDecodeDone (t : Nat) (ch : Nat) (info : DoneInfo) (s : State) : Result :=
  .next (settle (decodeDone ch info (s.tick t)))

end Sys2Proof.Machine
end

