-- ==== Sys2Proof/Machine/RowsEncode.lean ====
section
/-! DEFINITION. Meanings of the rows of encoding and attestation (spec/12). -/
namespace Sys2Proof.Machine

/-- `ENC_CONFIG` (R295): Command that configures an encode channel. -/
def execEncConfig (t : Nat) (r : Request) (s : State) : Result :=
  .next (settle (host cmdEncConfig.budgeted r (s.tick t)))

/-- `ENC_START` (R296): Command that assigns an encode channel a core and starts encoding. -/
def execEncStart (t : Nat) (r : Request) (s : State) : Result :=
  .next (settle (host cmdEncStart.budgeted r (s.tick t)))

/-- `ENC_STOP` (R296): Command that stops an encode channel and sends RTCP BYE. -/
def execEncStop (t : Nat) (r : Request) (s : State) : Result :=
  .next (settle (host cmdEncStop.budgeted r (s.tick t)))

/-- `ENC_SET_RATE` (R305): Command that sets an encode channel's rate control, or forces an IDR. -/
def execEncSetRate (t : Nat) (r : Request) (s : State) : Result :=
  .next (settle (host cmdEncSetRate.budgeted r (s.tick t)))

/-- `ATTEST_CONFIG` (R315): Command that sets a head's attestation recording and sending. -/
def execAttestConfig (t : Nat) (r : Request) (s : State) : Result :=
  .next (settle (host cmdAttestConfig.budgeted r (s.tick t)))

/-- `ATTEST_READ` (R316): Command that returns attestation records from a head's ring. -/
def execAttestRead (t : Nat) (r : Request) (s : State) : Result :=
  .next (settle (host cmdAttestRead.budgeted r (s.tick t)))

/-- `ENCODE_PICTURE_DONE` (R306): An encoded picture's last row is coded, and its NAL units are sent as RTP. -/
def onEncodePictureDone (t : Nat) (ec : Nat) (obs : EncObs) (s : State) : Result :=
  .next (settle (encodeDone ec obs (s.tick t)))

/-- `RTCP_SENDER_REPORT` (R311): An encode channel sends its once-per-second RTCP sender report. -/
def onRtcpSenderReport (t : Nat) (ec : Nat) (s : State) : Result :=
  .next (settle (senderReport ec (s.tick t)))

end Sys2Proof.Machine
end

