-- ==== Sys2Proof/Machine/RowsEnergy.lean ====
section
/-! DEFINITION. Meanings of the rows of energy and power states (spec/15, spec/16). -/
namespace Sys2Proof.Machine

/-- `ENERGY_SET_BUDGET` (R368): Command that sets the sustained budget and reservoir capacity. -/
def execEnergySetBudget (t : Nat) (r : Request) (s : State) : Result :=
  .next (settle (host cmdEnergySetBudget.budgeted r (s.tick t)))

/-- `ENERGY_GET` (R370): Command that returns the budget, reservoir, ladder and per-domain energies. -/
def execEnergyGet (t : Nat) (r : Request) (s : State) : Result :=
  .next (settle (host cmdEnergyGet.budgeted r (s.tick t)))

/-- `ENERGY_SET_CLASS` (R369): Command that sets an object's energy class. -/
def execEnergySetClass (t : Nat) (r : Request) (s : State) : Result :=
  .next (settle (host cmdEnergySetClass.budgeted r (s.tick t)))

/-- `ENERGY_CORRECTION_UPDATE` (R357): Every 10 ms the Hoop reads the PMBus rails and updates the correction factor c. -/
def onEnergyCorrectionUpdate (t : Nat) (railsUJ : List Nat) (s : State) : Result :=
  .next (settle (energyCorrection railsUJ (s.tick t)))

/-- `PMBUS_LOST` (R357): The rails give no valid reading for 50 ms, and c is held. -/
def onPmbusLost (t : Nat) (s : State) : Result :=
  .next (settle (pmbusLost (s.tick t)))

/-- `PSTATE_REQUEST` (R379): Command that requests a power state, schedules an entry or sets or clears a veto. -/
def execPstateRequest (t : Nat) (r : Request) (s : State) : Result :=
  .next (settle (host cmdPstateRequest.budgeted r (s.tick t)))

/-- `PSTATE_STATUS` (R372): Command that returns the power state, pending entry and last wake. -/
def execPstateStatus (t : Nat) (r : Request) (s : State) : Result :=
  .next (settle (host cmdPstateStatus.budgeted r (s.tick t)))

/-- `WAKE_CONFIG` (R383): Command that sets wake sources, target, alarm and retention. -/
def execWakeConfig (t : Nat) (r : Request) (s : State) : Result :=
  .next (settle (host cmdWakeConfig.budgeted r (s.tick t)))

/-- `REFUSAL_LOG` (R387): Command that returns refusal counts by refuser. -/
def execRefusalLog (t : Nat) (r : Request) (s : State) : Result :=
  .next (settle (host cmdRefusalLog.budgeted r (s.tick t)))

/-- `SCHEDULED_ENTRY` (R379): The RTC reaches the scheduled second, and the pending entry is attempted. -/
def onScheduledEntry (t : Nat) (s : State) : Result :=
  .next (settle (scheduledEntry (s.tick t)))

/-- `PSTATE_ENTRY_COMPLETE` (R381): The AON sequencer completes gating, and the lower state is reached. -/
def onPstateEntryComplete (t : Nat) (s : State) : Result :=
  .next (settle (pstateEntryComplete (s.tick t)))

/-- `WAKE_EVENT` (R382): A wake source is latched, which aborts an entry before the seal or starts an exit. -/
def onWakeEvent (t : Nat) (source : Nat) (s : State) : Result :=
  .next (settle (wakeRow source (s.tick t)))

/-- `RTC_ALARM` (R383): The RTC seconds reach ALARM, which is a wake source. -/
def onRtcAlarm (t : Nat) (s : State) : Result :=
  .next (settle (rtcAlarm (s.tick t)))

/-- `WAKE_COMPLETE` (R384): Wake power-up finishes, objects are rebuilt and WOKE is raised. -/
def onWakeComplete (t : Nat) (s : State) : Result :=
  .next (settle (wakeComplete (s.tick t)))

end Sys2Proof.Machine
end

