-- ==== Sys2Proof/Machine/RowsFresh.lean ====
section
/-! DEFINITION. Meanings of the rows of freshness, freeze detection, provenance and pauses (spec/08, spec/02). -/
namespace Sys2Proof.Machine

/-- `FRESH_SET_POLICY` (R210): Command that guards, changes the policy of, or unguards a video or graphic layer. -/
def execFreshSetPolicy (t : Nat) (r : Request) (s : State) : Result :=
  .next (settle (host cmdFreshSetPolicy.budgeted r (s.tick t)))

/-- `FRESH_GET_STATE` (R212): Command that returns a tile's last verdict, age, Picot position and flags. -/
def execFreshGetState (t : Nat) (r : Request) (s : State) : Result :=
  .next (settle (host cmdFreshGetState.budgeted r (s.tick t)))

/-- `FREEZE_SET` (R209): Command that sets a channel's freeze criteria, clock source and source uncertainty. -/
def execFreezeSet (t : Nat) (r : Request) (s : State) : Result :=
  .next (settle (host cmdFreezeSet.budgeted r (s.tick t)))

/-- `FRESH_SET_TREATMENT` (R211): Command that chooses the style for one state of one guarded tile. -/
def execFreshSetTreatment (t : Nat) (r : Request) (s : State) : Result :=
  .next (settle (host cmdFreshSetTreatment.budgeted r (s.tick t)))

/-- `PROV_READ` (R213): Command that returns Gimp records of a channel or graphic layer in descending SEQ. -/
def execProvRead (t : Nat) (r : Request) (s : State) : Result :=
  .next (settle (host cmdProvRead.budgeted r (s.tick t)))

/-- `TILE_PAUSE` (R68): Command that holds a guarded tile's frame and puts the tile in PAUSED. -/
def execTilePause (t : Nat) (r : Request) (s : State) : Result :=
  .next (settle (host cmdTilePause.budgeted r (s.tick t)))

/-- `TILE_RESUME` (R68): Command that ends a pause and releases its hold. -/
def execTileResume (t : Nat) (r : Request) (s : State) : Result :=
  .next (settle (host cmdTileResume.budgeted r (s.tick t)))

end Sys2Proof.Machine
end

