-- ==== Sys2Proof/Machine/RowsGuard.lean ====
section
/-! DEFINITION. Meanings of the rows of Guard units and ECC (spec/17, spec/01). -/
namespace Sys2Proof.Machine

/-- `GUARD_UPDATE` (R400): Command that changes a Guard unit's SERVICE regions. -/
def execGuardUpdate (t : Nat) (r : Request) (s : State) : Result :=
  .next (settle (host cmdGuardUpdate.budgeted r (s.tick t)))

/-- `GUARD_UPDATE_REOPEN` (R399): A Guard unit reopens with its new program, checks stalled accesses and replies. -/
def onGuardUpdateReopen (t : Nat) (unit : Nat) (s : State) : Result :=
  .next (settle (guardReopen unit (s.tick t)))

/-- `GUARD_READ` (R402): Command that returns a Guard unit's regions and violation count. -/
def execGuardRead (t : Nat) (r : Request) (s : State) : Result :=
  .next (settle (host cmdGuardRead.budgeted r (s.tick t)))

/-- `GUARD_FAULTS` (R402): Command that returns, and optionally clears, violation records. -/
def execGuardFaults (t : Nat) (r : Request) (s : State) : Result :=
  .next (settle (host cmdGuardFaults.budgeted r (s.tick t)))

/-- `GUARD_LOCK` (R401): Command that sets LOCK on a Guard region. -/
def execGuardLock (t : Nat) (r : Request) (s : State) : Result :=
  .next (settle (host cmdGuardLock.budgeted r (s.tick t)))

/-- `GUARD_ACCESS_CHECK` (R393): A master's fabric access is split and checked against regions, then passed, denied or decode-errored. -/
def onGuardAccessCheck (t : Nat) (a : Access) (s : State) : Result :=
  .next (settle (guardAccess a (s.tick t)))

/-- `ECC_UNCORRECTABLE_CONTROL` (R25): An uncorrectable error in control data triggers the Sampler and resets the owning engine. -/
def onEccUncorrectableControl (t : Nat) (e : EccInfo) (s : State) : Result :=
  .next (settle (eccControl e (s.tick t)))

/-- `ECC_UNCORRECTABLE_PIXEL` (R24): An uncorrectable error in frame or pixel data taints the affected cells. -/
def onEccUncorrectablePixel (t : Nat) (e : EccPixel) (s : State) : Result :=
  .next (settle (eccPixel e (s.tick t)))

/-- `SCRUB_PASS` (R23): The patrol scrubber reads DRAM and corrects or records errors over each period. -/
def onScrubPass (t : Nat) (obs : ScrubObs) (s : State) : Result :=
  .next (settle (scrubPass obs (s.tick t)))

end Sys2Proof.Machine
end

