-- ==== Sys2Proof/Machine/RowsHead.lean ====
section
/-! DEFINITION. Meanings of the rows of heads, ports, the slice-locked path and the display time line (spec/10, spec/11, spec/01). -/
namespace Sys2Proof.Machine

/-- `HEAD_TIMING` (R253): Command that sets a head's timing, format, refresh and sink latency. -/
def execHeadTiming (t : Nat) (r : Request) (s : State) : Result :=
  .next (settle (host cmdHeadTiming.budgeted r (s.tick t)))

/-- `HEAD_BIND_PORT` (R265): Command that binds a head to a DisplayPort port stream or an encode channel. -/
def execHeadBindPort (t : Nat) (r : Request) (s : State) : Result :=
  .next (settle (host cmdHeadBindPort.budgeted r (s.tick t)))

/-- `HEAD_APPLY_LINE` (R261): Command that sets the line at which a head applies changes. -/
def execHeadApplyLine (t : Nat) (r : Request) (s : State) : Result :=
  .next (settle (host cmdHeadApplyLine.budgeted r (s.tick t)))

/-- `HEAD_GENLOCK` (R262): Command that sets a head's genlock mode, epoch and phase. -/
def execHeadGenlock (t : Nat) (r : Request) (s : State) : Result :=
  .next (settle (host cmdHeadGenlock.budgeted r (s.tick t)))

/-- `HEAD_SELF_REFRESH` (R271): Command that requests entry into or exit from panel self-refresh. -/
def execHeadSelfRefresh (t : Nat) (r : Request) (s : State) : Result :=
  .next (settle (host cmdHeadSelfRefresh.budgeted r (s.tick t)))

/-- `HEAD_ENABLE` (R270): Command that enables a timed, bound head, which starts scanning. -/
def execHeadEnable (t : Nat) (r : Request) (s : State) : Result :=
  .next (settle (host cmdHeadEnable.budgeted r (s.tick t)))

/-- `HEAD_DISABLE` (R270): Command that makes the head's next frame its closing frame. -/
def execHeadDisable (t : Nat) (r : Request) (s : State) : Result :=
  .next (settle (host cmdHeadDisable.budgeted r (s.tick t)))

/-- `HEAD_GET_CRC` (R275): Command that returns scan-out CRCs of selected regions of a frame. -/
def execHeadGetCrc (t : Nat) (r : Request) (s : State) : Result :=
  .next (settle (host cmdHeadGetCrc.budgeted r (s.tick t)))

/-- `PORT_TRAIN` (R267): Command that reports, trains or releases a DisplayPort port. -/
def execPortTrain (t : Nat) (r : Request) (s : State) : Result :=
  .next (settle (host cmdPortTrain.budgeted r (s.tick t)))

/-- `PORT_TRAINING_COMPLETE` (R267): A DisplayPort link training ends, trained or failed, and any pending reply is sent. -/
def onPortTrainingComplete (t : Nat) (port : Nat) (res : TrainResult) (s : State) : Result :=
  .next (settle (portTrained port res (s.tick t)))

/-- `HPD_SHORT_PULSE` (R268): An HPD low shorter than 2 ms makes the device read the link status and retrain on lost lock. -/
def onHpdShortPulse (t : Nat) (port : Nat) (dpcd : DpcdStatus) (s : State) : Result :=
  .next (settle (hpdShort port dpcd (s.tick t)))

/-- `HPD_LONG_LOW` (R268): HPD has been low for 2 ms, and the port reports NO_SINK. -/
def onHpdLongLow (t : Nat) (port : Nat) (s : State) : Result :=
  .next (settle (hpdLow port (s.tick t)))

/-- `HPD_RISE` (R268): HPD rises, the port reports SINK_PRESENT, and a port with enabled heads is retrained. -/
def onHpdRise (t : Nat) (port : Nat) (s : State) : Result :=
  .next (settle (hpdRise port (s.tick t)))

/-- `SLICE_LOCK` (R279): Command that locks a channel and layer to the slice-locked path, or releases it. -/
def execSliceLock (t : Nat) (r : Request) (s : State) : Result :=
  .next (settle (host cmdSliceLock.budgeted r (s.tick t)))

/-- `STITCH_BOUNDARY` (R16): A 500 µs Stitch boundary: the Stitch number increments and per-Stitch work runs. -/
def onStitchBoundary (t : Nat) (obs : StitchObs) (s : State) : Result :=
  .next (settle (stitchBoundary obs (s.tick t)))

/-- `HEAD_FRAME_START` (R257): A head frame starts: the frame count increments, genlock lock is checked and an attestation record starts. -/
def onHeadFrameStart (t : Nat) (head : Nat) (s : State) : Result :=
  .next (settle (frameStart head (s.tick t)))

/-- `APPLY_LINE_REACHED` (R131): A head's apply line arrives: staged and direct changes apply, flips are served and the next frame start is fixed. -/
def onApplyLineReached (t : Nat) (head : Nat) (s : State) : Result :=
  .next (settle (applyLineReached head (s.tick t)))

/-- `FLIP_ABANDON` (R238): A flip not ready at its T-th apply line is abandoned with E_FENCE_TIMEOUT. -/
def onFlipAbandon (t : Nat) (layer head : Nat) (s : State) : Result :=
  .next (settle (flipAbandon layer head (s.tick t)))

/-- `TILE_VERDICT` (R49): At the fetch of a guarded tile's first line, the layer latches and the tile's verdict, state and Picot are decided. -/
def onTileVerdict (t : Nat) (head layer : Nat) (obs : VerdictObs) (s : State) : Result :=
  .next (settle (tileVerdict head layer obs (s.tick t)))

/-- `TILE_STATE_COALESCE` (R215): At the end of a 250 ms window, one coalesced EVT_TILE_STATE is raised if the state differs. -/
def onTileStateCoalesce (t : Nat) (layer head : Nat) (s : State) : Result :=
  .next (settle (tileCoalesce layer head (s.tick t)))

/-- `SLICE_CHECK_LINE` (R288): At a slice's check line, Tambour decides whether the slice is late and hatches its rows. -/
def onSliceCheckLine (t : Nat) (ch slice : Nat) (s : State) : Result :=
  .next (settle (sliceCheckLine ch slice (s.tick t)))

/-- `SLICE_LOCK_RETURN` (R291): After 2 s with no late slice, a dropped layer returns to LOCKED at the next apply line. -/
def onSliceLockReturn (t : Nat) (ch : Nat) (s : State) : Result :=
  .next (settle (sliceReturn ch (s.tick t)))

/-- `LAST_ACTIVE_LINE_END` (R251): A head's last active line ends, the Appliqué CRCs are compared and the closing frame or self-refresh entry is decided. -/
def onLastActiveLineEnd (t : Nat) (head : Nat) (obs : ScanObs) (s : State) : Result :=
  .next (settle (lastLineEnd head obs (s.tick t)))

/-- `ATTEST_RECORD_COMPLETE` (R313): A head frame's attestation record is completed and MACed, and it is sent when SEND is set. -/
def onAttestRecordComplete (t : Nat) (head : Nat) (s : State) : Result :=
  .next (settle (attestComplete head (s.tick t)))

end Sys2Proof.Machine
end

