-- ==== Sys2Proof/Machine/RowsHif.lean ====
section
/-! DEFINITION. Meanings of the rows of host registers, transports and timers (spec/03, spec/13, spec/14, spec/18, spec/19). -/
namespace Sys2Proof.Machine

/-- `HIF_CTRL_ENABLE_SET` (R85): Writing ENABLE 0 to 1 checks ring sizes, zeroes indices and starts intake. -/
def onHifCtrlEnableSet (t : Nat) (s : State) : Result :=
  .next (settle (hifEnable (s.tick t)))

/-- `HIF_CTRL_ENABLE_CLEAR` (R85): Writing ENABLE 1 to 0 stops intake while taken commands complete. -/
def onHifCtrlEnableClear (t : Nat) (s : State) : Result :=
  .next (settle (hifDisable (s.tick t)))

/-- `HIF_STITCH_LO_READ` (R86): A read of HIF_STITCH_LO latches Stitch number and local time. -/
def onHifStitchLoRead (t : Nat) (s : State) : Result :=
  .next (settle (hifStitchRead (s.tick t)))

/-- `SQ_TAIL_DOORBELL` (R82): A write to a submission queue's TAIL announces new entries, or sets RING_ERR. -/
def onSqTailDoorbell (t : Nat) (queue value : Nat) (s : State) : Result :=
  .next (settle (tailRow queue value (s.tick t)))

/-- `CQ_HEAD_DOORBELL` (R83): A write to a completion queue's HEAD frees completion slots. -/
def onCqHeadDoorbell (t : Nat) (queue value : Nat) (s : State) : Result :=
  .next (settle (cqHead queue value (s.tick t)))

/-- `EQ_HEAD_DOORBELL` (R84): A write to the event queue's HEAD frees event slots. -/
def onEqHeadDoorbell (t : Nat) (value : Nat) (s : State) : Result :=
  .next (settle (eqHead value (s.tick t)))

/-- `RBUF_PROD_WRITE` (R81): A write to HIF_RBUF_PROD returns reply buffers, or is ignored with RING_ERR. -/
def onRbufProdWrite (t : Nat) (value : Nat) (s : State) : Result :=
  .next (settle (rbufProd value (s.tick t)))

/-- `HIF_FENCE_SIGNAL_WRITE` (R88): A write to HIF_FENCE_SIGNAL signals a fence with the value in HIF_FENCE_VALUE. -/
def onHifFenceSignalWrite (t : Nat) (value : Nat) (wide : Bool) (s : State) : Result :=
  .next (settle (fenceSignalWrite value wide (s.tick t)))

/-- `IRQ_STATUS_CLEAR` (R87): A write of 1 bits to HIF_IRQ_STATUS clears interrupt causes. -/
def onIrqStatusClear (t : Nat) (value : Nat) (s : State) : Result :=
  .next (settle (irqClear value (s.tick t)))

/-- `APERTURE_BASE_WRITE` (R89): A write to the BAR2 aperture base moves the window for later accesses. -/
def onApertureBaseWrite (t : Nat) (high : Bool) (value : Nat) (s : State) : Result :=
  .next (settle (apertureBase high value (s.tick t)))

/-- `REGISTER_WRITE` (R85): A write to a BAR0 register that has no behaviour of its own sets or ignores the field. -/
def onRegisterWrite (t : Nat) (offset value : Nat) (s : State) : Result :=
  .next (settle (registerRow offset value (s.tick t)))

/-- `APERTURE_ACCESS` (R89): A PCIe read or write through BAR2 is checked by GU_HOST and completed. -/
def onApertureAccess (t : Nat) (offset : Nat) (write : Bool) (data : List Byte) (len : Nat) (s : State) : Result :=
  .next (settle (aperture offset write data len (s.tick t)))

/-- `SQ_ENTRY_TAKE` (R82): The device takes a submission entry once a completion slot and any reply buffer can be reserved. -/
def onSqEntryTake (t : Nat) (entry : SqEntry) (s : State) : Result :=
  .next (settle (sqEntryTake entry (s.tick t)))

/-- `NETWORK_DATAGRAM_RECEIVE` (R91): A command datagram is authenticated and accepted, or discarded without reply. -/
def onNetworkDatagramReceive (t : Nat) (port peer udp : Nat) (bytes : List Byte) (s : State) : Result :=
  .next (settle (datagramReceive port peer udp bytes (s.tick t)))

/-- `SPI_WRITE_PACKET` (R92): An SPI transfer with command byte 0x01 delivers a packet, or it is discarded and counted. -/
def onSpiWritePacket (t : Nat) (safety : Bool) (bytes : List Byte) (s : State) : Result :=
  .next (settle (spiWrite safety bytes (s.tick t)))

/-- `SPI_READ_REPLY` (R92): An SPI transfer with command byte 0x02 reads the next pending reply or event. -/
def onSpiReadReply (t : Nat) (safety : Bool) (s : State) : Result :=
  .next (settle (spiRead safety (s.tick t)))

/-- `FRAME_SYNC_EDGE` (R340): A frame-sync edge on an input serial audio port starts a sample, which is numbered and written to its group's buffer. -/
def onFrameSyncEdge (t : Nat) (port : Nat) (samples : List Int) (s : State) : Result :=
  .next (settle (audFrameSync port samples (s.tick t)))

/-- `SAMPLE_PLAY_TIME` (R342): At a sample's play time p(n) each destination channel plays its routed sample, or zero when it is missing. -/
def onSamplePlayTime (t : Nat) (group : Nat) (s : State) : Result :=
  .next (settle (audPlay group (s.tick t)))

/-- `LLC_ACK_TIMER` (R433): 1 µs after the oldest unacknowledged DATA flit, the receiver sends an LLC flit. -/
def onLlcAckTimer (t : Nat) (link : Nat) (s : State) : Result :=
  .next (settle (llcAckTimer link (s.tick t)))

/-- `PTP_DELAY_REQ_INTERVAL` (R318): At each LOG_DELAY interval a domain sends a Delay_Req or Pdelay_Req on its port. -/
def onPtpDelayReqInterval (t : Nat) (domain : Nat) (s : State) : Result :=
  .next (settle (ptpDelayReq domain (s.tick t)))

/-- `PTP_DELAY_RESPONSE` (R318): A Delay_Resp or Pdelay_Resp arrives and updates the domain's mean path delay. -/
def onPtpDelayResponse (t : Nat) (domain remote frameLen : Nat) (s : State) : Result :=
  .next (settle (ptpDelayResponse domain remote frameLen (s.tick t)))

/-- `DEBUG_UNLOCK_CHALLENGE` (R415): A challenge request on the debug port issues a fresh 48-byte unlock challenge that replaces any earlier one. -/
def onDebugUnlockChallenge (t : Nat) (s : State) : Result :=
  .next (settle (debugUnlockChallenge (s.tick t)))

/-- `FIELD_RETURN_CHALLENGE` (R416): A field-return request on the unlocked debug port issues a fresh field-return challenge that replaces any earlier one. -/
def onFieldReturnChallenge (t : Nat) (s : State) : Result :=
  .next (settle (fieldReturnChallenge (s.tick t)))

end Sys2Proof.Machine
end

