-- ==== Sys2Proof/Machine/RowsHoop.lean ====
section
/-! DEFINITION. Meanings of the rows of self-test, Hoop, Sampler, sensors and updates (spec/18, spec/21). -/
namespace Sys2Proof.Machine

/-- `BIST_RUN` (R477): Command that starts memory or logic BIST on a target or the die. -/
def execBistRun (t : Nat) (r : Request) (s : State) : Result :=
  .next (settle (host cmdBistRun.budgeted r (s.tick t)))

/-- `BIST_COMPLETE` (R478): A targeted BIST run ends, engines restart and the command replies. -/
def onBistComplete (t : Nat) (res : BistObs) (s : State) : Result :=
  .next (settle (bistComplete res (s.tick t)))

/-- `BIST_RESULT` (R481): Command that returns the BIST summary or failures. -/
def execBistResult (t : Nat) (r : Request) (s : State) : Result :=
  .next (settle (host cmdBistResult.budgeted r (s.tick t)))

/-- `DP_PATTERN` (R482): Command that drives a DisplayPort compliance pattern on a port. -/
def execDpPattern (t : Nat) (r : Request) (s : State) : Result :=
  .next (settle (host cmdDpPattern.budgeted r (s.tick t)))

/-- `LOG_READ` (R412): Command that returns log ring, summary or incident entries. -/
def execLogRead (t : Nat) (r : Request) (s : State) : Result :=
  .next (settle (host cmdLogRead.budgeted r (s.tick t)))

/-- `SAMPLER_READ` (R429): Command that returns Sampler store or incident records. -/
def execSamplerRead (t : Nat) (r : Request) (s : State) : Result :=
  .next (settle (host cmdSamplerRead.budgeted r (s.tick t)))

/-- `SAMPLER_ARM` (R428): Command that arms the Sampler or changes its POST count. -/
def execSamplerArm (t : Nat) (r : Request) (s : State) : Result :=
  .next (settle (host cmdSamplerArm.budgeted r (s.tick t)))

/-- `SAMPLER_TRIGGER` (R426): Command that starts the Sampler's post-trigger phase. -/
def execSamplerTrigger (t : Nat) (r : Request) (s : State) : Result :=
  .next (settle (host cmdSamplerTrigger.budgeted r (s.tick t)))

/-- `SAMPLER_FREEZE` (R426): The Sampler records POST records after a trigger and freezes. -/
def onSamplerFreeze (t : Nat) (s : State) : Result :=
  .next (settle (samplerFreeze (s.tick t)))

/-- `SAMPLER_COPY_DONE` (R427): The frozen store's copy to flash finishes or fails, and the Sampler re-arms or stays frozen. -/
def onSamplerCopyDone (t : Nat) (ok : Bool) (s : State) : Result :=
  .next (settle (samplerCopyDone ok (s.tick t)))

/-- `SENSOR_READ` (R406): Command that returns thermal, supply or PMBus readings. -/
def execSensorRead (t : Nat) (r : Request) (s : State) : Result :=
  .next (settle (host cmdSensorRead.budgeted r (s.tick t)))

/-- `SENSOR_SAMPLE` (R403): Every 10 ms the Hoop samples sensors and supplies, checking faults, warnings and gradients. -/
def onSensorSample (t : Nat) (o : SensorObs) (s : State) : Result :=
  .next (settle (sensorSample o (s.tick t)))

/-- `GRADIENT_CLEAR` (R494): The sensor difference stays at or below 25 °C for 1 s, and the throttle ends. -/
def onGradientClear (t : Nat) (s : State) : Result :=
  .next (settle (gradientClear (s.tick t)))

/-- `THERMAL_TRIP` (R407): Three consecutive samples at or above 110 °C gate every domain but AON and Hoop. -/
def onThermalTrip (t : Nat) (sensor : Nat) (mC : Int) (s : State) : Result :=
  .next (settle (thermalTrip sensor mC (s.tick t)))

/-- `THERMAL_TRIP_RECOVERY` (R407): Every healthy sensor falls below 95 °C after a trip, and the device warm-resets. -/
def onThermalTripRecovery (t : Nat) (s : State) : Result :=
  .next (settle (thermalRecovery (s.tick t)))

/-- `BOBBIN_WATCHDOG_MISS` (R408): A Bobbin misses 4 Stitch boundaries, triggers the Sampler and is reset. -/
def onBobbinWatchdogMiss (t : Nat) (bobbin : Nat) (s : State) : Result :=
  .next (settle (bobbinMiss bobbin (s.tick t)))

/-- `HOOP_WATCHDOG_EXPIRY` (R409): The Hoop watchdog expires, triggers the Sampler and warm-resets the device. -/
def onHoopWatchdogExpiry (t : Nat) (s : State) : Result :=
  .next (settle (hoopWatchdog (s.tick t)))

/-- `BROWN_OUT` (R426): A VDD_CORE droop below 0.50 V freezes the Sampler at once. -/
def onBrownOut (t : Nat) (lowestMv : Nat) (s : State) : Result :=
  .next (settle (brownOut lowestMv (s.tick t)))

/-- `UPD_BEGIN` (R422): Command that begins an update of the inactive slot. -/
def execUpdBegin (t : Nat) (r : Request) (s : State) : Result :=
  .next (settle (host cmdUpdBegin.budgeted r (s.tick t)))

/-- `UPD_CHUNK` (R422): Command that writes the next bytes of an update image. -/
def execUpdChunk (t : Nat) (r : Request) (s : State) : Result :=
  .next (settle (host cmdUpdChunk.budgeted r (s.tick t)))

/-- `UPD_CHUNK_PROGRAMMED` (R422): A chunk's bytes are programmed into flash, and UPD_CHUNK replies. -/
def onUpdChunkProgrammed (t : Nat) (s : State) : Result :=
  .next (settle (updChunkProgrammed (s.tick t)))

/-- `UPD_VERIFY` (R423): Command that checks the received image's CRC, signature, hash and version. -/
def execUpdVerify (t : Nat) (r : Request) (s : State) : Result :=
  .next (settle (host cmdUpdVerify.budgeted r (s.tick t)))

/-- `UPD_ACTIVATE` (R423): Command that names the verified slot as trial in the boot record. -/
def execUpdActivate (t : Nat) (r : Request) (s : State) : Result :=
  .next (settle (host cmdUpdActivate.budgeted r (s.tick t)))

/-- `UPD_ROLLBACK` (R423): Command that abandons an update, restores the boot record or ends a trial. -/
def execUpdRollback (t : Nat) (r : Request) (s : State) : Result :=
  .next (settle (host cmdUpdRollback.budgeted r (s.tick t)))

/-- `UPD_STATUS` (R421): Command that returns update state and slot information. -/
def execUpdStatus (t : Nat) (r : Request) (s : State) : Result :=
  .next (settle (host cmdUpdStatus.budgeted r (s.tick t)))

/-- `TRIAL_HEALTHY` (R424): A trial image meets its health conditions, and the OTP counter advances. -/
def onTrialHealthy (t : Nat) (s : State) : Result :=
  .next (settle (trialHealthy (s.tick t)))

/-- `TRIAL_TIMEOUT` (R421): A trial without health for 60 s rolls back to the previous slot. -/
def onTrialTimeout (t : Nat) (s : State) : Result :=
  .next (settle (trialTimeout (s.tick t)))

/-- `DELAYED_WARM_RESET` (R479): A warm reset scheduled 100 ms after a reply takes place. -/
def onDelayedWarmReset (t : Nat) (s : State) : Result :=
  .next (settle (delayedWarmReset (s.tick t)))

/-- `DEBUG_UNLOCK_RESPONSE` (R415): A signed response to the debug challenge opens the debug port or is refused. -/
def onDebugUnlockResponse (t : Nat) (sig : List Byte) (s : State) : Result :=
  .next (settle (debugUnlockResponse sig (s.tick t)))

/-- `FIELD_RETURN_RESPONSE` (R416): A signed field-return response zeroises the key-encryption key and enters FIELD_RETURN. -/
def onFieldReturnResponse (t : Nat) (sig : List Byte) (s : State) : Result :=
  .next (settle (fieldReturnResponse sig (s.tick t)))

end Sys2Proof.Machine
end

