-- ==== Sys2Proof/Machine/RowsHost.lean ====
section
/-! DEFINITION. Meanings of the rows of device, session and supervision commands (spec/04, spec/03). -/
namespace Sys2Proof.Machine

/-- `NOP` (R115): Command that has no effect and echoes its request payload in the reply. -/
def execNop (t : Nat) (r : Request) (s : State) : Result :=
  .next (settle (host cmdNop.budgeted r (s.tick t)))

/-- `IDENTIFY` (R116): Command that returns the device identity, revision, serial number, firmware versions and lifecycle. -/
def execIdentify (t : Nat) (r : Request) (s : State) : Result :=
  .next (settle (host cmdIdentify.budgeted r (s.tick t)))

/-- `GET_STATUS` (R117): Command that returns the summary, per-cluster ECC counts or DOMAIN_OFF counters of the selected section. -/
def execGetStatus (t : Nat) (r : Request) (s : State) : Result :=
  .next (settle (host cmdGetStatus.budgeted r (s.tick t)))

/-- `SET_EVENT_MASK` (R110): Command that sets the sending session's event mask; bit 12 always reads as 1. -/
def execSetEventMask (t : Nat) (r : Request) (s : State) : Result :=
  .next (settle (host cmdSetEventMask.budgeted r (s.tick t)))

/-- `RESET_BLOCK` (R118): Command that resets one engine or cluster, refusing targets whose reset would cut off the reply path. -/
def execResetBlock (t : Nat) (r : Request) (s : State) : Result :=
  .next (settle (host cmdResetBlock.budgeted r (s.tick t)))

/-- `ENGINE_RESET_DONE` (R118): An engine leaves reset after RESET_BLOCK, and the deferred reply is sent. -/
def onEngineResetDone (t : Nat) (origin : Nat) (s : State) : Result :=
  .next (settle (engineResetDone origin (s.tick t)))

/-- `PEEK` (R119): Command that reads block register space through GU_HOOP, one 32-bit word at a time. -/
def execPeek (t : Nat) (r : Request) (s : State) : Result :=
  .next (settle (host cmdPeek.budgeted r (s.tick t)))

/-- `POKE` (R119): Command that writes block register space through GU_HOOP, one 32-bit word at a time. -/
def execPoke (t : Nat) (r : Request) (s : State) : Result :=
  .next (settle (host cmdPoke.budgeted r (s.tick t)))

/-- `SESSION_OPEN` (R95): Command that either issues a challenge or opens an authenticated session for a role. -/
def execSessionOpen (t : Nat) (r : Request) (s : State) : Result :=
  .next (settle (host cmdSessionOpen.budgeted r (s.tick t)))

/-- `SESSION_CLOSE` (R97): Command that closes a session, rolls back its open transactions and discards its deferred commands. -/
def execSessionClose (t : Nat) (r : Request) (s : State) : Result :=
  .next (settle (host cmdSessionClose.budgeted r (s.tick t)))

/-- `NETWORK_SESSION_IDLE_CLOSE` (R97): A network session with no accepted datagram for 300 s is closed. -/
def onNetworkSessionIdleClose (t : Nat) (session : Nat) (s : State) : Result :=
  .next (settle (sessionIdle session (s.tick t)))

/-- `SAFETY_HEARTBEAT` (R98): Command that starts or feeds safety supervision and opens a new heartbeat window. -/
def execSafetyHeartbeat (t : Nat) (r : Request) (s : State) : Result :=
  .next (settle (host cmdSafetyHeartbeat.budgeted r (s.tick t)))

/-- `HEARTBEAT_LOST` (R99): The heartbeat window expires with no heartbeat, and every head shows the SAFETY LINK LOST banner. -/
def onHeartbeatLost (t : Nat) (s : State) : Result :=
  .next (settle (heartbeatLost (s.tick t)).bannersEndSr)

end Sys2Proof.Machine
end

