-- ==== Sys2Proof/Machine/RowsLayer.lean ====
section
/-! DEFINITION. Meanings of the rows of layers, tables, fences and Appliqué (spec/09). -/
namespace Sys2Proof.Machine

/-- `LAYER_BIND` (R220): Command that binds a video layer to a channel or sets a graphic layer's format. -/
def execLayerBind (t : Nat) (r : Request) (s : State) : Result :=
  .next (settle (host cmdLayerBind.budgeted r (s.tick t)))

/-- `LAYER_PLACE` (R221): Command that places, moves or removes a layer on a head. -/
def execLayerPlace (t : Nat) (r : Request) (s : State) : Result :=
  .next (settle (host cmdLayerPlace.budgeted r (s.tick t)))

/-- `LAYER_SCALE` (R227): Command that sets a video layer's crop, coefficient set, phases and filter. -/
def execLayerScale (t : Nat) (r : Request) (s : State) : Result :=
  .next (settle (host cmdLayerScale.budgeted r (s.tick t)))

/-- `LAYER_FLIP` (R237): Command that queues a new buffer for a graphic layer, optionally gated by a fence. -/
def execLayerFlip (t : Nat) (r : Request) (s : State) : Result :=
  .next (settle (host cmdLayerFlip.budgeted r (s.tick t)))

/-- `LAYER_ENABLE` (R222): Command that enables a layer. -/
def execLayerEnable (t : Nat) (r : Request) (s : State) : Result :=
  .next (settle (host cmdLayerEnable.budgeted r (s.tick t)))

/-- `LAYER_DISABLE` (R222): Command that disables a layer and releases its holds at the apply line. -/
def execLayerDisable (t : Nat) (r : Request) (s : State) : Result :=
  .next (settle (host cmdLayerDisable.budgeted r (s.tick t)))

/-- `BLEND_ORDER` (R232): Command that sets a head's blend order, fixed or programmable. -/
def execBlendOrder (t : Nat) (r : Request) (s : State) : Result :=
  .next (settle (host cmdBlendOrder.budgeted r (s.tick t)))

/-- `LAYER_ALPHA` (R222): Command that sets a layer's global alpha. -/
def execLayerAlpha (t : Nat) (r : Request) (s : State) : Result :=
  .next (settle (host cmdLayerAlpha.budgeted r (s.tick t)))

/-- `COEF_LOAD` (R230): Command that writes scaling coefficients into a shadow and publishes them on LAST. -/
def execCoefLoad (t : Nat) (r : Request) (s : State) : Result :=
  .next (settle (host cmdCoefLoad.budgeted r (s.tick t)))

/-- `LUT_LOAD_PRE` (R235): Command that writes a layer's pre-blend LUT shadow and publishes it on LAST. -/
def execLutLoadPre (t : Nat) (r : Request) (s : State) : Result :=
  .next (settle (host cmdLutLoadPre.budgeted r (s.tick t)))

/-- `LUT_LOAD_POST` (R235): Command that writes a head's post-blend LUT shadow and publishes it on LAST. -/
def execLutLoadPost (t : Nat) (r : Request) (s : State) : Result :=
  .next (settle (host cmdLutLoadPost.budgeted r (s.tick t)))

/-- `TABLE_READ` (R236): Command that returns the active contents of a coefficient set, LUT or style. -/
def execTableRead (t : Nat) (r : Request) (s : State) : Result :=
  .next (settle (host cmdTableRead.budgeted r (s.tick t)))

/-- `SHADOW_TIMEOUT` (R231): A table shadow with no write for 10 s is discarded. -/
def onShadowTimeout (t : Nat) (table : Nat) (s : State) : Result :=
  .next (settle (shadowTimeout table (s.tick t)))

/-- `FENCE_CREATE` (R240): Command that creates a fence with an initial value and timeout. -/
def execFenceCreate (t : Nat) (r : Request) (s : State) : Result :=
  .next (settle (host cmdFenceCreate.budgeted r (s.tick t)))

/-- `FENCE_SIGNAL` (R240): Command that raises a fence's value. -/
def execFenceSignal (t : Nat) (r : Request) (s : State) : Result :=
  .next (settle (host cmdFenceSignal.budgeted r (s.tick t)))

/-- `FENCE_DESTROY` (R240): Command that destroys a fence that no queued flip or commit uses. -/
def execFenceDestroy (t : Nat) (r : Request) (s : State) : Result :=
  .next (settle (host cmdFenceDestroy.budgeted r (s.tick t)))

/-- `APPL_STYLE_LOAD` (R246): Command that loads a style-table entry, which each head takes at its apply line. -/
def execApplStyleLoad (t : Nat) (r : Request) (s : State) : Result :=
  .next (settle (host cmdApplStyleLoad.budgeted r (s.tick t)))

/-- `APPL_BANNER` (R247): Command that shows or hides a host banner on a head. -/
def execApplBanner (t : Nat) (r : Request) (s : State) : Result :=
  .next (settle (host cmdApplBanner.budgeted r (s.tick t)))

/-- `APPL_SAFE_MAP` (R248): Command that maps a SAFE input to a banner. -/
def execApplSafeMap (t : Nat) (r : Request) (s : State) : Result :=
  .next (settle (host cmdApplSafeMap.budgeted r (s.tick t)))

/-- `APPL_STATUS` (R251): Command that returns a head's Appliqué integrity state, banners and CRCs. -/
def execApplStatus (t : Nat) (r : Request) (s : State) : Result :=
  .next (settle (host cmdApplStatus.budgeted r (s.tick t)))

end Sys2Proof.Machine
end

