-- ==== Sys2Proof/Machine/RowsLink.lean ====
section
/-! DEFINITION. Meanings of the rows of Lacing links (spec/19). -/
namespace Sys2Proof.Machine

/-- `LINK_CONFIG` (R448): Command that configures a Lacing port or sets a forward entry. -/
def execLinkConfig (t : Nat) (r : Request) (s : State) : Result :=
  .next (settle (host cmdLinkConfig.budgeted r (s.tick t)))

/-- `LINK_TRAIN` (R444): Command that retrains a Lacing link, optionally with tap search. -/
def execLinkTrain (t : Nat) (r : Request) (s : State) : Result :=
  .next (settle (host cmdLinkTrain.budgeted r (s.tick t)))

/-- `LINK_STATUS` (R456): Command that returns a Lacing link's state, alignment and counters. -/
def execLinkStatus (t : Nat) (r : Request) (s : State) : Result :=
  .next (settle (host cmdLinkStatus.budgeted r (s.tick t)))

/-- `LINK_PRBS` (R454): Command that drives, checks, reads or clears PRBS tests on Lacing lanes. -/
def execLinkPrbs (t : Nat) (r : Request) (s : State) : Result :=
  .next (settle (host cmdLinkPrbs.budgeted r (s.tick t)))

/-- `LINK_LOOP` (R455): Command that places a Lacing link in loopback. -/
def execLinkLoop (t : Nat) (r : Request) (s : State) : Result :=
  .next (settle (host cmdLinkLoop.budgeted r (s.tick t)))

/-- `LINK_LOOP_EXPIRY` (R455): A Lacing loopback ends when its DURATION expires. -/
def onLinkLoopExpiry (t : Nat) (link : Nat) (s : State) : Result :=
  .next (settle (linkLoopExpiry link (s.tick t)))

/-- `LINK_TXEQ` (R444): Command that sets, searches or resets Lacing transmit taps. -/
def execLinkTxeq (t : Nat) (r : Request) (s : State) : Result :=
  .next (settle (host cmdLinkTxeq.budgeted r (s.tick t)))

/-- `LINK_LOWPOWER` (R446): Command that sets the low-power policy of a Lacing transmit direction. -/
def execLinkLowpower (t : Nat) (r : Request) (s : State) : Result :=
  .next (settle (host cmdLinkLowpower.budgeted r (s.tick t)))

/-- `LINK_TRAINING_COMPLETE` (R438): Lacing training reaches ACTIVE or fails a step, and any pending LINK_TRAIN replies. -/
def onLinkTrainingComplete (t : Nat) (link : Nat) (res : LinkTrainResult) (s : State) : Result :=
  .next (settle (linkTrainedRow link res (s.tick t)))

/-- `LINK_RETRY_TIMER` (R438): 100 ms after a failed training, an enabled link retrains. -/
def onLinkRetryTimer (t : Nat) (link : Nat) (s : State) : Result :=
  .next (settle (linkRetry link (s.tick t)))

/-- `LINK_RETRAIN_TRIGGER` (R443): LOS, LOL, low margin or a peer request makes an active link retrain. -/
def onLinkRetrainTrigger (t : Nat) (link cause lane : Nat) (s : State) : Result :=
  .next (settle (linkTrigger link cause lane (s.tick t)))

/-- `LINK_ACTIVE_LOSS_TIMEOUT` (R437): A link not back in ACTIVE within 1 s discards its replay buffer and partial messages. -/
def onLinkActiveLossTimeout (t : Nat) (link : Nat) (s : State) : Result :=
  .next (settle (linkLoss link (s.tick t)))

/-- `FLIT_RECEIVE` (R436): A DATA flit is received, checked and accepted in order, or NAKed. -/
def onFlitReceive (t : Nat) (link : Nat) (f : Flit) (s : State) : Result :=
  .next (settle (flitRow link f (s.tick t)))

/-- `LLC_RECEIVE` (R433): An LLC flit returns acknowledgements and credits, or triggers a go-back-N resend. -/
def onLlcReceive (t : Nat) (link : Nat) (bytes : List Byte) (s : State) : Result :=
  .next (settle (llcRow link bytes (s.tick t)))

/-- `REPLAY_TIMEOUT` (R436): The oldest outstanding flit is unacknowledged for 2 µs and is resent. -/
def onReplayTimeout (t : Nat) (link : Nat) (s : State) : Result :=
  .next (settle (replayTimeout link (s.tick t)))

/-- `FORWARD_MESSAGE_SEND` (R449): A forwarded frame, band or access unit is sent once credit allows. -/
def onForwardMessageSend (t : Nat) (link stream msg firstRow rows bodyLen : Nat) (s : State) : Result :=
  .next (settle (forwardSend link stream msg firstRow rows bodyLen (s.tick t)))

/-- `FORWARDED_MESSAGE_RECEIVE` (R452): A complete forwarded message is delivered to its TYPE 5 or 6 channel with translated times. -/
def onForwardedMessageReceive (t : Nat) (link : Nat) (m : FwdMsg) (s : State) : Result :=
  .next (settle (forwardReceive link m (s.tick t)))

/-- `BEACON_RECEIVE` (R451): A time BEACON flit updates o_link and the link's alignment. -/
def onBeaconReceive (t : Nat) (link : Nat) (b : Beacon) (s : State) : Result :=
  .next (settle (linkBeacon link b (s.tick t)))

/-- `LINK_MISALIGNED` (R451): No beacon arrives within the allowed Stitches, and the link leaves ALIGNED. -/
def onLinkMisaligned (t : Nat) (link : Nat) (s : State) : Result :=
  .next (settle (linkMisaligned link (s.tick t)))

/-- `MARGIN_MEASURE` (R442): The 10 ms eye scan updates each lane's figure of merit. -/
def onMarginMeasure (t : Nat) (link : Nat) (margins : List Nat) (s : State) : Result :=
  .next (settle (marginMeasure link margins (s.tick t)))

/-- `LINK_IDLE_ENTRY` (R446): A transmit direction with nothing to send for IDLE_NS enters IDLE. -/
def onLinkIdleEntry (t : Nat) (link : Nat) (s : State) : Result :=
  .next (settle (linkIdle link (s.tick t)))

/-- `LINK_SLEEP_ENTRY` (R446): A direction in IDLE for SLEEP_US enters SLEEP. -/
def onLinkSleepEntry (t : Nat) (link : Nat) (s : State) : Result :=
  .next (settle (linkSleep link (s.tick t)))

end Sys2Proof.Machine
end

