-- ==== Sys2Proof/Machine/RowsNet.lean ====
section
/-! DEFINITION. Meanings of the rows of ingest and the network (spec/06). -/
namespace Sys2Proof.Machine

/-- `SRC_OPEN` (R143): Command that opens an ingest channel or network audio stream with its default settings. -/
def execSrcOpen (t : Nat) (r : Request) (s : State) : Result :=
  .next (settle (host cmdSrcOpen.budgeted r (s.tick t)))

/-- `SRC_CLOSE` (R144): Command that closes a channel, leaves its groups and releases its frames. -/
def execSrcClose (t : Nat) (r : Request) (s : State) : Result :=
  .next (settle (host cmdSrcClose.budgeted r (s.tick t)))

/-- `SRC_SET_FILTER` (R145): Command that replaces the source filter of one path of a channel. -/
def execSrcSetFilter (t : Nat) (r : Request) (s : State) : Result :=
  .next (settle (host cmdSrcSetFilter.budgeted r (s.tick t)))

/-- `SRC_JOIN` (R161): Command that adds a multicast join on one path of a channel. -/
def execSrcJoin (t : Nat) (r : Request) (s : State) : Result :=
  .next (settle (host cmdSrcJoin.budgeted r (s.tick t)))

/-- `SRC_LEAVE` (R161): Command that removes a multicast join from one path of a channel. -/
def execSrcLeave (t : Nat) (r : Request) (s : State) : Result :=
  .next (settle (host cmdSrcLeave.budgeted r (s.tick t)))

/-- `SRC_GET_STATS` (R163): Command that returns a channel's state and counters. -/
def execSrcGetStats (t : Nat) (r : Request) (s : State) : Result :=
  .next (settle (host cmdSrcGetStats.budgeted r (s.tick t)))

/-- `SRC_SET_JITTER` (R156): Command that sets a channel's reorder DEPTH and REORDER. -/
def execSrcSetJitter (t : Nat) (r : Request) (s : State) : Result :=
  .next (settle (host cmdSrcSetJitter.budgeted r (s.tick t)))

/-- `SRC_SET_CREDIT` (R160): Command that sets an ingest channel's network credit C. -/
def execSrcSetCredit (t : Nat) (r : Request) (s : State) : Result :=
  .next (settle (host cmdSrcSetCredit.budgeted r (s.tick t)))

/-- `NET_PORT_CONFIG` (R141): Command that enables a network port and sets its speed, FEC, MTU and VLAN. -/
def execNetPortConfig (t : Nat) (r : Request) (s : State) : Result :=
  .next (settle (host cmdNetPortConfig.budgeted r (s.tick t)))

/-- `NET_ADDR` (R141): Command that sets a network port's MAC, IPv4, IPv6 and gateway addresses. -/
def execNetAddr (t : Nat) (r : Request) (s : State) : Result :=
  .next (settle (host cmdNetAddr.budgeted r (s.tick t)))

/-- `NET_STATS` (R164): Command that returns a network port's counters and link state. -/
def execNetStats (t : Nat) (r : Request) (s : State) : Result :=
  .next (settle (host cmdNetStats.budgeted r (s.tick t)))

/-- `NET_LOOP` (R165): Command that places a network port in a loopback mode. -/
def execNetLoop (t : Nat) (r : Request) (s : State) : Result :=
  .next (settle (host cmdNetLoop.budgeted r (s.tick t)))

/-- `NET_LOOP_EXPIRY` (R165): A network loopback ends when its DURATION expires. -/
def onNetLoopExpiry (t : Nat) (port : Nat) (s : State) : Result :=
  .next (settle (netLoopExpiry port (s.tick t)))

/-- `PACKET_RECEIVE` (R152): A packet arrives on an ETH port and is time-stamped, filtered, checked for contention, merged and reordered. -/
def onPacketReceive (t : Nat) (pkt : Packet) (s : State) : Result :=
  .next (settle (packetReceive pkt (s.tick t)))

/-- `REORDER_WINDOW_EXPIRY` (R154): An incomplete access unit is delivered at the end of its reorder window, and its missing packets are declared lost. -/
def onReorderWindowExpiry (t : Nat) (src : Nat) (s : State) : Result :=
  .next (settle (reorderExpiry src (s.tick t)))

/-- `CANDIDATE_TIMEOUT` (R149): A held candidate sequence space gains no further packet within 100 ms and is discarded as strays. -/
def onCandidateTimeout (t : Nat) (src : Nat) (s : State) : Result :=
  .next (settle (candidateTimeout src (s.tick t)))

/-- `CHANNEL_SILENT` (R151): A channel accepts no packet for 1,000 ms, enters SILENT and raises EVT_NET. -/
def onChannelSilent (t : Nat) (src : Nat) (s : State) : Result :=
  .next (settle (channelSilent src (s.tick t)))

/-- `CONTEST_CLEAR` (R151): A channel's contested interval ends, and CONTEST_CLEAR is raised. -/
def onContestClear (t : Nat) (src : Nat) (s : State) : Result :=
  .next (settle (contestClear src (s.tick t)))

/-- `PATH_DOWN` (R166): A path of a DUAL channel accepts no packet for 100 ms, and PATH_DOWN is raised. -/
def onPathDown (t : Nat) (src path : Nat) (s : State) : Result :=
  .next (settle (pathDown src path (s.tick t)))

/-- `ETH_SPEED_WINDOW_EXPIRY` (R140): The AUTO speed search window ends without lock, and the PCS switches rate. -/
def onEthSpeedWindowExpiry (t : Nat) (o : LockWindow) (s : State) : Result :=
  .next (settle (ethWindow o.port o.lock (s.tick t)))

/-- `ETH_LINK_UP` (R140): Block lock has held for 100 ms, the port comes up and LINK_UP is raised. -/
def onEthLinkUp (t : Nat) (port : Nat) (o : BlockLock) (s : State) : Result :=
  .next (settle (linkUpRow port o.rate o.since (s.tick t)))

/-- `ETH_LINK_DOWN` (R142): Block lock or the RGMII link is lost, and the port's packets stop. -/
def onEthLinkDown (t : Nat) (port : Nat) (s : State) : Result :=
  .next (settle (ethDown port (s.tick t)))

/-- `MEMBERSHIP_QUERY` (R162): An IGMP or MLD query arrives and the device answers it with reports. -/
def onMembershipQuery (t : Nat) (q : MemberQuery) (s : State) : Result :=
  .next (settle (membershipQuery q (s.tick t)))

/-- `MEMBERSHIP_REPORT_RETRANSMIT` (R162): A state-change report is repeated at 1 s intervals up to the robustness count. -/
def onMembershipReportRetransmit (t : Nat) (port : Nat) (s : State) : Result :=
  .next (settle (reportRetransmit port (s.tick t)))

/-- `ARP_NDP_ICMP_REQUEST` (R138): An ARP, neighbour discovery or echo request for the device's own address is answered. -/
def onArpNdpIcmpRequest (t : Nat) (q : NeighbourQuery) (s : State) : Result :=
  .next (settle (neighbourAnswer q (s.tick t)))

end Sys2Proof.Machine
end

