-- ==== Sys2Proof/Machine/RowsTime.lean ====
section
/-! DEFINITION. Meanings of the rows of time (spec/13). -/
namespace Sys2Proof.Machine

/-- `TIME_CONFIG` (R318): Command that configures a PTP domain and the device-wide oscillator and step settings. -/
def execTimeConfig (t : Nat) (r : Request) (s : State) : Result :=
  .next (settle (host cmdTimeConfig.budgeted r (s.tick t)))

/-- `TIME_GET` (R86): Command that returns local time, Stitch number and time-quality flags. -/
def execTimeGet (t : Nat) (r : Request) (s : State) : Result :=
  .next (settle (host cmdTimeGet.budgeted r (s.tick t)))

/-- `TIME_SET` (R333): Command that sets local time when no domain is locked, and establishes time. -/
def execTimeSet (t : Nat) (r : Request) (s : State) : Result :=
  .next (settle (host cmdTimeSet.budgeted r (s.tick t)))

/-- `TIME_SLEW_LIMIT` (R322): Command that sets the slew bound. -/
def execTimeSlewLimit (t : Nat) (r : Request) (s : State) : Result :=
  .next (settle (host cmdTimeSlewLimit.budgeted r (s.tick t)))

/-- `TIME_ASYM` (R329): Command that sets a port's time-stamp corrections. -/
def execTimeAsym (t : Nat) (r : Request) (s : State) : Result :=
  .next (settle (host cmdTimeAsym.budgeted r (s.tick t)))

/-- `TIME_STATS` (R334): Command that returns one domain's servo state and counters. -/
def execTimeStats (t : Nat) (r : Request) (s : State) : Result :=
  .next (settle (host cmdTimeStats.budgeted r (s.tick t)))

/-- `TIME_LEGACY_MODE` (R330): Command that puts a port into or out of legacy stamping. -/
def execTimeLegacyMode (t : Nat) (r : Request) (s : State) : Result :=
  .next (settle (host cmdTimeLegacyMode.budgeted r (s.tick t)))

/-- `PTP_SYNC` (R319): A Sync message gives a domain a new offset estimate, which drives the servo state and offset removal. -/
def onPtpSync (t : Nat) (msg : SyncMsg) (s : State) : Result :=
  .next (settle (ptpSync msg (s.tick t)))

/-- `PTP_ANNOUNCE` (R319): An Announce message is received, and the domain chooses its master. -/
def onPtpAnnounce (t : Nat) (domain : Nat) (m : AnnounceMsg) (s : State) : Result :=
  .next (settle (ptpAnnounce domain m (s.tick t)))

/-- `PTP_MASTER_TIMEOUT` (R319): A locked domain misses Sync or Announce and enters HOLDOVER. -/
def onPtpMasterTimeout (t : Nat) (domain : Nat) (s : State) : Result :=
  .next (settle (ptpMasterTimeout domain (s.tick t)))

/-- `DOMAIN_EVALUATION` (R320): The once-per-second evaluation may switch the active time domain. -/
def onDomainEvaluation (t : Nat) (s : State) : Result :=
  .next (settle (domainEvaluation (s.tick t)))

/-- `RTC_LOAD` (R331): At each local second that is a multiple of 60, the RTC is loaded from local time. -/
def onRtcLoad (t : Nat) (s : State) : Result :=
  .next (settle (rtcLoad (s.tick t)))

end Sys2Proof.Machine
end

