-- ==== Sys2Proof/Machine/RowsTxn.lean ====
section
/-! DEFINITION. Meanings of the rows of transactions, deferred commands and held events (spec/05). -/
namespace Sys2Proof.Machine

/-- `TXN_BEGIN` (R136): Command that opens a Pricking transaction, assigns its handle and starts its idle timer. -/
def execTxnBegin (t : Nat) (r : Request) (s : State) : Result :=
  .next (settle (host cmdTxnBegin.budgeted r (s.tick t)))

/-- `TXN_COMMIT` (R125): Command that commits an open transaction with an earliest Stitch and a list of fences. -/
def execTxnCommit (t : Nat) (r : Request) (s : State) : Result :=
  .next (settle (host cmdTxnCommit.budgeted r (s.tick t)))

/-- `TXN_ROLLBACK` (R136): Command that discards an open or committing transaction. -/
def execTxnRollback (t : Nat) (r : Request) (s : State) : Result :=
  .next (settle (host cmdTxnRollback.budgeted r (s.tick t)))

/-- `TXN_QUERY` (R136): Command that reports the state of a transaction of any session. -/
def execTxnQuery (t : Nat) (r : Request) (s : State) : Result :=
  .next (settle (host cmdTxnQuery.budgeted r (s.tick t)))

/-- `TXN_IDLE_EXPIRY` (R122): The idle period of an open transaction expires, and the transaction rolls back with EVT_TXN. -/
def onTxnIdleExpiry (t : Nat) (handle : Nat) (s : State) : Result :=
  .next (settle (txnIdleExpiry handle (s.tick t)))

/-- `TXN_FENCE_TIMEOUT` (R126): The commit timeout is reached with its fences unmet, and the transaction rolls back or applies late. -/
def onTxnFenceTimeout (t : Nat) (handle : Nat) (s : State) : Result :=
  .next (settle (txnFenceTimeout handle (s.tick t)))

/-- `TXN_APPLY_GLOBAL` (R130): At the start of S_a, the transaction's global changes take effect and the commit replies. -/
def onTxnApplyGlobal (t : Nat) (handle : Nat) (s : State) : Result :=
  .next (settle (txnApplyGlobal handle (s.tick t)))

/-- `DEFERRED_COMMAND_EXECUTE` (R76): A command deferred with AT_STITCH executes at the start of its scheduled Stitch. -/
def onDeferredCommandExecute (t : Nat) (s : State) : Result :=
  .next (settle (State.runDeferred (s.tick t)))

/-- `HELD_EVENTS_DISCARD` (R137): Reset rollback events still held 60 s after READY are discarded. -/
def onHeldEventsDiscard (t : Nat) (s : State) : Result :=
  .next (settle (heldDiscard (s.tick t)))

end Sys2Proof.Machine
end

