-- ==== Sys2Proof/Machine/Dispatch.lean ====
section
/-! DEFINITION. exec: one arm per row of spec/opcode_table.json, one direct call of its meaning. -/
namespace Sys2Proof.Machine

def exec (i : Instr) (s : State) : Host.Outcome State Fault Refusal :=
  match i with
  | .nop t r => Sys2Proof.Machine.execNop t r s
  | .identify t r => Sys2Proof.Machine.execIdentify t r s
  | .getStatus t r => Sys2Proof.Machine.execGetStatus t r s
  | .setEventMask t r => Sys2Proof.Machine.execSetEventMask t r s
  | .resetBlock t r => Sys2Proof.Machine.execResetBlock t r s
  | .engineResetDone t origin => Sys2Proof.Machine.onEngineResetDone t origin s
  | .peek t r => Sys2Proof.Machine.execPeek t r s
  | .poke t r => Sys2Proof.Machine.execPoke t r s
  | .sessionOpen t r => Sys2Proof.Machine.execSessionOpen t r s
  | .sessionClose t r => Sys2Proof.Machine.execSessionClose t r s
  | .networkSessionIdleClose t session => Sys2Proof.Machine.onNetworkSessionIdleClose t session s
  | .safetyHeartbeat t r => Sys2Proof.Machine.execSafetyHeartbeat t r s
  | .heartbeatLost t => Sys2Proof.Machine.onHeartbeatLost t s
  | .txnBegin t r => Sys2Proof.Machine.execTxnBegin t r s
  | .txnCommit t r => Sys2Proof.Machine.execTxnCommit t r s
  | .txnRollback t r => Sys2Proof.Machine.execTxnRollback t r s
  | .txnQuery t r => Sys2Proof.Machine.execTxnQuery t r s
  | .txnIdleExpiry t handle => Sys2Proof.Machine.onTxnIdleExpiry t handle s
  | .txnFenceTimeout t handle => Sys2Proof.Machine.onTxnFenceTimeout t handle s
  | .txnApplyGlobal t handle => Sys2Proof.Machine.onTxnApplyGlobal t handle s
  | .deferredCommandExecute t => Sys2Proof.Machine.onDeferredCommandExecute t s
  | .heldEventsDiscard t => Sys2Proof.Machine.onHeldEventsDiscard t s
  | .srcOpen t r => Sys2Proof.Machine.execSrcOpen t r s
  | .srcClose t r => Sys2Proof.Machine.execSrcClose t r s
  | .srcSetFilter t r => Sys2Proof.Machine.execSrcSetFilter t r s
  | .srcJoin t r => Sys2Proof.Machine.execSrcJoin t r s
  | .srcLeave t r => Sys2Proof.Machine.execSrcLeave t r s
  | .srcGetStats t r => Sys2Proof.Machine.execSrcGetStats t r s
  | .srcSetJitter t r => Sys2Proof.Machine.execSrcSetJitter t r s
  | .srcSetCredit t r => Sys2Proof.Machine.execSrcSetCredit t r s
  | .netPortConfig t r => Sys2Proof.Machine.execNetPortConfig t r s
  | .netAddr t r => Sys2Proof.Machine.execNetAddr t r s
  | .netStats t r => Sys2Proof.Machine.execNetStats t r s
  | .netLoop t r => Sys2Proof.Machine.execNetLoop t r s
  | .netLoopExpiry t port => Sys2Proof.Machine.onNetLoopExpiry t port s
  | .packetReceive t pkt => Sys2Proof.Machine.onPacketReceive t pkt s
  | .reorderWindowExpiry t src => Sys2Proof.Machine.onReorderWindowExpiry t src s
  | .candidateTimeout t src => Sys2Proof.Machine.onCandidateTimeout t src s
  | .channelSilent t src => Sys2Proof.Machine.onChannelSilent t src s
  | .contestClear t src => Sys2Proof.Machine.onContestClear t src s
  | .pathDown t src path => Sys2Proof.Machine.onPathDown t src path s
  | .ethSpeedWindowExpiry t o => Sys2Proof.Machine.onEthSpeedWindowExpiry t o s
  | .ethLinkUp t port o => Sys2Proof.Machine.onEthLinkUp t port o s
  | .ethLinkDown t port => Sys2Proof.Machine.onEthLinkDown t port s
  | .membershipQuery t q => Sys2Proof.Machine.onMembershipQuery t q s
  | .membershipReportRetransmit t port => Sys2Proof.Machine.onMembershipReportRetransmit t port s
  | .arpNdpIcmpRequest t q => Sys2Proof.Machine.onArpNdpIcmpRequest t q s
  | .decConfig t r => Sys2Proof.Machine.execDecConfig t r s
  | .decStart t r => Sys2Proof.Machine.execDecStart t r s
  | .decStop t r => Sys2Proof.Machine.execDecStop t r s
  | .decFlush t r => Sys2Proof.Machine.execDecFlush t r s
  | .decGetPool t r => Sys2Proof.Machine.execDecGetPool t r s
  | .decSetConceal t r => Sys2Proof.Machine.execDecSetConceal t r s
  | .decodeRowComplete t ch row => Sys2Proof.Machine.onDecodeRowComplete t ch row s
  | .decodeDone t ch info => Sys2Proof.Machine.onDecodeDone t ch info s
  | .freshSetPolicy t r => Sys2Proof.Machine.execFreshSetPolicy t r s
  | .freshGetState t r => Sys2Proof.Machine.execFreshGetState t r s
  | .freezeSet t r => Sys2Proof.Machine.execFreezeSet t r s
  | .freshSetTreatment t r => Sys2Proof.Machine.execFreshSetTreatment t r s
  | .provRead t r => Sys2Proof.Machine.execProvRead t r s
  | .tilePause t r => Sys2Proof.Machine.execTilePause t r s
  | .tileResume t r => Sys2Proof.Machine.execTileResume t r s
  | .layerBind t r => Sys2Proof.Machine.execLayerBind t r s
  | .layerPlace t r => Sys2Proof.Machine.execLayerPlace t r s
  | .layerScale t r => Sys2Proof.Machine.execLayerScale t r s
  | .layerFlip t r => Sys2Proof.Machine.execLayerFlip t r s
  | .layerEnable t r => Sys2Proof.Machine.execLayerEnable t r s
  | .layerDisable t r => Sys2Proof.Machine.execLayerDisable t r s
  | .blendOrder t r => Sys2Proof.Machine.execBlendOrder t r s
  | .layerAlpha t r => Sys2Proof.Machine.execLayerAlpha t r s
  | .coefLoad t r => Sys2Proof.Machine.execCoefLoad t r s
  | .lutLoadPre t r => Sys2Proof.Machine.execLutLoadPre t r s
  | .lutLoadPost t r => Sys2Proof.Machine.execLutLoadPost t r s
  | .tableRead t r => Sys2Proof.Machine.execTableRead t r s
  | .shadowTimeout t table => Sys2Proof.Machine.onShadowTimeout t table s
  | .fenceCreate t r => Sys2Proof.Machine.execFenceCreate t r s
  | .fenceSignal t r => Sys2Proof.Machine.execFenceSignal t r s
  | .fenceDestroy t r => Sys2Proof.Machine.execFenceDestroy t r s
  | .applStyleLoad t r => Sys2Proof.Machine.execApplStyleLoad t r s
  | .applBanner t r => Sys2Proof.Machine.execApplBanner t r s
  | .applSafeMap t r => Sys2Proof.Machine.execApplSafeMap t r s
  | .applStatus t r => Sys2Proof.Machine.execApplStatus t r s
  | .headTiming t r => Sys2Proof.Machine.execHeadTiming t r s
  | .headBindPort t r => Sys2Proof.Machine.execHeadBindPort t r s
  | .headApplyLine t r => Sys2Proof.Machine.execHeadApplyLine t r s
  | .headGenlock t r => Sys2Proof.Machine.execHeadGenlock t r s
  | .headSelfRefresh t r => Sys2Proof.Machine.execHeadSelfRefresh t r s
  | .headEnable t r => Sys2Proof.Machine.execHeadEnable t r s
  | .headDisable t r => Sys2Proof.Machine.execHeadDisable t r s
  | .headGetCrc t r => Sys2Proof.Machine.execHeadGetCrc t r s
  | .portTrain t r => Sys2Proof.Machine.execPortTrain t r s
  | .portTrainingComplete t port res => Sys2Proof.Machine.onPortTrainingComplete t port res s
  | .hpdShortPulse t port dpcd => Sys2Proof.Machine.onHpdShortPulse t port dpcd s
  | .hpdLongLow t port => Sys2Proof.Machine.onHpdLongLow t port s
  | .hpdRise t port => Sys2Proof.Machine.onHpdRise t port s
  | .sliceLock t r => Sys2Proof.Machine.execSliceLock t r s
  | .stitchBoundary t obs => Sys2Proof.Machine.onStitchBoundary t obs s
  | .headFrameStart t head => Sys2Proof.Machine.onHeadFrameStart t head s
  | .applyLineReached t head => Sys2Proof.Machine.onApplyLineReached t head s
  | .flipAbandon t layer head => Sys2Proof.Machine.onFlipAbandon t layer head s
  | .tileVerdict t head layer obs => Sys2Proof.Machine.onTileVerdict t head layer obs s
  | .tileStateCoalesce t layer head => Sys2Proof.Machine.onTileStateCoalesce t layer head s
  | .sliceCheckLine t ch slice => Sys2Proof.Machine.onSliceCheckLine t ch slice s
  | .sliceLockReturn t ch => Sys2Proof.Machine.onSliceLockReturn t ch s
  | .lastActiveLineEnd t head obs => Sys2Proof.Machine.onLastActiveLineEnd t head obs s
  | .attestRecordComplete t head => Sys2Proof.Machine.onAttestRecordComplete t head s
  | .encConfig t r => Sys2Proof.Machine.execEncConfig t r s
  | .encStart t r => Sys2Proof.Machine.execEncStart t r s
  | .encStop t r => Sys2Proof.Machine.execEncStop t r s
  | .encSetRate t r => Sys2Proof.Machine.execEncSetRate t r s
  | .attestConfig t r => Sys2Proof.Machine.execAttestConfig t r s
  | .attestRead t r => Sys2Proof.Machine.execAttestRead t r s
  | .encodePictureDone t ec obs => Sys2Proof.Machine.onEncodePictureDone t ec obs s
  | .rtcpSenderReport t ec => Sys2Proof.Machine.onRtcpSenderReport t ec s
  | .audPortConfig t r => Sys2Proof.Machine.execAudPortConfig t r s
  | .audRoute t r => Sys2Proof.Machine.execAudRoute t r s
  | .audGroup t r => Sys2Proof.Machine.execAudGroup t r s
  | .audTone t r => Sys2Proof.Machine.execAudTone t r s
  | .audStats t r => Sys2Proof.Machine.execAudStats t r s
  | .tonePhaseChange t tone => Sys2Proof.Machine.onTonePhaseChange t tone s
  | .toneDurationExpiry t tone => Sys2Proof.Machine.onToneDurationExpiry t tone s
  | .nonPcmDetect t src pair reason => Sys2Proof.Machine.onNonPcmDetect t src pair reason s
  | .nonPcmClear t src pair => Sys2Proof.Machine.onNonPcmClear t src pair s
  | .steerLimit t group reached => Sys2Proof.Machine.onSteerLimit t group reached s
  | .timeConfig t r => Sys2Proof.Machine.execTimeConfig t r s
  | .timeGet t r => Sys2Proof.Machine.execTimeGet t r s
  | .timeSet t r => Sys2Proof.Machine.execTimeSet t r s
  | .timeSlewLimit t r => Sys2Proof.Machine.execTimeSlewLimit t r s
  | .timeAsym t r => Sys2Proof.Machine.execTimeAsym t r s
  | .timeStats t r => Sys2Proof.Machine.execTimeStats t r s
  | .timeLegacyMode t r => Sys2Proof.Machine.execTimeLegacyMode t r s
  | .ptpSync t msg => Sys2Proof.Machine.onPtpSync t msg s
  | .ptpAnnounce t domain m => Sys2Proof.Machine.onPtpAnnounce t domain m s
  | .ptpMasterTimeout t domain => Sys2Proof.Machine.onPtpMasterTimeout t domain s
  | .domainEvaluation t => Sys2Proof.Machine.onDomainEvaluation t s
  | .rtcLoad t => Sys2Proof.Machine.onRtcLoad t s
  | .touchConfig t r => Sys2Proof.Machine.execTouchConfig t r s
  | .touchStatus t r => Sys2Proof.Machine.execTouchStatus t r s
  | .touchRecal t r => Sys2Proof.Machine.execTouchRecal t r s
  | .gpioConfig t r => Sys2Proof.Machine.execGpioConfig t r s
  | .gpioStatus t r => Sys2Proof.Machine.execGpioStatus t r s
  | .safeStatus t r => Sys2Proof.Machine.execSafeStatus t r s
  | .cbusConfig t r => Sys2Proof.Machine.execCbusConfig t r s
  | .cbusSend t r => Sys2Proof.Machine.execCbusSend t r s
  | .cbusFrameSent t port collisions lateCollisions => Sys2Proof.Machine.onCbusFrameSent t port collisions lateCollisions s
  | .cbusSendTimeout t port => Sys2Proof.Machine.onCbusSendTimeout t port s
  | .consoleFrameReceive t port f => Sys2Proof.Machine.onConsoleFrameReceive t port f s
  | .plcaLost t port => Sys2Proof.Machine.onPlcaLost t port s
  | .plcaBeacon t port => Sys2Proof.Machine.onPlcaBeacon t port s
  | .touchScan t raw => Sys2Proof.Machine.onTouchScan t raw s
  | .touchHoldLimit t electrode => Sys2Proof.Machine.onTouchHoldLimit t electrode s
  | .approachScan t signals => Sys2Proof.Machine.onApproachScan t signals s
  | .inputDebouncedChange t input => Sys2Proof.Machine.onInputDebouncedChange t input s
  | .inputRawTransition t input level => Sys2Proof.Machine.onInputRawTransition t input level s
  | .chatterClear t input => Sys2Proof.Machine.onChatterClear t input s
  | .inputStuck t input => Sys2Proof.Machine.onInputStuck t input s
  | .pairFault t pair => Sys2Proof.Machine.onPairFault t pair s
  | .pairOk t pair => Sys2Proof.Machine.onPairOk t pair s
  | .linkConfig t r => Sys2Proof.Machine.execLinkConfig t r s
  | .linkTrain t r => Sys2Proof.Machine.execLinkTrain t r s
  | .linkStatus t r => Sys2Proof.Machine.execLinkStatus t r s
  | .linkPrbs t r => Sys2Proof.Machine.execLinkPrbs t r s
  | .linkLoop t r => Sys2Proof.Machine.execLinkLoop t r s
  | .linkLoopExpiry t link => Sys2Proof.Machine.onLinkLoopExpiry t link s
  | .linkTxeq t r => Sys2Proof.Machine.execLinkTxeq t r s
  | .linkLowpower t r => Sys2Proof.Machine.execLinkLowpower t r s
  | .linkTrainingComplete t link res => Sys2Proof.Machine.onLinkTrainingComplete t link res s
  | .linkRetryTimer t link => Sys2Proof.Machine.onLinkRetryTimer t link s
  | .linkRetrainTrigger t link cause lane => Sys2Proof.Machine.onLinkRetrainTrigger t link cause lane s
  | .linkActiveLossTimeout t link => Sys2Proof.Machine.onLinkActiveLossTimeout t link s
  | .flitReceive t link f => Sys2Proof.Machine.onFlitReceive t link f s
  | .llcReceive t link bytes => Sys2Proof.Machine.onLlcReceive t link bytes s
  | .replayTimeout t link => Sys2Proof.Machine.onReplayTimeout t link s
  | .forwardMessageSend t link stream msg firstRow rows bodyLen => Sys2Proof.Machine.onForwardMessageSend t link stream msg firstRow rows bodyLen s
  | .forwardedMessageReceive t link m => Sys2Proof.Machine.onForwardedMessageReceive t link m s
  | .beaconReceive t link b => Sys2Proof.Machine.onBeaconReceive t link b s
  | .linkMisaligned t link => Sys2Proof.Machine.onLinkMisaligned t link s
  | .marginMeasure t link margins => Sys2Proof.Machine.onMarginMeasure t link margins s
  | .linkIdleEntry t link => Sys2Proof.Machine.onLinkIdleEntry t link s
  | .linkSleepEntry t link => Sys2Proof.Machine.onLinkSleepEntry t link s
  | .energySetBudget t r => Sys2Proof.Machine.execEnergySetBudget t r s
  | .energyGet t r => Sys2Proof.Machine.execEnergyGet t r s
  | .energySetClass t r => Sys2Proof.Machine.execEnergySetClass t r s
  | .energyCorrectionUpdate t railsUJ => Sys2Proof.Machine.onEnergyCorrectionUpdate t railsUJ s
  | .pmbusLost t => Sys2Proof.Machine.onPmbusLost t s
  | .pstateRequest t r => Sys2Proof.Machine.execPstateRequest t r s
  | .pstateStatus t r => Sys2Proof.Machine.execPstateStatus t r s
  | .wakeConfig t r => Sys2Proof.Machine.execWakeConfig t r s
  | .refusalLog t r => Sys2Proof.Machine.execRefusalLog t r s
  | .scheduledEntry t => Sys2Proof.Machine.onScheduledEntry t s
  | .pstateEntryComplete t => Sys2Proof.Machine.onPstateEntryComplete t s
  | .wakeEvent t source => Sys2Proof.Machine.onWakeEvent t source s
  | .rtcAlarm t => Sys2Proof.Machine.onRtcAlarm t s
  | .wakeComplete t => Sys2Proof.Machine.onWakeComplete t s
  | .guardUpdate t r => Sys2Proof.Machine.execGuardUpdate t r s
  | .guardUpdateReopen t unit => Sys2Proof.Machine.onGuardUpdateReopen t unit s
  | .guardRead t r => Sys2Proof.Machine.execGuardRead t r s
  | .guardFaults t r => Sys2Proof.Machine.execGuardFaults t r s
  | .guardLock t r => Sys2Proof.Machine.execGuardLock t r s
  | .guardAccessCheck t a => Sys2Proof.Machine.onGuardAccessCheck t a s
  | .eccUncorrectableControl t e => Sys2Proof.Machine.onEccUncorrectableControl t e s
  | .eccUncorrectablePixel t e => Sys2Proof.Machine.onEccUncorrectablePixel t e s
  | .scrubPass t obs => Sys2Proof.Machine.onScrubPass t obs s
  | .bistRun t r => Sys2Proof.Machine.execBistRun t r s
  | .bistComplete t res => Sys2Proof.Machine.onBistComplete t res s
  | .bistResult t r => Sys2Proof.Machine.execBistResult t r s
  | .dpPattern t r => Sys2Proof.Machine.execDpPattern t r s
  | .logRead t r => Sys2Proof.Machine.execLogRead t r s
  | .samplerRead t r => Sys2Proof.Machine.execSamplerRead t r s
  | .samplerArm t r => Sys2Proof.Machine.execSamplerArm t r s
  | .samplerTrigger t r => Sys2Proof.Machine.execSamplerTrigger t r s
  | .samplerFreeze t => Sys2Proof.Machine.onSamplerFreeze t s
  | .samplerCopyDone t ok => Sys2Proof.Machine.onSamplerCopyDone t ok s
  | .sensorRead t r => Sys2Proof.Machine.execSensorRead t r s
  | .sensorSample t o => Sys2Proof.Machine.onSensorSample t o s
  | .gradientClear t => Sys2Proof.Machine.onGradientClear t s
  | .thermalTrip t sensor mC => Sys2Proof.Machine.onThermalTrip t sensor mC s
  | .thermalTripRecovery t => Sys2Proof.Machine.onThermalTripRecovery t s
  | .bobbinWatchdogMiss t bobbin => Sys2Proof.Machine.onBobbinWatchdogMiss t bobbin s
  | .hoopWatchdogExpiry t => Sys2Proof.Machine.onHoopWatchdogExpiry t s
  | .brownOut t lowestMv => Sys2Proof.Machine.onBrownOut t lowestMv s
  | .updBegin t r => Sys2Proof.Machine.execUpdBegin t r s
  | .updChunk t r => Sys2Proof.Machine.execUpdChunk t r s
  | .updChunkProgrammed t => Sys2Proof.Machine.onUpdChunkProgrammed t s
  | .updVerify t r => Sys2Proof.Machine.execUpdVerify t r s
  | .updActivate t r => Sys2Proof.Machine.execUpdActivate t r s
  | .updRollback t r => Sys2Proof.Machine.execUpdRollback t r s
  | .updStatus t r => Sys2Proof.Machine.execUpdStatus t r s
  | .trialHealthy t => Sys2Proof.Machine.onTrialHealthy t s
  | .trialTimeout t => Sys2Proof.Machine.onTrialTimeout t s
  | .delayedWarmReset t => Sys2Proof.Machine.onDelayedWarmReset t s
  | .debugUnlockResponse t sig => Sys2Proof.Machine.onDebugUnlockResponse t sig s
  | .fieldReturnResponse t sig => Sys2Proof.Machine.onFieldReturnResponse t sig s
  | .clockMonitorFinding t input kind freq => Sys2Proof.Machine.onClockMonitorFinding t input kind freq s
  | .clockGoodAgain t input => Sys2Proof.Machine.onClockGoodAgain t input s
  | .clockFaultBanner t => Sys2Proof.Machine.onClockFaultBanner t s
  | .refclkRecoveryEnd t => Sys2Proof.Machine.onRefclkRecoveryEnd t s
  | .porstAssert t => Sys2Proof.Machine.onPorstAssert t s
  | .porstRelease t => Sys2Proof.Machine.onPorstRelease t s
  | .warmReset t => Sys2Proof.Machine.onWarmReset t s
  | .deviceReady t => Sys2Proof.Machine.onDeviceReady t s
  | .hifCtrlEnableSet t => Sys2Proof.Machine.onHifCtrlEnableSet t s
  | .hifCtrlEnableClear t => Sys2Proof.Machine.onHifCtrlEnableClear t s
  | .hifStitchLoRead t => Sys2Proof.Machine.onHifStitchLoRead t s
  | .sqTailDoorbell t queue value => Sys2Proof.Machine.onSqTailDoorbell t queue value s
  | .cqHeadDoorbell t queue value => Sys2Proof.Machine.onCqHeadDoorbell t queue value s
  | .eqHeadDoorbell t value => Sys2Proof.Machine.onEqHeadDoorbell t value s
  | .rbufProdWrite t value => Sys2Proof.Machine.onRbufProdWrite t value s
  | .hifFenceSignalWrite t value wide => Sys2Proof.Machine.onHifFenceSignalWrite t value wide s
  | .irqStatusClear t value => Sys2Proof.Machine.onIrqStatusClear t value s
  | .apertureBaseWrite t high value => Sys2Proof.Machine.onApertureBaseWrite t high value s
  | .registerWrite t offset value => Sys2Proof.Machine.onRegisterWrite t offset value s
  | .apertureAccess t offset write data len => Sys2Proof.Machine.onApertureAccess t offset write data len s
  | .sqEntryTake t entry => Sys2Proof.Machine.onSqEntryTake t entry s
  | .networkDatagramReceive t port peer udp bytes => Sys2Proof.Machine.onNetworkDatagramReceive t port peer udp bytes s
  | .spiWritePacket t safety bytes => Sys2Proof.Machine.onSpiWritePacket t safety bytes s
  | .spiReadReply t safety => Sys2Proof.Machine.onSpiReadReply t safety s
  | .frameSyncEdge t port samples => Sys2Proof.Machine.onFrameSyncEdge t port samples s
  | .samplePlayTime t group => Sys2Proof.Machine.onSamplePlayTime t group s
  | .llcAckTimer t link => Sys2Proof.Machine.onLlcAckTimer t link s
  | .ptpDelayReqInterval t domain => Sys2Proof.Machine.onPtpDelayReqInterval t domain s
  | .ptpDelayResponse t domain remote frameLen => Sys2Proof.Machine.onPtpDelayResponse t domain remote frameLen s
  | .debugUnlockChallenge t => Sys2Proof.Machine.onDebugUnlockChallenge t s
  | .fieldReturnChallenge t => Sys2Proof.Machine.onFieldReturnChallenge t s

end Sys2Proof.Machine
end

