-- ==== Sys2Proof/Safety.lean ====
section
/-! DEFINITION. What the statements speak of: when a command is taken and executes at once, what it then answers, and the
invariant of transactions. -/
namespace Sys2Proof.Machine

/-- A transaction in APPLYING has a change that has not been made (R121): when the last one is made, it is APPLIED. -/
def State.applyingWaits (s : State) : Prop :=
  ∀ x ∈ s.txn.live, x.st = .applying → ∃ c ∈ s.txn.changes, c.txn = x.handle

/-- A request at `t` as its transport hands it over (R82, R91, R93): the command and the state it is judged in. -/
def taken (c : Cmd) (t : Nat) (r : Request) (s : State) : Option (Job × State) :=
  match intake c.spec.cls c.spec.op c.spec.reply true r (s.tick t) with
  | (s1, some j) => some (j, s1.accepted_ r)
  | (_, none) => none

/-- Nothing of its source keeps the command waiting (R78), no check of R74, R102 or R104 refuses it, it is neither staged (R123)
nor deferred (R76), and the budget does not turn its effect away (R366). -/
def clear (c : Cmd) (j : Job) (s : State) : Bool :=
  !mustWait j s && (check c j s).isNone && (c.denied j s).isNone && (j.req.txn = 0) &&
  !(atStitch j.req && s.stitchDist j.req.stitch > 0) && (checkObjects c j s).isNone &&
  match c.run j s with
  | .ok u _ | .part u _ _ | .later u | .done u => (budgetErr j s u).isNone
  | .fail _ _ | .failWith _ _ _ => true

/-- Where the command is taken and clear and `pre` holds, its row answers a next state: its effect `u` and payload `p`, of which
`post` holds, and the reply OK in the Stitch it began in (R75); what every row ends with follows (`settle`). -/
def Runs (row : Nat → Request → Instr) (c : Cmd) (pre : Job → State → Prop)
    (post : Job → State → State → List Byte → Prop) : Prop :=
  ∀ t r s j s1, taken c t r s = some (j, s1) → clear c j s1 = true → pre j s1 →
    ∃ u p, exec (row t r) s = .next (settle (u.replyAt j 0 0 s1.stitch32 p)) ∧ post j s1 u p

/-- As `Runs`, of a command that replies OK_PARTIAL with a number of items. -/
def RunsPart (row : Nat → Request → Instr) (c : Cmd) (pre : Job → State → Prop)
    (post : Job → State → State → Nat → List Byte → Prop) : Prop :=
  ∀ t r s j s1, taken c t r s = some (j, s1) → clear c j s1 = true → pre j s1 →
    ∃ u n p, exec (row t r) s = .next (settle (u.replyAt j 3 (sat16 n) s1.stitch32 p)) ∧ post j s1 u n p

/-- As `Runs`, of a command that executes now and replies later: it is among the commands in progress of its source (R78). -/
def RunsLater (row : Nat → Request → Instr) (c : Cmd) (pre : Job → State → Prop) (post : Job → State → State → Prop) : Prop :=
  ∀ t r s j s1, taken c t r s = some (j, s1) → clear c j s1 = true → pre j s1 →
    ∃ u, exec (row t r) s = .next (settle { u with hif := { u.hif with inflight := u.hif.inflight ++ [j] } }) ∧ post j s1 u

/-- As `Runs`, of a command whose reply is part of its effect. -/
def RunsDone (row : Nat → Request → Instr) (c : Cmd) (pre : Job → State → Prop) (post : Job → State → State → Prop) : Prop :=
  ∀ t r s j s1, taken c t r s = some (j, s1) → clear c j s1 = true → pre j s1 →
    ∃ u, exec (row t r) s = .next (settle u) ∧ post j s1 u

/-- As `Runs`, of a command that its own rules refuse: the reply with this status and DETAIL is all it does. -/
def Fails (row : Nat → Request → Instr) (c : Cmd) (pre : Job → State → Prop) (err : Job → State → Nat × Nat) : Prop :=
  ∀ t r s j s1, taken c t r s = some (j, s1) → clear c j s1 = true → pre j s1 →
    exec (row t r) s = .next (settle (s1.reply j (err j s1).1 (err j s1).2 []))

/-- A row of a command: its intake, its checks and its meaning, then what every row ends with. -/
def IsRow (row : Nat → Request → Instr) (c : Cmd) : Prop :=
  ∀ t r s, exec (row t r) s = .next (settle (host c.budgeted r (s.tick t)))

/-! ### Edits of layers and heads -/

/-- The accepted settings of a layer after an edit (R130). -/
def State.edited (s : State) (i : Nat) (f : LayerCfg → LayerCfg) : State := s.modLayer i fun l => { l with cfg := f l.cfg }

/-- The head on which a layer is accepted is disabled, or every limit of Table 9-17 holds for it and its cluster (R252). -/
def State.withinLimits (s : State) (i : Nat) : Prop := ∀ h, (s.layer i).head = some h → (s.head h).accEnable → s.limitsOk h

/-- The ratios of a layer's settings are legal for a command (R227, R293). -/
def State.ratiosOk (s : State) (j : Job) (i : Nat) (c : LayerCfg) : Prop := s.ratioErr c (s.lockedLayer j i) = none

/-- The change of a command joins those that wait, for each of these heads' apply lines (R130). -/
def State.waits (s : State) (j : Job) (heads : List Nat) : State :=
  { s with
    txn := { s.txn with changes := s.txn.changes ++ heads.map fun h => { head := some h, job := j, txn := j.req.txn } } }

/-! ### Packets on the wire (Table 3-1, R91, R92) -/

/-- The fields of a request fit the fields of a packet. -/
def fitsPacket (r : Request) : Prop :=
  r.tag < m32 ∧ r.txn < m16 ∧ r.flags < 256 ∧ r.session < 256 ∧ r.stitch < m32 ∧ r.payload.length ≤ 1008

/-- The command packet of a request (Table 3-1). -/
def packetOf (c : Cmd) (r : Request) : List Byte :=
  leBytes 1 c.spec.cls ++ leBytes 1 c.spec.op ++ leBytes 2 (16 + r.payload.length) ++ leBytes 4 r.tag ++ leBytes 2 r.txn ++
    leBytes 1 r.flags ++ leBytes 1 r.session ++ leBytes 4 r.stitch ++ r.payload

/-- The bytes of a packet on an SPI command port, after command byte 0x01 (R92): length, CRC, packet. -/
def spiBytes (pkt : List Byte) : List Byte :=
  leBytes 2 pkt.length ++ leBytes 2 (crc16 (leBytes 2 pkt.length ++ pkt)) ++ pkt

/-- The UDP payload of a packet in a session with a key (Table 3-9, R91): SEQ, packet, MAC. -/
def datagramBytes (key : List Byte) (seq : Nat) (pkt : List Byte) : List Byte :=
  leBytes 8 seq ++ pkt ++ (hmacSha256 key (leBytes 8 seq ++ pkt)).take 16

end Sys2Proof.Machine
end

