-- ==== Sys2Proof/Certificates/Slice0/Obligations.lean ====
section
/-! DEFINITION. The statements for the provers. `settle` is what every row ends with (commands held by R78 begin, transactions
whose last change is made are APPLIED); statements of one row give the state it leaves to `settle`, so all else is unchanged. -/

open Sys2Proof Sys2Proof.Machine

/-- A step runs the command at the front of the queue. For every command and state, a step with the command at the front of the
queue is exec of it on the state with the queue's rest; on an empty queue the block idles (the model's choice, log entry 4). (spec/95_what_each_step_holds.md) -/
def Obligations.StepRunsTheFrontCommand : Prop :=
  (∀ (c : Instr) (rest : List Instr) (s : State), step { s with pending := c :: rest } = exec c { s with pending := rest }) ∧
  ∀ s : State, s.pending = [] → step s = .next s

/-- Every command and event row answers a next state. No row of the table ends in a fault or a refusal, in any state and with any
operands. (spec/opcode_table.json) -/
def Obligations.EveryRowAnswers : Prop :=
  ∀ (c : Instr) (s : State), ∃ u, exec c s = .next u

/-- A packet written to an SPI port does what its command row does. For every command of the index and every request whose fields
fit a packet, SPI_WRITE_PACKET with the packet's bytes (Table 3-1) behind the length and CRC of R92 answers exactly what the
row of the command answers for that request, a next state, in every state: no field of the packet is dropped or misread, on
the primary and on the safety port. Its conclusion is a next state of exec, under conditions on state and operands alone, for:
spiWritePacket. (R92, R93, spec/03_command_transports.md) -/
def Obligations.SpiPacketIsItsCommand : Prop :=
  ∀ (c : Cmd) (row : Nat → Request → Instr) (t : Nat) (r : Request) (s : State),
    lookup c.spec.cls c.spec.op = some c → IsRow row c → fitsPacket r →
    r.transport = .spi ∨ r.transport = .safetySpi → r.queue = 0 → r.peer = 0 → r.udp = 0 → r.port = 0 → r.seq = 0 →
    exec (.spiWritePacket t (decide (r.transport = .safetySpi)) (spiBytes (packetOf c r))) s = exec (row t r) s ∧
      exec (.spiWritePacket t (decide (r.transport = .safetySpi)) (spiBytes (packetOf c r))) s =
        .next (settle (host c.budgeted r (s.tick t)))

/-- An authenticated datagram does what its command row does. For every command of the index and every request of an open session
whose fields fit a packet, NETWORK_DATAGRAM_RECEIVE with SEQ, the packet's bytes and the truncated HMAC under the session's
key answers exactly what the row of the command answers for that request, a next state, in every state in which the session is
open. Its conclusion is a next state of exec, under conditions on state and operands alone, for: networkDatagramReceive. (R91, spec/03_command_transports.md) -/
def Obligations.DatagramIsItsCommand : Prop :=
  ∀ (c : Cmd) (row : Nat → Request → Instr) (t : Nat) (r : Request) (s : State) (x : Session),
    lookup c.spec.cls c.spec.op = some c → IsRow row c → fitsPacket r → r.transport = .network → r.queue = 0 → r.session ≠ 0 →
    r.seq < m64 → s.session? r.session = some x →
    exec (.networkDatagramReceive t r.port r.peer r.udp (datagramBytes x.key r.seq (packetOf c r))) s = exec (row t r) s ∧
      exec (.networkDatagramReceive t r.port r.peer r.udp (datagramBytes x.key r.seq (packetOf c r))) s =
        .next (settle (host c.budgeted r (s.tick t)))

/-- A submission entry does what its command row does. For every command of the index and every request whose fields fit a packet,
SQ_ENTRY_TAKE with an entry that holds the packet inline (up to 48 bytes) or at an address that is a multiple of 64 answers
exactly what the row of the command answers for the same request, a next state, from the queue whose turn it is. Its
conclusion is a next state of exec, under conditions on state and operands alone, for: sqEntryTake. (R80, R82, spec/03_command_transports.md) -/
def Obligations.SubmissionEntryIsItsCommand : Prop :=
  ∀ (c : Cmd) (row : Nat → Request → Instr) (t : Nat) (r : Request) (s : State) (e : SqEntry),
    lookup c.spec.cls c.spec.op = some c → IsRow row c → fitsPacket r → r.transport = .pcie → r.peer = 0 → r.udp = 0 → r.port = 0 →
    r.seq = 0 → (s.tick t).nextQueue = some r.queue → e.length = 16 + r.payload.length →
    ((e.control = 0 ∧ e.address = 0 ∧ e.length ≤ 48 ∧ e.inline.take e.length = packetOf c r) ∨
      (e.control = 1 ∧ e.address % 64 = 0 ∧ e.indirect = packetOf c r)) →
    exec (.sqEntryTake t e) s = exec (row t r) s ∧ exec (.sqEntryTake t e) s = .next (settle (host c.budgeted r (s.tick t)))

/-- The SYS and session commands execute and reply. NOP returns its payload, IDENTIFY and GET_STATUS change nothing,
SET_EVENT_MASK sets the mask of its session or of its transport's session 0 (bit 12 stays set). SESSION_OPEN MODE 0 gives a
fresh challenge that replaces the sender's old one; MODE 1 with a live challenge, a key, a good proof and a free number opens
the session (on the network with the session key of R96, and held events follow the reply) and uses the challenge up.
SESSION_CLOSE replies and then closes. SAFETY_HEARTBEAT sets the deadline and ends a loss, which it records. RESET_BLOCK
resets the engines and replies later. Its conclusion is a next state of exec, under conditions on state and operands alone,
for: nop, identify, getStatus, setEventMask, resetBlock, sessionOpen, sessionClose, safetyHeartbeat. (R94, R95, R96, R97, R98, R99, R110, R115, R116, R117, R118) -/
def Obligations.HostCommands : Prop :=
  Runs .nop cmdNop (fun _ _ => True) (fun j s u p => u = s ∧ p = j.req.payload) ∧
  Runs .identify cmdIdentify (fun _ _ => True) (fun _ s u p =>
    u = s ∧ p = leBytes 4 0x4A587264 ++ leBytes 4 s.hoop.otp.rev ++ leBytes 8 s.hoop.otp.serial ++ leBytes 4 s.hoop.fwHoop ++
      leBytes 4 s.hoop.fwBobbin ++ leBytes 2 0x0100 ++ leBytes 1 s.hoop.otp.lifecycle ++ leBytes 1 s.hoop.running ++
      leBytes 2 s.hoop.otp.dramGib ++ zeros 2 ++ leBytes 4 s.hoop.otp.arb ++ zeros 28) ∧
  Runs .getStatus cmdGetStatus (fun j s => j.u8 0 = 0 ∨ s.loader = false) (fun j s u p =>
    u = s ∧ (j.u8 0 = 0 → p = leBytes 8 s.stitch ++ timeBytes s.local ++ leBytes 1 s.hif.hoopState ++ leBytes 1 s.pwr.pstate ++
        leBytes 1 s.ses.sessions.length ++ leBytes 1 s.openTxns ++ leBytes 2 s.statusFlags ++ zeros 2 ++ leBytes 4 s.domainsOn) ∧
      (j.u8 0 = 1 → p = clusterCodes.zipIdx.flatMap fun c => leBytes 1 c.1 ++ zeros 3 ++ leBytes 4 (s.pwr.eccCorr.getD c.2 0) ++
        leBytes 4 (s.pwr.eccUnc.getD c.2 0)) ∧
      (2 ≤ j.u8 0 → p = s.pwr.domainOff.flatMap (leBytes 4))) ∧
  Runs .setEventMask cmdSetEventMask (fun _ _ => True) (fun j s u p =>
    p = [] ∧ u = if j.req.session = 0 then
        { s with ses := { s.ses with masks0 := s.ses.masks0.set (index0 j.req.transport) (j.u32 0 ||| 0x1000) } }
      else s.modSession j.req.session fun x => { x with mask := j.u32 0 ||| 0x1000 }) ∧
  Runs .sessionOpen cmdSessionOpen (fun j _ => j.u8 0 = 0) (fun j s u p =>
    p = padTo 16 (Config.freeBytes s.free 16) ++ zeros 4 ∧ u = { s with
      free := s.free + 1
      ses := { s.ses with
        challenges := (s.ses.challenges.filter fun c => !c.of j.req) ++ [{
          transport := j.req.transport, peer := j.req.peer, udp := j.req.udp, bytes := padTo 16 (Config.freeBytes s.free 16)
          issued := s.now }] } }) ∧
  (∀ c key n, Runs .sessionOpen cmdSessionOpen (fun j s => j.u8 0 ≠ 0 ∧ j.req.transport ≠ .network ∧
      s.ses.challenges.find? (fun c => c.of j.req && s.now < c.issued + 10000000000) = some c ∧
      roleOver (j.u8 1) j.req.transport ∧ s.hoop.keys.getD (j.u8 1 - 1) none = some key ∧
      (hmacSha256 key (c.bytes ++ j.bytes 4 16 ++ [BitVec.ofNat 8 (j.u8 1)])).take 16 = j.bytes 20 16 ∧ j.u8 1 ≠ 3 ∧
      ((List.range 15).map (· + 1)).find? (fun n => !s.ses.sessions.any fun x => x.number = n) = some n) (fun j s u p =>
    p = zeros 16 ++ leBytes 1 n ++ zeros 3 ∧ u = { s with
      ses := { s.ses with
        challenges := s.ses.challenges.filter fun c => !c.of j.req
        sessions := s.ses.sessions ++ [{
          number := n, role := j.u8 1, transport := j.req.transport, peer := j.req.peer, udp := j.req.udp, port := j.req.port
          lastAccepted := s.now }] } })) ∧
  (∀ c key n, RunsDone .sessionOpen cmdSessionOpen (fun j s => j.u8 0 ≠ 0 ∧ j.req.transport = .network ∧
      s.ses.challenges.find? (fun c => c.of j.req && s.now < c.issued + 10000000000) = some c ∧
      s.hoop.keys.getD (j.u8 1 - 1) none = some key ∧
      (hmacSha256 key (c.bytes ++ j.bytes 4 16 ++ [BitVec.ofNat 8 (j.u8 1)])).take 16 = j.bytes 20 16 ∧
      (j.u8 1 = 3 → ∀ x ∈ s.ses.sessions, x.role = 3 → x.transport ≠ .network) ∧
      ((List.range 15).map (· + 1)).find? (fun n => !s.ses.sessions.any fun x => x.number = n) = some n) (fun j s u =>
    u = (({ s with
      ses := { s.ses with
        challenges := s.ses.challenges.filter fun c => !c.of j.req
        sessions := s.ses.sessions ++ [{
          number := n, role := j.u8 1, transport := .network, peer := j.req.peer, udp := j.req.udp, port := j.req.port
          key := hmacSha256 key (j.bytes 4 16 ++ c.bytes), lastAccepted := s.now }] } } : State).replyAt j 0 0 s.stitch32
        (zeros 16 ++ leBytes 1 n ++ zeros 3)).giveHeld fun s e => if (0xFFFE : Nat).testBit e.op then s.offerNet n e else s)) ∧
  RunsDone .sessionClose cmdSessionClose (fun j s =>
      (s.session? (if j.u8 0 = 0 then j.req.session else j.u8 0)).isSome ∧
      ((if j.u8 0 = 0 then j.req.session else j.u8 0) = j.req.session ∨ s.roleOf j.req = 2)) (fun j s u =>
    u = (s.reply j 0 0 []).closeSession (if j.u8 0 = 0 then j.req.session else j.u8 0)) ∧
  Runs .safetyHeartbeat cmdSafetyHeartbeat (fun _ _ => True) (fun j s u p =>
    p = leBytes 4 (j.u32 4) ∧ u.ses.supervised = true ∧ u.ses.hbLost = false ∧
    u.ses.hbPeriodMs = (if j.u16 0 = 0 then s.ses.hbPeriodMs else j.u16 0) ∧ u.ses.hbDeadline = s.now + u.ses.hbPeriodMs * 1000000 ∧
    (s.ses.hbLost = false → (s.ses.supervised = false ∨ s.hbPaused ∨ s.now < s.ses.hbDeadline) →
      u = { s with ses := u.ses }) ∧
    (s.ses.hbLost = true → { u with ses := s.ses } = s.record 0x0503 0 [(s.now - s.ses.hbLostAt) / 1000000])) ∧
  RunsLater .resetBlock cmdResetBlock (fun j s => engineExists (j.u16 0) ∧ resetProtected (j.u16 0) = false ∧ ¬(s.hoop.bist.st = 1 ∧
        (originCovers s.hoop.bist.origin (j.u16 0) ∨ originCovers (j.u16 0) s.hoop.bist.origin)) ∧
      (∃ d, clusterDomain (j.u16 0 / 256) = some d) ∧ j.u16 0 / 256 ≠ 0x50 ∧
      ∀ d, clusterDomain (j.u16 0 / 256) = some d → s.reachable d) (fun j s u => u = s.resetEngine (j.u16 0) (some j)) ∧
  RunsLater .resetBlock cmdResetBlock (fun j s => engineExists (j.u16 0) ∧ ¬(s.hoop.bist.st = 1 ∧
        (originCovers s.hoop.bist.origin (j.u16 0) ∨ originCovers (j.u16 0) s.hoop.bist.origin)) ∧ j.u16 0 / 256 = 0x50 ∧
      (if j.u16 0 % 256 = 0xFF then ∃ m < 4, s.reachable (13 + m) else s.reachable (13 + j.u16 0 % 256 / 4))) (fun j s u =>
    u = s.resetEngine (j.u16 0) (some j))

/-- Idle sessions, the lost heartbeat, held events, engine resets and the memory errors. A network session without an accepted
datagram for 300 s closes. The end of the heartbeat window marks the loss and records it. Events held since a reset are
discarded when their 60 s end. A reset engine reports: a RESET_BLOCK that waits replies, its Bobbin serves again, and the
device is RUNNING once nothing is being reset. A Bobbin that missed four boundaries is reset. Uncorrectable errors are counted
and logged; one in control data triggers the Sampler and resets its owner, one in pixels taints the record's cells and its
buffer's units, and a count that rises from 0 raises TAINTED. A scrub pass that is due adds its corrections to the cluster
counters, logs what it found, keeps errors in pixels for their next read and acts at once on those in control data. Its
conclusion is a next state of exec, under conditions on state and operands alone, for: engineResetDone,
networkSessionIdleClose, heartbeatLost, heldEventsDiscard, eccUncorrectableControl, eccUncorrectablePixel, scrubPass,
bobbinWatchdogMiss. (R23, R24, R25, R97, R99, R137, R408) -/
def Obligations.SessionAndEngineEvents : Prop :=
  (∀ t n s0 s x, s = s0.tick t → s.session? n = some x → x.transport = .network → x.lastAccepted + 300000000000 ≤ s.now →
    exec (.networkSessionIdleClose t n) s0 = .next (settle (s.closeSession n))) ∧
  (∀ t s0 s, s = s0.tick t → s.ses.supervised → s.ses.hbLost = false → s.hbPaused = false → s.ses.hbDeadline ≤ s.now →
    exec (.heartbeatLost t) s0 = .next (settle ((({ s with
      ses := { s.ses with hbLost := true, hbLostAt := s.ses.hbDeadline } }).record 0x0502 0 [s.ses.hbPeriodMs]).bannersEndSr))) ∧
  (∀ t s0 s, s = s0.tick t → s.ses.heldUntil ≤ s.now →
    exec (.heldEventsDiscard t) s0 = .next (settle { s with ses := { s.ses with heldEvents := [] } })) ∧
  (∀ t o s0 s r rest up down, s = s0.tick t → s.hoop.resetting.find? (fun r => r.1 = o) = some r → rest = s.hoop.resetting.erase r →
    up = ((enginesOf o).filter fun e => e / 256 = 2) → down = (s.hoop.bobbinDown.filter fun b => !up.contains (0x200 + b)) →
    exec (.engineResetDone t o) s0 = .next (settle (({ s with
      hoop := { s.hoop with
        resetting := rest, bobbinDown := down, bobbinOkSince := if up.isEmpty then s.hoop.bobbinOkSince else s.now }
      hif := { s.hif with
        hoopState := if s.hif.hoopState = 3 && rest.isEmpty && down.isEmpty then 2 else s.hif.hoopState } } : State).finish?
          r.2 0 0 []))) ∧
  (∀ t b s0 s, s = s0.tick t → b < 12 → s.hif.ready → s.domainOn 2 ∨ (b = 11 ∧ s.pwr.pstate = 2) → s.hoop.bobbinDown.contains b = false →
    exec (.bobbinWatchdogMiss t b) s0 = .next (settle ((s.trigger 0x0101 (0x0200 + b) [4]).resetEngine (0x0200 + b) none))) ∧
  (∀ t (e : EccInfo) s0 s, s = s0.tick t → engineExists e.origin → e.gimp = 0 →
    exec (.eccUncorrectableControl t e) s0 = .next (settle (((s.countUnc e.origin).trigger 0x0103 e.origin
      [e.address % m32, e.address / m32, e.syndrome % m32]).resetEngine e.origin none))) ∧
  (∀ t (e : EccInfo) s0 s, s = s0.tick t → engineExists e.origin → e.gimp ≠ 0 →
    exec (.eccUncorrectableControl t e) s0 = .next (settle ((((s.countUnc e.origin).trigger 0x0103 e.origin
      [e.address % m32, e.address / m32, e.syndrome % m32]).retireQuota e.gimp).resetEngine
        (if idType e.gimp = 1 then 0x0200 + idIndex e.gimp / 8 else 0x020B) none))) ∧
  (∀ t (e : EccPixel) s0 s, s = s0.tick t → engineExists e.origin →
    exec (.eccUncorrectablePixel t e) s0 = .next (settle
      (((s.countUnc e.origin).record 0x0302 e.origin [e.address % m32, e.address / m32]).taintPixels e))) ∧
  (∀ (s : State) (e : EccPixel) old s1 n, e.object ≠ 0 → idType e.object ≠ 8 →
    old = (((s.rec? e.object e.seq).map (·.tainted)).getD 0) →
    s1 = (s.modRec e.object e.seq fun r => { r with
      cells := r.cells ++ e.cells.filter fun k => !r.cells.contains k
      tainted := sat16 ((r.cells ++ e.cells.filter fun k => !r.cells.contains k) ++ (r.mapCells.map (·.1)).filter fun k =>
        !(r.cells ++ e.cells.filter fun k => !r.cells.contains k).contains k).length }) →
    n = (((s1.rec? e.object e.seq).map (·.tainted)).getD 0) →
    (idType e.object ≠ 1 → s.taintPixels e = s1) ∧
    (idType e.object = 1 → s.taintPixels e =
      (let s2 := s1.modCtx (idIndex e.object) fun c => { c with
         bufs := c.bufs.map fun b => if b.seq = e.seq && b.seq ≠ 0 then b.firmCells e.cells else b }
       if old = 0 && n ≠ 0 then (s2.modCtx (idIndex e.object) fun c => { c with lastTainted := n, sinceTainted := 0 }).evtDecode
         (idIndex e.object) 9 0 n 0 e.seq else s2))) ∧
  (∀ t (o : ScrubObs) s0 s s1, s = s0.tick t → s.hif.ready → s.domainOn 12 →
    s.pwr.scrubAt + s.hoop.scrubHours * 3600 * nsPerSec ≤ s.now →
    s1 = ({ s with
      pwr := { s.pwr with
        eccCorr := s.pwr.eccCorr.mapIdx fun i n => satAdd32 n (o.corrected.getD i 0)
        scrubAt := s.now, scrubFound := s.pwr.scrubFound ++ o.pixel.filter fun e => engineExists e.origin } } : State) →
    exec (.scrubPass t o) s0 = .next (settle ((s1.forEach (o.pixel.filter fun e => engineExists e.origin) fun e s =>
      (s.countUnc e.origin).record 0x0302 e.origin [e.address % m32, e.address / m32]).forEach o.control fun e s => eccControl e s)))

/-- Transactions begin, commit, roll back and finish. TXN_BEGIN with fewer than four live transactions opens one under the next
handle with its idle time. TXN_COMMIT of an open transaction of the session, with a Stitch still ahead and fences that exist,
makes it COMMITTING with its fences and timeout and replies later. TXN_ROLLBACK of an open or committing one rolls it back.
TXN_QUERY reports. An open transaction idle for its time rolls back. A fence list that has not held at its timeout rolls back
or is fixed late. At S_a every staged command takes effect, the flips of heads that change at once are served, and the commit
replies with S_a. Deferred commands whose Stitch has come execute in the order of acceptance. Its conclusion is a next state
of exec, under conditions on state and operands alone, for: txnBegin, txnCommit, txnRollback, txnQuery, txnIdleExpiry,
txnFenceTimeout, txnApplyGlobal, deferredCommandExecute. (R76, R120, R121, R122, R125, R126, R129, R130, R133, R136) -/
def Obligations.TransactionRows : Prop :=
  Runs .txnBegin cmdTxnBegin (fun _ s => s.txn.live.length < 4) (fun j s u p =>
    p = leBytes 2 s.nextHandle ++ zeros 2 ∧ u = { s with
      txn := { s.txn with
        lastHandle := s.nextHandle
        live := s.txn.live ++ [{
          handle := s.nextHandle, session := j.req.session, transport := j.req.transport, peer := j.req.peer
          idleNs := (if j.u16 0 = 0 then 10 else j.u16 0) * nsPerSec, idleSince := s.now }] } }) ∧
  (∀ x, RunsLater .txnCommit cmdTxnCommit (fun j s => s.txn? (j.u16 0) = some x ∧ x.st = .open_ ∧ x.owned j.req ∧
      (j.u64 4 = 0 ∨ s.stitch < j.u64 4) ∧ ∀ f ∈ commitFences j, idInRange f.2.1 ∧ s.objExists f.2.1) (fun j s u =>
    u = s.modTxn (j.u16 0) fun x => { x with
      st := .committing, fences := (commitFences j).map (·.2), sc := j.u64 4, acceptedAt := s.now, lateApply := j.u8 2 = 1
      timeoutNs := (if j.u32 12 = 0 then 100000 else j.u32 12) * 1000, commit := some j })) ∧
  (∀ x, Runs .txnRollback cmdTxnRollback (fun j s => s.txn? (j.u16 0) = some x ∧ x.owned j.req ∧ (x.st = .open_ ∨ x.st = .committing))
    (fun j s u p => p = [] ∧ u = s.rollback x 1 eTxnUnknown (j.u16 0) 0)) ∧
  (∀ x, Runs .txnQuery cmdTxnQuery (fun j s => (s.txn.live ++ s.txn.finished).find? (fun x => x.handle = j.u16 0) = some x)
    (fun _ s u p => u = s ∧ p = leBytes 1 x.st.code ++ leBytes 1 x.reason ++ leBytes 2 x.staged.length ++
      leBytes 2 x.failIndex ++ leBytes 2 x.failStatus ++ leBytes 8 x.sa)) ∧
  (∀ t h s0 s x, s = s0.tick t → s.txn? h = some x → x.st = .open_ → x.idleSince + x.idleNs ≤ s.now →
    exec (.txnIdleExpiry t h) s0 = .next (settle (s.rollback x 2 0 0 0))) ∧
  (∀ t h s0 s x, s = s0.tick t → s.txn? h = some x → x.st = .committing → x.fences ≠ [] →
    x.acceptedAt + x.timeoutNs ≤ s.boundaryAt →
    exec (.txnFenceTimeout t h) s0 = .next (settle (if x.lateApply then s.fixTxn x true
      else s.rollback x 3 eFenceTimeout ((s.fenceShort x).getD (x.fences.headD (0, 0)).1) 0))) ∧
  (∀ t h s0 s x now s1 s2, s = s0.tick t → s.txn? h = some x → x.st = .fixed → x.sa ≤ s.stitch →
    now = ((List.range 32).filter fun n => (s.head n).immediate) →
    s1 = ((s.modTxn h fun x => { x with atOnce := now }).forEach x.staged fun j s => (runJob false j s).state s) →
    s2 = (s1.forEach now fun n s => s.serveStaged x n).modTxn h (fun x => { x with st := .applying, commit := none }) →
    exec (.txnApplyGlobal t h) s0 = .next (settle (s2.finish? x.commit 0 0 (leBytes 8 x.sa)).settleTxns)) ∧
  (∀ t s0 s, s = s0.tick t →
    exec (.deferredCommandExecute t) s0 = .next (settle (({ s with
      txn := { s.txn with deferred := s.txn.deferred.filter fun d => !(d.stitch ≤ s.stitch) } } : State).forEach
        (s.txn.deferred.filter fun d => d.stitch ≤ s.stitch) fun d s => conclude d.job s (runJob true d.job s))))

/-- The host registers, doorbells and interrupts. Over PCIe with its domain on: ENABLE set with legal rings empties the rings and
offers the events held since a reset, and with illegal ones sets CFG_ERR; cleared, it stops intake; a read of STITCH_LO
latches the upper half and the time and returns the low half; a doorbell inside its ring moves it, one outside raises cause 6;
a producer index within the count is taken; a fence signal keeps the upper half, or adds 2^32 where the low half falls, and
where that sum does not fit the value is free but no lower (log entry 97); a status bit written 1 clears; the aperture base
keeps its halves apart. SPI_READ_REPLY sends the oldest waiting packet with its length and CRC. Its conclusion is a next state
of exec, under conditions on state and operands alone, for: hifCtrlEnableSet, hifCtrlEnableClear, hifStitchLoRead,
sqTailDoorbell, cqHeadDoorbell, eqHeadDoorbell, rbufProdWrite, hifFenceSignalWrite, irqStatusClear, apertureBaseWrite,
spiReadReply. (R79, R81, R83, R86, R87, R88, R89, R92) -/
def Obligations.HostRegisterRows : Prop :=
  (∀ t s0 s, s = s0.tick t → s.pcieOn → s.hif.enable = false → ringsOk s.hif = false →
    exec (.hifCtrlEnableSet t) s0 = .next (settle { s with hif := { s.hif with cfgErr := true } })) ∧
  (∀ t s0 s s1, s = s0.tick t → s.pcieOn → s.hif.enable = false → ringsOk s.hif →
    s1 = { s with
      hif := { s.hif with
        enable := true, cfgErr := false, eqLost := 0
        sqs := s.hif.sqs.map fun q => { q with head := 0, tail := 0 }
        cqs := s.hif.cqs.map fun q => { q with head := 0, tail := 0, phase := true, posted := 0 }
        eq := { s.hif.eq with head := 0, tail := 0, phase := true, posted := 0, reserved := 0 }
        rbuf := { s.hif.rbuf with cons := 0, prod := s.hif.rbuf.count } }
      ses := { s.ses with pcieStream := { opened := true }, heldGivenPcie := true } } →
    exec (.hifCtrlEnableSet t) s0 = .next (settle (if s.ses.heldGivenPcie = false ∧ s.now < s.ses.heldUntil then
      s.ses.heldEvents.foldl (fun s e => if s.wants .pcie e.op then s.offerPcie e else s) s1 else s1))) ∧
  (∀ t s0 s, s = s0.tick t → s.pcieOn →
    exec (.hifCtrlEnableClear t) s0 = .next (settle { s with hif := { s.hif with enable := false } })) ∧
  (∀ t s0 s, s = s0.tick t → s.pcieOn →
    exec (.hifStitchLoRead t) s0 = .next (settle (({ s with
      hif := { s.hif with
        latchStitch := s.stitch / m32 % m32, latchTimeS := s.local / nsPerSec % m32, latchTimeNs := s.local % nsPerSec } } : State).emit
      (.readValue s.stitch32)))) ∧
  (∀ t q v s0 s, s = s0.tick t → s.pcieOn → q < 4 →
    (v % 4096 < (s.hif.sqs.getD q {}).size → exec (.sqTailDoorbell t q v) s0 = .next (settle (({ s with
      hif := { s.hif with sqs := modAt s.hif.sqs q fun x => { x with tail := v % 4096 } } } : State).wakeBy 7))) ∧
    ((s.hif.sqs.getD q {}).size ≤ v % 4096 → exec (.sqTailDoorbell t q v) s0 = .next (settle ((s.raiseIrq 6).wakeBy 7))) ∧
    (v % 4096 < (s.hif.cqs.getD q {}).size → exec (.cqHeadDoorbell t q v) s0 = .next (settle { s with
      hif := { s.hif with cqs := modAt s.hif.cqs q fun x => x.consume (v % 4096) } })) ∧
    ((s.hif.cqs.getD q {}).size ≤ v % 4096 → exec (.cqHeadDoorbell t q v) s0 = .next (settle (s.raiseIrq 6)))) ∧
  (∀ t v s0 s, s = s0.tick t → s.pcieOn →
    (v % 4096 < s.hif.eq.size → exec (.eqHeadDoorbell t v) s0 =
      .next (settle { s with hif := { s.hif with eq := s.hif.eq.consume (v % 4096) } })) ∧
    (s.hif.eq.size ≤ v % 4096 → exec (.eqHeadDoorbell t v) s0 = .next (settle (s.raiseIrq 6))) ∧
    ((v % m16 + m16 - s.hif.rbuf.cons) % m16 ≤ s.hif.rbuf.count → exec (.rbufProdWrite t v) s0 =
      .next (settle { s with hif := { s.hif with rbuf := { s.hif.rbuf with prod := v % m16 } } })) ∧
    (s.hif.rbuf.count < (v % m16 + m16 - s.hif.rbuf.cons) % m16 → exec (.rbufProdWrite t v) s0 = .next (settle (s.raiseIrq 6))) ∧
    exec (.irqStatusClear t v) s0 = .next (settle { s with
      hif := { s.hif with irqStatus := s.hif.irqStatus &&& (0x7FF ^^^ (v % 2048)) } }) ∧
    exec (.apertureBaseWrite t false v) s0 = .next (settle { s with
      hif := { s.hif with apertureBase := s.hif.apertureBase / m32 * m32 + v % m32 / 2 ^ 28 * 2 ^ 28 } }) ∧
    exec (.apertureBaseWrite t true v) s0 = .next (settle { s with
      hif := { s.hif with apertureBase := s.hif.apertureBase % m32 + v % 256 * m32 } })) ∧
  (∀ t v wide s0 s s1 f w n, s = s0.tick t → s.pcieOn → f = s.lay.fences.getD (v % 256) {} →
    w = (if wide then v / m32 % m32 else s.hif.fenceValue) →
    s1 = (if wide then ({ s with hif := { s.hif with fenceValue := w } } : State) else s) → n = f.value / m32 * m32 + w →
    (f.made = false → exec (.hifFenceSignalWrite t v wide) s0 = .next (settle (s1.raiseIrq 8))) ∧
    (f.made → f.value ≤ n → exec (.hifFenceSignalWrite t v wide) s0 = .next (settle { s1 with
      lay := { s1.lay with fences := modAt s1.lay.fences (v % 256) (·.write s.now n) } })) ∧
    (f.made → n < f.value → n + m32 < m64 → exec (.hifFenceSignalWrite t v wide) s0 = .next (settle { s1 with
      lay := { s1.lay with fences := modAt s1.lay.fences (v % 256) (·.write s.now (n + m32)) } })) ∧
    (f.made → n < f.value → f.value < m64 → m64 ≤ n + m32 → ∃ x, f.value ≤ x ∧ x < m64 ∧
      exec (.hifFenceSignalWrite t v wide) s0 = .next (settle { s1 with
        free := s1.free + 1
        lay := { s1.lay with fences := modAt s1.lay.fences (v % 256) (·.write s.now x) } }))) ∧
  (∀ t safety s0 s pkt rest, s = s0.tick t → s.transportUp ∨ (s.loader ∧ safety = false) → (s.spiPort safety).waiting = pkt :: rest →
    exec (.spiReadReply t safety) s0 = .next (settle ((s.setSpiPort safety { s.spiPort safety with waiting := rest }).emit
      (.spiPacket safety (s.spiStatus safety) (leBytes 2 pkt.length ++ leBytes 2 (crc16 (leBytes 2 pkt.length ++ pkt)) ++ pkt)))))

/-- A 32-bit write to BAR0 reaches the register at its offset. With PCIe up: ring bases and sizes are stored while ENABLE is 0 and
ignored while it is 1 (bits 11:0 of a base read zero); the doorbells, HIF_CTRL, the producer index, the interrupt registers,
the fence registers and the aperture base at their offsets of Table 3-5 do what their own rows do; SCRATCH keeps the value.
Its conclusion is a next state of exec, under conditions on state and operands alone, for: registerWrite. (R79, R81, R87, R88, R89) -/
def Obligations.RegisterWriteRows : Prop :=
  ∀ t v s0 s, s = s0.tick t → s.pcieOn →
    (∀ i < 4, s.hif.enable = false →
      exec (.registerWrite t (0x100 + 0x20 * i) v) s0 = .next (settle { s with
        hif := { s.hif with sqs := modAt s.hif.sqs i fun q => { q with base := q.base / m32 * m32 + v % m32 / 4096 * 4096 } } }) ∧
      exec (.registerWrite t (0x104 + 0x20 * i) v) s0 = .next (settle { s with
        hif := { s.hif with sqs := modAt s.hif.sqs i fun q => { q with base := q.base % m32 + v % 256 * m32 } } }) ∧
      exec (.registerWrite t (0x108 + 0x20 * i) v) s0 = .next (settle { s with
        hif := { s.hif with sqs := modAt s.hif.sqs i fun q => { q with size := v % 8192 } } }) ∧
      exec (.registerWrite t (0x188 + 0x20 * i) v) s0 = .next (settle { s with
        hif := { s.hif with cqs := modAt s.hif.cqs i fun q => { q with size := v % 8192 } } })) ∧
    (∀ i < 4, s.hif.enable →
      exec (.registerWrite t (0x100 + 0x20 * i) v) s0 = .next (settle s) ∧
      exec (.registerWrite t (0x108 + 0x20 * i) v) s0 = .next (settle s)) ∧
    (∀ i < 4, exec (.registerWrite t (0x10C + 0x20 * i) v) s0 = exec (.sqTailDoorbell t i v) s0 ∧
      exec (.registerWrite t (0x18C + 0x20 * i) v) s0 = exec (.cqHeadDoorbell t i v) s0) ∧
    exec (.registerWrite t 0x00C v) s0 = (if v % 2 = 1 then exec (.hifCtrlEnableSet t) s0 else exec (.hifCtrlEnableClear t) s0) ∧
    exec (.registerWrite t 0x20C v) s0 = exec (.eqHeadDoorbell t v) s0 ∧
    exec (.registerWrite t 0x24C v) s0 = exec (.rbufProdWrite t v) s0 ∧
    exec (.registerWrite t 0x300 v) s0 = exec (.irqStatusClear t v) s0 ∧
    exec (.registerWrite t 0x304 v) s0 = .next (settle { s with hif := { s.hif with irqMask := v % 2048 } }) ∧
    exec (.registerWrite t 0x340 v) s0 = exec (.hifFenceSignalWrite t (v % m32) false) s0 ∧
    exec (.registerWrite t 0x344 v) s0 = .next (settle { s with hif := { s.hif with fenceValue := v % m32 } }) ∧
    exec (.registerWrite t 0x380 v) s0 = exec (.apertureBaseWrite t false v) s0 ∧
    exec (.registerWrite t 0x384 v) s0 = exec (.apertureBaseWrite t true v) s0 ∧
    exec (.registerWrite t 0x3F0 v) s0 = .next (settle { s with hif := { s.hif with scratch := v % m32 } })

/-- Guard programs, checked accesses, PEEK, POKE and the aperture. GUARD_UPDATE whose COUNT agrees with LEN, whose entries R400
admits and whose program has no overlap closes its unit with the new program and replies later (an update of no entries that
disables nothing replies at once); GUARD_LOCK closes it with the lock set, or replies at once if the region is locked. The
unit reopens under its program, checks what stalled in the order it arrived, PEEK and POKE among it, and replies. GUARD_READ
and GUARD_FAULTS report, the latter clearing what it reports when asked. An access at an open unit is checked and answered
with its bytes and response; at a closed one it stalls. An error on an engine's own control data is taken by its owner as an
uncorrectable error. A checked write of one byte in DRAM with its domains on (and the debug port open, if it is GU_DBG's)
stores that byte, and every other address reads as before. The aperture is an access of PCIe at its base. PEEK and POKE are
the agent's 32-bit accesses in order, and stall while the unit is closed. Its conclusion is a next state of exec, under
conditions on state and operands alone, for: peek, poke, guardUpdate, guardUpdateReopen, guardRead, guardFaults, guardLock,
guardAccessCheck, apertureAccess. (R19, R20, R89, R119, R393, R395, R399, R400, R401, R402) -/
def Obligations.GuardRows : Prop :=
  (∀ x program, RunsLater .guardUpdate cmdGuardUpdate (fun j s => x = s.guard (idIndex (j.u16 0)) ∧ j.u8 2 = (j.len - 8) / 16 ∧
      (List.range (j.u8 2)).findSome? (guardEntryErr x (idIndex (j.u16 0)) j) = none ∧ x.update.isNone ∧
      program = x.regions.mapIdx (fun i g => match ((List.range (j.u8 2)).map (guardEntry j)).find? fun e => e.1 = i with
        | some e => e.2
        | none => if j.u8 3 = 1 && g.role = 4 && !g.lock then { g with sizeExp := 0 } else g) ∧
      overlapPair program = none ∧ ¬(j.u8 2 = 0 ∧ j.u8 3 = 0)) (fun j s u =>
    u = s.modGuard (idIndex (j.u16 0)) fun g => { g with update := some { program, job := j, closedAt := s.now } })) ∧
  Runs .guardUpdate cmdGuardUpdate (fun j s => j.u8 2 = 0 ∧ j.len < 24 ∧ j.u8 3 = 0 ∧ (s.guard (idIndex (j.u16 0))).update = none ∧
      overlapPair (s.guard (idIndex (j.u16 0))).regions = none) (fun _ s u p => p = [] ∧ u = s) ∧
  (∀ g, Runs .guardLock cmdGuardLock (fun j s => g = (s.guard (idIndex (j.u16 0))).regions.getD (j.u8 2) {} ∧
      g.enabled ∧ g.role ≠ 0 ∧ g.lock ∧ (s.guard (idIndex (j.u16 0))).update = none) (fun _ s u p => p = [] ∧ u = s)) ∧
  (∀ g, RunsLater .guardLock cmdGuardLock (fun j s => g = (s.guard (idIndex (j.u16 0))).regions.getD (j.u8 2) {} ∧
      g.enabled ∧ g.role ≠ 0 ∧ g.lock = false ∧ (s.guard (idIndex (j.u16 0))).update = none) (fun j s u =>
    u = s.modGuard (idIndex (j.u16 0)) fun x => { x with
      update := some {
        program := (s.guard (idIndex (j.u16 0))).regions.set (j.u8 2) { g with lock := true }, job := j, closedAt := s.now } })) ∧
  Runs .guardRead cmdGuardRead (fun _ _ => True) (fun j s u p => u = s ∧ p =
    let x := s.guard (idIndex (j.u16 0))
    leBytes 2 (j.u16 0) ++ leBytes 1 (if x.update.isSome then 2 else 1) ++ leBytes 1 (x.regions.filter (·.lock)).length ++
      leBytes 4 x.total ++ (x.regions.zipIdx.flatMap fun g => g.1.bytes g.2)) ∧
  Runs .guardFaults cmdGuardFaults (fun _ _ => True) (fun j s u p =>
    u = (if j.u8 3 = 1 then s.modGuard (idIndex (j.u16 0)) fun g => { g with violations := g.violations.drop (j.u8 2) } else s) ∧
    p = leBytes 4 (s.guard (idIndex (j.u16 0))).total ++ leBytes 1 ((s.guard (idIndex (j.u16 0))).violations.take (j.u8 2)).length ++
      zeros 3 ++ ((s.guard (idIndex (j.u16 0))).violations.take (j.u8 2)).flatMap Violation.bytes) ∧
  (∀ t u s0 s p, s = s0.tick t → (s.guard u).update = some p →
    exec (.guardUpdateReopen t u) s0 = .next (settle
      (((s.modGuard u fun g => { g with regions := p.program, update := none }).forEach p.stalled fun x s =>
        s.serveStalled x).finish p.job 0 0 []))) ∧
  (∀ t (x : Access) s0 s, s = s0.tick t → x.unit < 9 → 0 < (if x.write then x.data.length else x.length) →
    (if x.write then x.data.length else x.length) ≤ 4096 →
    ((s.guard x.unit).update = none → exec (.guardAccessCheck t x) s0 = .next (settle (s.serveAccess x false))) ∧
    (∀ v, (s.guard x.unit).update = some v → exec (.guardAccessCheck t x) s0 = .next (settle
      (s.modGuard x.unit fun g => { g with update := some { v with stalled := v.stalled ++ [.access x] } })))) ∧
  (∀ (s : State) (x : Access) stalled, (s.access x stalled).2.2 = .good ∨ x.control = false →
    s.serveAccess x stalled = (s.access x stalled).1.emit
      (.fabricAnswer x.unit x.sub (s.access x stalled).2.1 (s.access x stalled).2.2)) ∧
  (∀ (s : State) (x : Access) stalled a o, (s.access x stalled).2.2 = .error a → x.control = true →
    masterEngine x.unit x.sub = some o →
    s.serveAccess x stalled = eccControl { origin := o, address := a, syndrome := 0, gimp := 0 }
      ((s.access x stalled).1.emit (.fabricAnswer x.unit x.sub (s.access x stalled).2.1 (.error a)))) ∧
  (∀ t off write data len s0 s, s = s0.tick t → s.hif.pcieUp → s.domainOn 19 →
    ∀ x : Access, x = { unit := 0, sub := 0, address := (s.hif.apertureBase + off % 2 ^ 28) % 2 ^ 40, write, data, length := len } →
    exec (.apertureAccess t off write data len) s0 = exec (.guardAccessCheck t x) s0 ∧
    (0 < (if write then data.length else len) → (if write then data.length else len) ≤ 4096 → (s.guard 0).update = none →
      exec (.apertureAccess t off write data len) s0 = .next (settle ((s.access x false).1.emit
        (.fabricAnswer 0 0 (s.access x false).2.1 (s.access x false).2.2))))) ∧
  Runs .peek cmdPeek (fun j s => (s.guard 2).update = none ∧ s.peekErr (j.u64 0) = none ∧ j.op ≠ 6 ∧
      (s.agent false (j.u64 0) none (j.u16 8 / 4)).2.2 = true) (fun j s u p =>
    u = (s.agent false (j.u64 0) none (j.u16 8 / 4)).1 ∧ p = (s.agent false (j.u64 0) none (j.u16 8 / 4)).2.1) ∧
  Runs .poke cmdPoke (fun j s => (s.guard 2).update = none ∧ s.peekErr (j.u64 0) = none ∧ j.op = 6 ∧
      (s.agent false (j.u64 0) (some (j.req.payload.drop 12)) (j.u16 8 / 4)).2.2 = true) (fun j s u _ =>
    u = (s.agent false (j.u64 0) (some (j.req.payload.drop 12)) (j.u16 8 / 4)).1) ∧
  (∀ v, RunsLater .peek cmdPeek (fun _ s => (s.guard 2).update = some v) (fun j s u =>
    u = s.modGuard 2 fun g => { g with update := some { v with stalled := v.stalled ++ [.job j] } })) ∧
  (∀ v, RunsLater .poke cmdPoke (fun _ s => (s.guard 2).update = some v) (fun j s u =>
    u = s.modGuard 2 fun g => { g with update := some { v with stalled := v.stalled ++ [.job j] } })) ∧
  (∀ t (x : Access) (b : Byte) s0 s u, s = s0.tick t → x.unit < 9 → (x.unit = 8 → s.hoop.debugOpen) → x.write → x.data = [b] →
    (s.guard x.unit).update = none → s.place x.address = .dram → s.offAt x.address = none →
    s.guardCheck x.unit x.sub x.address true = none → Memory.wf s.mem → u = { s with mem := memWrite s.mem x.address b } →
    exec (.guardAccessCheck t x) s0 = .next (settle (u.emit (.fabricAnswer x.unit x.sub [] .good))) ∧ memRead u.mem x.address = b ∧
      ∀ a, a ≠ x.address → memRead u.mem a = memRead s.mem a)

/-- The commands of ingest channels execute and reply. SRC_OPEN of a closed channel with its resources opens it WAITING with the
given type, paths and format and starts its frame numbers at 1. SRC_CLOSE leaves the groups, releases the slice-lock and the
frames and empties the channel and its context. SRC_SET_FILTER and SRC_SET_JITTER note their setting for the next Stitch.
SRC_JOIN of a new membership within 16 per path adds it and SRC_LEAVE of a held one removes it, each reporting what changed; a
repeated join changes nothing. SRC_GET_STATS reports and clears the peak wait. SRC_SET_CREDIT sets the credit at once. Its
conclusion is a next state of exec, under conditions on state and operands alone, for: srcOpen, srcClose, srcSetFilter,
srcJoin, srcLeave, srcGetStats, srcSetJitter, srcSetCredit. (R143, R144, R146, R156, R160, R161, R162, R163, R175) -/
def Obligations.ChannelCommands : Prop :=
  Runs .srcOpen cmdSrcOpen (fun j s => (s.src (srcIndex (j.u16 0))).st = .closed ∧
      ¬(j.u8 2 = 3 ∧ 32 ≤ (s.net.srcs.filter fun c => c.st ≠ .closed && c.typ = 3).length) ∧
      ¬(j.u8 2 = 5 ∧ s.heapFree < 3 * footprint (j.u16 46) (j.u16 48) 10)) (fun j s u p =>
    p = [] ∧ u =
      let n := srcIndex (j.u16 0)
      let dual := j.u8 3 % 2 = 1
      let a : PathState := { port := idIndex (j.u16 4), dst := beVal (j.bytes 8 16), udp := j.u16 40, since := s.now }
      let b : PathState := { port := idIndex (j.u16 6), dst := beVal (j.bytes 24 16), udp := j.u16 42, since := s.now }
      let s1 := s.modSrc n fun _ => {
        st := .waiting, typ := j.u8 2, dual := dual, rtcpMux := (j.u8 3).testBit 1, paths := [a, if dual then b else {}]
        pt := j.u8 44, p1 := j.u16 46, p2 := j.u16 48, p3 := j.u16 50, p4 := j.u16 52, lastAccepted := s.now }
      if n < 64 then { s1 with
        dec := { s1.dec with
          ctxs := modAt s1.dec.ctxs n fun _ => { bufs := if j.u8 2 = 3 || j.u8 2 = 5 then List.replicate 3 {} else [] }
          gimpCh := modAt s1.dec.gimpCh n fun q => { q with nextSeq := 1, backSeq := 0, lost := [] } } }
      else { s1 with aud := { s1.aud with streams := modAt s1.aud.streams (n - 64) fun _ => {} } }) ∧
  Runs .srcClose cmdSrcClose (fun _ _ => True) (fun j s u p =>
    p = [] ∧ u =
      let n := srcIndex (j.u16 0)
      let s1 := (s.leaveAll n).modSrc n fun _ => {}
      if n < 64 then
        let s2 := (s1.sliceRelease j n).releaseFrames (j.u16 0)
        { s2 with dec := { s2.dec with ctxs := modAt s2.dec.ctxs n fun _ => {} } }
      else s1) ∧
  Runs .srcSetFilter cmdSrcSetFilter (fun _ _ => True) (fun j s u p =>
    p = [] ∧ u = s.modSrc (srcIndex (j.u16 0)) fun c => { c with
      paths := modAt c.paths (j.u8 2) fun q => { q with
        pendingFilter := some {
          sources := (List.range (j.u8 3)).map fun i => beVal (j.bytes (16 + 16 * i) 16)
          srcPort := j.u16 4, ssrcFixed := j.u8 12 = 1, ssrc := j.u32 8 } } }) ∧
  Runs .srcJoin cmdSrcJoin (fun j s => (s.src (srcIndex (j.u16 0))).joins.contains (joinOf j)) (fun _ s u p => p = [] ∧ u = s) ∧
  Runs .srcJoin cmdSrcJoin (fun j s => (s.src (srcIndex (j.u16 0))).joins.contains (joinOf j) = false ∧
      ((s.src (srcIndex (j.u16 0))).joins.filter fun y => y.path = j.u8 2).length < 16) (fun j s u p =>
    p = [] ∧ u = (s.modSrc (srcIndex (j.u16 0)) fun c => { c with joins := c.joins ++ [joinOf j] }).groupChanged
      ((s.src (srcIndex (j.u16 0))).paths.getD (j.u8 2) {}).port (beVal (j.bytes 8 16))
      (s.membership ((s.src (srcIndex (j.u16 0))).paths.getD (j.u8 2) {}).port (beVal (j.bytes 8 16)))) ∧
  Runs .srcLeave cmdSrcLeave (fun j s => (s.src (srcIndex (j.u16 0))).joins.contains (joinOf j)) (fun j s u p =>
    p = [] ∧ u = (s.modSrc (srcIndex (j.u16 0)) fun c => { c with joins := c.joins.erase (joinOf j) }).groupChanged
      ((s.src (srcIndex (j.u16 0))).paths.getD (j.u8 2) {}).port (beVal (j.bytes 8 16))
      (s.membership ((s.src (srcIndex (j.u16 0))).paths.getD (j.u8 2) {}).port (beVal (j.bytes 8 16)))) ∧
  Runs .srcGetStats cmdSrcGetStats (fun _ _ => True) (fun j s u p =>
    u = (s.modSrc (srcIndex (j.u16 0)) fun c => { c with waitPeakNs := 0 }) ∧
    ∀ c k, c = s.src (srcIndex (j.u16 0)) → k = c.ctr → ∃ f t : List Byte, f.length = 7 ∧
      p = leBytes 1 c.st.code ++ f ++ ([(c.paths.getD 0 {}).accepted, (c.paths.getD 1 {}).accepted, k.delivered, k.duplicates,
        k.lost, k.late, k.reordered, k.strangers, k.contention, k.frames, k.incomplete].flatMap (leBytes 8)) ++ t) ∧
  Runs .srcSetJitter cmdSrcSetJitter (fun _ _ => True) (fun j s u p =>
    p = [] ∧ u = s.modSrc (srcIndex (j.u16 0)) fun c => { c with pendingJitter := some (j.u32 4, j.u16 8) }) ∧
  Runs .srcSetCredit cmdSrcSetCredit (fun _ _ => True) (fun j s u p =>
    p = [] ∧ u = s.modSrc (idIndex (j.u16 0)) fun c => { c with creditUs := j.u32 4 })

/-- Network ports: commands, the speed search, links, neighbours and membership. NET_PORT_CONFIG takes the link down where it
restarts the port and stores the settings; NET_ADDR stores the addresses; NET_LOOP of a port that did not carry it sets the
loopback with its end; NET_STATS reports. A loopback ends at its time. A window of 500 ms that ends without a lock changes the
searched rate and one that ends with a lock reached inside it keeps it; a lock reached inside the window (or at the fixed
rate) that has held for 100 ms brings the link up, with FALLBACK at 10 Gb/s; a lost lock counts and takes the link down. ARP,
NDP and echo requests for the port's own addresses are answered. A query is counted, remembered if older, and answered for
every group it covers; a frame of either kind that is too short or too long is counted as that and dropped. Due reports
repeat. Its conclusion is a next state of exec, under conditions on state and operands alone, for: netPortConfig, netAddr,
netStats, netLoop, netLoopExpiry, ethSpeedWindowExpiry, ethLinkUp, ethLinkDown, membershipQuery, membershipReportRetransmit,
arpNdpIcmpRequest. (R138, R140, R141, R142, R162, R164, R165) -/
def Obligations.NetworkPortRows : Prop :=
  Runs .netPortConfig cmdNetPortConfig (fun _ _ => True) (fun j s u p =>
    p = [] ∧ u =
      let k := idIndex (j.u16 0)
      let restart := j.u8 2 ≠ 1 || !(s.port k).enable || (s.port k).speed ≠ j.u8 3 || (s.port k).fec ≠ decide (j.u8 4 = 1)
      (s.when restart (·.portDown k)).modPort k fun x => { x with
        enable := j.u8 2 = 1, speed := j.u8 3, fec := j.u8 4 = 1, command := j.u8 5 = 1, mtu := j.u16 6, vlan := j.u16 8
        searchRate := if restart then 1 else x.searchRate
        searchSince := if restart then (s.when restart (·.portDown k)).now else x.searchSince
        lockSince := if restart then none else x.lockSince }) ∧
  Runs .netAddr cmdNetAddr (fun _ _ => True) (fun j s u p =>
    p = [] ∧ u = s.modPort (idIndex (j.u16 0)) fun x => { x with
      addrFlags := j.u8 2, prefix4 := j.u8 3, mac := beVal (j.bytes 4 6), prefix6 := j.u8 10
      ipv4 := beVal (j.bytes 12 4), ipv6 := beVal (j.bytes 16 16), gateway := beVal (j.bytes 32 16) }) ∧
  Runs .netStats cmdNetStats (fun _ _ => True) (fun j s u p => u = s ∧
    ∀ c, c = (s.port (idIndex (j.u16 0))).ctr → ∃ t : List Byte,
      p = ([c.rxFrames, c.rxOctets, c.rxFcsErr, c.rxLengthErr, c.rxVlanDrop, c.rxUnmatched, c.rxStranger, c.rxContention,
        c.txFrames, c.txOctets].flatMap (leBytes 8)) ++ t) ∧
  Runs .netLoop cmdNetLoop (fun j _ => ¬(j.req.transport = .network ∧ j.req.port = idIndex (j.u16 0))) (fun j s u p =>
    p = [] ∧ u = s.modPort (idIndex (j.u16 0)) fun x => { x with
      loop := j.u8 2
      loopUntil := if j.u8 2 = 0 || j.u32 4 = 0 then none else some (s.now + j.u32 4 * 1000000) }) ∧
  (∀ t k s0 s until_, s = s0.tick t → (s.port k).loopUntil = some until_ → until_ ≤ s.now →
    exec (.netLoopExpiry t k) s0 = .next (settle (s.modPort k fun x => { x with loop := 0, loopUntil := none }))) ∧
  (∀ t k lock s0 s x, s = s0.tick t → x = s.port k → k < 4 → x.enable → x.speed = 0 → x.link = false → x.lockSince = none →
    x.searchSince + 500000000 ≤ s.now →
    ((∀ a, lock = some a → a < x.searchSince ∨ x.searchSince + 500000000 ≤ a) → exec (.ethSpeedWindowExpiry t ⟨k, lock⟩) s0 =
      .next (settle (s.modPort k fun x => { x with searchRate := 3 - x.searchRate, searchSince := s.now }))) ∧
    (∀ a, lock = some a → x.searchSince ≤ a → a < x.searchSince + 500000000 → exec (.ethSpeedWindowExpiry t ⟨k, lock⟩) s0 =
      .next (settle (s.modPort k fun x => { x with lockSince := some a })))) ∧
  (∀ t k rate since s0 s x, s = s0.tick t → x = s.port k → x.enable → x.link = false → s.pwr.pstate < 2 → k < 4 →
    s.clk.refLost = false → since + 100000000 ≤ s.now → x.searchSince ≤ since →
    (x.speed = 0 ∧ rate = x.searchRate ∧ since < x.searchSince + 500000000 ∧ (x.lockSince = none ∨ x.lockSince = some since)) ∨
      (x.speed ≠ 0 ∧ rate = x.speed) →
    exec (.ethLinkUp t k ⟨rate, since⟩) s0 = .next (settle
      (((s.modPort k fun y => { y with
        link := true, curSpeed := rate, fecActive := x.fec && rate = 1, lockSince := none }).evtNet (0xD000 + k) 1 0xFF
        rate (b2n (x.fec && rate = 1))).when (x.speed = 0 && rate = 2) fun s =>
          (s.modPortCtr k fun c => { c with fallback := c.fallback + 1 }).evtNet (0xD000 + k) 3 0xFF 2 0))) ∧
  (∀ t rate since s0 s x, s = s0.tick t → x = s.port 4 → x.enable → x.link = false → s.pwr.pstate < 2 → 3 ≤ rate → rate ≤ 5 →
    x.speed = 0 ∨ x.speed = rate →
    exec (.ethLinkUp t 4 ⟨rate, since⟩) s0 = .next (settle
      ((s.modPort 4 fun y => { y with link := true, curSpeed := rate, fecActive := false, lockSince := none }).evtNet 0xD004 1 0xFF rate 0))) ∧
  (∀ t k s0 s x, s = s0.tick t → x = s.port k → k < 5 → x.enable →
    exec (.ethLinkDown t k) s0 = .next (settle
      (let s1 := s.when (k < 4) (·.modPortCtr k fun c => { c with blockLockLoss := c.blockLockLoss + 1 })
       if x.link then (s1.portDown k).modPort k fun y => { y with searchRate := 1, searchSince := (s1.portDown k).now }
       else s1.modPort k fun y => { y with
         searchRate := if x.speed = 0 then 3 - y.searchRate else y.searchRate, searchSince := s.now, lockSince := none }))) ∧
  (∀ t (q : NeighbourQuery) s0 s own, s = s0.tick t → s.portRx q.port → s.goodLength q.port (s.port q.port).vlan q.frameLen →
    own = (if q.kind = 1 || q.kind = 3 then (s.port q.port).addrFlags.testBit 1 && q.target = (s.port q.port).ipv6
      else (s.port q.port).addrFlags.testBit 0 && q.target = (s.port q.port).ipv4) →
    exec (.arpNdpIcmpRequest t q) s0 = .next (settle (if own ∧ q.kind ≤ 3 then
      ((s.rxFrame q.port q.frameLen).txFrame q.port (q.frameLen - (if (s.port q.port).vlan = 0 then 18 else 22))).emit
        (.linkAnswer q.port q.kind q.target (if 2 ≤ q.kind then q.bytes else []))
      else s.rxFrame q.port q.frameLen))) ∧
  (∀ t (q : MemberQuery) s0 s s1, s = s0.tick t → s.portRx q.port → s.goodLength q.port (s.port q.port).vlan q.frameLen →
    s1 = (((s.rxFrame q.port q.frameLen).modPortCtr q.port fun c => { c with queriesRx := c.queriesRx + 1 }).when
      (q.version < (if q.v6 then 2 else 3)) (·.modPort q.port fun x => { x with
        olderQuerier := x.olderQuerier.filter (fun o => !(o.1 = q.v6 && o.2.1 = q.version)) ++
          [(q.v6, q.version, s.now + 260 * nsPerSec)] })) →
    exec (.membershipQuery t q) s0 = .next (settle (s1.forEach
      ((((s1.portJoins q.port).map (·.group)).eraseDups).filter fun g => isV4 g = !q.v6 && (q.group = 0 || q.group = g)) fun g s =>
      match s.membership q.port g with
      | some l => s.sendReport q.port g
          [if (s.compat q.port g).isSome then (4, []) else if l.isEmpty then (2, []) else (1, l)] (s.compat q.port g)
      | none => s))) ∧
  (∀ t (q : NeighbourQuery) (m : MemberQuery) s0 s, s = s0.tick t →
    (s.portRx q.port → s.goodLength q.port (s.port q.port).vlan q.frameLen = false →
      exec (.arpNdpIcmpRequest t q) s0 = .next (settle ((s.rxFrame q.port q.frameLen).modPortCtr q.port fun c =>
        { c with rxLengthErr := c.rxLengthErr + 1 }))) ∧
    (s.portRx m.port → s.goodLength m.port (s.port m.port).vlan m.frameLen = false →
      exec (.membershipQuery t m) s0 = .next (settle ((s.rxFrame m.port m.frameLen).modPortCtr m.port fun c =>
        { c with rxLengthErr := c.rxLengthErr + 1 })))) ∧
  (∀ t k s0 s, s = s0.tick t →
    exec (.membershipReportRetransmit t k) s0 = .next (settle
      ((s.modPort k fun x => { x with retransmit := x.retransmit.filter fun r => !(r.2.2 ≤ s.now) }).forEach
        ((s.port k).retransmit.filter fun r => r.2.2 ≤ s.now) fun r s => s.sendReport k r.1 r.2.1 (s.compat k r.1))))

/-- Packets and the time limits of ingest channels. A frame on a running port without FEC counts is counted: with a bad FCS alone,
else with its octets, and then as a length error, as another VLAN's, as unmatched, or it is offered to every path it matches;
a Pdelay_Req for a domain in service here is answered at once (the model's choice, log entry 106). An open channel delivers
what is due when its window ends: the unit at the front first. A candidate sequence is dropped after 100 ms, a channel without
packets for 1 s is silent, a contest ends at its time, and a path of a dual channel without packets for 100 ms, from its
opening on, is down. Its conclusion is a next state of exec, under conditions on state and operands alone, for: packetReceive,
reorderWindowExpiry, candidateTimeout, channelSilent, contestClear, pathDown. (R138, R142, R145, R149, R151, R154) -/
def Obligations.IngestEvents : Prop :=
  (∀ t (k : Packet) s0 s, s = s0.tick t → s.portRx k.port → (s.port k.port).fecActive = false →
    (k.fcsOk = false → exec (.packetReceive t k) s0 =
      .next (settle (s.modPortCtr k.port fun c => { c with rxFcsErr := c.rxFcsErr + 1 }))) ∧
    (∀ s1 big, k.fcsOk → s1 = s.rxFrame k.port k.frameLen →
      big = ((s.port k.port).mtu + 18 + (if k.vlan = 0 then 0 else 4)) →
      (k.frameLen < 64 ∨ big < k.frameLen → exec (.packetReceive t k) s0 =
        .next (settle (s1.modPortCtr k.port fun c => { c with rxLengthErr := c.rxLengthErr + 1 }))) ∧
      (64 ≤ k.frameLen → k.frameLen ≤ big → k.vlan ≠ (s.port k.port).vlan → exec (.packetReceive t k) s0 =
        .next (settle (s1.modPortCtr k.port fun c => { c with rxVlanDrop := c.rxVlanDrop + 1 }))) ∧
      (∀ hits, 64 ≤ k.frameLen → k.frameLen ≤ big → k.vlan = (s.port k.port).vlan → k.port ≠ 4 → (∀ b, k.body ≠ .other b) → (∀ n v q, k.body ≠ .pdelayReq n v q) →
        hits = ((List.range 96).flatMap fun n => ([0, 1].filter fun i => (s1.src n).matches_ i k).map fun i => (n, i)) →
        (hits = [] → exec (.packetReceive t k) s0 =
          .next (settle (s1.modPortCtr k.port fun c => { c with rxUnmatched := c.rxUnmatched + 1 }))) ∧
        (hits ≠ [] → exec (.packetReceive t k) s0 =
          .next (settle (s1.forEach hits fun h s => s.offerPath h.1 h.2 k)))))) ∧
  (∀ t (k : Packet) number transport requester s0 s, s = s0.tick t → s.portRx k.port → (s.port k.port).fecActive = false → k.fcsOk →
    s.goodLength k.port k.vlan k.frameLen → k.vlan = (s.port k.port).vlan → k.body = .pdelayReq number transport requester →
    (s.rxFrame k.port k.frameLen).answersPdelay k.port number transport →
    exec (.packetReceive t k) s0 = .next (settle (((s.rxFrame k.port k.frameLen).txFrame k.port (54 + ptpHeaders transport)).emit
      (.ptpResponse k.port transport requester)))) ∧
  (∀ t n s0 s c run rest early, s = s0.tick t → c = s.src n → c.st ≠ .closed → s.bySlice n = false → unitRuns c.wait = run :: rest →
    s.unitDue c run (rest.head?.bind List.head?) = some early →
    exec (.reorderWindowExpiry t n) s0 = .next (settle (flushUnits n (c.wait.length - 1)
      (s.deliverRun n run rest.flatten (rest.head?.bind List.head?) early)))) ∧
  (∀ t n s0 s, s = s0.tick t → (s.src n).st ≠ .closed → s.bySlice n →
    exec (.reorderWindowExpiry t n) s0 = .next (settle (flushSlices n (2 * (s.src n).wait.length + 4) s))) ∧
  (∀ t n s0 s d, s = s0.tick t → (s.src n).cand = some d → d.inter = false → d.lastAt + 100000000 ≤ s.now →
    exec (.candidateTimeout t n) s0 = .next (settle (s.stray n))) ∧
  (∀ t n s0 s, s = s0.tick t → (s.src n).st = .active → (s.src n).lastAccepted + nsPerSec ≤ s.now →
    exec (.channelSilent t n) s0 =
      .next (settle ((s.modSrc n fun c => { c with st := .silent }).evtNet (srcId n) 11 0xFF 0 0))) ∧
  (∀ t n s0 s, s = s0.tick t → (s.src n).contested → (s.src n).contestedUntil ≤ s.now →
    exec (.contestClear t n) s0 = .next (settle
      ((s.modSrc n fun c => { c with contested := false }).evtNet (srcId n) 8 0xFF (sat32 (s.src n).contestCount) 0))) ∧
  (∀ t n path s0 s c p, s = s0.tick t → c = s.src n → p = c.paths.getD path {} → c.st ≠ .closed → c.dual → path < 2 →
    p.down = false → p.lastAccepted.getD p.since + 100000000 ≤ s.now →
    exec (.pathDown t n path) s0 = .next (settle
      ((s.modSrc n fun c => { c with paths := modAt c.paths path fun p => { p with down := true } }).evtNet (srcId n) 5 path 0 0)))

/-- The layer commands change the accepted settings of the layer. Taken and clear, LAYER_BIND binds a video layer to its channel
with its latch mode (0 unbinds, which ends a pause) or gives a graphic layer its format, when no flip is queued and the layer
is not slice-locked; LAYER_PLACE puts a layer on its head's rectangle at its Z, moves it or removes it; LAYER_SCALE stores
coefficient set, crop, phases and filter; LAYER_ENABLE, LAYER_DISABLE and LAYER_ALPHA set their field; each when the ratios of
R227 and the limits of R252 hold, and the change then goes to the heads of the layer. BLEND_ORDER goes to its head when it
lists each layer placed there once. Nothing else changes, memory included. Its conclusion is a next state of exec, under
conditions on state and operands alone, for: layerBind, layerPlace, layerScale, layerEnable, layerDisable, blendOrder,
layerAlpha. (R130, R220, R221, R222, R227, R232, R252) -/
def Obligations.LayerCommands : Prop :=
  (∀ e : Job → LayerCfg → LayerCfg, e = (fun j c =>
      if idType (j.u16 0) = 3 then { c with
        source := if j.u16 2 = 0 then none else some (idIndex (j.u16 2)), rowLatch := j.u8 5 = 1
        paused := c.paused && j.u16 2 ≠ 0 }
      else { c with format := j.u8 4 }) →
    Runs .layerBind cmdLayerBind (fun j s =>
      (j.u16 2 ≠ 0 → (s.src (idIndex (j.u16 2))).typ ≠ 4) ∧ s.lockedLayer j j.layer = false ∧ s.queuedFlips j.layer = [] ∧
      ((s.edited j.layer (e j)).modLayer j.layer fun l => { l with everBound := true }).withinLimits j.layer) (fun j s u p =>
      p = [] ∧ u = ((s.edited j.layer (e j)).modLayer j.layer fun l => { l with everBound := true }).affectLayer j j.layer
        (s.layerHeads j.layer))) ∧
  Runs .layerPlace cmdLayerPlace (fun j s => j.u16 2 = 0 ∧ s.lockedLayer j j.layer = false) (fun j s u p =>
    p = [] ∧ u = (s.modLayer j.layer fun l => { l with head := none, cfg := { l.cfg with
      dest := {}, z := 0, paused := false } }).affectLayer j j.layer (s.layerHeads j.layer)) ∧
  Runs .layerPlace cmdLayerPlace (fun j s => j.u16 2 ≠ 0 ∧ (s.layer j.layer).head = some (idIndex (j.u16 2)) ∧
      (isVideo j.layer → s.ratiosOk j j.layer { s.ratioBase j with dest := j.rect 4, z := j.u8 12 }) ∧
      (s.edited j.layer fun c => { c with dest := j.rect 4, z := j.u8 12 }).withinLimits j.layer) (fun j s u p =>
    p = [] ∧ u = (s.edited j.layer fun c => { c with dest := j.rect 4, z := j.u8 12 }).affectLayer j j.layer
      (s.layerHeads j.layer ++ [idIndex (j.u16 2)])) ∧
  (∀ m : Job → State → State, m = (fun j s => s.modLayer j.layer fun l => { l with
      head := some (idIndex (j.u16 2)), cfg := { l.cfg with dest := j.rect 4, z := j.u8 12, paused := false }
      snap := { (if (s.layerHeads j.layer).isEmpty then l.base else l.cfg) with paused := false } }) →
    Runs .layerPlace cmdLayerPlace (fun j s => j.u16 2 ≠ 0 ∧ (s.layer j.layer).head ≠ some (idIndex (j.u16 2)) ∧
      (isVideo j.layer → s.ratiosOk j j.layer { s.ratioBase j with dest := j.rect 4, z := j.u8 12 }) ∧
      s.lockedLayer j j.layer = false ∧ (s.placedOn (idIndex (j.u16 2))).length < 16 ∧ (m j s).withinLimits j.layer) (fun j s u p =>
      p = [] ∧ u = (m j s).affectLayer j j.layer (s.layerHeads j.layer ++ [idIndex (j.u16 2)]))) ∧
  (∀ e : Job → LayerCfg → LayerCfg, e = (fun j c => { c with
      coef := idIndex (j.u16 2) - 0xC0, crop := j.rect 4, phaseH := j.s16 12, phaseV := j.s16 14, nearest := j.u8 16 = 1 }) →
    Runs .layerScale cmdLayerScale (fun j s =>
      ((s.ratioBase j).dest.w ≠ 0 → s.ratiosOk j j.layer (e j (s.ratioBase j))) ∧
      (s.edited j.layer (e j)).withinLimits j.layer) (fun j s u p =>
      p = [] ∧ u = (s.edited j.layer (e j)).affectLayer j j.layer (s.layerHeads j.layer))) ∧
  Runs .layerEnable cmdLayerEnable (fun j s => (s.layer j.layer).cfg.enable = false ∧
      (s.edited j.layer fun c => { c with enable := true }).withinLimits j.layer) (fun j s u p =>
    p = [] ∧ u = (s.edited j.layer fun c => { c with enable := true }).affectLayer j j.layer (s.layerHeads j.layer)) ∧
  Runs .layerEnable cmdLayerEnable (fun j s => (s.layer j.layer).cfg.enable) (fun _ s u p => p = [] ∧ u = s) ∧
  Runs .layerDisable cmdLayerDisable (fun j s => (s.layer j.layer).cfg.enable) (fun j s u p =>
    p = [] ∧ u = (s.edited j.layer fun c => { c with enable := false }).affectLayer j j.layer []) ∧
  Runs .layerDisable cmdLayerDisable (fun j s => (s.layer j.layer).cfg.enable = false) (fun _ s u p => p = [] ∧ u = s) ∧
  Runs .layerAlpha cmdLayerAlpha (fun _ _ => True) (fun j s u p =>
    p = [] ∧ u = (s.edited j.layer fun c => { c with alpha := j.u8 2 }).affectLayer j j.layer []) ∧
  (∀ ids : Job → List Nat, ids = (fun j => (List.range (j.u8 3)).map fun i => layerIndex (j.u16 (4 + 2 * i))) →
    Runs .blendOrder cmdBlendOrder (fun j s => (ids j).Nodup ∧ (∀ i ∈ ids j, (s.layer i).head = some (idIndex (j.u16 0))) ∧
      (j.u8 2 = 1 → ∀ x ∈ s.placedOn (idIndex (j.u16 0)), x.1 ∈ ids j)) (fun j s u p =>
      p = [] ∧ u = s.affect j [idIndex (j.u16 0)]))

/-- A change waits for each head it affects, or comes into force at once. A direct change of a command that affects heads of which
none is untimed, disabled or in self-refresh joins the waiting changes, once for each head in order, and alters nothing else;
on one such head it comes into force at once. A layer edit goes to the heads the layer is on or comes to, those its
transaction places it on among them; of a layer on none it waits for the next Stitch boundary. Applying what waits for a head
takes exactly those changes out of the list, in order. (R130, R131, R133, R517) -/
def Obligations.ChangesWaitForTheApplyLine : Prop :=
  (∀ (s : State) (j : Job) (heads : List Nat), j.req.txn = 0 → heads.Nodup → (∀ h ∈ heads, (s.head h).immediate = false) →
    s.affect j heads = s.waits j heads) ∧
  (∀ (s : State) (j : Job) (h : Nat), (s.head h).immediate → s.affect j [h] = applyJob j h s) ∧
  (∀ (s : State) (j : Job) (i : Nat), j.req.txn = 0 → s.layerHeads i = [] → s.affectLayer j i [] = { s with
    txn := { s.txn with changes := s.txn.changes ++ [{ head := none, job := j }] } }) ∧
  (∀ (s : State) (j : Job) (i : Nat) (extra heads : List Nat), heads = s.layerHeads i ++ extra ++ s.txnPlaces j i → heads ≠ [] →
    s.affectLayer j i extra = s.affect j heads.eraseDups) ∧
  ∀ (s : State) (h : Option Nat), ∃ u, s.applyWaiting h = u ∧
    u = ({ s with
      txn := { s.txn with changes := s.txn.changes.filter fun c => c.head ≠ h } } : State).forEach
        (s.txn.changes.filter fun c => c.head = h) applyChange

/-- What a layer change does when it comes into force. When it comes into force on the layer's tile of a head, an alpha, a crop
with its phases, an enable, a policy of an already guarded layer or a treatment changes the settings of that tile in force and
nothing else; a new place does so too, and what then has no visible rectangle on the head holds nothing (unless it is paused);
a layer placed on a head it is not on gets a tile there with its queue and applied buffer, and joins a programmable order; a
layer removed loses its tile and, being on no other head, keeps its settings, queue and applied buffer. (R131, R134, R210, R211, R221, R222, R232, R237) -/
def Obligations.LayerChangesInForce : Prop :=
  (∀ (j : Job) (h : Nat) (s : State) (t : Tile) (e : LayerCfg), s.tile? (layerIndex (j.u16 0)) h = some t →
    (j.cls = 0x20 ∧ j.op = 0x08 ∧ e = { t.cfg with alpha := j.u8 2 }) ∨
    (j.cls = 0x20 ∧ j.op = 0x05 ∧ e = { t.cfg with enable := true }) ∨
    (j.cls = 0x20 ∧ j.op = 0x03 ∧ e = { t.cfg with
      coef := idIndex (j.u16 2) - 0xC0, crop := j.rect 4, phaseH := j.s16 12, phaseV := j.s16 14, nearest := j.u8 16 = 1 }) ∨
    (j.cls = 0x12 ∧ j.op = 0x01 ∧ j.u8 4 = 0 ∧ t.cfg.guarded ∧ e = { t.cfg with policy := policyEdit j t.cfg.policy }) ∨
    (j.cls = 0x12 ∧ j.op = 0x06 ∧ e = { t.cfg with paused := true }) →
    applyJob j h s = s.modTile (layerIndex (j.u16 0)) h fun t => { t with cfg := e }) ∧
  (∀ (j : Job) (h : Nat) (s : State) (t : Tile) (e : LayerCfg) s1, s.tile? (layerIndex (j.u16 0)) h = some t →
    j.cls = 0x20 → j.op = 0x02 → j.u16 2 = headId h → e = { t.cfg with dest := j.rect 4, z := j.u8 12 } →
    s1 = (s.modTile (layerIndex (j.u16 0)) h fun t => { t with cfg := e }) →
    (j.rect 4 = t.cfg.dest → applyJob j h s = s1) ∧
    (j.rect 4 ≠ t.cfg.dest → applyJob j h s = s1.forEach ((s1.tilesOn h).filter fun y =>
      (visibleRect y.cfg (s1.head h).timing).empty && !(y.cfg.guarded && y.cfg.paused)) fun y z => z.releaseTile y.layer h)) ∧
  (∀ (j : Job) (h : Nat) (s : State) (i : Nat) (l : Layer), i = layerIndex (j.u16 0) → l = s.layer i → j.cls = 0x20 → j.op = 0x02 →
    j.u16 2 = headId h → headId h ≠ 0 → s.tilesOf i = [] →
    ∃ u, applyJob j h s = u ∧ u.lay.tiles = s.lay.tiles ++ [{
      layer := i, head := h, placed := s.lay.placeCount + 1, cfg := { l.snap with dest := j.rect 4, z := j.u8 12 }
      queue := l.queue.map fun f => { f with onHead := none }, applied := l.applied, picot := l.picot }] ∧
      u.heads = modAt s.heads h fun x => { x with order := if x.programmable && !x.order.contains i then x.order ++ [i] else x.order }) ∧
  ∀ (j : Job) (h : Nat) (s : State) (i : Nat) (t : Tile), i = layerIndex (j.u16 0) → j.cls = 0x20 → j.op = 0x02 → j.u16 2 = 0 →
    i < s.lay.layers.length → isVideo i → s.tilesOf i = [t] → t.head = h → t.layer = i → t.hold = false → t.prevHeld = none →
    ∃ u, applyJob j h s = u ∧ u.tilesOf i = [] ∧ (u.layer i).queue = t.queue ∧ (u.layer i).applied = t.applied ∧
      (u.layer i).base = { t.cfg with dest := {}, z := 0, paused := false } ∧
      u.heads = modAt s.heads h fun x => { x with order := x.order.filter (· ≠ i) }

/-- Flips and fences. LAYER_FLIP on a layer that was bound, with a pitch that holds its width and room in the quota, records the
buffer (its capture where given and not in the future), queues it on every tile of the layer and replies when it is applied;
FENCE_CREATE makes the lowest free fence with its value and timeout (0 stands for 3); FENCE_SIGNAL raises the value and keeps
what it was before that instant; FENCE_DESTROY frees a fence nothing uses. At a sampling instant the flips accepted before it
whose fences have reached their targets leave the front of the queue, and the last of them is applied; the instant counts for
the flip then at the front if that was accepted before it. Its conclusion is a next state of exec, under conditions on state
and operands alone, for: layerFlip, fenceCreate, fenceSignal, fenceDestroy, flipAbandon. (R37, R237, R238, R239, R240) -/
def Obligations.FlipsAndFences : Prop :=
  RunsLater .layerFlip cmdLayerFlip (fun j s => (s.layer j.layer).everBound ∧
      j.u16 22 * formatBytes (s.layer j.layer).cfg.format ≤ j.u16 20 ∧
      ((s.quota (graphicId j.layer)).recs.filter (·.live)).length < 8) (fun j s u =>
    ∀ f s1 seq, (s1, seq) = s.allocRec (graphicId j.layer) (s.flipRec j j.layer) →
      f = ({ seq, accepted := s.now, fence := j.u16 2, target := j.u64 4, address := j.u64 12, pitch := j.u16 20, w := j.u16 22
             h := j.u16 24 } : Flip) →
      u = (({ s1 with
        lay := { s1.lay with
          tiles := s1.lay.tiles.map fun t => if t.layer = j.layer then { t with queue := t.queue ++ [f] } else t } } : State).modLayer
        j.layer fun l => { l with
          futureContent := l.futureContent + b2n (j.len = 40 && s.local < j.time 28)
          queue := if (s1.tilesOf j.layer).isEmpty then l.queue ++ [f] else l.queue }).modLayer j.layer fun l =>
            { l with flipJobs := l.flipJobs ++ [{ seq, job := j }] }) ∧
  Runs .fenceCreate cmdFenceCreate (fun _ s => ∃ k < 256, (s.lay.fences.getD k {}).made = false) (fun j s u p =>
    ∃ k < 256, (s.lay.fences.getD k {}).made = false ∧ (∀ i < k, (s.lay.fences.getD i {}).made) ∧
      p = leBytes 2 (0xB000 + k) ++ zeros 2 ∧ u = { s with
        lay := { s.lay with
          fences := modAt s.lay.fences k fun _ => {
            made := true, value := j.u64 0, before := j.u64 0, timeout := if j.u8 8 = 0 then 3 else j.u8 8 } } }) ∧
  Runs .fenceSignal cmdFenceSignal (fun j s => (s.lay.fences.getD (idIndex (j.u16 0)) {}).value ≤ j.u64 4) (fun j s u p =>
    p = [] ∧ u = { s with
      lay := { s.lay with fences := modAt s.lay.fences (idIndex (j.u16 0)) (·.write s.now (j.u64 4)) } }) ∧
  Runs .fenceDestroy cmdFenceDestroy (fun j s => s.fenceUsed (j.u16 0) = false) (fun j s u p =>
    p = [] ∧ u = { s with
      lay := { s.lay with fences := modAt s.lay.fences (idIndex (j.u16 0)) fun _ => {} } }) ∧
  (∀ (s : State) (limit : Int) (step : Nat) (ready rest : List Flip) (f : Flip) (applied : Option Flip),
    (∀ x ∈ ready, s.flipReady limit x) → s.flipReady limit f → (∀ x ∈ rest.head?, s.flipReady limit x = false) →
    s.serve limit step (ready ++ f :: rest) applied =
      ⟨match rest with
        | [] => []
        | x :: later => (if x.there limit then { x with fronts := x.fronts + step } else x) :: later,
       some f, (ready ++ [f]).map (·.seq)⟩) ∧
  (∀ t i s0 s l f rest, s = s0.tick t → l = s.layer i → isVideo i = false → l.base.format ≠ 0 → s.tilesOf i = [] →
    l.queue = f :: rest → s.flipOverdue f → s.flipReady (s.boundaryAt * fine : Nat) f = false →
    exec (.flipAbandon t i 255) s0 = .next (settle (((s.modLayer i fun l => { l with queue := rest }).serveLayer i).settleFlips i)))

/-- Coefficients, LUTs, styles, banners and the SAFE map. A load writes its entries into the shadow of its table, which it begins
as a copy of the accepted contents; with LAST the shadow is published, a coefficient set only when every phase it touches sums
to 256. TABLE_READ returns the contents in force. A shadow with no write for 10 s goes. APPL_STYLE_LOAD of an entry other than
the built-in entry 0 (which it refuses) stores the style and sends it to every head, APPL_BANNER goes to its head,
APPL_SAFE_MAP maps or unmaps the input and goes to the heads of both banners, and APPL_STATUS changes nothing but its reply.
Its conclusion is a next state of exec, under conditions on state and operands alone, for: coefLoad, lutLoadPre, lutLoadPost,
tableRead, shadowTimeout, applStyleLoad, applBanner, applSafeMap, applStatus. (R230, R231, R235, R236, R246, R247, R248, R251) -/
def Obligations.TableCommands : Prop :=
  (∀ (x : Job → State → Shadow), x = (fun j s =>
      let y := s.shadowFor j (s.lay.coefs.getD (idIndex (j.u16 0) - 0xC0) []) []
      { y with
        coef := (List.range j.entries).foldl (fun c i => putEntry c (512 * j.u8 2 + j.u16 4 + i) (j.s16 (8 + 2 * i))) y.coef }) →
    Runs .coefLoad cmdCoefLoad (fun j s => s.shadowBusy j = false ∧ j.u8 3 = 0 ∧ 0 < j.entries) (fun j s u p =>
      p = [] ∧ u = s.putShadow (x j s)) ∧
    Runs .coefLoad cmdCoefLoad (fun j s => s.shadowBusy j = false ∧ j.u8 3 = 1 ∧ 0 < j.entries ∧ coefSums (x j s).coef)
      (fun j s u p => p = [] ∧ u =
        let k := idIndex (j.u16 0) - 0xC0
        let s1 := (s.putShadow (x j s)).endShadow (j.u16 0)
        let s2 := { s1 with
          lay := { s1.lay with coefs := modAt s1.lay.coefs k fun _ => (x j s).coef } }
        let used := (s2.coefHeads k ++ s2.txnCoefHeads j k).eraseDups
        (s2.affect j used).forEach ((List.range 32).filter fun h => !used.contains h) fun h y => applyJob j h y)) ∧
  (∀ (x : Job → State → Shadow), x = (fun j s =>
      let y := s.shadowFor j [] (s.layer j.layer).cfg.preLut
      { y with lut := lutWrite j y.lut }) →
    Runs .lutLoadPre cmdLutLoadPre (fun j s => s.shadowBusy j = false ∧ j.u8 3 = 0 ∧ 0 < j.entries) (fun j s u p =>
      p = [] ∧ u = s.putShadow (x j s)) ∧
    Runs .lutLoadPre cmdLutLoadPre (fun j s => s.shadowBusy j = false ∧ j.u8 3 = 1 ∧ 0 < j.entries) (fun j s u p =>
      p = [] ∧ u = (((s.putShadow (x j s)).endShadow (j.u16 0)).edited j.layer fun c =>
        { c with preLut := (x j s).lut }).affectLayer j j.layer [])) ∧
  (∀ (x : Job → State → Shadow), x = (fun j s =>
      let y := s.shadowFor j [] (s.head (idIndex (j.u16 0))).accPostLut
      { y with lut := lutWrite j y.lut }) →
    Runs .lutLoadPost cmdLutLoadPost (fun j s => s.shadowBusy j = false ∧ j.u8 3 = 0 ∧ 0 < j.entries) (fun j s u p =>
      p = [] ∧ u = s.putShadow (x j s)) ∧
    Runs .lutLoadPost cmdLutLoadPost (fun j s => s.shadowBusy j = false ∧ j.u8 3 = 1 ∧ 0 < j.entries) (fun j s u p =>
      p = [] ∧ u = (((s.putShadow (x j s)).endShadow (j.u16 0)).modHead (idIndex (j.u16 0)) fun h =>
        { h with accPostLut := (x j s).lut }).affect j [idIndex (j.u16 0)])) ∧
  Runs .tableRead cmdTableRead (fun _ _ => True) (fun j s u p => u = s ∧ ∃ word : Nat → List Byte,
    p = ((List.range (j.u16 6)).map fun i => j.u16 4 + i).flatMap word ∧
    (j.u8 2 = 0 → ∀ i, word i = leBytes 2 (unsigned 16 (coefAt (s.lay.coefs.getD (idIndex (j.u16 0) - 0xC0) []) 0 i))) ∧
    (j.u8 2 = 1 → ∀ i, word i = leBytes 2 (unsigned 16 (coefAt (s.lay.coefs.getD (idIndex (j.u16 0) - 0xC0) []) 1 i))) ∧
    (j.u8 2 = 2 → ∀ i, word i = leBytes 2 (preLutAt (s.inForce j.layer).preLut (j.u8 3) i)) ∧
    (j.u8 2 = 3 → ∀ i, word i = leBytes 2 (postLutAt (s.head (idIndex (j.u16 0))).postLut (j.u8 3) i)) ∧
    (j.u8 2 = 5 → ∀ i, word i =
      (((s.lay.styles.getD (idIndex (j.u16 0) - 0xE0) {}).bytes (j.u16 0)).drop (2 * i)).take 2)) ∧
  (∀ t table s0 s x, s = s0.tick t → s.lay.shadows.find? (fun x => x.table = table) = some x → x.lastWrite + 10 * nsPerSec ≤ s.now →
    exec (.shadowTimeout t table) s0 = .next (settle { s with
      lay := { s.lay with shadows := s.lay.shadows.filter fun y => y.table ≠ table } })) ∧
  Fails .applStyleLoad cmdApplStyleLoad (fun j _ => idIndex (j.u16 0) = 0xE0) (fun _ _ => (eProtected, 16)) ∧
  Runs .applStyleLoad cmdApplStyleLoad (fun j _ => 0xE0 < idIndex (j.u16 0)) (fun j s u p =>
    p = [] ∧ u = (({ s with
      lay := { s.lay with
        styles := modAt s.lay.styles (idIndex (j.u16 0) - 0xE0) fun _ => {
          picotSize := j.u8 2, corner := j.u8 3, hatchW := j.u8 4, hatchSpacing := j.u8 5, borderW := j.u8 6, dotGap := j.u8 7
          textSize := j.u8 8, glyph := j.u8 9 = 1, colours := (List.range 7).map fun k => j.u32 (12 + 4 * k) } } } : State).affect j
      (List.range 32))) ∧
  Runs .applBanner cmdApplBanner (fun _ _ => True) (fun j s u p => p = [] ∧ u = s.affect j [(idIndex (j.u16 0) - 0x100) / 8]) ∧
  Runs .applSafeMap cmdApplSafeMap (fun _ _ => True) (fun j s u p =>
    p = [] ∧ u = (({ s with
      lay := { s.lay with
        safeMap := modAt s.lay.safeMap (idIndex (j.u16 0) - 0x80) fun _ =>
          if j.u16 2 = 0 then none else some (j.u16 2, decide (j.u8 4 = 1)) } } : State).affect j
      ((s.lay.safeMap.getD (idIndex (j.u16 0) - 0x80) none).toList.map (fun b => bannerHead b.1) ++
        if j.u16 2 = 0 then [] else [bannerHead (j.u16 2)]))) ∧
  Runs .applStatus cmdApplStatus (fun _ _ => True) (fun j s u p => u = s ∧ ∀ x, x = s.head (idIndex (j.u16 0)) →
    p = leBytes 2 (j.u16 0) ++ leBytes 2 (b2n x.appliqueFault + 2 * b2n x.linkLost + 4 * b2n x.clockFault) ++
      leBytes 1 (s.bannersShown (idIndex (j.u16 0))) ++ leBytes 1 (s.safeDriven (idIndex (j.u16 0))) ++
      leBytes 1 (min x.mismatchRun 255) ++ leBytes 1 x.matchRun ++ leBytes 8 x.crcFrame ++ leBytes 4 x.crcRender ++
      leBytes 4 x.crcOutput ++ leBytes 4 x.mismatches ++ leBytes 4 x.faults ++
      leBytes 1 ((s.tilesOn (idIndex (j.u16 0))).filter fun t => t.cfg.guarded).length ++ zeros 31)

/-- Policies, treatments, pauses, freeze criteria and the provenance store. FRESH_SET_POLICY with ACTION 0 guards the layer and
replaces the fields its MASK names, with ACTION 1 on a guarded layer clears guard, policy, treatments and pause;
FRESH_SET_TREATMENT on a guarded layer sets or (0xFF) removes a state's style; TILE_PAUSE on a guarded unpaused layer and
TILE_RESUME on a paused one change the pause; the changes go to the layer's heads. FREEZE_SET stores the channel's criteria
for its next frame. FRESH_GET_STATE reports the tile, newest or on the head named, and PROV_READ the records that remain,
going back; these change nothing. A held tile event is raised at the end of its 250 ms window when the state differs. Its
conclusion is a next state of exec, under conditions on state and operands alone, for: freshSetPolicy, freshGetState,
freezeSet, freshSetTreatment, provRead, tilePause, tileResume, tileStateCoalesce. (R32, R209, R210, R211, R212, R213, R214, R215, R216) -/
def Obligations.FreshnessCommands : Prop :=
  Runs .freshSetPolicy cmdFreshSetPolicy (fun j _ => j.u8 4 = 0) (fun j s u p =>
    p = [] ∧ ∀ pick : Nat → Nat → Nat → Nat, pick = (fun b new old => if (j.u16 2).testBit b then new else old) →
      u = (s.edited j.layer fun c => { c with
        guarded := true
        policy := {
          boundUs := pick 0 (j.u32 8) c.policy.boundUs, late := pick 1 (j.u32 12) c.policy.late
          minEvidence := pick 2 (j.u8 5) c.policy.minEvidence, uMaxUs := pick 3 (j.u32 20) c.policy.uMaxUs
          freezeOn := pick 4 (j.u8 24) c.policy.freezeOn, freezeOff := pick 4 (j.u8 25) c.policy.freezeOff
          impaired := pick 5 (j.u32 16) c.policy.impaired, style := pick 6 (j.u8 6) c.policy.style
          cls := pick 7 (j.u8 7) c.policy.cls } }).affectLayer j j.layer []) ∧
  Runs .freshSetPolicy cmdFreshSetPolicy (fun j s => j.u8 4 = 1 ∧ (s.layer j.layer).cfg.guarded) (fun j s u p =>
    p = [] ∧ u = (s.edited j.layer fun c => { c with guarded := false, policy := {}, treatments := [], paused := false }).affectLayer
      j j.layer []) ∧
  Runs .freshSetTreatment cmdFreshSetTreatment (fun j s => (s.layer j.layer).cfg.guarded) (fun j s u p =>
    p = [] ∧ u = (s.edited j.layer fun c => { c with
      treatments :=
        let rest := c.treatments.filter fun t => t.1 ≠ j.u8 2
        if j.u8 3 = 0xFF then rest else (j.u8 2, j.u8 3) :: rest }).affectLayer j j.layer []) ∧
  Runs .tilePause cmdTilePause (fun j s => (s.layer j.layer).cfg.guarded ∧ (s.layer j.layer).cfg.paused = false) (fun j s u p =>
    p = [] ∧ u = (s.edited j.layer fun c => { c with paused := true }).affectLayer j j.layer []) ∧
  Runs .tileResume cmdTileResume (fun j s => (s.layer j.layer).cfg.paused) (fun j s u p =>
    p = [] ∧ u =
      let s1 := s.forEach ((s.layerHeads j.layer).filter fun h => (s.head h).st = .srEntry) fun h y =>
        y.modHead h fun x => { x with srFail := true }
      (s1.edited j.layer fun c => { c with paused := false }).affectLayer j j.layer []) ∧
  Runs .freshGetState cmdFreshGetState (fun j s => j.u16 2 = 0 ∧ s.newestTile j.layer ≠ none) (fun j s u p =>
    u = s ∧ ∃ t, s.newestTile j.layer = some t ∧ p = t.report) ∧
  Runs .freshGetState cmdFreshGetState (fun j s => j.u16 2 ≠ 0 ∧ s.tile? j.layer (idIndex (j.u16 2)) ≠ none) (fun j s u p =>
    u = s ∧ ∃ t, s.tile? j.layer (idIndex (j.u16 2)) = some t ∧ p = t.report) ∧
  Runs .freezeSet cmdFreezeSet (fun j s => (s.src (idIndex (j.u16 0))).typ ≠ 4) (fun j s u p =>
    p = [] ∧ u = s.modCtx (idIndex (j.u16 0)) fun c => { c with
      pendingFreeze := some {
        enables := j.u8 2, noise := j.u8 3 = 1, sigN := j.u16 4, counterN := j.u16 6, skipN := j.u16 8, floor_ := j.u16 10
        stillUs := j.u32 12, clock := j.u8 16, srcUncertUs := j.u32 20 } }) ∧
  (∀ got : Job → State → List GimpRec, got = (fun j s =>
      match (if j.u32 4 = 0 then (s.quota (j.u16 0)).recs.head?.map (·.seq) else some (j.u32 4)) with
      | none => []
      | some a => ((((List.range (j.u8 2)).map fun k =>
          s.rec? (j.u16 0) (if k < a then a - k else m32 - 1 - (k - a))).takeWhile Option.isSome).filterMap id)) →
    Runs .provRead cmdProvRead (fun j s => (got j s).length = j.u8 2 ∧ 0 < j.u8 2) (fun j s u p =>
      u = s ∧ p = (got j s).flatMap GimpRec.bytes) ∧
    RunsPart .provRead cmdProvRead (fun j s => (got j s).length < j.u8 2 ∧ got j s ≠ []) (fun j s u n p =>
      u = s ∧ n = (got j s).length ∧ p = (got j s).flatMap GimpRec.bytes)) ∧
  (∀ t i h s0 s x at_, s = s0.tick t → s.tile? i h = some x → x.evtAt = some at_ → at_ + 250000000 ≤ s.now → x.heldEvt →
    (x.state ≠ x.reported → exec (.tileStateCoalesce t i h) s0 = .next (settle ((s.raise 0x01 (layerId x.layer)
      (leBytes 2 (headId x.head) ++ leBytes 1 x.state ++ leBytes 1 x.reported ++ leBytes 1 x.evidence ++ leBytes 1 1 ++
        leBytes 2 (sat16 x.changes) ++ leBytes 4 x.ageUs ++ leBytes 4 x.seq)).modTile x.layer x.head fun y =>
          { y with evtAt := some s.now, reported := y.state, changes := 0, heldEvt := false }))) ∧
    (x.state = x.reported → exec (.tileStateCoalesce t i h) s0 =
      .next (settle (s.modTile i h fun y => { y with heldEvt := false }))))

/-- The verdict row latches, judges and reports a tile. At the fetch of its first visible line in a head frame whose apply line
has not come, a scanned guarded tile latches (a slice-locked layer fixing the picture its check lines judge) and takes its
verdict; an unguarded one latches alone. It then meets the errors the scrubber found in what it latched. After a verdict the
tile holds the state, the effective age in microseconds rounded up (all ones when LOST or without a frame), the frame's
evidence and sequence number, and the head frame; the Picot has advanced by one modulo 8 exactly when the state claims
liveness and the frame differs from the one shown before. Its conclusion is a next state of exec, under conditions on state
and operands alone, for: tileVerdict. (R45, R63, R69, R70, R71, R223) -/
def Obligations.TileVerdictRow : Prop :=
  (∀ t h i o s0 s x y, s = s0.tick t → s.tile? i h = some x → s.scanned x → (s.head h).applied = false →
    x.latchFrame ≠ some (s.head h).frame → (((s.sliceVerdict x).latch x).seeLatched i h).tile? i h = some y →
    exec (.tileVerdict t h i o) s0 = .next (settle (if y.cfg.guarded then (((s.sliceVerdict x).latch x).seeLatched i h).takeVerdict y o
      else (((s.sliceVerdict x).latch x).seeLatched i h).modTile i h fun z => { z with shown := z.latched }))) ∧
  (∀ (s : State) (x : Tile) (o : VerdictObs) (v : Verdict) (y : Tile), s.tile? x.layer x.head = some x → v = s.verdict x →
    (s.takeVerdict x o).tile? x.layer x.head = some y →
    y.state = v.state ∧ y.latched = x.latched ∧ y.shown = x.latched ∧ y.headFrame = (s.head x.head).frame ∧ y.notScanned = false ∧
    y.judged = true ∧ y.cfg = x.cfg ∧ y.tainted = v.tainted ∧
    y.picot = (if picotState v.state ∧ x.shown ≠ x.latched then (x.picot + 1) % 8 else x.picot) ∧
    (v.state % 16 = 7 → y.ageUs = 0xFFFFFFFF ∧ y.evidence = 0) ∧
    ∀ l r, x.latched = some l → s.judgedRec x = some r → y.seq = l.2 ∧
      (v.state % 16 ≠ 7 → y.evidence = r.evidence ∧ y.ageUs = sat32 (-(-v.ageNs / 1000)).toNat))

/-- The ordered tests of the verdict. On a tile whose latched frame has a record (after a wake, one received since):
APPLIQUE_FAULT gives UNPROVEN; else a pause gives PAUSED; else a released frame or a silent source LOST; else an arrival age
at the bound STALE; else a contested channel UNPROVEN; else a fired and enabled freeze criterion FROZEN; else evidence below
the policy's UNPROVEN; and so on. LIVE therefore claims every test: the tile is not paused, no criterion fired, the evidence
satisfies the policy, age with its uncertainty is below the bound and below the late fraction, and no cell is tainted and
nothing covers the tile. Without a record the tile is UNPROVEN, PAUSED or LOST. (R39, R41, R42, R49, R50, R52) -/
def Obligations.VerdictOrder : Prop :=
  ∀ (s : State) (x : Tile) (h : Head) (v : Verdict), h = s.head x.head → v = s.verdict x →
    (s.judgedRec x = none → v.state = if h.appliqueFault then 0x46 else if x.cfg.paused ∧ x.freshFrom = none then 8 else 7) ∧
    ∀ r arr, s.judgedRec x = some r →
      arr = ((h.tScan ((visibleRect x.cfg h.timing).bottom - 1) : Int) - r.arrivalNs + s.creditNs x.cfg) →
      (h.appliqueFault → v.state = 0x46) ∧
      (h.appliqueFault = false → x.cfg.paused → v.state = 8) ∧
      (h.appliqueFault = false → x.cfg.paused = false → r.released ∨ s.sourceLost x.cfg → v.state = 7) ∧
      (h.appliqueFault = false → x.cfg.paused = false → r.released = false → s.sourceLost x.cfg = false →
        ((x.cfg.policy.boundUs * 1000 : Nat) : Int) ≤ arr → v.state = 3) ∧
      (h.appliqueFault = false → x.cfg.paused = false → r.released = false → s.sourceLost x.cfg = false →
        arr < (x.cfg.policy.boundUs * 1000 : Nat) → s.contestedNow x.cfg r → v.state = 0x26) ∧
      (h.appliqueFault = false → x.cfg.paused = false → r.released = false → s.sourceLost x.cfg = false →
        arr < (x.cfg.policy.boundUs * 1000 : Nat) → s.contestedNow x.cfg r = false →
        s.firedBits r &&& s.freezeEnables x.cfg r ≠ 0 → v.state = 4) ∧
      (h.appliqueFault = false → x.cfg.paused = false → r.released = false → s.sourceLost x.cfg = false →
        arr < (x.cfg.policy.boundUs * 1000 : Nat) → s.contestedNow x.cfg r = false →
        s.firedBits r &&& s.freezeEnables x.cfg r = 0 → x.cfg.policy.minEvidence < r.evidence → v.state = 0x36) ∧
      (v.state = 1 → h.appliqueFault = false ∧ x.cfg.paused = false ∧ r.released = false ∧ s.sourceLost x.cfg = false ∧
        s.contestedNow x.cfg r = false ∧ s.firedBits r &&& s.freezeEnables x.cfg r = 0 ∧ r.evidence ≤ x.cfg.policy.minEvidence ∧
        s.arrivalUnproven r = false ∧ arr < (x.cfg.policy.boundUs * 1000 : Nat) ∧ arr ≤ v.ageNs ∧
        v.ageNs * 65536 < (x.cfg.policy.boundUs * 1000 : Nat) * (x.cfg.policy.late : Int) ∧
        (r.evidence ≤ 3 → (h.tScan ((visibleRect x.cfg h.timing).bottom - 1) : Int) - r.captureNs + s.uncertNow r ≤ v.ageNs ∧
          s.uncertNow r ≤ x.cfg.policy.uMaxUs * 1000 ∧ s.unproven = false) ∧
        (taintOf x.cfg r x.frameCells (s.graphicDenied x)).1 = 0 ∧ s.coveredArea x r.width r.height = 0)

/-- The head commands change the accepted settings of the head. Taken and clear, HEAD_TIMING stores a timing whose resources exist
and keeps a configured apply line only if it stays legal; HEAD_BIND_PORT binds a disabled head to a free port, stream (at most
four heads) or encode channel, and goes to its head and those bound to the port; HEAD_APPLY_LINE stores a legal line or the
default; HEAD_GENLOCK its mode; HEAD_ENABLE enables a head that has timing, a binding, a trained port and room, HEAD_DISABLE
disables it, and on one already so each changes nothing. Each goes to its head. HEAD_SELF_REFRESH leaves by its trigger, or
enters SR_ENTRY and replies later; HEAD_GET_CRC replies with the last frame's CRCs of the selection in force, waits for them,
or makes a new selection wait. Its conclusion is a next state of exec, under conditions on state and operands alone, for:
headTiming, headBindPort, headApplyLine, headGenlock, headSelfRefresh, headEnable, headDisable, headGetCrc. (R253, R256, R261, R262, R265, R270, R271, R272, R275) -/
def Obligations.HeadCommands : Prop :=
  (∀ m : Job → State → State, m = (fun j s => s.modHead (idIndex (j.u16 0)) fun x => { x with
      accTiming := some (timingOf j), accApplyLine := keepLine (timingOf j) x.accApplyLine }) →
    Runs .headTiming cmdHeadTiming (fun j s => ((timingOf j).format ≠ 3 ∨ idType (s.head (idIndex (j.u16 0))).accTarget ≠ 8) ∧
        ((m j s).headResources (idIndex (j.u16 0))).isNone) (fun j s u p =>
      p = [] ∧ u = (m j s).affect j [idIndex (j.u16 0)])) ∧
  (∀ others : Job → State → List Nat, others = (fun j s =>
      (s.heads.zipIdx.filter fun x => x.2 ≠ idIndex (j.u16 0) && x.1.accTarget = j.u16 2).map (·.1.accStream)) →
    Runs .headBindPort cmdHeadBindPort (fun j s => (s.head (idIndex (j.u16 0))).enabled = false ∧
        (j.u16 2 = 0 ∨ others j s = [] ∨ (idType (j.u16 2) = 7 ∧ j.u8 4 ≠ 0 ∧ (others j s).length < 4 ∧ 0 ∉ others j s ∧
          j.u8 4 ∉ others j s))) (fun j s u p =>
      p = [] ∧ u = (s.modHead (idIndex (j.u16 0)) fun x => { x with accTarget := j.u16 2, accStream := j.u8 4 }).affect j
        (idIndex (j.u16 0) :: s.headsOf (j.u16 2)))) ∧
  Runs .headApplyLine cmdHeadApplyLine (fun j s => j.u16 2 ≠ 0xFFFF → (s.head (idIndex (j.u16 0))).timed ∧
      (checkTiming j (s.head (idIndex (j.u16 0)))).lineOk (j.u16 2)) (fun j s u p =>
    p = [] ∧ u = (s.modHead (idIndex (j.u16 0)) fun x => { x with
      accApplyLine := if j.u16 2 = 0xFFFF then none else some (j.u16 2) }).affect j [idIndex (j.u16 0)]) ∧
  Runs .headGenlock cmdHeadGenlock (fun j s => (s.head (idIndex (j.u16 0))).timed ∧
      (j.u32 16 * (checkTiming j (s.head (idIndex (j.u16 0)))).num <
        nsPerSec * (checkTiming j (s.head (idIndex (j.u16 0)))).den) ∧
      (j.u8 2 = 0 → s.ledHead j (idIndex (j.u16 0)) = false)) (fun j s u p =>
    p = [] ∧ u = (s.modHead (idIndex (j.u16 0)) fun x => { x with accGenlockMode := j.u8 2 }).affect j [idIndex (j.u16 0)]) ∧
  Runs .headGenlock cmdHeadGenlock (fun j s => (s.head (idIndex (j.u16 0))).timed = false ∧ j.u8 2 = 0 ∧
      s.ledHead j (idIndex (j.u16 0)) = false) (fun _ s u p => p = [] ∧ u = s) ∧
  (∀ m : Job → State → State, m = (fun j s => s.modHead (idIndex (j.u16 0)) fun x => { x with accEnable := true }) →
    Runs .headEnable cmdHeadEnable (fun j s => ∀ x p, x = s.head (idIndex (j.u16 0)) → p = s.ports.getD (idIndex x.accTarget) {} →
        x.accEnable = false ∧ x.timed ∧ x.accTarget ≠ 0 ∧
        (idType x.accTarget = 7 → p.st = 2 ∧ (x.accStream = 0 ∨ p.mst)) ∧
        ((m j s).headResources (idIndex (j.u16 0))).isNone) (fun j s u p =>
      p = [] ∧ u = (m j s).affect j [idIndex (j.u16 0)])) ∧
  Runs .headEnable cmdHeadEnable (fun j s => (s.head (idIndex (j.u16 0))).accEnable) (fun _ s u p => p = [] ∧ u = s) ∧
  Runs .headDisable cmdHeadDisable (fun j s => (s.head (idIndex (j.u16 0))).accEnable) (fun j s u p =>
    p = [] ∧ u = (s.modHead (idIndex (j.u16 0)) fun x => { x with accEnable := false }).affect j [idIndex (j.u16 0)]) ∧
  Runs .headDisable cmdHeadDisable (fun j s => (s.head (idIndex (j.u16 0))).accEnable = false) (fun _ s u p => p = [] ∧ u = s) ∧
  Runs .headSelfRefresh cmdHeadSelfRefresh (fun j _ => j.u8 2 = 0) (fun j s u p =>
    p = [] ∧ u = s.modHead (idIndex (j.u16 0)) fun x => { x with exitSr := x.exitSr || x.st = .selfRefresh }) ∧
  RunsLater .headSelfRefresh cmdHeadSelfRefresh (fun j s => ∀ x p, x = s.head (idIndex (j.u16 0)) →
      p = s.ports.getD (idIndex x.target) {} → j.u8 2 = 1 ∧ x.st = .scanning ∧ idType x.target = 7 ∧ x.stream = 0 ∧
      (p.psr ∨ p.psr2) ∧ p.psrTrain = false ∧ s.anyBanner (idIndex (j.u16 0)) = false ∧
      (x.lastAllPaused ∨ ∀ y ∈ s.tilesOn (idIndex (j.u16 0)), y.cfg.guarded = false)) (fun j s u =>
    u = s.modHead (idIndex (j.u16 0)) fun x => { x with st := .srEntry, srJob := some j, srFail := false }) ∧
  Runs .headGetCrc cmdHeadGetCrc (fun j s => ((s.head (idIndex (j.u16 0))).st = .scanning ∨ (s.head (idIndex (j.u16 0))).st = .closing) ∧
      (s.head (idIndex (j.u16 0))).crcSel = some (j.u16 2) ∧ (s.head (idIndex (j.u16 0))).crcOut ≠ []) (fun j s u p =>
    u = s ∧ p = (s.head (idIndex (j.u16 0))).crcReply (idIndex (j.u16 0)) (j.u16 2)) ∧
  RunsLater .headGetCrc cmdHeadGetCrc (fun j s =>
      ((s.head (idIndex (j.u16 0))).st = .scanning ∨ (s.head (idIndex (j.u16 0))).st = .closing) ∧
      (s.head (idIndex (j.u16 0))).crcSel = some (j.u16 2) ∧ (s.head (idIndex (j.u16 0))).crcOut = []) (fun j s u =>
    u = s.modHead (idIndex (j.u16 0)) fun x => { x with crcWaiting := x.crcWaiting ++ [j] }) ∧
  RunsLater .headGetCrc cmdHeadGetCrc (fun j s =>
      ((s.head (idIndex (j.u16 0))).st = .scanning ∨ (s.head (idIndex (j.u16 0))).st = .closing) ∧
      (s.head (idIndex (j.u16 0))).crcSel ≠ some (j.u16 2) ∧ (s.head (idIndex (j.u16 0))).crcPending = none) (fun j s u =>
    u = s.modHead (idIndex (j.u16 0)) fun x => { x with crcPending := some (j.u16 2, [j]) }) ∧
  (∀ js, RunsLater .headGetCrc cmdHeadGetCrc (fun j s =>
      ((s.head (idIndex (j.u16 0))).st = .scanning ∨ (s.head (idIndex (j.u16 0))).st = .closing) ∧
      (s.head (idIndex (j.u16 0))).crcSel ≠ some (j.u16 2) ∧ (s.head (idIndex (j.u16 0))).crcPending = some (j.u16 2, js)) (fun j s u =>
    u = s.modHead (idIndex (j.u16 0)) fun x => { x with crcPending := some (j.u16 2, js ++ [j]) }))

/-- DisplayPort training and hot plug. PORT_TRAIN with ACTION 0 reads the port, with 2 switches a port with no enabled head off,
with 1 and no sink reports DISCONNECTED; with a sink it starts training and replies later. A start and a switching off take
effect at once, or at the first apply line of the bound heads that wait for one. A training that ends records what the sink is
and, with HPD still high, leaves TRAINED at its rate and lanes or FAILED, and the reply is sent. A pulse that reports the lock
lost retrains a trained port. A long low disconnects it and clears what is known of the sink; a rise connects it, and retrains
where an enabled head is bound and the port was trained before; a port without power follows the pin alone. Its conclusion is
a next state of exec, under conditions on state and operands alone, for: portTrain, portTrainingComplete, hpdShortPulse,
hpdLongLow, hpdRise. (R266, R267, R268) -/
def Obligations.DisplayPortRows : Prop :=
  Runs .portTrain cmdPortTrain (fun j _ => j.u8 2 = 0) (fun j s u p => u = s ∧ p = s.dpReply (idIndex (j.u16 0))) ∧
  Runs .portTrain cmdPortTrain (fun j s => j.u8 2 = 2 ∧ (s.dp (idIndex (j.u16 0))).training = false ∧
      s.portHeads (idIndex (j.u16 0)) = [] ∧ s.portWaits j = []) (fun j s u p =>
    u = (s.setDpState (idIndex (j.u16 0)) 4).emit (.dpSignal (idIndex (j.u16 0)) 0 0) ∧ p = u.dpReply (idIndex (j.u16 0))) ∧
  Runs .portTrain cmdPortTrain (fun j s => j.u8 2 = 1 ∧ (s.dp (idIndex (j.u16 0))).training = false ∧
      (s.dp (idIndex (j.u16 0))).hpd = false) (fun j s u p =>
    u = s.setDpState (idIndex (j.u16 0)) 0 ∧ p = u.dpReply (idIndex (j.u16 0))) ∧
  RunsLater .portTrain cmdPortTrain (fun j s => j.u8 2 = 1 ∧ (s.dp (idIndex (j.u16 0))).training = false ∧
      (s.dp (idIndex (j.u16 0))).hpd ∧ s.portWaits j = []) (fun j s u =>
    u = (s.dropChanges j).modDp (idIndex (j.u16 0)) fun x => { x with training := true, job := some j }) ∧
  RunsLater .portTrain cmdPortTrain (fun j s => (s.dp (idIndex (j.u16 0))).training = false ∧ s.portWaits j ≠ [] ∧
      (j.u8 2 = 1 ∧ (s.dp (idIndex (j.u16 0))).hpd ∨ j.u8 2 = 2 ∧ s.portHeads (idIndex (j.u16 0)) = [])) (fun j s u =>
    u = s.waits j (s.portWaits j)) ∧
  (∀ (s : State) (p st : Nat), ((s.dp p).st = st → s.setDpState p st = s) ∧ ((s.dp p).st ≠ st →
    s.setDpState p st = (s.modDp p fun x => { x with
      st, rate := if st = 2 then x.rate else 0, lanes := if st = 2 then x.lanes else 0 }).record 0x0602 (0x5000 + p) [0x7000 + p, st])) ∧
  (∀ t p (r : TrainResult) s0 s s1, s = s0.tick t → (s.dp p).training → (s.dp p).hpd →
    s1 = (s.modDp p fun x => { x with
      training := false, job := none, dpcdRev := r.dpcdRev, sinkRate := r.sinkRate, sinkLanes := r.sinkLanes
      mst := r.mst, psr := r.psr, psr2 := r.psr2, psrTrain := r.psrTrain }) →
    (r.ok → s.trainOk p r → exec (.portTrainingComplete t p r) s0 = .next (settle
      (let s2 := ((s1.setDpState p 2).modDp p fun x => { x with
        rate := r.rate, lanes := r.lanes, lastRate := r.rate, lastLanes := r.lanes }).emit (.dpSignal p 1 r.rate)
       s2.finish? (s.dp p).job 0 0 (s2.dpReply p)))) ∧
    (r.ok = false → exec (.portTrainingComplete t p r) s0 = .next (settle
      ((s1.setDpState p 3).finish? (s.dp p).job 0 0 ((s1.setDpState p 3).dpReply p))))) ∧
  (∀ t p (d : DpcdStatus) s0 s x, s = s0.tick t → s.dpOn p → x = s.dp p → x.hpd → x.pattern = 0 → x.training = false →
    (x.st = 2 → lockLost d x.lanes → exec (.hpdShortPulse t p d) s0 = .next (settle (s.modDp p fun x => { x with
      training := true, job := none, retrains := satAdd32 x.retrains 1 }))) ∧
    (lockLost d x.lanes = false → exec (.hpdShortPulse t p d) s0 = .next (settle s))) ∧
  (∀ t p s0 s, s = s0.tick t → s.dpOn p → exec (.hpdLongLow t p) s0 = .next (settle ((s.modDp p fun x => { x with
    hpd := false, dpcdRev := 0, sinkRate := 0, sinkLanes := 0, mst := false, psr := false, psr2 := false
    psrTrain := false }).setDpState p 0))) ∧
  (∀ t p s0 s, s = s0.tick t → s.dpOn p = false →
    exec (.hpdLongLow t p) s0 = .next (settle (s.modDp p fun x => { x with hpd := false })) ∧
    ((s.dp p).hpd = false → exec (.hpdRise t p) s0 = .next (settle (s.modDp p fun x => { x with hpd := true })))) ∧
  (∀ t p s0 s s1, s = s0.tick t → s.dpOn p → (s.dp p).hpd = false → s1 = (s.modDp p fun x => { x with hpd := true }).setDpState p 1 →
    (s1.portHeads p = [] ∨ (s.dp p).training ∨ (s.dp p).lastRate = 0 → exec (.hpdRise t p) s0 = .next (settle s1)) ∧
    (s1.portHeads p ≠ [] → (s.dp p).training = false → (s.dp p).lastRate ≠ 0 → exec (.hpdRise t p) s0 =
      .next (settle (s1.modDp p fun x => { x with
        training := true, job := none, retrains := satAdd32 x.retrains 1 }))))

/-- A head's frame: start, apply line, last active line, attestation record. When its fixed instant has come a head's frame
starts: the number rises by one, an accepted timing begins, an exit trigger ends self-refresh and a CLOSING head is in its
closing frame. At the apply line a picture not yet taken is taken, what waits for the head comes into force, so no change for
it waits any more, and the next start is fixed. At the end of the last active line the frame is ended: a record due is
appended with its frame number, a composed frame's CRCs, of the pixels rendered and of those sent, are stored, a closing frame
leaves the head DISABLED and a self-refresh entry is decided. A finished record gets its MAC and goes to the ring where
recording is on. At each such row the other heads keep their schedule. Its conclusion is a next state of exec, under
conditions on state and operands alone, for: headFrameStart, applyLineReached, lastActiveLineEnd, attestRecordComplete. (R131, R250, R257, R260, R261, R270, R272, R312, R313, R314) -/
def Obligations.FrameRows : Prop :=
  (∀ t h s0 s x n, s = s0.tick t → h < s.heads.length → x = s.head h → x.nextTF = some n → x.st ≠ .untimed → n ≤ s.localFine →
    ∃ u : State, exec (.headFrameStart t h) s0 = .next (settle u) ∧ (u.head h).tF = n ∧ (u.head h).nextTF = none ∧
      (u.head h).frame = x.frame + 1 ∧ (u.head h).applied = false ∧ (u.head h).ended = false ∧
      (u.head h).timing = x.nextTiming.getD x.timing ∧ (u.head h).closingFrame = decide (x.st = .closing) ∧
      (u.head h).st = (if x.st = .selfRefresh ∧ (x.exitSr ∨ s.anyBanner h ∨ s.clk.clockFault) then .scanning else x.st) ∧
      (∀ k, k ≠ h → u.head k = s.head k) ∧ u.mem = s.mem ∧ u.clk = s.clk ∧
      (x.nextTiming = none → u.dec = s.dec ∧ u.lay.layers = s.lay.layers)) ∧
  (∀ t h s0 s x, s = s0.tick t → x = s.head h → x.nextTF = none ∨ x.st = .untimed →
    exec (.headFrameStart t h) s0 = .next (settle s)) ∧
  (∀ t h s0 s x, s = s0.tick t → h < s.heads.length → x = s.head h → x.st ≠ .untimed → x.applied = false →
    x.tF + x.timing.lines x.line ≤ s.localFine → s.tilesOn h = [] → (∀ c ∈ s.txn.changes, c.head ≠ some h) →
    (∀ k ∈ s.slk, k.head ≠ h ∨ k.mode ≠ .locked) →
    exec (.applyLineReached t h) s0 = .next (settle (((s.chargeHead h).shoot h).modHead h fun x => Head.fixNext { x with
      applied := true, linkNext := s.ses.hbLost, half := x.halfWanted && x.timing.flags.testBit 2, ladder := s.nrg.inForce }).settleTxns)) ∧
  (∀ t h s0 s x, s = s0.tick t → h < s.heads.length → x = s.head h → x.st ≠ .untimed → x.applied = false →
    x.tF + x.timing.lines x.line ≤ s.localFine →
    ∃ u : State, exec (.applyLineReached t h) s0 = .next (settle u.settleTxns) ∧ (∀ c ∈ u.txn.changes, c ∈ s.txn.changes ∧ c.head ≠ some h) ∧
      (u.head h).nextTF.isSome ∧ u.mem = s.mem ∧ u.clk = s.clk) ∧
  (∀ (x : Head), x.genlock.st = .free → x.placeNext = false → x.half = false →
    x.fixNext = { x with nextTF := some (x.startAfter x.timing.vTotal) }) ∧
  (∀ t h (obs : ScanObs) s0 s x shot, s = s0.tick t → h < s.heads.length → x = s.head h → x.st ≠ .untimed → x.ended = false →
    shot = (((((((s.chargeHead h).modHead h fun x => { x with ended := true }).markNotScanned h).shoot h).head h).shot).getD []) →
    x.tF + x.timing.lines x.timing.vAct ≤ s.localFine →
    ∃ u : State, exec (.lastActiveLineEnd t h obs) s0 = .next (settle u) ∧ (u.head h).ended = true ∧ (u.head h).frame = x.frame ∧
      (x.recDue → ∃ bytes, (u.head h).recs = x.recs ++ [(x.frame, bytes)] ∧ (u.head h).recDue = false) ∧
      (x.recDue = false → (u.head h).recs = x.recs) ∧
      (x.composing → x.st = .scanning → (u.head h).crcRender = wordsCrc (renderWords shot) ∧
        (u.head h).crcOutput = wordsCrc (outputWords shot (sentPixels obs shot)) ∧
        (u.head h).crcFrame = x.frame ∧ 
        (wordsCrc (renderWords shot) = wordsCrc (outputWords shot (sentPixels obs shot)) → (u.head h).mismatchRun = 0)) ∧
      (x.st = .closing → x.closingFrame → (u.head h).st = .disabled) ∧
      (x.st = .scanning → (u.head h).st = .scanning) ∧
      (x.st = .srEntry → x.srFail → (u.head h).st = .scanning) ∧
      (∀ k, k ≠ h → (u.head k).st = (s.head k).st ∧ (u.head k).tF = (s.head k).tF) ∧ u.mem = s.mem ∧ u.clk = s.clk) ∧
  (∀ t h s0 s x frame bytes rest, s = s0.tick t → x = s.head h → x.recs = (frame, bytes) :: rest →
    (∀ e ∈ s.enc, ∀ p ∈ e.pics, ¬(p.head = h ∧ p.frame = frame)) → x.attest.send = false →
    s.hoop.bobbinDown.contains (egressBobbin (h / 16)) = false →
    exec (.attestRecordComplete t h) s0 = .next (settle (s.modHead h fun x => { x with
      recs := rest
      ring := if x.attest.record then keepNewest 1024 (x.ring ++ [(frame, match s.hoop.keys.getD 4 none with
        | some k => bytes ++ (hmacSha256 k bytes).take 16
        | none => putAt bytes 7 [bytes.getD 7 0 ||| 2] ++ zeros 16)]) else x.ring })))

/-- The slice-locked path and the Stitch boundary. SLICE_LOCK locks the layer of a channel that meets R279 to its head or unlocks
it; the change goes to that head. A slice whose rows are readable at the departure of its check line is on time; another is
late: it is counted, the third in a second makes a locked layer wait to be dropped, and on a locked layer the tile's cells are
marked. After 2 s without a late slice a dropped layer is LOCKED again at an apply line. At a Stitch boundary that has come,
in any state but REST, the Stitch number rises by one and the boundary moves on by 500 us, or a forward step has done both;
then the boundary's work follows; before it nothing happens. Its conclusion is a next state of exec, under conditions on state
and operands alone, for: sliceLock, stitchBoundary, sliceCheckLine, sliceLockReturn. (R16, R278, R279, R285, R290, R291, R324) -/
def Obligations.SliceAndStitchRows : Prop :=
  (∀ lockable : Job → State → Prop, lockable = (fun j s => (s.src (idIndex (j.u16 0))).typ = 1 ∨
      (s.src (idIndex (j.u16 0))).typ = 2 ∨ (s.src (idIndex (j.u16 0))).typ = 6) →
    Runs .sliceLock cmdSliceLock (fun j s => j.u8 4 = 0 ∧ (s.slice (idIndex (j.u16 0))).holds j ∧ lockable j s) (fun j s u p =>
      p = [] ∧ u = (s.modSlk (idIndex (j.u16 0)) fun k => { k with acc := false }).affect j
        [if (s.slice (idIndex (j.u16 0))).acc then (s.slice (idIndex (j.u16 0))).accHead else (s.slice (idIndex (j.u16 0))).head]) ∧
    Runs .sliceLock cmdSliceLock (fun j s => j.u8 4 = 1 ∧ (s.slice (idIndex (j.u16 0))).holds j = false ∧ lockable j s ∧
        (s.lockErr j (idIndex (j.u16 0)) (idIndex (j.u16 2))).isNone) (fun j s u p =>
      p = [] ∧ ∃ h, (s.layer (idIndex (j.u16 2))).head = some h ∧ (s.layer (idIndex (j.u16 2))).cfg.source = some (idIndex (j.u16 0)) ∧
        (s.head h).accGenlockMode ≠ 0 ∧ (s.head h).genlock.st ≠ .free ∧ u = (s.modSlk (idIndex (j.u16 0)) fun k => { k with
          acc := true, accLayer := idIndex (j.u16 2), accHead := h
          accReserve := if j.u32 8 = 0 then 262144 else j.u32 8 }).affect j [h])) ∧
  (∀ t ch n s0 s k x b w h cy hd span need (s1 : State), s = s0.tick t → k = s.slice ch → k.mode ≠ .off → k.pic ≠ 0 →
    k.checked.contains n = false → hd = s.head k.head → hd.frame = k.picFrame → s.tile? k.layer k.head = some x →
    (s.ctx ch).bufs.find? (fun y => y.seq = k.pic) = some b → (w, h, cy) = b.outSize → span = b.sliceSpan cy n →
    n < b.plan.length → sliceInCrop x.cfg w h span →
    need = hd.tF + hd.timing.lines (checkLine x.cfg hd.timing w h span.1) + hd.dTx * fine → need ≤ s.localFine →
    s1 = (s.modSlk ch fun y => { y with checked := n :: y.checked }) →
    (¬(b.eligible ∧ b.sliceReady n (need / fine)) → exec (.sliceCheckLine t ch n) s0 = .next (settle
      (let s2 := (s1.lateSlice ch (s.now - (s.localFine - need) / fine)).modSlk ch fun k => { k with lateNow := n :: k.lateNow }
       if k.mode = .locked then s2.markLate x (rowCells w h span) (checkLine x.cfg hd.timing w h span.1) else s2))) ∧
    (b.eligible → b.sliceReady n (need / fine) → exec (.sliceCheckLine t ch n) s0 = .next (settle
      (s1.when (match b.slices.find? (fun y => y.n = n) with
        | some y => decide ((y.arrival + 1500000) * fine < need)
        | none => false) fun y => y.modSlk ch fun k => { k with early := k.early + 1 })))) ∧
  (∀ (s : State) (ch at_ : Nat), ch < s.slk.length → ∀ k, k = s.slice ch →
    ((s.lateSlice ch at_).slice ch).late = k.late + 1 ∧
    (k.mode = .locked → k.pendingDrop = none → 2 ≤ (k.lateAt.filter fun t => at_ < t + nsPerSec).length →
      ((s.lateSlice ch at_).slice ch).pendingDrop = some 2)) ∧
  (∀ t ch s0 s k hd since, s = s0.tick t → k = s.slice ch → hd = s.head k.head → k.mode = .dropped → hd.applied → k.noReturn = false →
    since = (s.localFine - (hd.tF + hd.timing.lines hd.line)) / fine →
    k.cleanSince + 2 * nsPerSec + since ≤ s.now ∨ (∃ c, k.cleanPassed = some c ∧ c + since ≤ s.now) →
    exec (.sliceLockReturn t ch) s0 = .next (settle ((s.sliceMode ch .locked 1).modSlk ch fun k =>
      { k with justLocked := false, lateAt := [], pendingDrop := none, cleanPassed := none }))) ∧
  (∀ t (obs : StitchObs) s0 s, s = s0.tick t →
    (s.boundaryDue = false → exec (.stitchBoundary t obs) s0 = .next (settle s)) ∧
    (s.pwr.pstate ≠ 3 → s.hif.hoopState ≠ 0 ∨ s.hif.panic → s.clk.stepDue = false → s.clk.boundary + stitchNs ≤ s.local →
      exec (.stitchBoundary t obs) s0 = .next (settle (boundaryWork obs { s with
        clk := { s.clk with boundary := s.clk.boundary + stitchNs, stitch := s.clk.stitch + 1 } }))) ∧
    (s.pwr.pstate ≠ 3 → s.hif.hoopState ≠ 0 ∨ s.hif.panic → s.clk.stepDue →
      exec (.stitchBoundary t obs) s0 = .next (settle (boundaryWork obs { s with
        clk := { s.clk with stepDue := false } }))))

/-- Encode channels: commands, pictures, sender reports, attestation settings. ENC_CONFIG stores the settings of a stopped channel
and resets its rate; ENC_START gives a configured channel bound to a suitable head the core with the lower load, where it fits
beside the loads of the channels there by their accepted timings, an IDR picture, zeroed counts and a free first RTP number,
and raises STARTED; on a running one it changes nothing. ENC_STOP stops it after its picture; ENC_SET_RATE stores the rate.
ATTEST_CONFIG waits for the head's next frame; ATTEST_READ returns the newest records or those from a frame number on. A
picture whose last line has ended, and whose headers and skipped rows keep their allowances, leaves in order; one sender
report leaves a second. Its conclusion is a next state of exec, under conditions on state and operands alone, for: encConfig,
encStart, encStop, encSetRate, attestConfig, attestRead, encodePictureDone, rtcpSenderReport. (R295, R296, R297, R302, R305, R311, R314, R315) -/
def Obligations.EncodeRows : Prop :=
  Runs .encConfig cmdEncConfig (fun j s => (s.encode (idIndex (j.u16 0))).st ≠ .running ∧ (s.encode (idIndex (j.u16 0))).st ≠ .idle)
    (fun j s u p => p = [] ∧ u = s.modEnc (idIndex (j.u16 0)) fun e => { e with
      st := .configured, targetQp := ({} : Enc).targetQp, qpMax := ({} : Enc).qpMax, window := ({} : Enc).window
      maxPic := ({} : Enc).maxPic, peakKbps := ({} : Enc).peakKbps
      cfg := {
        codec := j.u8 2, profile := j.u8 3, level := j.u8 4, sweep := j.u8 5, period := j.u8 6, divider := j.u8 7
        sliceRows := j.u16 8, port := idIndex (j.u16 12), udpDst := j.u16 14, dest := beVal (j.bytes 16 16), ssrc := j.u32 32
        pt := j.u8 36, dscp := j.u8 37, hop := j.u8 38, udpSrc := j.u16 40, payload := j.u16 42 }
      reconfigured := e.reconfigured || (e.st = .configured && 0 < e.pictures &&
        (e.cfg.codec ≠ j.u8 2 || e.cfg.profile ≠ j.u8 3 || e.cfg.level ≠ j.u8 4)) }) ∧
  Runs .encStart cmdEncStart (fun j s => (s.encode (idIndex (j.u16 0))).st = .configured ∧
      ∃ h, s.boundHead (idIndex (j.u16 0)) = some h ∧ h.timed ∧ (s.encode (idIndex (j.u16 0))).startable h.newTiming ∧
        s.coreFits (s.spareCore (idIndex (j.u16 0))) (idIndex (j.u16 0))
          (encRatio h.newTiming (s.encode (idIndex (j.u16 0))).cfg.divider)) (fun j s u p =>
    p = [] ∧ ∃ h core load, s.boundHead (idIndex (j.u16 0)) = some h ∧ core = s.spareCore (idIndex (j.u16 0)) ∧
      load = encLoad h.newTiming (s.encode (idIndex (j.u16 0))).cfg.divider ∧
      u = (({ s with free := s.free + 1 } : State).modEnc (idIndex (j.u16 0)) fun e => { e with
        st := if h.st = .scanning then .running else .idle, core, load, halved := false
        idr := some (if e.reconfigured then 3 else 0), reconfigured := false, pics := [], stopping := none, prevRows := []
        sizes := [], sweep := none, seqNo := Config.freeNat s.free % 65536, pictures := 0, octets := 0, packets := 0
        lastSr := s.now, lastFrame := none }).evtEncode (idIndex (j.u16 0)) 1 0 core 0 h.frame) ∧
  (∀ (s : State) (core ec : Nat) (load : Nat × Nat), s.coreFits core ec load =
    fracSumLe (load :: s.coreLoads core ec) 1000000000) ∧
  Runs .encStart cmdEncStart (fun j s => (s.encode (idIndex (j.u16 0))).st = .running ∨ (s.encode (idIndex (j.u16 0))).st = .idle)
    (fun _ s u p => p = [] ∧ u = s) ∧
  Runs .encStop cmdEncStop (fun j s => ((s.encode (idIndex (j.u16 0))).st = .running ∨ (s.encode (idIndex (j.u16 0))).st = .idle) ∧
      (s.encode (idIndex (j.u16 0))).pics ≠ []) (fun j s u p =>
    p = [] ∧ u = s.modEnc (idIndex (j.u16 0)) fun e => { e with stopping := some 0 }) ∧
  Runs .encStop cmdEncStop (fun j s => ((s.encode (idIndex (j.u16 0))).st = .running ∨ (s.encode (idIndex (j.u16 0))).st = .idle) ∧
      (s.encode (idIndex (j.u16 0))).pics = []) (fun j s u p => p = [] ∧ u = s.encEnd (idIndex (j.u16 0)) 0) ∧
  Runs .encStop cmdEncStop (fun j s => (s.encode (idIndex (j.u16 0))).st ≠ .running ∧ (s.encode (idIndex (j.u16 0))).st ≠ .idle)
    (fun _ s u p => p = [] ∧ u = s) ∧
  Runs .encSetRate cmdEncSetRate (fun _ _ => True) (fun j s u p => p = [] ∧ u = s.modEnc (idIndex (j.u16 0)) fun e => { e with
    targetQp := j.u8 3, qpMax := j.u8 4, window := j.u16 6, maxPic := j.u32 8, peakKbps := j.u32 12
    idr := if j.u8 2 = 1 && (e.st = .running || e.st = .idle) && e.idr = none then some 1 else e.idr }) ∧
  Runs .attestConfig cmdAttestConfig (fun _ _ => True) (fun j s u p => p = [] ∧ u = s.modHead (idIndex (j.u16 0)) fun x => { x with
    attestPending := some {
      record := (j.u8 2).testBit 0, send := (j.u8 2).testBit 1, port := idIndex (j.u16 4), udpDst := j.u16 6
      dest := beVal (j.bytes 8 16), udpSrc := j.u16 24, dscp := j.u8 26, hop := j.u8 27 } }) ∧
  (∀ recs : Job → State → List (Nat × List Byte), recs = (fun j s =>
      if j.u64 4 = 0 then keepNewest (j.u8 2) (s.head (idIndex (j.u16 0))).ring
      else ((s.head (idIndex (j.u16 0))).ring.dropWhile fun r => r.1 ≠ j.u64 4).take (j.u8 2)) →
    Runs .attestRead cmdAttestRead (fun j s => recs j s ≠ [] ∧ j.u8 2 ≤ (recs j s).length) (fun j s u p =>
      u = s ∧ p = (recs j s).flatMap (·.2)) ∧
    RunsPart .attestRead cmdAttestRead (fun j s => recs j s ≠ [] ∧ (recs j s).length < j.u8 2) (fun j s u n p =>
      u = s ∧ n = (recs j s).length ∧ p = (recs j s).flatMap (·.2))) ∧
  (∀ t ec (obs : EncObs) s0 s e p rest, s = s0.tick t → e = s.encode ec → e.pics = p :: rest →
    (p.ended = false ∨ e.cfg.holds p obs (e.ownNals p) = false → exec (.encodePictureDone t ec obs) s0 = .next (settle s)) ∧
    (p.ended → e.cfg.holds p obs (e.ownNals p) →
      ∃ u : State, exec (.encodePictureDone t ec obs) s0 = .next (settle u) ∧ u = s.pictureDone ec p obs ∧
      (ec < s.enc.length → e.stopping = none → (u.encode ec).pics = rest ∧
        (u.encode ec).pictures = e.pictures + 1 ∧ (u.encode ec).st = e.st ∧
        (u.encode ec).prevRows = (e.codePicture p obs).1))) ∧
  (∀ t ec s0 s e, s = s0.tick t → e = s.encode ec → e.st = .running ∨ e.st = .idle → e.lastSr + nsPerSec ≤ s.now →
    ∃ (u : State) (b : List Byte), exec (.rtcpSenderReport t ec) s0 = .next (settle u) ∧ b.length = 28 ∧
      u = (s.modEnc ec fun e => { e with lastSr := s.now }).sendRtp ec e.cfg.port e.cfg.udpDst
        (.rtcp { dest := e.cfg.dest, port := e.cfg.udpDst + 1, src := e.cfg.udpSrc, dscp := e.cfg.dscp, hop := e.cfg.hop } b) b.length
        e.cfg.dest)

/-- Decode contexts: commands, rows and pictures. DEC_CONFIG stores the settings of a context that is not running, with a pool of
POOL free buffers, when the CPB is legal and the heap holds it; DEC_START lets a configured context seek; DEC_STOP and
DEC_FLUSH release the slice-lock and discard what the context holds; DEC_SET_CONCEAL stores the mode; DEC_GET_POOL returns the
pool and clears the stall count. A row of the current picture that is due is published at its instant: errors the scrubber
found in the references it reads are met, its blocks get their taint, which the picture's record takes over, its samples are
written (the concealed from the last picture, or grey), the tiles that show it see them, and the rest of its energy is
counted. A picture that is done leaves the context and becomes its last decoded one. Its conclusion is a next state of exec,
under conditions on state and operands alone, for: decConfig, decStart, decStop, decFlush, decGetPool, decSetConceal,
decodeRowComplete, decodeDone. (R168, R171, R172, R176, R177, R179, R185, R186, R280) -/
def Obligations.DecodeRows : Prop :=
  Runs .decConfig cmdDecConfig (fun j s => ((s.src (idIndex (j.u16 0))).typ = 1 ∧ j.u8 2 = 1 ∨
      (s.src (idIndex (j.u16 0))).typ = 2 ∧ j.u8 2 = 2 ∨ (s.src (idIndex (j.u16 0))).typ = 6) ∧
      leastCpb (j.u8 2) (j.u8 3) (j.u8 4) ≤ j.u32 12 ∧ (s.ctx (idIndex (j.u16 0))).running = false ∧
      j.u8 5 * footprint (j.u16 8) (j.u16 10) (j.u8 16) + j.u32 12 * 1024 ≤ s.heapFree + (s.ctx (idIndex (j.u16 0))).heap) (fun j s u p =>
    p = [] ∧ u = s.modCtx (idIndex (j.u16 0)) fun c => { c with
      st := .configured, codec := j.u8 2, profile := j.u8 3, level := j.u8 4, bufs := List.replicate (j.u8 5) {}
      conceal := j.u8 6, joinAny := j.u8 7 = 1, maxW := j.u16 8, maxH := j.u16 10, cpbKib := j.u32 12, bitDepth := j.u8 16
      latest := none, prevOut := none, lastPic := none, dpbNeeded := 0 }) ∧
  Runs .decStart cmdDecStart (fun j s => (s.ctx (idIndex (j.u16 0))).st = .configured) (fun j s u p =>
    p = [] ∧ u = s.modCtx (idIndex (j.u16 0)) fun c => { c with st := .seeking }) ∧
  Runs .decStop cmdDecStop (fun j s => (s.ctx (idIndex (j.u16 0))).running) (fun j s u p =>
    p = [] ∧ u = (s.sliceRelease j (idIndex (j.u16 0))).flushCtx (idIndex (j.u16 0)) .configured) ∧
  Runs .decFlush cmdDecFlush (fun j s => (s.ctx (idIndex (j.u16 0))).running) (fun j s u p =>
    p = [] ∧ u = (s.sliceRelease j (idIndex (j.u16 0))).flushCtx (idIndex (j.u16 0)) .seeking) ∧
  (∀ (s : State) (ch : Nat) (st : DecState), ch < s.dec.ctxs.length →
    ((s.flushCtx ch st).ctx ch).st = st ∧ ((s.flushCtx ch st).ctx ch).cpb = [] ∧ ((s.flushCtx ch st).ctx ch).cur = none ∧
    ((s.flushCtx ch st).ctx ch).latest = none ∧
    ((s.flushCtx ch st).ctx ch).bufs = List.replicate (s.ctx ch).bufs.length {} ∧
    ∀ k, k ≠ ch → (s.flushCtx ch st).ctx k = s.ctx k) ∧
  Runs .decGetPool cmdDecGetPool (fun j s => (s.ctx (idIndex (j.u16 0))).st ≠ .unconfigured) (fun j s u p =>
    u = (s.modCtx (idIndex (j.u16 0)) fun c => { c with stalls := 0 }) ∧ ∀ c, c = s.ctx (idIndex (j.u16 0)) →
      p = leBytes 2 (j.u16 0) ++ leBytes 1 c.bufs.length ++ leBytes 1 c.st.code ++ leBytes 1 c.dpbNeeded ++ leBytes 1 c.conceal ++
        leBytes 2 c.stalls ++ c.bufs.zipIdx.flatMap fun b => leBytes 1 b.2 ++
          leBytes 1 (c.marks b.2 + 64 * b2n (!b.1.taintedCells.isEmpty && c.marks b.2 ≠ 0)) ++ leBytes 1 (Ctx.holds b.1) ++ zeros 1 ++
          leBytes 4 (if c.marks b.2 = 0 then 0 else unsigned 32 b.1.poc)) ∧
  Runs .decSetConceal cmdDecSetConceal (fun j s => (s.ctx (idIndex (j.u16 0))).st ≠ .unconfigured) (fun j s u p =>
    p = [] ∧ u = s.modCtx (idIndex (j.u16 0)) fun c => { c with conceal := j.u8 2 }) ∧
  (∀ t ch (i : RowInfo) s0 s p r s1 c cur c1 (hit : Nat → Nat → Bool) (from_ : Nat → Nat → Option (Buf × Int × Int)) grey given,
    s = s0.tick t → (s.ctx ch).cur = some p → i.concealed = none → p.rowGone i.row = false →
    p.rowsLeft.find? (fun x => x.row = i.row && x.due ≠ 0 && x.due ≤ s.now) = some r →
    s1 = s.readRefs ch p i.blocks → c = s1.ctx ch → cur = c.bufs.getD p.buf {} → p.forced cur i = [] →
    hit = (fun x y => i.blocks.any fun k => k.pred = .concealed && k.x ≤ x && x < k.x + k.w && k.y ≤ y && y < k.y + k.h) →
    from_ = (fun x y => (i.blocks.find? fun k => k.x ≤ x && x < k.x + k.w && k.y ≤ y && y < k.y + k.h).bind p.copyOf) →
    grey = List.replicate (chromaCols cur.width * chromaLines 1 (min cur.ctu (cur.height - i.row * cur.ctu))) (midGrey cur.bitDepth) →
    given = (if p.unit.sps.any fun q => q.chroma = 0 then { i.samples with cb := grey, cr := grey } else i.samples) →
    c1 = (i.blocks.foldl (fun c k => c.modBuf p.buf fun b => b.setUnits k (c.blockTaint p k)) c).modBuf p.buf (fun b => { b with
      rows := b.rows ++ [(i.row, s1.local)]
      rowPix := b.rowPix ++ [(i.row, cur.fillRow (if p.conceal = 1 then none else c.lastPic) i.row hit
        (cur.copyRow i.row from_ given))] }) →
    exec (.decodeRowComplete t ch i) s0 = .next (settle
      ((((s1.modCtx ch fun _ => { c1 with cur := some { p with
        rowsLeft := p.rowsLeft.erase r
        damaged := if i.blocks.any fun k => k.pred = .concealed then p.damaged ++ (p.sliceOf i.row).toList else p.damaged } }).addWork
          (3 + r.core / 2) ((r.samples - r.charged) * s1.hoop.otp.costs.getD (if c.codec = 1 then 0 else 1) 0)).modRec
            (0x1000 + ch) p.unit.seq fun g => { g with
              cells := g.cells ++ (c1.bufs.getD p.buf {}).taintedCells.filter fun k => !g.cells.contains k }).seeRows ch p.unit.seq))) ∧
  (∀ t ch (i : DoneInfo) s0 s p, s = s0.tick t → ch < s.dec.ctxs.length → (s.ctx ch).cur = some p → (s.src ch).typ ≠ 3 →
    (s.src ch).typ ≠ 5 → p.rowsLeft = [] → p.unit.whole → p.unit.info.byRows = false →
    ∃ u : State, exec (.decodeDone t ch i) s0 = .next (settle u) ∧ (u.ctx ch).cur = none ∧ (∃ b, (u.ctx ch).lastPic = some b ∧ b.decoding = false) ∧
      (u.ctx ch).cpb = (s.ctx ch).cpb ∧ (∀ k, k ≠ ch → u.ctx k = s.ctx k) ∧ u.mem = s.mem ∧ u.clk = s.clk ∧ u.heads = s.heads) ∧
  (∀ t ch (i : DoneInfo) s0 s, s = s0.tick t → (s.ctx ch).cur = none → exec (.decodeDone t ch i) s0 = .next (settle s))

/-- The Lacing link commands execute and reply. LINK_CONFIG for the port stores local number, peer, credits and enable, and
disables, starts or retrains links as that asks; for an entry it adds a legal forward entry or removes one. LINK_TRAIN trains
and replies later, LINK_TXEQ sets taps, searches them or resets them, LINK_LOWPOWER sets the policy (0 stands for 1,000 ns and
100 us) and for OFF closes a link that nothing uses, LINK_LOOP starts a loopback of an unused link or ends it, LINK_PRBS
starts, stops, clears and reads a pattern test, LINK_STATUS changes nothing. Its conclusion is a next state of exec, under
conditions on state and operands alone, for: linkConfig, linkTrain, linkStatus, linkPrbs, linkLoop, linkTxeq, linkLowpower. (R431, R438, R441, R445, R446, R448, R449, R454, R455, R456) -/
def Obligations.LinkCommands : Prop :=
  Runs .linkConfig cmdLinkConfig (fun j _ => j.u8 2 = 0) (fun j s u p => p = [] ∧ ∀ n old s1 s2, n = idIndex (j.u16 0) → old = s.lk n →
    s1 = ({ s with
      lnk := { s.lnk with localId := j.u8 4 } } : State).modLk n (fun l => { l with
        enable := j.u8 3 = 1, peerCfg := j.u8 5, credits := (List.range 4).map fun v => j.u16 (8 + 2 * v) }) →
    s2 = (if j.u8 3 = 0 then s1.disableLink n
      else if old.st = 0 then (s1.modLk n Lk.discard).trainLink n false
      else if old.st = 2 && old.credits ≠ (List.range 4).map (fun v => j.u16 (8 + 2 * v)) then s1.retrain n 6 0xFF false else s1) →
    u = if s.lnk.localId ≠ j.u8 4 then s2.forEach (List.range 4) fun k y => if (y.lk k).st = 2 then y.retrain k 6 0xFF false else y
      else s2) ∧
  Runs .linkConfig cmdLinkConfig (fun j s => j.u8 2 = 1 ∧ j.u8 3 = 1 ∧
      s.fwdErr (idIndex (j.u16 0)) (idIndex (j.u16 4)) (j.u16 6) (j.u8 8) = none) (fun j s u p =>
    p = [] ∧ u = s.modLk (idIndex (j.u16 0)) fun l => { l with
      fwds := l.fwds ++ [{ channel := idIndex (j.u16 4), stream := j.u16 6, kind := j.u8 8 }] }) ∧
  Runs .linkConfig cmdLinkConfig (fun j _ => j.u8 2 = 1 ∧ j.u8 3 = 0) (fun j s u p =>
    p = [] ∧ u = s.modLk (idIndex (j.u16 0)) fun l => { l with
      fwds := l.fwds.filter (· ≠ { channel := idIndex (j.u16 4), stream := j.u16 6, kind := j.u8 8 }) }) ∧
  RunsLater .linkTrain cmdLinkTrain (fun j s => (s.lk (idIndex (j.u16 0))).job = none ∧
      ((s.lk (idIndex (j.u16 0))).st = 1 ∨ (s.lk (idIndex (j.u16 0))).st = 2 ∨ (s.lk (idIndex (j.u16 0))).st = 3)) (fun j s u =>
    u = (if (s.lk (idIndex (j.u16 0))).st = 2 then s.retrain (idIndex (j.u16 0)) 6 0xFF (j.u8 2 = 1)
      else s.trainLink (idIndex (j.u16 0)) (j.u8 2 = 1)).modLk (idIndex (j.u16 0)) fun l => { l with job := some j }) ∧
  Runs .linkTxeq cmdLinkTxeq (fun j _ => j.u8 2 = 0) (fun j s u p => p = [] ∧ u =
    s.forEach (List.range (j.u8 3)) fun i y => y.modLk (idIndex (j.u16 0)) fun l => { l with
      taps := l.taps.set (j.u8 (8 + 4 * i)) { pre := j.u8 (9 + 4 * i), main := j.u8 (10 + 4 * i), post := j.u8 (11 + 4 * i) } }) ∧
  Runs .linkTxeq cmdLinkTxeq (fun j s => j.u8 2 = 1 ∧ (s.lk (idIndex (j.u16 0))).st ≠ 0 ∧ (s.lk (idIndex (j.u16 0))).st ≠ 4 ∧
      (s.lk (idIndex (j.u16 0))).st ≠ 5) (fun j s u p => p = [] ∧ u =
    if (s.lk (idIndex (j.u16 0))).st = 2 then s.retrain (idIndex (j.u16 0)) 6 0xFF true else s.trainLink (idIndex (j.u16 0)) true) ∧
  Runs .linkTxeq cmdLinkTxeq (fun j _ => j.u8 2 = 2) (fun j s u p => p = [] ∧ u =
    s.modLk (idIndex (j.u16 0)) fun l => { l with taps := List.replicate 8 {} }) ∧
  (∀ m : Job → State → State, m = (fun j s => s.modLk (idIndex (j.u16 0)) fun l => { l with
      policy := j.u8 2, idleNs := if j.u16 4 = 0 then 1000 else j.u16 4, sleepUs := if j.u16 6 = 0 then 100 else j.u16 6
      quietSince := s.now }) →
    Runs .linkLowpower cmdLinkLowpower (fun j s => j.u8 2 = 3 ∧ s.linkInUse (idIndex (j.u16 0)) = false) (fun j s u p =>
      p = [] ∧ u = (if ((m j s).lk (idIndex (j.u16 0))).st = 2 then
        ((m j s).sendLlc (idIndex (j.u16 0)) false 3).modLk (idIndex (j.u16 0)) (fun l => { l with st := 5 }) else m j s).modLk
          (idIndex (j.u16 0)) fun l => { l with txPower := 3 }) ∧
    Runs .linkLowpower cmdLinkLowpower (fun j _ => j.u8 2 ≠ 3) (fun j s u p => p = [] ∧ ∀ s2,
      s2 = (m j s).modLk (idIndex (j.u16 0)) (fun l => { l with
        txPower := if l.txPower = 3 || j.u8 2 < l.txPower then 0 else l.txPower }) →
      u = if (s.lk (idIndex (j.u16 0))).st = 5 && (s.lk (idIndex (j.u16 0))).rxPower ≠ 3 then
        s2.trainLink (idIndex (j.u16 0)) false else s2)) ∧
  Runs .linkLoop cmdLinkLoop (fun j s => j.u8 2 ≠ 0 ∧ s.linkInUse (idIndex (j.u16 0)) = false ∧
      2 ≤ (s.lk (idIndex (j.u16 0))).st ∧ (s.lk (idIndex (j.u16 0))).st ≤ 4) (fun j s u p =>
    p = [] ∧ u = s.modLk (idIndex (j.u16 0)) fun l => { l with
      st := 4, loop := j.u8 2, loopUntil := if j.u32 4 = 0 then none else some (s.now + j.u32 4 * 1000000) }) ∧
  Runs .linkLoop cmdLinkLoop (fun j _ => j.u8 2 = 0) (fun j s u p =>
    p = [] ∧ u = (s.modLk (idIndex (j.u16 0)) fun l => { l with loop := 0, loopUntil := none }).endTest (idIndex (j.u16 0))) ∧
  Runs .linkPrbs cmdLinkPrbs (fun j s => 1 ≤ j.u8 2 ∧ j.u8 2 ≤ 3 ∧ j.u8 5 = 0 ∧ s.linkInUse (idIndex (j.u16 0)) = false ∧
      2 ≤ (s.lk (idIndex (j.u16 0))).st ∧ (s.lk (idIndex (j.u16 0))).st ≤ 4) (fun j s u p =>
    ∃ l, u.lnk.links = modAt s.lnk.links (idIndex (j.u16 0)) (fun _ => l) ∧
      (idIndex (j.u16 0) < s.lnk.links.length → l.st = 4 ∧ l.prbs.generate = decide (j.u8 2 ≠ 2) ∧
        l.prbs.check = decide (j.u8 2 ≠ 1) ∧ l.prbs.pattern = j.u8 3 ∧ l.prbs.lanes = j.u8 4 ∧ l.prbs.since = s.now) ∧
      u = { s with lnk := u.lnk, free := u.free } ∧ p.length = 72) ∧
  Runs .linkPrbs cmdLinkPrbs (fun j _ => j.u8 2 = 0) (fun j s u _ =>
    idIndex (j.u16 0) < s.lnk.links.length → (u.lk (idIndex (j.u16 0))).prbs.generate = false ∧
      (u.lk (idIndex (j.u16 0))).prbs.check = false) ∧
  Runs .linkPrbs cmdLinkPrbs (fun j _ => j.u8 2 = 4 ∧ j.u8 5 = 0) (fun _ s u _ => u = { s with lnk := u.lnk, free := u.free }) ∧
  Runs .linkPrbs cmdLinkPrbs (fun j _ => j.u8 2 = 5 ∧ j.u8 5 = 0) (fun j s u _ =>
    idIndex (j.u16 0) < s.lnk.links.length → (u.lk (idIndex (j.u16 0))).prbs.errors = List.replicate 8 0 ∧
      (u.lk (idIndex (j.u16 0))).prbs.injected = List.replicate 8 0 ∧ (u.lk (idIndex (j.u16 0))).prbs.since = s.now) ∧
  Runs .linkStatus cmdLinkStatus (fun _ _ => True) (fun j s u p => u = s ∧ ∀ l, l = s.lk (idIndex (j.u16 0)) →
    p = leBytes 2 (j.u16 0) ++ leBytes 1 l.st ++ leBytes 1 (b2n l.aligned + 2 * b2n l.shedSleep + 4 * b2n l.peerPresent) ++
      leBytes 1 l.txPower ++ leBytes 1 l.rxPower ++ leBytes 1 s.lnk.localId ++ leBytes 1 l.peerId ++ leBytes 8 l.peerSerial ++
      leBytes 4 l.transit ++ leBytes 4 (unsigned 32 (satS 32 (l.offsets.headD 0))) ++ leBytes 4 (sat32 (sigma3 l.offsets)) ++
      leBytes 4 (unsigned 32 (satS 32 l.stitchDelta)) ++ leBytes 8 l.txFlits ++ leBytes 8 l.rxFlits ++ leBytes 8 l.crcErrors ++
      leBytes 4 l.resends ++ leBytes 4 l.retrains ++ l.fom.flatMap (leBytes 2) ++ leBytes 2 l.eyeW ++ leBytes 2 l.eyeH ++
      leBytes 2 l.los ++ leBytes 2 l.lol ++ leBytes 4 l.creditStalls ++ zeros 4)

/-- Link training, retraining, loss, power and margins. A training that ends with nothing wrong makes the link ACTIVE with what
the peer sent and half the round trip (rounded up) as transit (its power state, and the taps found if it searched); any other
result, and a training past its limit (2.1 ms, 11.1 ms with the tap search), is FAILED with a retry 100 ms later, after which
an enabled link trains again. A trigger of R443 retrains an active link. A link not back within 1 s discards what it holds. An
expired loopback ends. A link quiet for its idle time sends that and idles, and from IDLE sleeps after its sleep time. A
margin measurement stores the figures of merit and reports lanes that fall below 1,000; three bad ones in a row retrain. Its
conclusion is a next state of exec, under conditions on state and operands alone, for: linkLoopExpiry, linkTrainingComplete,
linkRetryTimer, linkRetrainTrigger, linkActiveLossTimeout, beaconReceive, linkMisaligned, marginMeasure, linkIdleEntry,
linkSleepEntry. (R437, R438, R439, R442, R443, R445, R451, R455) -/
def Obligations.LinkTrainingRows : Prop :=
  (∀ t n (r : LinkTrainResult) s0 s l, s = s0.tick t → n < 4 → l = s.lk n → l.st = 1 → l.job = none → l.replay = [] → l.queue = [] →
    n < s.lnk.links.length →
    (∀ limit, limit = (if l.tapSearch then 11100000 else 2100000) → r.result = 0 → (s.now ≤ l.trainingAt + limit → l.policy ≠ 3 → r.peerId ≠ s.lnk.localId → (l.peerCfg = 0xFF ∨ r.peerId = l.peerCfg) → creditsOk r.peerCredits → creditsOk l.credits →
      exec (.linkTrainingComplete t n r) s0 = .next (settle ((s.modLk n fun l => { l with
        st := 2, peerId := r.peerId, peerSerial := r.peerSerial, peerPresent := true, peerCredits := r.peerCredits
        transit := (r.roundTrip + 1) / 2, fom := r.fom.map sat16, skew := r.skew, leftActive := none, resendRun := 0
        rxPower := 0, txPower := 0, quietSince := s.now
        taps := if l.tapSearch then r.search.map bestTaps else l.taps }).evtLink
          n 1 0 0xFF ((r.roundTrip + 1) / 2) (r.fom.min?.getD 0)))) ∧
      (l.trainingAt + limit < s.now → exec (.linkTrainingComplete t n r) s0 = .next (settle ((s.modLk n fun l => { l with
        st := 3, retryAt := s.now + 100000000, peerPresent := false, skew := r.skew }).evtLink n 3 7 0xFF 0 0)))) ∧
    (r.result ≠ 0 → exec (.linkTrainingComplete t n r) s0 = .next (settle ((s.modLk n fun l => { l with
      st := 3, retryAt := s.now + 100000000, peerPresent := false, skew := r.skew }).evtLink n 3 r.result 0xFF 0 0)))) ∧
  (∀ t n s0 s l, s = s0.tick t → n < 4 → l = s.lk n → l.st = 3 → l.enable → l.retryAt ≤ s.now →
    exec (.linkRetryTimer t n) s0 = .next (settle (s.modLk n fun l => { l with
      st := 1, trainingAt := s.now, tapSearch := false }))) ∧
  (∀ t n cause lane s0 s l, s = s0.tick t → n < 4 → l = s.lk n → l.st = 2 → 1 ≤ cause → cause ≤ 5 →
    (cause = 1 → l.rxPower < 2) → (cause = 3 → 8 ≤ l.resendRun) → (cause = 4 → ∃ b ∈ l.badRun, 3 ≤ b) →
    exec (.linkRetrainTrigger t n cause lane) s0 = .next (settle ((s.modLk n fun l => { l with
      los := l.los + b2n (cause = 1 && l.los < 65535), lol := l.lol + b2n (cause = 2 && l.lol < 65535) }).retrain n cause lane false))) ∧
  (∀ t n s0 s at_, s = s0.tick t → (s.lk n).leftActive = some at_ → (s.lk n).st ≠ 2 → at_ + nsPerSec ≤ s.now →
    exec (.linkActiveLossTimeout t n) s0 = .next (settle (s.modLk n Lk.discard))) ∧
  (∀ t n s0 s at_, s = s0.tick t → (s.lk n).loopUntil = some at_ → at_ ≤ s.now →
    exec (.linkLoopExpiry t n) s0 = .next (settle ((s.modLk n fun l => { l with loop := 0, loopUntil := none }).endTest n))) ∧
  (∀ t n s0 s l, s = s0.tick t → n < 4 → l = s.lk n → l.st = 2 → l.policy = 1 ∨ l.policy = 2 → l.txPower = 0 → l.replay = [] →
    l.queue = [] → l.quietSince + l.idleNs ≤ s.now →
    exec (.linkIdleEntry t n) s0 = .next (settle ((s.sendLlc n false 1).modLk n fun l => { l with txPower := 1, idleSince := s.now }))) ∧
  (∀ t n s0 s l, s = s0.tick t → n < 4 → l = s.lk n → l.st = 2 → l.policy = 2 → l.txPower = 1 → l.idleSince + l.sleepUs * 1000 ≤ s.now →
    exec (.linkSleepEntry t n) s0 = .next (settle ((s.sendLlc n false 2).modLk n fun l => { l with txPower := 2 }))) ∧
  (∀ t n margins s0 s l fom s1, s = s0.tick t → n < 4 → l = s.lk n → l.st = 2 →
    fom = (fun k => sat16 (min (1000 * margins.getD (2 * k) 0 / 300) (1000 * margins.getD (2 * k + 1) 0 / 30))) →
    s1 = (s.modLk n fun l => { l with
      fom := (List.range 8).map fom
      eyeW := sat16 (((List.range 8).map fun k => margins.getD (2 * k) 0).min?.getD 0)
      eyeH := sat16 (((List.range 8).map fun k => margins.getD (2 * k + 1) 0).min?.getD 0)
      badRun := (List.range 8).map fun k => if fom k < 250 then l.badRun.getD k 0 + 1 else 0
      marginLow := (List.range 8).map fun k => fom k < 1000 || (l.marginLow.getD k false && fom k < 1100) }) →
    (∀ k < 8, 250 ≤ fom k) → n < s.lnk.links.length →
    exec (.marginMeasure t n margins) s0 = .next (settle (s1.forEach
      ((List.range 8).filter fun k => fom k < 1000 && !l.marginLow.getD k false) fun k y => y.evtLink n 5 0 k (fom k) 0))) ∧
  (∀ t n (b : Beacon) s0 s l o, s = s0.tick t → n < 4 → l = s.lk n → l.st = 2 → o = ((s.local : Int) - l.transit - b.timeNs) →
    ∃ ok : Bool, ∀ s1, s1 = (s.modLk n fun l => { l with
        offsets := (o :: l.offsets).take 64, lastBeacon := some s.now, stitchDelta := b.stitch - s.stitch
        peerEstablished := b.established, peerUnproven := b.unproven, peerUdev := b.uDev }) →
      ok = s1.linkAligned (s1.lk n) ∧ exec (.beaconReceive t n b) s0 = .next (settle
        (let s2 := s1.modLk n fun l => { l with aligned := ok }
         if ok && !l.aligned then s2.evtLink n 7 0 0xFF 0 0
         else if !ok && l.aligned then s2.evtLink n 6 0 0xFF o.natAbs 0 else s2))) ∧
  (∀ t n s0 s l, s = s0.tick t → n < 4 → l = s.lk n → l.aligned → s.linkAligned l = false →
    exec (.linkMisaligned t n) s0 = .next (settle ((s.modLk n fun l => { l with aligned := false }).evtLink n 6 0 0xFF
      (l.offsets.headD 0).natAbs 0)))

/-- Flits, acknowledgements, resends and forwarded messages. A flit with a bad CRC is counted, and a DATA flit that is corrupt or
out of order is answered with one NAK. A DATA flit in order advances the receive sequence and frees its credit; the 64th
unacknowledged one is acknowledged at once, another after 1 us. An LLC retires what it acknowledges and takes the peer's
credits and power state. After 2 us without an acknowledgement everything outstanding is sent again in order.
FORWARD_MESSAGE_SEND queues a message of the entry's kind for its frame (a frame record without a body, a band with its taint
bitmap last, its pixels having been read), or counts it dropped while its Bobbin restarts, FORWARDED_MESSAGE_RECEIVE drops and
counts one for a stream that no open channel takes, and delivers others. Its conclusion is a next state of exec, under
conditions on state and operands alone, for: flitReceive, llcReceive, replayTimeout, forwardMessageSend,
forwardedMessageReceive, llcAckTimer. (R432, R433, R434, R435, R436, R449, R450, R452) -/
def Obligations.FlitAndMessageRows : Prop :=
  (∀ t n (f : Flit) s0 s l, s = s0.tick t → n < 4 → l = s.lk n → l.st = 2 ∨ l.st = 5 → l.queue = [] → n < s.lnk.links.length →
    (f.bytes.length ≠ 64 ∨ uAt f.bytes 60 4 ≠ crc32c (f.bytes.take 60) → byteAt f.bytes 0 / 16 ≠ 1 ∨ l.discarding →
      exec (.flitReceive t n f) s0 = .next (settle (s.modLk n fun l => { l with crcErrors := l.crcErrors + 1 }))) ∧
    (f.bytes.length = 64 → uAt f.bytes 60 4 = crc32c (f.bytes.take 60) → byteAt f.bytes 0 / 16 = 1 → byteAt f.bytes 1 ≠ l.rxSeq →
      l.discarding = false → exec (.flitReceive t n f) s0 =
        .next (settle ((s.sendLlc n true 0).modLk n fun l => { l with discarding := true }))) ∧
    (f.bytes.length = 64 → uAt f.bytes 60 4 = crc32c (f.bytes.take 60) → byteAt f.bytes 0 / 16 = 1 → byteAt f.bytes 1 = l.rxSeq →
      ∀ vc s1, vc = byteAt f.bytes 0 / 4 % 4 → s1 = (s.modLk n fun l => { l with
        rxSeq := (l.rxSeq + 1) % 256, rxFlits := l.rxFlits + 1, unacked := l.unacked + 1, discarding := false
        unackedAt := if l.unacked = 0 then s.now else l.unackedAt, freed := modAt l.freed vc fun x => (x + 1) % m16
        rxAny := true, lastRx23 := if vc ≥ 2 then s.stitch else l.lastRx23
        rxPower := if l.rxPower = 3 then 3 else 0 }) →
      exec (.flitReceive t n f) s0 = .next (settle (if 64 ≤ l.unacked + 1 then s1.sendLlc n false 0 else s1)))) ∧
  (∀ t n p s0 s l, s = s0.tick t → n < 4 → l = s.lk n → l.st = 2 → l.queue = [] → byteAt p 1 % 2 = 0 → bits (byteAt p 1) 3 2 ≠ 3 →
    n < s.lnk.links.length →
    ∃ u : State, exec (.llcReceive t n p) s0 = .next (settle u) ∧
      (u.lk n).peerFreed = (List.range 4).map (fun v => uAt p (2 + 2 * v) 2) ∧ (u.lk n).rxPower = bits (byteAt p 1) 3 2 ∧
      (∀ i, (byteAt p 1).testBit 1 → l.replay.findIdx? (fun x => x.seq = byteAt p 0) = some i →
        (u.lk n).replay = l.replay.drop (i + 1) ∧ (u.lk n).resendRun = 0) ∧
      (l.replay.findIdx? (fun x => x.seq = byteAt p 0) = none → (u.lk n).replay = l.replay) ∧
      ∃ k, u = { s with lnk := { s.lnk with links := modAt s.lnk.links n fun _ => k } }) ∧
  (∀ t n s0 s l, s = s0.tick t → n < 4 → l = s.lk n → l.st = 2 → 0 < l.unacked → l.unackedAt + 1000 ≤ s.now →
    exec (.llcAckTimer t n) s0 = .next (settle (s.sendLlc n false 0))) ∧
  (∀ t n s0 s l, s = s0.tick t → n < 4 → l = s.lk n → l.st = 2 → l.replay ≠ [] → l.oldestAt + 2000 ≤ s.now → l.resendRun < 7 →
    n < s.lnk.links.length →
    exec (.replayTimeout t n) s0 = .next (settle ((s.forEach l.replay fun f y => y.sendFlit n f.bytes).modLk n fun l => { l with
      resends := satAdd32 l.resends 1, resendRun := l.resendRun + 1, oldestAt := s.now }))) ∧
  (∀ t n stream msg row rows len s0 s e seq s1 tail size, s = s0.tick t → (s.lk n).fwds.find? (fun e => e.stream = stream) = some e →
    (e.kind = 6 ∧ msg = 3) ∨ (e.kind = 5 ∧ (msg = 1 ∨ (msg = 2 ∧ 1 ≤ rows ∧ rows ≤ 64))) → s.fwdSeq e = some seq →
    s1 = s.when (msg = 2) (·.readBand e.channel seq row rows) →
    tail = (if msg = 2 then s1.bandTaint e.channel seq row rows else []) → size = (if msg = 1 then 0 else max len tail.length) →
    (e.kind = 6 → s.hoop.bobbinDown.contains (egressBobbin (e.channel / 32)) → exec (.forwardMessageSend t n stream msg row rows len) s0 =
      .next (settle (s.egressDrop (egressBobbin (e.channel / 32)) 1))) ∧
    (e.kind = 5 ∨ s.hoop.bobbinDown.contains (egressBobbin (e.channel / 32)) = false →
      exec (.forwardMessageSend t n stream msg row rows len) s0 = .next (settle ((s1.modLk n fun l => { l with
        queue := l.queue ++ [{
          vc := if e.kind = 5 then 2 else 3, channel := e.channel, stream, msg, seq, firstRow := row, rows, bodyLen := size
          left := size, tail }] }).drainLink n)))) ∧
  (∀ t n (m : FwdMsg) s0 s, s = s0.tick t → n < 4 → (s.lk n).enable →
    ((∀ c ∈ s.net.srcs.take 64, ¬(c.installed ∧ (c.paths.getD 0 {}).port = n ∧ (c.paths.getD 0 {}).udp = m.stream)) →
      exec (.forwardedMessageReceive t n m) s0 = .next (settle (s.modLk n fun l => { l with dropped := satAdd32 l.dropped 1 }))) ∧
    (∀ ch, (s.net.srcs.take 64).findIdx? (fun c => c.installed && (c.paths.getD 0 {}).port = n && (c.paths.getD 0 {}).udp = m.stream &&
        ((c.typ = 5 && (m.msg = 1 || m.msg = 2)) || (c.typ = 6 && m.msg = 3))) = some ch →
      exec (.forwardedMessageReceive t n m) s0 = .next (settle
        (let s1 := s.fwdHeard ch (s.fwdArrival n m).1 (s.fwdArrival n m).2
         if m.msg = 1 then (if m.complete then s1.fwdBegin n ch m else s1)
         else if m.msg = 2 then s1.fwdBand n ch m else s1.fwdUnit n ch m))))

/-- The energy commands and the rail readings. ENERGY_SET_BUDGET stores the sustained power and the reservoir, whose level is cut
to it; ENERGY_SET_CLASS sets the class of a channel, head, encode channel or layer that is not guarded, at once but for a
layer placed on no head, whose class changes at the next Stitch boundary; ENERGY_GET changes nothing. A valid reading of the
rails moves the correction by a sixteenth of the way from the last 20 Stitches' model energy, held between one half and two,
and ends a loss; 50 ms without one is reported once. In a breach a command that raises the forecast of class-0 work, or that
R366 names for a class-0 object, is refused with E_BUDGET, and no other is. Its conclusion is a next state of exec, under
conditions on state and operands alone, for: energySetBudget, energyGet, energySetClass, energyCorrectionUpdate, pmbusLost. (R357, R366, R368, R369, R370) -/
def Obligations.EnergyRows : Prop :=
  Runs .energySetBudget cmdEnergySetBudget (fun _ _ => True) (fun j s u p => p = [] ∧ u = { s with
    nrg := { s.nrg with pSus := j.u32 0, eRes := j.u32 4, r := min s.nrg.r (j.u32 4 * 1000000) } }) ∧
  Runs .energySetClass cmdEnergySetClass (fun _ _ => True) (fun j s u p => p = [] ∧
    (idType (j.u16 0) = 1 → u = { s with nrg := { s.nrg with chClass := modAt s.nrg.chClass (idIndex (j.u16 0)) fun _ => j.u8 2 } }) ∧
    (idType (j.u16 0) = 6 → u = { s with nrg := { s.nrg with headClass := modAt s.nrg.headClass (idIndex (j.u16 0)) fun _ => j.u8 2 } }) ∧
    (idType (j.u16 0) = 8 → u = { s with nrg := { s.nrg with encClass := modAt s.nrg.encClass (idIndex (j.u16 0)) fun _ => j.u8 2 } }) ∧
    (idType (j.u16 0) = 3 ∨ idType (j.u16 0) = 4 → s.layerHeads (layerIndex (j.u16 0)) = [] → u = s.atBoundary j) ∧
    (idType (j.u16 0) = 3 ∨ idType (j.u16 0) = 4 → s.layerHeads (layerIndex (j.u16 0)) ≠ [] → ∀ i, i = layerIndex (j.u16 0) →
      u.lay = { s.lay with
        layers := modAt s.lay.layers i fun l => { l with
          cfg := { l.cfg with cls := j.u8 2 }, base := { l.base with cls := j.u8 2 }, snap := { l.snap with cls := j.u8 2 } }
        tiles := s.lay.tiles.map fun t => if t.layer = i then { t with cfg := { t.cfg with cls := j.u8 2 } } else t } ∧
      u = { s with lay := u.lay })) ∧
  Runs .energyGet cmdEnergyGet (fun _ _ => True) (fun _ s u p => u = s ∧ ∃ rest, rest.length = 252 ∧
    p = leBytes 4 s.nrg.pSus ++ leBytes 4 (toUj s.nrg.r) ++ leBytes 4 (s.nrg.c / 65536) ++
      leBytes 4 (if s.nrg.pmbusLost then 0xFFFFFFFF else sat32 s.nrg.boardMw) ++ leBytes 1 s.nrg.ladder ++
      leBytes 1 (shedClasses s.nrg.ladder) ++
      leBytes 2 (b2n s.nrg.breach + 2 * b2n s.nrg.pmbusLost + 4 * b2n s.nrg.corrLimit + 8 * b2n s.nrg.drawing) ++ rest) ∧
  (∀ t rails s0 s modelled c, s = s0.tick t → rails ≠ [] → modelled = ((s.nrg.hist.take 20).map fun e => e.model.sum).sum →
    0 < modelled → c = max ((m32 / 2 : Nat) : Int) (min ((s.nrg.c : Int) +
      (((rails.sum * 1000000 * m32 / modelled : Nat) : Int) - s.nrg.c) / 16) ((2 * m32 : Nat) : Int)) →
    s.nrg.pmbusLost = false → s.nrg.corrLimit → exec (.energyCorrectionUpdate t rails) s0 = .next (settle { s with
      nrg := { s.nrg with
        c := c.toNat, boardMw := rails.sum / 10, lastRail := s.now, pmbusLost := false
        corrLimit := c.toNat = m32 / 2 || c.toNat = 2 * m32 } })) ∧
  (∀ t rails s0 s, s = s0.tick t → rails ≠ [] → ∃ u : State, exec (.energyCorrectionUpdate t rails) s0 = .next (settle u) ∧
    u.nrg.pmbusLost = false ∧ m32 / 2 ≤ u.nrg.c ∧ u.nrg.c ≤ 2 * m32 ∧ u.nrg.boardMw = rails.sum / 10) ∧
  (∀ t s0 s, s = s0.tick t → s.nrg.pmbusLost = false → s.nrg.lastRail + 50000000 ≤ s.now →
    exec (.pmbusLost t) s0 = .next (settle (({ s with nrg := { s.nrg with pmbusLost := true } } : State).evtEnergy 7 0 0))) ∧
  (∀ (j : Job) (s u : State) (p : List Byte), s.nrg.breach → State.loads0 j s u = true ∨ s.forecast0 < u.forecast0 →
    ∃ d, withBudget j s (.ok u p) = .fail eBudget d) ∧
  (∀ (j : Job) (s u : State) (p : List Byte), s.nrg.breach = false ∨ (State.loads0 j s u = false ∧ u.forecast0 ≤ s.forecast0) →
    withBudget j s (.ok u p) = .ok u p)

/-- Power states: requests, entry, wake and their records. PSTATE_REQUEST sets or clears the session's veto, schedules an entry,
does nothing for the present state, begins an exit, or begins an entry that no check refuses, closing the heads it does not
keep, and replies later; WAKE_CONFIG stores the wake settings; PSTATE_STATUS and REFUSAL_LOG change nothing. A scheduled entry
begins at its second or reports its refusal. 16 us after the sleep request the domains of the state are gated. An enabled wake
source begins the exit, or before the reply of an entry refuses it. A completed wake leaves the device in the target with its
domains on and reports it. Its conclusion is a next state of exec, under conditions on state and operands alone, for:
pstateRequest, pstateStatus, wakeConfig, refusalLog, scheduledEntry, pstateEntryComplete, wakeEvent, rtcAlarm, wakeComplete. (R372, R375, R378, R379, R380, R381, R382, R383, R384, R387) -/
def Obligations.PowerRows : Prop :=
  Runs .pstateRequest cmdPstateRequest (fun j s => s.pwr.trans = none ∧ s.hoop.bist.st ≠ 1 ∧ (j.u8 0 = 4 ∨ j.u8 0 = 5)) (fun j s u p =>
    p = [] ∧ u = if j.req.session ≠ 0 then s.modSession j.req.session fun x => { x with veto := j.u8 0 = 4 }
      else { s with ses := { s.ses with vetoes0 := modAt s.ses.vetoes0 (index0 j.req.transport) fun _ => j.u8 0 = 4 } }) ∧
  Runs .pstateRequest cmdPstateRequest (fun j s => s.pwr.trans = none ∧ s.hoop.bist.st ≠ 1 ∧ j.u8 0 < 4 ∧ j.u8 1 = 1) (fun j s u p =>
    p = [] ∧ u = { s with pwr := { s.pwr with scheduled := some (j.u8 0, j.u32 4) } }) ∧
  Runs .pstateRequest cmdPstateRequest (fun j s => s.pwr.trans = none ∧ s.hoop.bist.st ≠ 1 ∧ j.u8 0 < 4 ∧ j.u8 1 = 0 ∧
      j.u8 0 = s.pwr.pstate) (fun _ s u p => p = [] ∧ u = s) ∧
  RunsLater .pstateRequest cmdPstateRequest (fun j s => s.pwr.trans = none ∧ s.hoop.bist.st ≠ 1 ∧ j.u8 1 = 0 ∧ j.u8 0 < s.pwr.pstate ∧
      j.u8 0 < 4) (fun j s u =>
    u = { s with
      pwr := { s.pwr with
        latched := none
        trans := some {
          target := j.u8 0, waking := true, origin := some s.now, job := some j, source := 8, stitch := s.stitch
          rtc := s.rtcTicks } } }) ∧
  RunsLater .pstateRequest cmdPstateRequest (fun j s => s.pwr.trans = none ∧ s.hoop.bist.st ≠ 1 ∧ j.u8 1 = 0 ∧ s.pwr.pstate < j.u8 0 ∧
      j.u8 0 < 4 ∧ s.clk.refLost = false ∧ (j.u8 0 = 1 → s.hushErr = none) ∧ s.refuser (j.u8 0) = none) (fun j s u =>
    u = ({ s with
      pwr := { s.pwr with trans := some { target := j.u8 0, waking := false, job := some j, stitch := s.stitch } } } : State).closeHeads
        (j.u8 0)) ∧
  Runs .pstateStatus cmdPstateStatus (fun _ _ => True) (fun _ s u p => u = s ∧ p = leBytes 1 s.pwr.pstate ++
    leBytes 1 (s.pwr.scheduled.getD (0xFF, 0)).1 ++ leBytes 1 s.pwr.lastWake ++
    leBytes 1 (b2n (s.ses.vetoes0.any id || s.ses.sessions.any (·.veto)) + 2 * b2n s.pwr.trans.isSome) ++
    leBytes 4 (s.pwr.scheduled.getD (0xFF, 0)).2 ++ leBytes 8 s.pwr.lastStitch) ∧
  Runs .wakeConfig cmdWakeConfig (fun _ _ => True) (fun j s u p => p = [] ∧ u = { s with
    pwr := { s.pwr with
      wake := {
        sources := j.u16 0, target := j.u8 2, gpioMask := j.u8 3, alarm := j.u32 4, retain := j.u32 8, safeMask := j.u8 12
        touchGroups := j.u8 13 } } }) ∧
  Runs .refusalLog cmdRefusalLog (fun _ _ => True) (fun _ s u p => u = s ∧ p = leBytes 4 s.pwr.refTotal ++ zeros 4 ++
    (List.range 10).flatMap fun i => leBytes 4 (s.pwr.refCount.getD i 0) ++ leBytes 8 (s.pwr.refLast.getD i 0)) ∧
  (∀ t s0 s s1 target at_, s = s0.tick t → s.pwr.scheduled = some (target, at_) → s.rtc.1 % m32 = at_ →
    s1 = { s with pwr := { s.pwr with scheduled := none } } → s.pwr.trans = none → s.hoop.bist.st ≠ 1 → s.pwr.pstate < target →
    s.clk.refLost = false → (target = 1 → s1.hushErr = none) →
    exec (.scheduledEntry t) s0 = .next (settle (match s1.refuser target with
      | none => s1.startEntry target none
      | some i => (s1.countRefusal i).evtPstate 3 s.pwr.pstate s.pwr.pstate i 0))) ∧
  (∀ t s0 s x o, s = s0.tick t → s.pwr.trans = some x → x.waking = false → x.origin = some o → o + 16000 ≤ s.now →
    s.pwr.latched = none → ∃ u : State, exec (.pstateEntryComplete t) s0 = .next (settle u) ∧ u.pwr.pstate = x.target ∧
      u.pwr.on = (List.range 21).map (s.onIn x.target) ∧ u.pwr.portOpen = u.pwr.on ∧ u.pwr.trans = none ∧
      u.pwr.lastStitch = s.stitch ∧ u.pwr.wake = s.pwr.wake ∧ u.clk = s.clk ∧ (x.target = 1 → u.mem = s.mem ∧ u.hif.ready = s.hif.ready) ∧
      (x.target = 3 → u.hif.ready = false ∧ u.hif.pcieUp = false)) ∧
  (∀ t source s0 s, s = s0.tick t → 1 ≤ source → source ≤ 7 → s.pwr.trans = none →
    exec (.wakeEvent t source) s0 = .next (settle (if s.wakeValid s.pwr.pstate source then { s with
      pwr := { s.pwr with
        latched := none
        trans := some {
          target := s.pwr.wake.target, waking := true, origin := some s.now, job := none, source, stitch := s.stitch
          rtc := s.rtcTicks } } }
      else s))) ∧
  (∀ t source s0 s x, s = s0.tick t → s.pwr.trans = some x → x.waking = false → x.origin = none → s.wakeValid x.target source →
    exec (.wakeEvent t source) s0 = .next (settle
      (let s1 := ({ s with pwr := { s.pwr with trans := none } } : State).countRefusal 6
       match x.job with
       | some j => s1.finish j eRefused 6 []
       | none => s1.evtPstate 3 s.pwr.pstate s.pwr.pstate 6 0))) ∧
  (∀ (s : State) (st n : Nat), 1 ≤ n → n ≤ 7 →
    s.wakeValid st n = (s.pwr.wake.sources.testBit (n - 1) && (if 6 ≤ n then st = 2 else 1 ≤ st))) ∧
  (∀ t s0 s, s = s0.tick t → s.pwr.wake.alarm ≠ 0 → s.rtc.1 % m32 = s.pwr.wake.alarm → (∀ f ∈ s.clk.faults, f.1 ≠ 1) →
    exec (.rtcAlarm t) s0 = .next (settle (s.wakeBy 1))) ∧
  (∀ t s0 s x, s = s0.tick t → s.pwr.trans = some x → x.waking → s.pwr.pstate ≠ 3 → ∃ u : State,
    exec (.wakeComplete t) s0 = .next (settle u) ∧ u.pwr.pstate = x.target ∧ u.pwr.trans = none ∧ u.pwr.lastWake = x.source ∧
    u.pwr.on = (List.range 21).map (s.onIn x.target) ∧ u.pwr.portOpen = u.pwr.on ∧ u.clk = s.clk ∧ u.mem = s.mem ∧
    u.lay.layers = s.lay.layers ∧ (s.pwr.pstate < 2 → u.lay = s.lay) ∧ u.dec = s.dec) ∧
  (∀ t s0 s x, s = s0.tick t → s.pwr.trans = some x → x.waking → s.pwr.pstate = 3 → ∃ u : State,
    exec (.wakeComplete t) s0 = .next (settle u) ∧ u.pwr.pstate = x.target ∧ u.pwr.lastWake = x.source ∧ u.clk.active = s.clk.active ∧
    u.hif.enable = false ∧ u.mem = s.mem)

/-- The touch, GPIO and SAFE commands execute and reply. Taken and clear, TOUCH_CONFIG sets the front end (0 stands for 20 s, 40
counts, 10 s) and each listed electrode; TOUCH_RECAL marks the named enabled electrodes and, in lifecycle MANUFACTURE, writes
their raw counts once to the OTP reference; GPIO_CONFIG sets the input's mode, flags, debounce, chatter and stuck settings,
restarts its states (those of its pair too), and drives a pin configured as an output; TOUCH_STATUS, GPIO_STATUS and
SAFE_STATUS change nothing but the reply, whose payload is spelled. Nothing else of the state changes, memory included. Its
conclusion is a next state of exec, under conditions on state and operands alone, for: touchConfig, touchStatus, touchRecal,
gpioConfig, gpioStatus, safeStatus. (R459, R462, R463, R464, R465, R467, R468) -/
def Obligations.ConsoleAndInputCommands : Prop :=
  Runs .touchConfig cmdTouchConfig (fun _ _ => True) (fun j s u p =>
    p = [] ∧ u = (s.modIo fun x => { x with
        touchOn := j.u8 1 = 1
        holdS := if j.u16 2 = 0 then 20 else j.u16 2
        approachThr := if j.u16 4 = 0 then 40 else j.u16 4
        baseTc := if j.u16 6 = 0 then 10 else j.u16 6 }).forEach (List.range (j.u8 0)) fun i s =>
      s.modIo fun x => { x with electrodes := modAt x.electrodes (j.u8 (16 + 4 * i)) fun e =>
        let e1 := { e with enabled := j.u8 (17 + 4 * i) = 1, t := 4 * j.u8 (18 + 4 * i), n := 4 * j.u8 (19 + 4 * i) }
        if e1.enabled then (if e.enabled then e1 else e1.restart) else { e1 with st := 0 } }) ∧
  Runs .touchStatus cmdTouchStatus (fun _ _ => True) (fun _ s u p =>
    u = s ∧ p = leBytes 4 s.io.scans ++ leBytes 1 (if !s.io.touchOn then 0 else if s.pwr.pstate = 0 then 1 else 2) ++
      leBytes 1 ((List.range 4).map fun g => b2n (s.io.approach.getD g false) * 2 ^ g).sum ++ zeros 2 ++
      s.io.electrodes.zipIdx.flatMap fun e =>
        leBytes 1 e.1.st ++ leBytes 1 (b2n (s.touchRef e.2).isSome) ++ leBytes 2 (unsigned 16 (satS 16 e.1.signal))) ∧
  Runs .touchRecal cmdTouchRecal (fun _ s => s.hoop.otp.lifecycle ≠ 0) (fun j s u p =>
    p = [] ∧ u = s.modIo fun x => { x with
      electrodes := x.electrodes.mapIdx fun i e => if (j.u32 0).testBit i then { e with recal := e.enabled } else e }) ∧
  Runs .touchRecal cmdTouchRecal (fun _ s => s.hoop.otp.lifecycle = 0) (fun j s u p =>
    p = [] ∧ u =
      { s with
        io := { s.io with
          electrodes := s.io.electrodes.mapIdx fun i e => if (j.u32 0).testBit i then { e with recal := e.enabled } else e }
        hoop := { s.hoop with
          otp := { s.hoop.otp with
            touchRef := s.hoop.otp.touchRef.mapIdx fun i v => if (j.u32 0).testBit i && v.isNone then
              some ((s.io.electrodes.mapIdx fun i e => if (j.u32 0).testBit i then { e with recal := e.enabled } else e).getD i
                {}).raw else v } } }) ∧
  Runs .gpioConfig cmdGpioConfig (fun j _ => inpIndex (j.u16 0) < 48) (fun j s u p =>
    p = [] ∧ u =
      let i := inpIndex (j.u16 0)
      (s.modInp i fun x => { x with
        mode := j.u8 2, flags := j.u8 3, debounce := j.u8 4, chatterK := j.u8 5, chatterW := j.u16 6, stuckMs := j.u32 8
        raw := if x.flags.testBit 0 = (j.u8 3).testBit 0 then x.raw else !x.raw
        rawAt := s.now, levelAt := s.now, edges := [], chatter := false, stuck := false }).when
        (2 ≤ j.u8 2) (·.emit (.pin ("GPIO" ++ toString i) ((j.u8 3).testBit 5)))) ∧
  Runs .gpioConfig cmdGpioConfig (fun j s => 48 ≤ inpIndex (j.u16 0) ∧ j.u8 2 = 1 ∧
      (inpIndex (j.u16 0) % 2 = 0 ∨ !s.paired ((inpIndex (j.u16 0) - 48) / 2))) (fun j s u p =>
    p = [] ∧ u =
      let i := inpIndex (j.u16 0)
      let k := (i - 48) / 2
      let pol (s : State) : Bool := (s.inpCfg (i + 1)).flags.testBit 0
      let s0 := s
      let s1 := s.modInp i fun x => { x with
        mode := j.u8 2, flags := j.u8 3, debounce := j.u8 4, chatterK := j.u8 5, chatterW := j.u16 6, stuckMs := j.u32 8
        raw := if x.flags.testBit 0 = (j.u8 3).testBit 0 then x.raw else !x.raw
        rawAt := s.now, levelAt := s.now, edges := [], chatter := false, stuck := false }
      let s2 := s1.when (i % 2 = 0 && (s.paired k || s1.paired k)) fun s => s.modInp (i + 1) fun x => { x with
        raw := if pol s0 ≠ pol s1 then !x.raw else x.raw
        rawAt := s.now, levelAt := s.now, edges := [], chatter := false, stuck := false }
      (s2.modIo fun x => { x with pairs := x.pairs.set k {} }).pairFollow i) ∧
  Runs .gpioStatus cmdGpioStatus (fun _ _ => True) (fun _ s u p =>
    u = s ∧ p = leBytes 8 (inpBits s 0 48 fun p => if 2 ≤ p.mode then p.flags.testBit 5 else p.level) ++
      leBytes 8 (inpBits s 0 48 (·.stuck)) ++ leBytes 8 (inpBits s 0 48 (·.chatter)) ++ leBytes 4 s.io.merged ++ zeros 4) ∧
  Runs .safeStatus cmdSafeStatus (fun _ _ => True) (fun _ s u p =>
    u = s ∧ p =
      let pb (f : Nat → Bool) : Nat := ((List.range 4).map fun k => b2n (f k) * 2 ^ k).sum
      leBytes 1 (inpBits s 48 8 (·.level)) ++ leBytes 1 (inpBits s 48 8 (·.stuck)) ++ leBytes 1 (inpBits s 48 8 (·.chatter)) ++
      leBytes 1 (pb s.paired) ++ leBytes 1 (pb fun k => s.paired k && s.pairLevel k) ++
      leBytes 1 (pb fun k => (s.io.pairs.getD k {}).fault) ++ zeros 2 ++ leBytes 4 s.io.pairFaults ++ zeros 4)

/-- The console bus: configuration, sending, receiving and PLCA. CBUS_CONFIG sets mode, node, node count, enable and the allowed
sources, and the commands of dropped frames end with E_TIMEOUT. CBUS_SEND on an enabled port with room queues its frame and
replies later; the frame leaves (with its octets and collisions counted, and OK) or is dropped after 100 ms with E_TIMEOUT. A
port in loopback receives nothing. A frame of a stranger is counted and discarded; a malformed frame is counted, a key frame
raises one EVT_IO per item, and axis items are noted for the Stitch's EVT_IO. A follower without a beacon for 4 ms falls back,
and a beacon ends that. Its conclusion is a next state of exec, under conditions on state and operands alone, for: cbusConfig,
cbusSend, cbusFrameSent, cbusSendTimeout, consoleFrameReceive, plcaLost, plcaBeacon. (R470, R471, R472, R473) -/
def Obligations.ConsoleBusRows : Prop :=
  Runs .cbusConfig cmdCbusConfig (fun _ _ => True) (fun j s u p =>
    p = [] ∧ u =
      let k := idIndex (j.u16 0) - 5
      ((s.modCbus k fun c => { c with
          mode := j.u8 3, node := j.u8 4, nodes := j.u8 5, queue := [], plcaLost := false, lastBeacon := s.now
          allowed := (List.range (j.u8 6)).map fun i => beVal (j.bytes (8 + 8 * i) 6) }).modPort (5 + k) fun x =>
        { x with enable := j.u8 2 = 1, link := j.u8 2 = 1 }).forEach (s.cbus k).queue fun f s => s.finish f.job eTimeout 0 []) ∧
  RunsLater .cbusSend cmdCbusSend (fun j s =>
      (s.cbus (idIndex (j.u16 0) - 5)).queue.length < 8 ∧ (s.cbPort (idIndex (j.u16 0) - 5)).enable) (fun j s u =>
    u = s.modCbus (idIndex (j.u16 0) - 5) fun c => { c with
      seq := (c.seq + 1) % m16
      queue :=
        let f := cbFrame (j.bytes 4 6) (beBytes 6 (s.hoop.otp.macs.getD (5 + (idIndex (j.u16 0) - 5)) 0)) (j.u8 2)
          (s.cbus (idIndex (j.u16 0) - 5)).seq (j.req.payload.drop 12)
        c.queue ++ [{ job := j, bytes := f, since := s.now }] }) ∧
  (∀ t k coll late s0 s f rest, s = s0.tick t → (s.cbus k).queue = f :: rest → (s.cbPort k).enable → s.portPowered (5 + k) →
    exec (.cbusFrameSent t k coll late) s0 = .next (settle
      ((((s.modCbus k fun c => { c with queue := rest }).modPort (5 + k) fun x => { x with
        ctr := { x.ctr with
          txFrames := x.ctr.txFrames + 1, txOctets := x.ctr.txOctets + f.bytes.length + 4
          fecCorrected := x.ctr.fecCorrected + coll, fecUncorrected := x.ctr.fecUncorrected + late } }).emit
        (.consoleFrame k (s.cbus k).node f.bytes)).finish f.job 0 0 []))) ∧
  (∀ t k s0 s f rest, s = s0.tick t → (s.cbus k).queue = f :: rest → f.since + 100000000 ≤ s.now →
    exec (.cbusSendTimeout t k) s0 =
      .next (settle ((s.modCbus k fun c => { c with queue := rest }).finish f.job eTimeout 0 []))) ∧
  (∀ t k (f : ConsoleFrame) s0 s s1, s = s0.tick t → k < 2 → (s.cbPort k).enable → s.portPowered (5 + k) →
    (s.cbPort k).loop = 0 → s1 = (s.modPort (5 + k) fun x => { x with
      ctr := { x.ctr with rxFrames := x.ctr.rxFrames + 1, rxOctets := x.ctr.rxOctets + f.bytes.length + 18 } }) →
    ((s.cbus k).allowed.contains f.src = false →
      exec (.consoleFrameReceive t k f) s0 = .next (settle
        (s1.modPort (5 + k) fun x => { x with ctr := { x.ctr with rxStranger := x.ctr.rxStranger + 1 } }))) ∧
    ((s.cbus k).allowed.contains f.src = true → f.etherType ≠ 0x88B5 ∨ cbParse f.bytes = none →
      exec (.consoleFrameReceive t k f) s0 = .next (settle
        (s1.modPort (5 + k) fun x => { x with ctr := { x.ctr with rxUnmatched := x.ctr.rxUnmatched + 1 } }))) ∧
    (∀ items, (s.cbus k).allowed.contains f.src = true → f.etherType = 0x88B5 → cbParse f.bytes = some (3, items) →
      exec (.consoleFrameReceive t k f) s0 = .next (settle (s1.forEach items fun it s =>
        s.pendIo (0xD005 + k) (256 * (k + 1) + byteAt it 0) 9 0 (byteAt it 0)
          (unsigned 32 (signed 16 (byteAt it 2 * 256 + byteAt it 3)))))) ∧
    (∀ items, (s.cbus k).allowed.contains f.src = true → f.etherType = 0x88B5 → cbParse f.bytes = some (1, items) →
      exec (.consoleFrameReceive t k f) s0 = .next (settle (s1.forEach items fun it s =>
        s.evtIo { source := 0xD005 + k, input := 64 + k, code := 8, level := byteAt it 1, arg0 := byteAt it 0 })))) ∧
  (∀ t k (f : ConsoleFrame) s0 s, s = s0.tick t → (s.cbPort k).loop ≠ 0 → exec (.consoleFrameReceive t k f) s0 = .next (settle s)) ∧
  (∀ t k s0 s, s = s0.tick t → k < 2 → (s.cbPort k).enable → s.portPowered (5 + k) → (s.cbus k).mode = 2 → (s.cbus k).plcaLost = false →
    (s.cbus k).lastBeacon + 4000000 ≤ s.now →
    exec (.plcaLost t k) s0 = .next (settle (((s.modCbus k fun c => { c with plcaLost := true }).modPort (5 + k) fun x =>
      { x with ctr := { x.ctr with fecSymbolErr := x.ctr.fecSymbolErr + 1 } }).pendIo (0xD005 + k) (64 + k) 10 0 0 0))) ∧
  (∀ t k s0 s, s = s0.tick t → k < 2 → (s.cbPort k).enable → s.portPowered (5 + k) → (s.cbus k).mode = 2 →
    exec (.plcaBeacon t k) s0 = .next (settle ((s.modCbus k fun c => { c with plcaLost := false, lastBeacon := s.now }).when
      (s.cbus k).plcaLost (·.pendIo (0xD005 + k) (64 + k) 11 0 0 0))))

/-- Touch scans, approach scans and the sampled inputs. In RUN a touch scan runs every enabled electrode's state machine, counts
the scan and raises what the machines report; below RUN an approach scan judges each group it may wake on. A held electrode
becomes STUCK at its hold limit. A new raw level is stored with its edge; once it has held for DEBOUNCE it is the input's
level and is noted for EVT_IO, and the pair is followed; an input active for STUCK ms is stuck; chatter ends when the raw
level has not changed for CHATTER_W, and with it a stuck state that the level no longer shows. A SAFE pair that disagrees for
more than 10 ms faults, and the fault clears after 100 ms of inactive agreement. The mapped banners of every head follow each
of these changes. Its conclusion is a next state of exec, under conditions on state and operands alone, for: touchScan,
touchHoldLimit, approachScan, inputDebouncedChange, inputRawTransition, chatterClear, inputStuck, pairFault, pairOk. (R458, R459, R464, R465, R466, R467) -/
def Obligations.InputEvents : Prop :=
  (∀ t raw s0 s rs, s = s0.tick t → s.io.touchOn → s.pwr.pstate = 0 →
    rs = (s.io.electrodes.mapIdx fun i e => if e.enabled then
      e.scan s.io.baseTc s.now (heldState (s.io.electrodes.getD i {}) ||
        (i > 0 && heldState (s.io.electrodes.getD (i - 1) {})) || heldState (s.io.electrodes.getD (i + 1) {}))
        (min (raw.getD i 0) 65535) else (e, none)) →
    exec (.touchScan t raw) s0 = .next (settle
      ((s.modIo fun x => { x with electrodes := rs.map (·.1), scans := (x.scans + 1) % m32 }).forEach rs.zipIdx fun q s' =>
        match q.1.2 with
        | some (code, flags) => s'.evtTouch q.2 code flags q.1.1.signal
            (if code = 2 then (s.now - (s.io.electrodes.getD q.2 {}).pressAt) / 1000000 else 0)
        | none => s'))) ∧
  (∀ t i s0 s e, s = s0.tick t → e = s.io.electrodes.getD i {} → e.st = 2 ∨ e.st = 4 → e.enabled →
    e.pressAt + s.io.holdS * nsPerSec ≤ s.now →
    exec (.touchHoldLimit t i) s0 = .next (settle ((s.modIo fun x =>
      { x with electrodes := modAt x.electrodes i fun e => { e with st := 3, below := 0 } }).evtTouch i 3 0 e.signal
        ((s.now - e.pressAt) / 1000000)))) ∧
  (∀ t sig s0 s, s = s0.tick t → s.io.touchOn → s.pwr.pstate ≠ 0 →
    exec (.approachScan t sig) s0 = .next (settle ((s.forEach (List.range 4) fun g s =>
      let run := if sig.getD g 0 > s.io.approachThr then s.io.approachRun.getD g 0 + 1 else 0
      s.when (s.pwr.wake.touchGroups.testBit g) fun s =>
        (s.modIo fun x => { x with approachRun := x.approachRun.set g run, approach := x.approach.set g (decide (run ≥ 2)) }).when
          (decide (run ≥ 2) && !s.io.approach.getD g false) (·.evtTouch (8 * g) 7 0 (sig.getD g 0) 0)).wakeApproach s))) ∧
  (∀ t i pin s0 s c p lvl, s = s0.tick t → c = s.inpCfg i → p = s.inp i → i < 56 → p.mode = 1 → s.sampled i →
    lvl = (if c.flags.testBit 0 then !pin else pin) → lvl ≠ p.raw →
    exec (.inputRawTransition t i pin) s0 = .next (settle
      (State.bannersAll <|
       let edges := (s.now :: p.edges).filter fun e => s.now - e ≤ c.chatterW * 1000000
       let enter := c.chatterK ≠ 0 && edges.length > c.chatterK && !p.chatter
       (s.modInp i fun p => { p with raw := lvl, rawAt := s.now, edges := edges.take 256, chatter := p.chatter || enter }).when
         enter (·.pendIo (inpId i) i 4 (b2n p.level) 0 0)))) ∧
  (∀ t i s0 s p, s = s0.tick t → p = s.inp i → i < 56 → p.mode = 1 → (p.chatter = false ∨ 48 ≤ i) → p.raw ≠ p.level →
    debounced (s.inpCfg i) p s.now →
    exec (.inputDebouncedChange t i) s0 = .next (settle
      (let s1 := ((((s.modInp i fun p => { p with level := p.raw, levelAt := s.now, stuck := p.stuck && p.raw }).pendIo
        (inpId i) i 1 (b2n p.raw) 0 0).when (p.stuck && !p.raw) (·.pendIo (inpId i) i 3 (b2n p.raw) 0 0)).pairFollow i).bannersAll
       if (s1.inp i).level = p.level then s1 else s1.wakeInput i))) ∧
  (∀ t i s0 s p, s = s0.tick t → p = s.inp i → i < 56 → p.chatter → p.rawAt + (s.inpCfg i).chatterW * 1000000 ≤ s.now →
    exec (.chatterClear t i) s0 = .next (settle
      (let lv := if debounced (s.inpCfg i) p s.now then p.raw else p.level
       ((((s.modInp i fun q => { q with
        chatter := false, edges := [], level := lv, levelAt := if q.level = lv then q.levelAt else s.now
        stuck := q.stuck && lv }).pendIo (inpId i) i 5 (b2n lv) 0 0).when (p.stuck && !lv)
          (·.pendIo (inpId i) i 3 (b2n lv) 0 0)).pairFollow i).bannersAll))) ∧
  (∀ t i s0 s p, s = s0.tick t → p = s.inp i → i < 56 → p.mode = 1 → (s.inpCfg i).stuckMs ≠ 0 → p.level → p.stuck = false →
    p.levelAt + (s.inpCfg i).stuckMs * 1000000 ≤ s.now →
    exec (.inputStuck t i) s0 = .next (settle ((s.modInp i fun p => { p with stuck := true }).pendIo (inpId i) i 2 1 0 0))) ∧
  (∀ t k s0 s since, s = s0.tick t → k < 4 → s.paired k → (s.io.pairs.getD k {}).fault = false →
    (s.io.pairs.getD k {}).disagreeAt = some since → since + 10000000 < s.now →
    exec (.pairFault t k) s0 = .next (settle (((s.modIo fun x => { x with
      pairFaults := satAdd32 x.pairFaults 1, pairs := modAt x.pairs k fun p => { p with fault := true } }).pendIo
        (inpId (48 + 2 * k)) (56 + k) 6 (b2n (s.pairLevel k)) 0 0).bannersAll))) ∧
  (∀ t k s0 s since, s = s0.tick t → k < 4 → s.paired k → (s.io.pairs.getD k {}).fault →
    (s.io.pairs.getD k {}).okSince = some since → since + 100000000 ≤ s.now →
    exec (.pairOk t k) s0 = .next (settle (((s.modIo fun x => { x with
      pairs := modAt x.pairs k fun p => { p with fault := false } }).pendIo
        (inpId (48 + 2 * k)) (56 + k) 7 (b2n (s.pairLevel k)) 0 0).bannersAll)))

/-- The audio commands execute and reply. AUD_PORT_CONFIG on a port of no group stores its settings, keeps a clock fault only
while the port is disabled, forgets the port's channel pairs and, when it enables, lifts the fault mutes of its routes.
AUD_ROUTE removes a route and one that waits under its number, or replaces it where the source is an input and both ends lie
in one group, muted from the start while the followed tile, the pair or the port gives cause; one that follows a layer placed
on no head waits for the Stitch boundary. AUD_GROUP dissolves a group with its routes, or makes one whose members R344 admits,
opens it after its playout delay and clears the members' counters. AUD_TONE stops, starts, takes or releases a tone. AUD_STATS
replies with the counters. Its conclusion is a next state of exec, under conditions on state and operands alone, for:
audPortConfig, audRoute, audGroup, audTone, audStats. (R336, R339, R343, R344, R348, R349) -/
def Obligations.AudioCommands : Prop :=
  Runs .audPortConfig cmdAudPortConfig (fun j s => s.groupOf (j.u16 0) = none) (fun j s u p =>
    p = [] ∧ u =
      let i := idIndex (j.u16 0)
      s.modAud fun a => { a with
        ports := a.ports.set i {
          enable := j.u8 2 = 1, master := j.u8 3 = 1, format := j.u8 4, output := j.u8 5 = 1, slots := j.u8 6, word := j.u8 7
          rate := j.u8 8, clock := j.u8 9, ratio := j.u16 10, fault := (a.ports.getD i {}).fault && j.u8 2 = 0 }
        pairs := a.pairs.filter fun p => p.src ≠ 0x9000 + i
        routes := if j.u8 2 = 1 then a.routes.map fun r => if r.source = 0x9000 + i then { r with faultFade := none } else r
          else a.routes }) ∧
  Runs .audRoute cmdAudRoute (fun j _ => j.u8 1 = 0) (fun j s u p =>
    p = [] ∧ u = (s.dropRouteWait (j.u8 0)).modAud fun a => { a with routes := a.routes.filter fun r => r.number ≠ j.u8 0 }) ∧
  Runs .audRoute cmdAudRoute (fun j s => j.u8 1 = 1 ∧ idType (j.u16 6) = 9 ∧
      (∀ r ∈ s.accRoutes, r.number ≠ j.u8 0 → ¬(r.dst = j.u16 6 ∧ r.dstCh = j.u8 5)) ∧ s.sameGroup (j.u16 2) (j.u16 6) ∧
      s.isInput (j.u16 6) = false ∧ s.isInput (j.u16 2) ∧ j.u16 8 = 0) (fun j s u p =>
    p = [] ∧ u = (s.dropRouteWait (j.u8 0)).modAud fun a => { a with
      routes := (a.routes.filter fun r => r.number ≠ j.u8 0) ++ [{
        number := j.u8 0, source := j.u16 2, srcCh := j.u8 4, dst := j.u16 6, dstCh := j.u8 5, follow := 0, gain := j.s16 10
        folMuted := false, folFade := none, folSince := s.local
        npFade := if s.aud.pairs.any fun p => p.src = j.u16 2 && p.pair = j.u8 4 / 2 && p.muted
          then some { down := true, start := s.local - 1000000 } else none
        faultFade := if idType (j.u16 2) = 9 && (s.audPort (idIndex (j.u16 2))).fault
          then some { down := true, start := s.local - 1000000 } else none }] }) ∧
  Runs .audRoute cmdAudRoute (fun j s => j.u8 1 = 1 ∧ idType (j.u16 6) = 9 ∧
      (∀ r ∈ s.accRoutes, r.number ≠ j.u8 0 → ¬(r.dst = j.u16 6 ∧ r.dstCh = j.u8 5)) ∧ s.sameGroup (j.u16 2) (j.u16 6) ∧
      s.isInput (j.u16 6) = false ∧ s.isInput (j.u16 2) ∧ j.u16 8 ≠ 0 ∧ (s.lay.layers.getD (layerIndex (j.u16 8)) {}).cfg.guarded ∧
      s.layerHeads (layerIndex (j.u16 8)) = []) (fun j s u p => p = [] ∧ u = (s.dropRouteWait (j.u8 0)).atBoundary j) ∧
  Runs .audGroup cmdAudGroup (fun j _ => j.u8 7 = 1) (fun j s u p =>
    p = [] ∧ u = s.modAud fun a => { a with
      groups := a.groups.set (idIndex (j.u16 0) - 0x100) {}
      routes := a.routes.filter fun r => !((s.group (idIndex (j.u16 0) - 0x100)).members.contains r.source ||
        (s.group (idIndex (j.u16 0) - 0x100)).members.contains r.dst) }) ∧
  Runs .audGroup cmdAudGroup (fun j s => j.u8 7 = 0 ∧ (j.u16 2 = 0 ∨ s.isInput (j.u16 2)) ∧
      groupErr s (idIndex (j.u16 0) - 0x100) (j.u16 2) (groupMembers j) = none) (fun j s u p =>
    p = [] ∧ ∃ s1, s1 = (s.modAud fun a => { a with
        groups := a.groups.set (idIndex (j.u16 0) - 0x100) {
          made := true, clock := j.u16 2, playout := j.u16 4, loopBw := j.u8 6, members := groupMembers j
          openAt := s.local + j.u16 4 * 1000 } }) ∧
      u = (s1.modAud fun a => { a with routes := a.routes.filter fun r => s1.sameGroup r.source r.dst }).forEach
        (groupMembers j) fun m s => s.modAudCtr m fun _ => {}) ∧
  Runs .audTone cmdAudTone (fun j _ => j.u8 2 = 0) (fun j s u p =>
    p = [] ∧ u = s.modAud fun a => { a with
      tones := a.tones.set (idIndex (j.u16 0) - 0xA0) { s.aud.tones.getD (idIndex (j.u16 0) - 0xA0) {} with
        playing := false
        stopAt := if (s.aud.tones.getD (idIndex (j.u16 0) - 0xA0) {}).playing && (s.aud.tones.getD (idIndex (j.u16 0) - 0xA0) {}).phaseOn
          then some s.now else (s.aud.tones.getD (idIndex (j.u16 0) - 0xA0) {}).stopAt } }) ∧
  Runs .audTone cmdAudTone (fun j s => j.u8 2 = 1 ∧ s.groupOf (j.u16 10) ≠ none ∧
      (if idType (j.u16 10) = 9 then (s.audPort (idIndex (j.u16 10))).enable && !s.isInput (j.u16 10)
        else (s.heads.getD (idIndex (j.u16 10)) {}).accEnable && idType (s.heads.getD (idIndex (j.u16 10)) {}).target = 7) = true)
    (fun j s u p =>
    p = [] ∧ u = s.modAud fun a => { a with
      tones := a.tones.set (idIndex (j.u16 0) - 0xA0) { s.aud.tones.getD (idIndex (j.u16 0) - 0xA0) {} with
        playing := true, level := j.s8 3, freq := j.u16 4, onMs := j.u16 6, offMs := j.u16 8, dst := j.u16 10
        channels := j.u16 12, duration := j.u16 14, startAt := s.now, phaseOn := true, phaseAt := s.now, stopAt := none } }) ∧
  Runs .audTone cmdAudTone (fun j s => (j.u8 2 = 2 ∧ (s.aud.tones.getD (idIndex (j.u16 0) - 0xA0) {}).owned = false) ∨
      (j.u8 2 = 3 ∧ (s.aud.tones.getD (idIndex (j.u16 0) - 0xA0) {}).owned = true)) (fun j s u p =>
    p = [] ∧ u = s.modAud fun a => { a with
      tones := a.tones.set (idIndex (j.u16 0) - 0xA0) { s.aud.tones.getD (idIndex (j.u16 0) - 0xA0) {} with
        owned := decide (j.u8 2 = 2) } }) ∧
  Runs .audStats cmdAudStats (fun _ _ => True) (fun j s u p =>
    u = s ∧ ∃ h f t : List Byte, h.length = 6 ∧ f.length = 4 ∧
      p = leBytes 2 (j.u16 0) ++ h ++ leBytes 8 (s.audCtr (j.u16 0)).samples ++ leBytes 8 (s.audCtr (j.u16 0)).silence ++
        leBytes 8 (s.audCtr (j.u16 0)).late ++ leBytes 8 (s.audCtr (j.u16 0)).overrun ++ f ++
        leBytes 4 (unsigned 32 s.pllPpb) ++ leBytes 4 (s.audCtr (j.u16 0)).nonPcm ++ t)

/-- Sample frames, play times, tones, non-PCM mutes and the steering limit. An input port's sample frame is counted, watched for
bursts and written to its group's buffer with its number. At a play time every destination channel of a group plays one
sample, with gain, mutes and tones, and what is missing is silence; the group's number moves on, of local time or one after
the last of a foreign reference, whose correction is steered. A tone's phase alternates and a tone ends at its duration. A
burst, or a channel status that names no PCM, mutes the routes of the channel pair one millisecond before its play time and
counts at the input and its group; 32768 clean frames unmute it. A correction held at its limit for one second is reported,
with the correction and the fill of the reference. Its conclusion is a next state of exec, under conditions on state and
operands alone, for: tonePhaseChange, toneDurationExpiry, nonPcmDetect, nonPcmClear, steerLimit, frameSyncEdge,
samplePlayTime. (R340, R342, R345, R346, R347, R348) -/
def Obligations.AudioEvents : Prop :=
  (∀ t k slots s0 s p, s = s0.tick t → p = s.audPort k → k < 8 → p.enable → p.output = false → p.fault = false → s.domainOn 20 →
    ∃ s1, s1 = ((s.modAud fun a => { a with
        ports := modAt a.ports k fun p => { p with lastEdge := s.local } }).modAudCtr (0x9000 + k)
          fun c => { c with samples := c.samples + 1 }) ∧
      ∀ vs words, vs = (slots.take p.slots).map (slotValue p) → words = (if p.format = 2 then slots.take p.slots else []) →
      (s1.groupOf (0x9000 + k) = none → exec (.frameSyncEdge t k slots) s0 = .next (settle
        (s1.watchPairs (0x9000 + k) (s1.local * audHz p.rate / nsPerSec : Nat) vs words))) ∧
      ∀ gi g, s1.groupOf (0x9000 + k) = some gi → g = s1.group gi →
        (g.clock ≠ 0x9000 + k → exec (.frameSyncEdge t k slots) s0 = .next (settle
          ((s1.watchPairs (0x9000 + k) (s1.local * audHz p.rate / nsPerSec : Nat) vs words).writeSample gi
            { src := 0x9000 + k, n := (s1.local * audHz p.rate / nsPerSec : Nat), values := vs }))) ∧
        (g.clock = 0x9000 + k → exec (.frameSyncEdge t k slots) s0 = .next (settle
          (((s1.modGroup gi fun g => { g with
              refCount := g.refCount + 1, refFirst := some (g.refFirst.getD s1.local) }).watchPairs (0x9000 + k) g.refCount
              vs words).writeSample gi { src := 0x9000 + k, n := g.refCount, values := vs })))) ∧
  (∀ t gi s0 s g (n : Int), s = s0.tick t → g = s.group gi → g.made → s.domainOn 20 →
    (g.clock = 0 → g.playout * 1000 ≤ s.local ∧ n = ((s.local - g.playout * 1000) * s.groupHz g / nsPerSec : Nat)) →
    (g.clock ≠ 0 → n = (g.played.map (· + 1)).getD 0 ∧
      ∃ due, g.nextAt (s.groupHz g) s.local = some due ∧ due < (s.local + 1) * m32) →
    (∀ m, g.played = some m → m < n) →
    ∀ opened dests fed missing, opened = decide (g.openAt ≤ s.local) → dests = g.members.filter s.destPlays →
    fed = (s.aud.routes.filter fun r => dests.contains r.dst) →
    missing = ((fed.map (·.source)).eraseDups.filter fun src => !g.buffer.any fun b => b.src = src && b.n = n) →
    exec (.samplePlayTime t gi) s0 = .next (settle
      (((s.forEach dests fun d s =>
        (s.forEach (List.range (s.memberChannels d)) fun ch s =>
          let v := match fed.find? fun r => r.dst = d && r.dstCh = ch with
            | some r => match g.buffer.find? fun b => b.src = r.source && b.n = n with
              | some b => if opened then r.play s.local (b.values.getD r.srcCh 0) else 0
              | none => 0
            | none => 0
          let tone := ((s.aud.tones.filter fun t => t.dst = d && t.channels.testBit ch).map fun t => t.play s.now).sum
          s.emit (.sample d ch (s.slotOut d (satS 32 (v + tone))))).modAudCtr d fun c => { c with
            samples := c.samples + 1
            silence := c.silence + b2n (opened && fed.any fun r => r.dst = d && missing.contains r.source) }).forEach
        (if opened then missing else []) fun src s =>
          (s.modAudCtr src fun c => { c with silence := c.silence + 1 }).tally 1 src (unsigned 32 n)).modGroup gi fun g => { g.steer (s.groupHz g) s.now with
        played := some n, playedAt := (g.nextAt (s.groupHz g) s.local).getD 0, buffer := g.buffer.filter fun b => n < b.n
        ctr := { g.ctr with samples := g.ctr.samples + 1, silence := g.ctr.silence + b2n (opened && !missing.isEmpty) } }))) ∧
  (∀ t k s0 s x, s = s0.tick t → x = s.aud.tones.getD k {} → x.playing → x.onMs ≠ 0 →
    x.phaseAt + (if x.phaseOn then x.onMs else x.offMs) * 1000000 ≤ s.now →
    exec (.tonePhaseChange t k) s0 = .next (settle (s.modAud fun a => { a with
      tones := modAt a.tones k fun y => { y with
        phaseOn := !y.phaseOn, phaseAt := y.phaseAt + (if x.phaseOn then x.onMs else x.offMs) * 1000000 } }))) ∧
  (∀ t k s0 s x, s = s0.tick t → x = s.aud.tones.getD k {} → x.playing → x.duration ≠ 0 →
    x.startAt + x.duration * nsPerSec ≤ s.now →
    exec (.toneDurationExpiry t k) s0 = .next (settle (s.modAud fun a => { a with
      tones := modAt a.tones k fun y => { y with playing := false } }))) ∧
  (∀ t src pair reason s0 s p s1, s = s0.tick t → s.aud.pairs.find? (fun p => p.src = src && p.pair = pair) = some p →
    (reason = 2 ∧ p.found) ∨ (reason = 1 ∧ p.status) →
    s1 = (s.modAud fun a => { a with
      pairs := a.pairs.map fun q =>
        if q.src = src && q.pair = pair then { q with
          found := q.found && reason ≠ 2, status := q.status && reason ≠ 1, clean := 0, muted := true } else q }) →
    (p.muted = true → exec (.nonPcmDetect t src pair reason) s0 = .next (settle s1)) ∧
    (p.muted = false → exec (.nonPcmDetect t src pair reason) s0 = .next (settle
      (let start := match s.groupOf src with
        | some gi => playAt (s.group gi) (s.groupHz (s.group gi)) (if reason = 2 then p.burstN else p.statusN) - 1000000
        | none => s.local
      let s2 := (s1.modAud fun a => { a with
        routes := a.routes.map fun r =>
          if r.source = src && r.srcCh / 2 = pair then { r with npFade := some { down := true, start } } else r }).modAudCtr
        src fun c => { c with nonPcm := satAdd32 c.nonPcm 1 }
      (match s.groupOf src with
        | some gi => s2.modAudCtr (0xA100 + gi) fun c => { c with nonPcm := satAdd32 c.nonPcm 1 }
        | none => s2).evtAudio src 4 reason pair 0)))) ∧
  (∀ t src pair s0 s p, s = s0.tick t → s.aud.pairs.find? (fun p => p.src = src && p.pair = pair) = some p → p.muted →
    32768 ≤ p.clean →
    exec (.nonPcmClear t src pair) s0 = .next (settle
      (let start := match s.groupOf src with
        | some gi => playAt (s.group gi) (s.groupHz (s.group gi)) p.lastN
        | none => s.local
      (s.modAud fun a => { a with
        pairs := a.pairs.map fun q => if q.src = src && q.pair = pair then { q with muted := false } else q
        routes := a.routes.map fun r =>
          if r.source = src && r.srcCh / 2 = pair then { r with npFade := some { down := false, start } } else r }).evtAudio
        src 5 0 pair 0))) ∧
  (∀ t gi s0 s g, s = s0.tick t → g = s.group gi → g.made → g.clock ≠ 0 →
    (∀ since, g.limitAt = some since → since + nsPerSec ≤ s.now → g.limit = false →
      exec (.steerLimit t gi true) s0 = .next (settle ((s.modGroup gi fun g => { g with limit := true }).evtAudio (0xA100 + gi) 6 0
        (unsigned 32 g.ppb) (s.audFill g g.clock)))) ∧
    ((∀ since, g.limitAt = some since → s.now < since + nsPerSec) →
      exec (.steerLimit t gi false) s0 = .next (settle (s.modGroup gi fun g => { g with limit := false }))))

/-- The time commands execute and reply. TIME_CONFIG stores a domain's port, number, delay mechanism, transport and intervals,
disables it or, unless nothing that names its master changed, starts it LISTENING without estimates, and fixes the residual
under the new bounds. TIME_SET with no valid domain steers to the given Time with the given uncertainty. TIME_SLEW_LIMIT fixes
the residual and sets the slew bound. TIME_ASYM and TIME_LEGACY_MODE note their setting for the next Stitch boundary. TIME_GET
and TIME_STATS change nothing but the reply, which starts with the Time and the Stitch, or with the domain's state. Its
conclusion is a next state of exec, under conditions on state and operands alone, for: timeConfig, timeGet, timeSet,
timeSlewLimit, timeAsym, timeStats, timeLegacyMode. (R316, R321, R322, R323, R329, R330, R331, R334) -/
def Obligations.TimeCommands : Prop :=
  Runs .timeConfig cmdTimeConfig (fun j s => ¬(j.u8 1 = 1 ∧ (s.dom (1 - j.u8 0)).st ≠ .disabled ∧
      (s.dom (1 - j.u8 0)).port = idIndex (j.u16 2) ∧ (s.dom (1 - j.u8 0)).number = j.u8 4)) (fun j s u p =>
    p = [] ∧ ∀ x same, x = s.dom (j.u8 0) → same = decide (x.st ≠ .disabled ∧ x.port = idIndex (j.u16 2) ∧ x.number = j.u8 4 ∧
        x.delay = j.u8 5 ∧ x.transport = j.u8 6) →
      u = ((s.modDom (j.u8 0) fun x =>
        let y := { x with
          port := idIndex (j.u16 2), number := j.u8 4, delay := j.u8 5, transport := j.u8 6, logSync := j.s8 7, logDelay := j.s8 8 }
        let fresh := { y with ests := [], lockRun := 0, master := none, delayReqPending := false, pathDelay := 0, syncTimes := none }
        if j.u8 1 ≠ 1 then { fresh with st := .disabled } else if same then y else { fresh with st := .listening }).rebase).modClk
        fun c => { c with
          oscPpb := if j.u32 12 = 0 then c.oscPpb else j.u32 12
          thetaUs := if j.u32 16 = 0 then c.thetaUs else j.u32 16 }) ∧
  Runs .timeSet cmdTimeSet (fun _ s => s.clk.domains.any Domain.valid = false) (fun j s u p =>
    p = [] ∧ u = (s.modClk fun c => { c with setUncert := some (j.u32 12), setAt := s.now, referenceSeen := true }).steer
      ((s.local : Int) - j.time 0) 1) ∧
  Runs .timeSlewLimit cmdTimeSlewLimit (fun _ _ => True) (fun j s u p =>
    p = [] ∧ u = s.modClk fun c => { c with res0 := s.residual, resAt := s.now, corr0 := s.corr, slewPpm := j.u16 0 }) ∧
  Runs .timeAsym cmdTimeAsym (fun _ _ => True) (fun j s u p =>
    p = [] ∧ u = s.modClk fun c => { c with
      asymPending := c.asymPending ++ [(idIndex (j.u16 0), { ingress := j.s16 2, egress := j.s16 4, asym := j.s32 8 })] }) ∧
  Runs .timeLegacyMode cmdTimeLegacyMode (fun _ _ => True) (fun j s u p =>
    p = [] ∧ u = s.modClk fun c => { c with
      legacyPending := c.legacyPending ++ [(idIndex (j.u16 0), decide (j.u8 2 = 1))] }) ∧
  Runs .timeGet cmdTimeGet (fun _ _ => True) (fun _ s u p =>
    u = s ∧ p = timeBytes s.local ++ leBytes 8 s.stitch ++ leBytes 2 s.timeFlags ++ leBytes 1 (s.clk.active.getD 0xFF) ++
      zeros 1 ++ leBytes 4 (sat32 s.uDev) ++ leBytes 4 (unsigned 32 (satS 32 s.residual)) ++ leBytes 2 (unsigned 16 s.utcOffset) ++
      leBytes 2 s.clk.slewPpm ++ leBytes 4 (unsigned 32 s.ratePpb) ++ leBytes 8 s.rtc.1) ∧
  Runs .timeStats cmdTimeStats (fun _ _ => True) (fun j s u p =>
    u = s ∧ ∃ m f t : List Byte, m.length = 2 ∧ f.length = 5 ∧ p = leBytes 1 (s.dom (j.u8 0)).st.code ++ m ++ f ++
      leBytes 8 ((s.dom (j.u8 0)).master.getD {}).gmId ++ leBytes 8 (unsigned 64 (s.offset (j.u8 0))) ++
      leBytes 4 (sat32 (s.dom (j.u8 0)).sigma) ++ leBytes 4 (sat32 (s.dom (j.u8 0)).pathDelay) ++
      leBytes 8 (s.dom (j.u8 0)).syncRx ++ leBytes 8 (s.dom (j.u8 0)).followUpRx ++ t)

/-- PTP messages, the domains and the RTC. A Sync of the chosen master on a running port is counted and gives an estimate. In
LISTENING and HOLDOVER it starts the domain again; in UNCALIBRATED it joins the estimates, and the eighth in a row within the
tolerance locks the domain, which the clock follows where none was active, or where TB became active at this very instant; in
LOCKED it steers where the domain is active, and one more than 100 us off restarts the domain. A master silent for its
Announce timeout is dropped, and a locked domain without its master or Sync holds over. An Announce of the master or of a
better one is taken. The evaluation of a second resets or advances the count of a better domain and switches at ten. A
Delay_Req notes its stamp, and its response gives the mean path delay from the four stamps, or from the two of a Pdelay
exchange. Its conclusion is a next state of exec, under conditions on state and operands alone, for: ptpSync, ptpAnnounce,
ptpMasterTimeout, domainEvaluation, rtcLoad, ptpDelayReqInterval, ptpDelayResponse. (R318, R319, R320, R321, R331) -/
def Obligations.PtpEvents : Prop :=
  (∀ t (m : SyncMsg) s0 s x ms s1 e, s = s0.tick t → x = s.dom m.domain → m.domain < 2 → s.portRx x.port →
    s.goodLength x.port (s.port x.port).vlan m.frameLen → x.master = some ms → ms.sender = m.sender →
    s1 = (((s.rxFrame x.port m.frameLen).modDom m.domain fun x =>
      { x with syncRx := x.syncRx + 1, followUpRx := x.followUpRx + b2n m.twoStep }).modDom m.domain fun x =>
      { x with twoStep := m.twoStep, lastSync := s.now, lastSyncLocal := s.local, syncTimes := some (m.origin, s.stamp x.port) }) →
    e = (s.stamp x.port : Int) - m.origin - x.pathDelay - (s.clk.asym.getD x.port {}).asym / 16 - s.corr →
    (x.st = .listening ∨ x.st = .holdover →
      exec (.ptpSync t m) s0 = .next (settle (s1.modDom m.domain fun x =>
        { x with st := .uncalibrated, ests := [e], lockRun := 1 }))) ∧
    (x.st = .uncalibrated → ¬((e - mean (((e :: x.ests).take 64).take 8)).natAbs ≤ s.lockTol m.domain ∧ 7 ≤ x.lockRun) →
      exec (.ptpSync t m) s0 = .next (settle (s1.modDom m.domain fun y => { y with
        ests := (e :: x.ests).take 64
        lockRun := if (e - mean (((e :: x.ests).take 64).take 8)).natAbs ≤ s.lockTol m.domain then x.lockRun + 1 else 0 }))) ∧
    (x.st = .uncalibrated → (e - mean (((e :: x.ests).take 64).take 8)).natAbs ≤ s.lockTol m.domain → 7 ≤ x.lockRun →
      exec (.ptpSync t m) s0 = .next (settle
        (let tie := decide (m.domain = 0 ∧ s.clk.active = some 1 ∧ s.clk.firstAt = some s.now)
         let s2 := (((s1.modDom m.domain fun y => { y with ests := (e :: x.ests).take 64, lockRun := x.lockRun + 1 }).modDom
            m.domain fun y => { y with st := .locked }).modClk fun c => { c with
              setUncert := none, referenceSeen := true
              active := if s.clk.active = none ∨ tie then some m.domain else c.active
              lastEval := if s.clk.active = none ∨ tie then s.now else c.lastEval
              firstAt := if s.clk.active = none ∨ tie then some s.now else c.firstAt
              established := c.established && !tie }).evtTime 2 (some m.domain) ms.clockClass 0
         (s2.when (s2.clk.active = some m.domain) (·.steerBy m.domain (e + s2.corr))).checkDisagree))) ∧
    (x.st = .locked → 100000 < (e - mean (((e :: x.ests).take 64).take 8)).natAbs →
      exec (.ptpSync t m) s0 = .next (settle ((s1.modDom m.domain fun x =>
        { x with st := .uncalibrated, ests := [e], lockRun := 1 }).modDom m.domain fun x =>
        { x with relocks := satAdd32 x.relocks 1 }))) ∧
    (x.st = .locked → (e - mean (((e :: x.ests).take 64).take 8)).natAbs ≤ 100000 →
      exec (.ptpSync t m) s0 = .next (settle
        (let s2 := s1.modDom m.domain fun y => { y with ests := (e :: x.ests).take 64 }
         (s2.when (s2.clk.active = some m.domain) (·.steerBy m.domain (e + s2.corr))).checkDisagree)))) ∧
  (∀ t d (m : AnnounceMsg) s0 s x, s = s0.tick t → x = s.dom d → d < 2 → x.st ≠ .disabled → s.portRx x.port →
    s.goodLength x.port (s.port x.port).vlan m.frameLen →
    exec (.ptpAnnounce t d m) s0 = .next (settle
      (let s1 := (s.rxFrame x.port m.frameLen).modDom d fun x => { x with announceRx := x.announceRx + 1 }
       s1.when (match x.master with
         | none => true
         | some b => b.sender = (announced m).sender || (announced m).better b) (·.modDom d fun x =>
           { x with master := some (announced m), lastAnnounce := s.now })))) ∧
  (∀ t d s0 s x quiet, s = s0.tick t → x = s.dom d → d < 2 → x.st = .locked →
    quiet = decide (x.master ≠ none ∧ x.lastAnnounce + x.announceLimit ≤ s.now) →
    quiet = true ∨ x.lastSync + 3 * expSec x.logSync ≤ s.now →
    exec (.ptpMasterTimeout t d) s0 = .next (settle (((s.when quiet (·.modDom d fun x => { x with master := none })).modDom d fun x =>
      { x with st := .holdover, holdoverSince := s.now, timeouts := satAdd32 x.timeouts 1 }).evtTime 3 (some d) 0 0))) ∧
  (∀ t s0 s a, s = s0.tick t → s.clk.active = some a → s.now / nsPerSec ≠ s.clk.lastEval / nsPerSec →
    ((s.dom (1 - a)).valid = false →
      exec (.domainEvaluation t) s0 = .next (settle (s.modClk fun c => { c with lastEval := s.now, betterRun := 0 }))) ∧
    ((s.dom (1 - a)).valid → (s.dom a).valid = false →
      exec (.domainEvaluation t) s0 = .next (settle ((s.modClk fun c => { c with lastEval := s.now }).switchTo (1 - a)))) ∧
    ((s.dom (1 - a)).valid → (s.dom a).valid → 1000000 < s.domDiff.natAbs →
      exec (.domainEvaluation t) s0 = .next (settle (s.modClk fun c => { c with lastEval := s.now, betterRun := 0 }).checkDisagree)) ∧
    ((s.dom (1 - a)).valid → (s.dom a).valid → s.domDiff.natAbs ≤ 1000000 →
      exec (.domainEvaluation t) s0 = .next (settle
        (let run := if s.ranksBetter (1 - a) a then s.clk.betterRun + 1 else 0
         ((s.modClk fun c => { c with lastEval := s.now, betterRun := run }).when (10 ≤ run)
          (·.switchTo (1 - a))).checkDisagree)))) ∧
  (∀ t d s0 s x p, s = s0.tick t → x = s.dom d → p = s.net.ports.getD x.port {} → d < 2 → x.st ≠ .disabled →
    (x.delay = 1 ∨ x.master ≠ none) → p.enable → p.link → s.portPowered x.port → x.lastDelayReq + expSec x.logDelay ≤ s.now →
    exec (.ptpDelayReqInterval t d) s0 = .next (settle (((s.modDom d fun x =>
      { x with lastDelayReq := s.now, delayReqPending := true, delayReqTx := x.delayReqTx + 1, reqStamp := s.stampSent x.port }).txFrame x.port
      ((if x.delay = 1 then 54 else 44) + (if x.transport = 0 then 28 else if x.transport = 1 then 48 else 0))).emit
      (.ptpRequest d x.port)))) ∧
  (∀ t d remote len s0 s x, s = s0.tick t → x = s.dom d → d < 2 → x.st ≠ .disabled → x.delayReqPending → s.portRx x.port →
    s.goodLength x.port (s.port x.port).vlan len →
    exec (.ptpDelayResponse t d remote len) s0 = .next (settle ((s.rxFrame x.port len).modDom d fun y =>
      { y with
        pathDelay := if x.delay = 1 then (((s.stamp x.port : Int) - x.reqStamp - remote) / 2).toNat else match x.syncTimes with
          | some (t1, t2) => ((t2 - x.reqStamp + (remote - t1)) / 2).toNat
          | none => x.pathDelay
        delayReqPending := false, delayRespRx := x.delayRespRx + 1 }))) ∧
  (∀ t s0 s, s = s0.tick t → s.clk.established → s.local / nsPerSec % 60 = 0 → (∀ f ∈ s.clk.faults, f.1 ≠ 1) →
    exec (.rtcLoad t) s0 = .next (settle (s.modClk fun c => { c with
      rtcSec := s.local / nsPerSec, rtcSub := 0, rtcAt := s.now - (s.local - s.local / nsPerSec * nsPerSec) })))

/-- Clock monitors, PORST_B, the warm reset and READY. A finding on a watched clock is logged and held; REFCLK is then lost, PCIe
goes down, or the audio ports it clocks fault. After 10 ms without a finding the clock is good again. REFCLK lost for 1 s
shows the banner, good for 1 s removes it. PORST_B leaves only the RTC, what the Hoop keeps and the roll-back events; its
release boots the slot and loads local time from the RTC, once REFCLK is good. A warm reset leaves layers, contexts,
transactions, sessions and links as after reset, keeps the Stitch number and frame counts, and boots; resets that coincide
give one. READY opens the SPI event streams and raises the held events. Its conclusion is a next state of exec, under
conditions on state and operands alone, for: clockMonitorFinding, clockGoodAgain, clockFaultBanner, refclkRecoveryEnd,
porstAssert, porstRelease, warmReset, deviceReady. (R485, R486, R487, R488, R489, R495, R497, R499) -/
def Obligations.ClockAndResetEvents : Prop :=
  (∀ t input kind freq s0 s s1, s = s0.tick t → s.watched input → 1 ≤ kind → kind ≤ 3 →
    s1 = ((s.logOnly (0x0C00 + kind) 0 [input, sat32 freq]).modClk fun c => { c with
      faults := (input, s.now) :: c.faults.filter fun f => f.1 ≠ input }) →
    (input = 0 → exec (.clockMonitorFinding t input kind freq) s0 = .next (settle s1.loseRef)) ∧
    (input = 1 → exec (.clockMonitorFinding t input kind freq) s0 = .next (settle s1)) ∧
    (input = 2 → exec (.clockMonitorFinding t input kind freq) s0 =
      .next (settle { s1 with hif := { s1.hif with pcieUp := false, enable := false } })) ∧
    (input = 3 ∨ input = 4 → exec (.clockMonitorFinding t input kind freq) s0 = .next (settle
      (s1.forEach ((List.range 8).filter fun k =>
        (s1.audPort k).enable && ((s1.audPort k).master && (s1.audPort k).clock = input - 2)) fun k s => s.audClockFault k kind))) ∧
    (8 ≤ input → exec (.clockMonitorFinding t input kind freq) s0 = .next (settle (s1.audClockFault (input - 8) kind)))) ∧
  (∀ t input s0 s f s1, s = s0.tick t → s.clk.faults.find? (fun f => f.1 = input) = some f → f.2 + 10000000 ≤ s.now →
    s1 = (s.modClk fun c => { c with faults := c.faults.filter fun f => f.1 ≠ input }) →
    (input = 0 → s.hoop.awaitRef = false → exec (.clockGoodAgain t input) s0 = .next (settle s1.regainRef)) ∧
    (input = 0 → s.hoop.awaitRef → ∃ u, exec (.clockGoodAgain t input) s0 = .next (settle u) ∧ u.hoop.awaitRef = false ∧
      u.hoop.releasedAt = s.now ∧ u.clk.refLost = false ∧ u.clk.established = false) ∧
    (input = 2 → exec (.clockGoodAgain t input) s0 =
      .next (settle { s1 with hif := { s1.hif with pcieUp := s1.domainOn 19 } })) ∧
    (input ≠ 0 → input ≠ 2 → exec (.clockGoodAgain t input) s0 = .next (settle s1))) ∧
  (∀ t s0 s, s = s0.tick t → s.clk.refLost → s.clk.refLostAt + nsPerSec ≤ s.now →
    exec (.clockFaultBanner t) s0 = .next (settle (s.modClk fun c => { c with clockFault := true }).bannersEndSr)) ∧
  (∀ t s0 s since, s = s0.tick t → s.clk.refGoodAt = some since → since + nsPerSec ≤ s.now →
    exec (.refclkRecoveryEnd t) s0 = .next (settle (s.modClk fun c => { c with refGoodAt := none, clockFault := false }))) ∧
  (∀ t s0 s u, s = s0.tick t → u = ({ State.reset with
      clk := { elapsed := s.clk.elapsed, rtcSec := s.clk.rtcSec, rtcSub := s.clk.rtcSub, rtcAt := s.clk.rtcAt }
      hoop := { s.hoop.persist with bist := { s.hoop.persist.bist with diePending := false } }
      ses := { heldEvents := s.resetEvents }
      out := s.dropPins ++ s.out, free := s.free, pending := s.pending } : State) →
    exec (.porstAssert t) s0 = .next (settle (if s.hoop.upd.st = .trial then u.failTrial 3 else u))) ∧
  (∀ t s0 s, s = s0.tick t → s.hif.hoopState = 0 → s.hif.panic = false → s.hoop.awaitRef = false → s.clk.refLost = false →
    s.slotOk s.hoop.bootSlot = false →
    ∃ u, exec (.porstRelease t) s0 = .next (settle u) ∧
      (s.slotOk (1 - s.hoop.bootSlot) → u.hif.hoopState = 1 ∧ u.hoop.running = 1 - s.hoop.bootSlot) ∧
      (s.slotOk (1 - s.hoop.bootSlot) = false → u.hif.hoopState = 0 ∧ u.hif.panic = true)) ∧
  (∀ t s0 s, s = s0.tick t → s.hif.hoopState = 0 → s.hif.panic = false → s.hoop.awaitRef = false → s.clk.refLost = false →
    s.slotOk s.hoop.bootSlot →
    ∃ u, exec (.porstRelease t) s0 = .next (settle u) ∧ u.hif = { s.hif with hoopState := 1 } ∧
      u.clk = { s.clk with
        localNs := s.rtc.1 * nsPerSec + s.rtc.2 * nsPerSec / 32768
        boundary := (s.rtc.1 * nsPerSec + s.rtc.2 * nsPerSec / 32768) / stitchNs * stitchNs
        established := false } ∧
      u.hoop.running = s.hoop.bootSlot ∧ u.hoop.fwHoop = (s.hoop.slots.getD s.hoop.bootSlot {}).version ∧ u.hoop.releasedAt = s.now ∧ u.hoop.debugOpen = decide (s.hoop.otp.lifecycle ≠ 1) ∧
      u.io = { s.io with electrodes := s.io.electrodes.mapIdx fun i e => e.powerUp (s.hoop.otp.touchRef.getD i none) } ∧
      u = { s with hif := u.hif, clk := u.clk, hoop := u.hoop, io := u.io }) ∧
  (∀ t s0 s, s = s0.tick t → s.hif.hoopState = 0 → s.hif.panic = false → s.hoop.awaitRef = false → s.clk.refLost →
    exec (.porstRelease t) s0 = .next (settle { s with
      hoop := { s.hoop with awaitRef := true }
      io := { s.io with electrodes := s.io.electrodes.mapIdx fun i e => e.powerUp (s.hoop.otp.touchRef.getD i none) } })) ∧
  (∀ t s0 s, s = s0.tick t → s.hif.hoopState = 1 → s.hoop.releasedAt = s.now → exec (.warmReset t) s0 = .next (settle s)) ∧
  (∀ t s0 s, s = s0.tick t → (s.hif.hoopState ≠ 0 ∨ s.hif.panic) → ¬(s.hif.hoopState = 1 ∧ s.hoop.releasedAt = s.now) →
    ∃ u, exec (.warmReset t) s0 = .next (settle u) ∧ u.clk.stitch = s.clk.stitch ∧ u.clk.elapsed = s.clk.elapsed ∧
      u.clk.established = false ∧ u.ses.sessions = [] ∧ u.ses.heldEvents = s.resetEvents ∧ u.txn = State.reset.txn ∧
      u.lay = State.reset.lay ∧ u.dec = State.reset.dec ∧ u.enc = State.reset.enc ∧ u.grd = State.reset.grd ∧
      u.heads = s.heads.map (fun h => { frame := h.frame }) ∧ u.pending = s.pending) ∧
  (∀ t s0 s, s = s0.tick t → s.hif.hoopState = 1 → s.hif.panic = false → s.hif.ready = false → s.hoop.bist.diePending = false →
    s.clk.refLost = false →
    ∃ u, exec (.deviceReady t) s0 = .next (settle u) ∧ u.hif.ready = true ∧ u.hif.hoopState = 2 ∧ u.clk = s.clk ∧
      u.lay = s.lay ∧ u.heads = s.heads ∧ u.mem = s.mem ∧
      (s.ses.heldEvents = [] → s.hoop.trippedReport = none → u.hif.irqStatus.testBit 10 = true ∧
        u.ses.spiStream = { opened := true } ∧ u.ses.safetyStream = { opened := true } ∧ u.ses.sessions = s.ses.sessions))

/-- Sensors, the thermal trip, the watchdog and the supplies. SENSOR_READ changes nothing and returns the words of its group. A
sample stores temperatures, supplies and rails with the Stitch; a reading at 95 C or more warns, at 90 C or less clears, one
out of range or that jumps marks the sensor faulty until 100 good ones. VDD_CORE moves towards the wanted setpoint in RUN, by
10 mV in 10 us, within its range and 0.30 V of VDD_SRAM. A gradient that has been within 25 C for a second clears its
throttle. A trip triggers the Sampler and leaves only AON and the Hoop powered, the log empty; when every healthy sensor is
below 95 C the device resets warm, as it does on the Hoop's watchdog after a trigger. A supply below 500 mV in its window
freezes the Sampler. Its conclusion is a next state of exec, under conditions on state and operands alone, for: sensorRead,
sensorSample, gradientClear, thermalTrip, thermalTripRecovery, hoopWatchdogExpiry, brownOut. (R403, R404, R405, R406, R407, R409, R426, R494, R510) -/
def Obligations.SensorAndThermalRows : Prop :=
  Runs .sensorRead cmdSensorRead (fun _ _ => True) (fun j s u p => u = s ∧ p = leBytes 1 (j.u8 0) ++
    leBytes 1 (s.sensorWords (j.u8 0)).length ++ zeros 2 ++ leBytes 4 s.hoop.sampleStitch ++
    (s.sensorWords (j.u8 0)).flatMap (leBytes 4)) ∧
  (∀ (x : Sensor) (mC : Int), -55000 ≤ mC → mC ≤ 150000 → mC - x.mC ≤ 20000 → x.mC - mC ≤ 20000 →
    (x.faulty = false → x.warned = false → 95000 ≤ mC → x.read mC = ({ x with mC, warned := true }, [1])) ∧
    (x.faulty = false → x.warned → mC ≤ 90000 → x.read mC = ({ x with mC, warned := false }, [2])) ∧
    (x.faulty = false → (x.warned = false ∧ mC < 95000 ∨ x.warned ∧ 90000 < mC) → x.read mC = ({ x with mC }, [])) ∧
    (x.faulty → x.okRun = 99 → x.read mC = ({ x with mC, faulty := false, okRun := 0 }, [6]))) ∧
  (∀ (x : Sensor) (mC : Int), x.faulty = false → (mC < -55000 ∨ 150000 < mC ∨ 20000 < mC - x.mC ∨ 20000 < x.mC - mC) →
    x.read mC = ({ x with mC, faulty := true, okRun := 0 }, [5])) ∧
  (∀ t (o : SensorObs) s0 s, s = s0.tick t → ∃ u : State, exec (.sensorSample t o) s0 = .next (settle u) ∧
    u.hoop.sensors = (s.hoop.sensors.zipIdx.map fun x => (x.1.read (o.temps.getD x.2 x.1.mC)).1) ∧
    u.hoop.sampleStitch = s.stitch32 ∧ u.hoop.supplies = o.supplies ∧
    u.hoop.rails = (o.rails.mapIdx fun i r => if i < s.hoop.pmbus.length then r else none) ∧
    u.hoop.coreMv = (if s.pwr.pstate ≠ 0 then s.hoop.coreMv
      else coreStep s.hoop.coreMv o.wantMv (o.supplies.getD 2 800) (s.now - s.hoop.coreMvAt)) ∧ u.clk = s.clk ∧ u.mem = s.mem ∧
    u.lay = s.lay ∧ u.heads = s.heads) ∧
  (∀ t s0 s at_, s = s0.tick t → s.hoop.gradient → s.hoop.gradientOkSince = some at_ → at_ + nsPerSec ≤ s.now →
    exec (.gradientClear t) s0 = .next (settle (({ s with
      hoop := { s.hoop with gradient := false, gradientOkSince := none, throttle := none, throttlePending := none } } : State).evtThermal
        s.hoop.gradientSensor 4 (s.hoop.sensors.getD s.hoop.gradientSensor {}).mC 0))) ∧
  (∀ t i mC s0 s, s = s0.tick t → s.hoop.tripped = false → 110000 ≤ mC → i < 18 → (s.hoop.sensors.getD i {}).faulty = false →
    ∃ u : State, exec (.thermalTrip t i mC) s0 = .next (settle u) ∧ u.hoop.tripped = true ∧ u.hoop.log = [] ∧
      u.pwr.on = (List.range 21).map (fun d => decide (d < 2)) ∧ u.pwr.portOpen = u.pwr.on ∧ u.hif.pcieUp = false ∧
      u.hif.ready = false ∧ u.clk = s.clk ∧ u.lay = State.reset.lay ∧ u.dec = State.reset.dec ∧ u.mem = State.reset.mem ∧
      u.hoop.otp = s.hoop.otp ∧ u.pending = s.pending) ∧
  (∀ t s0 s, s = s0.tick t → s.hoop.tripped → (∀ x ∈ s.hoop.sensors, x.faulty ∨ x.mC < 95000) →
    exec (.thermalTripRecovery t) s0 = .next (settle (warmReset s)) ∧ exec (.thermalTripRecovery t) s0 = exec (.warmReset t) s0) ∧
  (∀ t s0 s, s = s0.tick t → s.hif.hoopState ≠ 0 →
    exec (.hoopWatchdogExpiry t) s0 = .next (settle (warmReset (s.trigger 0x0101 0x0100 [])))) ∧
  (∀ t mv s0 s, s = s0.tick t → mv < 500 → exec (.brownOut t mv) s0 = .next (settle
    (let s1 := s.trigger 0x0104 0 [mv]
     if s1.hoop.sampler.st = .postTrigger then s1.freezeSampler else s1)))

/-- The event log and the Sampler. LOG_READ and SAMPLER_READ change nothing and return the entries asked for, OK_PARTIAL with
fewer than asked. SAMPLER_ARM sets POST on an armed store and arms a frozen one empty; SAMPLER_TRIGGER triggers. A trigger of
an armed store adds its record, counts the incident and starts the post-trigger phase; of a frozen one it counts as lost. Once
POST records are written the store freezes and, with flash, is copied; a finished copy is the newest of four incidents and
arms the store again, a failed one leaves it frozen. Its conclusion is a next state of exec, under conditions on state and
operands alone, for: logRead, samplerRead, samplerArm, samplerTrigger, samplerFreeze, samplerCopyDone. (R410, R411, R412, R425, R426, R427, R428, R429) -/
def Obligations.LogAndSamplerRows : Prop :=
  (∀ es : Job → State → List (Nat × List Byte), es = (fun j s => if j.u32 4 = 0 then s.logEntries (j.u8 0)
      else (s.logEntries (j.u8 0)).dropWhile fun e => e.1 ≠ j.u32 4) →
    Runs .logRead cmdLogRead (fun j s => j.u8 1 ≤ (es j s).length) (fun j s u p => u = s ∧
      p = leBytes 4 (s.logEntries (j.u8 0)).length ++ leBytes 1 (j.u8 1) ++ zeros 3 ++
        (((es j s).map (·.2)).take (j.u8 1)).flatten) ∧
    RunsPart .logRead cmdLogRead (fun j s => (es j s).length < j.u8 1 ∧ (j.u32 4 = 0 ∨ es j s ≠ [])) (fun j s u n p => u = s ∧
      n = (es j s).length ∧ p = leBytes 4 (s.logEntries (j.u8 0)).length ++ leBytes 1 n ++ zeros 3 ++
        ((es j s).map (·.2)).flatten)) ∧
  Runs .samplerRead cmdSamplerRead (fun j s => j.u8 0 = 0 ∧ j.u32 4 + j.u8 1 ≤ s.hoop.sampler.ring.length) (fun j s u p => u = s ∧
    p = leBytes 1 s.hoop.sampler.st.code ++ leBytes 1 (j.u8 1) ++ leBytes 2 (s.hoop.sampler.triggerPos.getD 0xFFFF) ++
      leBytes 4 s.hoop.sampler.lost ++ (((s.hoop.sampler.ring.drop (j.u32 4)).map Rec.samplerBytes).take (j.u8 1)).flatten) ∧
  RunsPart .samplerRead cmdSamplerRead (fun j s => j.u8 0 = 0 ∧ j.u32 4 < s.hoop.sampler.ring.length ∧
      s.hoop.sampler.ring.length < j.u32 4 + j.u8 1) (fun j s u n p => u = s ∧ n = s.hoop.sampler.ring.length - j.u32 4 ∧
    p = leBytes 1 s.hoop.sampler.st.code ++ leBytes 1 n ++ leBytes 2 (s.hoop.sampler.triggerPos.getD 0xFFFF) ++
      leBytes 4 s.hoop.sampler.lost ++ ((s.hoop.sampler.ring.drop (j.u32 4)).map Rec.samplerBytes).flatten) ∧
  (∀ m : Job → State → (Sampler → Sampler) → State, m = (fun _ s f => { s with hoop := { s.hoop with sampler := f s.hoop.sampler } }) →
    Runs .samplerArm cmdSamplerArm (fun _ s => s.hoop.sampler.st = .armed) (fun j s u p =>
      p = [] ∧ u = m j s fun x => { x with post := j.u16 0 }) ∧
    Runs .samplerArm cmdSamplerArm (fun _ s => s.hoop.sampler.st = .frozen) (fun j s u p => p = [] ∧ u = m j s fun x => { x with
      st := .armed, post := j.u16 0, ring := [], trigger := none, triggerPos := none, copyFailed := false })) ∧
  Runs .samplerTrigger cmdSamplerTrigger (fun _ _ => True) (fun j s u p => p = [] ∧ u = s.trigger 0x0107 0 [j.u32 0, j.req.session]) ∧
  (∀ (s : State) (code origin : Nat) (args : List Nat) (x : Sampler) (r : Rec), x = s.hoop.sampler →
    r = { stitch := s.clk.stitch, code, origin, args } → ∃ y : Sampler, (s.trigger code origin args).hoop.sampler = y ∧
      (x.st = .armed → (y.st = .postTrigger ∧ y.trigger = some r ∧ y.incident = x.incident + 1 ∧ r ∈ y.ring)) ∧
      (x.st = .frozen ∨ x.st = .copying → y = { x with lost := satAdd32 x.lost 1 }) ∧
      (s.trigger code origin args).hoop.samplerSinceReset = true) ∧
  (∀ t s0 s, s = s0.tick t → s.hoop.sampler.st = .postTrigger → s.hoop.sampler.remaining = 0 → ∃ u : State,
    exec (.samplerFreeze t) s0 = .next (settle u) ∧ u = s.freezeSampler ∧
    u.hoop.sampler = (if s.hoop.flashPresent then { s.hoop.sampler with st := .copying, copyFailed := false }
      else { s.hoop.sampler with st := .frozen, copyFailed := true })) ∧
  (∀ t s0 s x, s = s0.tick t → x = s.hoop.sampler → x.st = .copying → ∃ u : State,
    exec (.samplerCopyDone t true) s0 = .next (settle u) ∧
    u.hoop.sampler.st = .armed ∧ u.hoop.sampler.trigger = none ∧ u.hoop.summary = summaryOf s.hoop.log x.trigger ∧
    u.hoop.sampler.incidents = ({
      number := x.incident, stitch := (x.trigger.getD {}).stitch, code := (x.trigger.getD {}).code
      origin := (x.trigger.getD {}).origin, position := x.triggerPos.getD 0, slot := (x.incident - 1) % 4, valid := true
      records := x.ring } :: x.incidents).take 4) ∧
  (∀ t s0 s, s = s0.tick t → s.hoop.sampler.st = .copying → ∃ u : State, exec (.samplerCopyDone t false) s0 = .next (settle u) ∧
    u.hoop.sampler = { s.hoop.sampler with st := .frozen, copyFailed := true })

/-- Firmware update, trials and the delayed warm reset. UPD_BEGIN on an idle update starts receiving for its session and clears
the slot that is not running (the loader, slot A once it has read that the image is a BUNDLE); the next chunk is appended and
replies once programmed; UPD_VERIFY of a complete image whose CRC is right and that passes R418 and R423 but for the signature
makes it VERIFIED and fills the slot where the signature is good, else ends the update with E_INTEGRITY; UPD_ACTIVATE names
the slot to boot, records it and with MODE 1 resets in 100 ms; UPD_ROLLBACK abandons, withdraws, fails the trial or names the
other slot, but no other session's update; UPD_STATUS changes nothing. A healthy trial is confirmed and advances the OTP
counter; one that is not by its end names the previous slot and resets. A warm reset that is due happens. Its conclusion is a
next state of exec, under conditions on state and operands alone, for: updBegin, updChunk, updChunkProgrammed, updVerify,
updActivate, updRollback, updStatus, trialHealthy, trialTimeout, delayedWarmReset. (R418, R421, R422, R423, R424) -/
def Obligations.UpdateRows : Prop :=
  Runs .updBegin cmdUpdBegin (fun _ s => s.hoop.upd.st = .idle) (fun j s u p => p = [] ∧ u = { s with
    hoop := { s.hoop with
      slots := if s.loader then s.hoop.slots else modAt s.hoop.slots (1 - s.hoop.running) fun _ => {}
      upd := { s.hoop.upd with
        st := .receiving, session := j.req.session, transport := j.req.transport, length := j.u32 0, crc := j.u32 4, received := []
        chunks := [] } } }) ∧
  RunsLater .updChunk cmdUpdChunk (fun j s => s.hoop.upd.st = .receiving ∧ s.ownsUpdate j.req ∧
      j.u32 0 = s.hoop.upd.received.length ∧ 0 < (j.req.payload.drop 8).length ∧
      j.u32 0 + (j.req.payload.drop 8).length ≤ s.hoop.upd.length) (fun j s u => ∀ got, got = s.hoop.upd.received ++ j.req.payload.drop 8 →
    u = { s with
    hoop := { s.hoop with
      slots := if s.loader ∧ s.hoop.upd.received.length < 256 ∧ 256 ≤ got.length ∧ uAt got 6 1 = 3
        then modAt s.hoop.slots 0 fun _ => {} else s.hoop.slots
      upd := { s.hoop.upd with
        received := got
        chunks := s.hoop.upd.chunks ++ [(j.u32 0, j.req.payload.drop 8, j)] } } }) ∧
  Runs .updChunk cmdUpdChunk (fun j s => s.hoop.upd.st = .receiving ∧ s.ownsUpdate j.req ∧
      j.u32 0 + (j.req.payload.drop 8).length ≤ s.hoop.upd.received.length ∧
      (s.hoop.upd.received.drop (j.u32 0)).take (j.req.payload.drop 8).length = j.req.payload.drop 8) (fun _ s u p => p = [] ∧ u = s) ∧
  (∀ t s0 s off data j rest, s = s0.tick t → s.hoop.sampler.st ≠ .copying → s.hoop.upd.chunks = (off, data, j) :: rest →
    exec (.updChunkProgrammed t) s0 = .next (settle (({ s with
      hoop := { s.hoop with upd := { s.hoop.upd with chunks := rest } } } : State).finish j 0 0 []))) ∧
  (∀ t r s j s1 b ok, taken cmdUpdVerify t r s = some (j, s1) → clear cmdUpdVerify j s1 = true → s1.hoop.upd.st = .receiving →
    s1.ownsUpdate j.req → b = s1.hoop.upd.received → b.length = s1.hoop.upd.length → s1.hoop.upd.chunks = [] → s1.loader = false →
    crc32 b = s1.hoop.upd.crc → ok = Config.ecdsaP384Verify (uAt b 14 1) (b.take 160) ((b.drop 160).take 96) →
    s1.imageErr b [3] = (if ok then none else some ⟨eIntegrity, 2⟩) →
    exec (.updVerify t r) s = .next (settle (if ok then
      ({ s1 with
        hoop := { s1.hoop with
          slots := modAt s1.hoop.slots (1 - s1.hoop.running) fun _ => {
            valid := true, version := uAt b 8 4, arb := uAt b 12 1, bytes := b }
          upd := { s1.hoop.upd with st := .verified, imgType := 3, imgArb := uAt b 12 1, imgVersion := uAt b 8 4 } } } : State).replyAt
        j 0 0 s1.stitch32 (leBytes 1 3 ++ leBytes 1 (uAt b 12 1) ++ zeros 2)
      else ({ s1 with hoop := { s1.hoop with upd := { s1.hoop.upd with st := .idle } } } : State).replyAt j eIntegrity 2 s1.stitch32 []))) ∧
  Runs .updActivate cmdUpdActivate (fun j s => s.hoop.upd.st = .verified ∧ s.ownsUpdate j.req ∧ s.hoop.upd.imgType = 3 ∧
      s.loader = false) (fun j s u p => p = [] ∧ u.hoop.bootSlot = 1 - s.hoop.running ∧ u.hoop.upd.st = .activated ∧
    u.hoop.upd.previous = s.hoop.running ∧ u.hoop.warmAt = (if j.u8 0 = 1 then some (s.now + 100000000) else s.hoop.warmAt) ∧
    u.hoop.running = s.hoop.running ∧ u = { s with hoop := u.hoop }) ∧
  Runs .updActivate cmdUpdActivate (fun j s => s.hoop.upd.st = .verified ∧ s.ownsUpdate j.req ∧ s.hoop.upd.imgType = 1)
    (fun _ s u p => p = [] ∧ u = { s with
      hoop := { s.hoop with fwHoop := s.hoop.upd.imgVersion, upd := { s.hoop.upd with st := .idle, recoveryHoop := true } } }) ∧
  Runs .updActivate cmdUpdActivate (fun j s => s.hoop.upd.st = .verified ∧ s.ownsUpdate j.req ∧ s.hoop.upd.imgType = 2)
    (fun _ s u p => p = [] ∧ u = { s with
      hoop := { s.hoop with fwBobbin := s.hoop.upd.imgVersion, upd := { s.hoop.upd with st := .idle } } }) ∧
  Runs .updRollback cmdUpdRollback (fun j s => (s.hoop.upd.st = .receiving ∨ s.hoop.upd.st = .verified) ∧ s.ownsUpdate j.req) (fun _ s u p =>
    p = [] ∧ u = ({ s with
      hoop := { s.hoop with upd := { s.hoop.upd with st := .idle, chunks := [] } } } : State).forEach s.hoop.upd.chunks fun c y =>
        y.finish c.2.2 eState 0 []) ∧
  Runs .updRollback cmdUpdRollback (fun j s => s.hoop.upd.st = .activated ∧ (s.ownsUpdate j.req ∨
      ∀ x ∈ s.ses.sessions, ¬(x.number = s.hoop.upd.session ∧ x.transport = s.hoop.upd.transport))) (fun _ s u p => p = [] ∧ u = { s with
    hoop := { s.hoop with bootSlot := s.hoop.running, upd := { s.hoop.upd with st := .idle } } }) ∧
  Fails .updRollback cmdUpdRollback (fun j s => (s.hoop.upd.st = .receiving ∨ s.hoop.upd.st = .verified) ∧ s.ownsUpdate j.req = false)
    (fun _ _ => (eState, 0)) ∧
  Runs .updRollback cmdUpdRollback (fun _ s => s.hoop.upd.st = .trial) (fun _ s u p => p = [] ∧
    u.hoop.bootSlot = s.hoop.upd.previous ∧ u.hoop.upd.st = .idle ∧ u.hoop.upd.lastResult = 4 ∧
    u.hoop.warmAt = some (s.now + 100000000) ∧ u = { s with hoop := u.hoop }) ∧
  Runs .updRollback cmdUpdRollback (fun _ s => s.hoop.upd.st = .idle ∧ (s.hoop.slots.getD (1 - s.hoop.running) {}).valid ∧
      s.hoop.otp.arb ≤ (s.hoop.slots.getD (1 - s.hoop.running) {}).arb) (fun _ s u p => p = [] ∧ u = { s with
    hoop := { s.hoop with bootSlot := 1 - s.hoop.running } }) ∧
  Runs .updStatus cmdUpdStatus (fun _ _ => True) (fun _ s u p => u = s ∧ ∀ x a b, x = s.hoop.upd → a = s.hoop.slots.getD 0 {} →
    b = s.hoop.slots.getD 1 {} → p = leBytes 1 x.st.code ++ leBytes 1 s.hoop.running ++ leBytes 1 x.lastResult ++
      leBytes 1 s.hoop.otp.arb ++ leBytes 4 x.received.length ++ leBytes 4 x.length ++ leBytes 4 (if a.valid then a.version else 0) ++
      leBytes 4 (if b.valid then b.version else 0) ++ leBytes 1 a.arb ++ leBytes 1 b.arb ++ leBytes 1 (b2n a.valid + 2 * b2n b.valid) ++
      leBytes 1 s.hoop.otp.lifecycle ++ leBytes 4 (if x.st = .trial then (x.trialUntil - s.now) / 1000000 else 0) ++ zeros 4) ∧
  (∀ t s0 s sl, s = s0.tick t → s.hoop.upd.st = .trial → s.hif.ready → s.hoop.bobbinDown = [] →
    s.hoop.bobbinOkSince + nsPerSec ≤ s.now → s.hoop.samplerSinceReset = false → s.now ≤ s.hoop.releasedAt + 60 * nsPerSec →
    sl = s.hoop.slots.getD s.hoop.running {} → imgSection sl.bytes 3 = none →
    exec (.trialHealthy t) s0 = .next (settle (({ s with
      hoop := { s.hoop with
        otp := { s.hoop.otp with arb := max s.hoop.otp.arb sl.arb }
        upd := { s.hoop.upd with st := .idle, lastResult := 1, noTrial := false } } } : State).record 0x0A02 0
          [s.hoop.running, sl.version, sl.arb]))) ∧
  (∀ t s0 s, s = s0.tick t → s.hoop.upd.st = .trial → s.hoop.upd.trialUntil ≤ s.now → ∃ u : State,
    exec (.trialTimeout t) s0 = .next (settle u) ∧ u.hoop.bootSlot = s.hoop.upd.previous ∧ u.hoop.upd.st = .idle ∧
    u.hoop.upd.lastResult = 2 ∧ u.hoop.warmAt = some (s.now + 100000000) ∧ u = { s with hoop := u.hoop }) ∧
  (∀ t s0 s at_, s = s0.tick t → s.hoop.warmAt = some at_ →
    (at_ ≤ s.now → exec (.delayedWarmReset t) s0 = exec (.warmReset t) s0) ∧
    (s.now < at_ → exec (.delayedWarmReset t) s0 = .next (settle s)))

/-- Self-test, DisplayPort patterns and the debug port. BIST_RUN of an idle, unprotected engine of a powered domain starts a run
and replies later; of the die it arms one and resets in 100 ms. A completed run stores its results, an engine's target is then
reset and the command replies; BIST_RESULT changes nothing. DP_PATTERN sends its pattern, or ends it, on a port that is not in
training, at once or at the apply line of the bound heads that wait for one. In SECURE a challenge is the serial number and
fresh bytes; a good response within 60 s opens the debug port and uses the challenge up; a bad one does not. On the open port
a good field-return response erases the keys, sets FIELD_RETURN and resets. Its conclusion is a next state of exec, under
conditions on state and operands alone, for: bistRun, bistComplete, bistResult, dpPattern, debugUnlockResponse,
fieldReturnResponse, debugUnlockChallenge, fieldReturnChallenge. (R415, R416, R472, R474, R475, R482, R478, R479, R480) -/
def Obligations.TestAndDebugRows : Prop :=
  RunsLater .bistRun cmdBistRun (fun j s => j.u16 0 ≠ 0 ∧ engineExists (j.u16 0) ∧ s.targetOff (j.u16 0) = none ∧
      testProtected (j.u16 0) = false ∧ s.hoop.bist.st ≠ 1 ∧ s.notIdle (j.u16 0) = none) (fun j s u => u = { s with
    hoop := { s.hoop with
      bist := { st := 1, kind := j.u8 2, config := j.u8 3, origin := j.u16 0, job := some j } } }) ∧
  Runs .bistRun cmdBistRun (fun j s => j.u16 0 = 0 ∧ s.hoop.upd.st ≠ .trial ∧ s.hoop.bist.st ≠ 1 ∧ s.hoop.sampler.st ≠ .copying)
    (fun j s u p => p = [] ∧ u = { s with
      hoop := { s.hoop with
        warmAt := some (s.now + 100000000)
        bist := { st := 1, kind := j.u8 2, config := j.u8 3, origin := 0, diePending := true } } }) ∧
  (∀ t (o : BistObs) s0 s, s = s0.tick t → s.hoop.bist.st = 1 →
    (s.hoop.bist.diePending → s.hif.ready = false → s.hoop.warmAt = none →
      exec (.bistComplete t o) s0 = .next (settle { s with hoop := { s.hoop with bist := s.hoop.bist.results o } })) ∧
    (s.hoop.bist.diePending = false → exec (.bistComplete t o) s0 = .next (settle
      ((({ s with hoop := { s.hoop with bist := s.hoop.bist.results o } } : State).resetEngine s.hoop.bist.origin none).finish?
        s.hoop.bist.job 0 0 [])))) ∧
  Runs .bistResult cmdBistResult (fun j _ => j.u8 0 = 0) (fun _ s u p => u = s ∧ ∀ b, b = s.hoop.bist →
    p = leBytes 1 b.st ++ leBytes 1 b.kind ++ leBytes 1 b.config ++ leBytes 1 (b2n (b.st ≠ 0 && b.origin = 0) +
      2 * b2n (b.st = 2 && b.failures = 0) + 4 * b2n (b.records.length < b.failures)) ++ leBytes 2 b.origin ++ leBytes 2 b.failures ++
      leBytes 4 b.dieSig ++ leBytes 2 b.records.length ++ leBytes 2 b.durationMs ++
      (List.range 18).flatMap fun i => leBytes 4 (b.misr.getD i 0)) ∧
  Runs .bistResult cmdBistResult (fun j s => j.u8 0 = 1 ∧ j.u16 2 < s.hoop.bist.records.length ∧
      s.hoop.bist.records.length ≤ j.u16 2 + 82) (fun _ s u _ => u = s) ∧
  RunsPart .bistResult cmdBistResult (fun j s => j.u8 0 = 1 ∧ j.u16 2 + 82 < s.hoop.bist.records.length) (fun _ s u n _ =>
    u = s ∧ n = 82) ∧
  Runs .dpPattern cmdDpPattern (fun j s => (s.dp (idIndex (j.u16 0))).training = false ∧
      s.portWaits j = []) (fun j s u p => p = [] ∧ ∀ s1,
    s1 = ((s.dropChanges j).modDp (idIndex (j.u16 0)) (fun x => { x with pattern := j.u8 2, patternLanes := j.u8 4 })).emit
      (.dpSignal (idIndex (j.u16 0)) 1 (uAt j.req.payload 2 5)) →
    u = if j.u8 2 = 0 then s1.setDpState (idIndex (j.u16 0)) 4 else s1) ∧
  Runs .dpPattern cmdDpPattern (fun j s => (s.dp (idIndex (j.u16 0))).training = false ∧ s.portWaits j ≠ []) (fun j s u p =>
    p = [] ∧ u = s.waits j (s.portWaits j)) ∧
  (∀ (j : Job) (s : State), j.req.txn = 0 → s.portWaits j = (s.headsOf (j.u16 0)).filter fun h => !(s.head h).immediate) ∧
  (∀ t s0 s c, s = s0.tick t → s.hoop.otp.lifecycle = 1 → c = leBytes 8 s.hoop.otp.serial ++ padTo 40 (Config.freeBytes s.free 40) →
    exec (.debugUnlockChallenge t) s0 = .next (settle (({ s with
      free := s.free + 1, hoop := { s.hoop with unlock := some (c, s.now) } } : State).emit (.debugPort c)))) ∧
  (∀ t s0 s, s = s0.tick t → s.hoop.otp.lifecycle ≠ 1 → exec (.debugUnlockChallenge t) s0 = .next (settle s)) ∧
  (∀ t sig s0 s c at_, s = s0.tick t → s.hoop.otp.lifecycle = 1 → s.hoop.unlock = some (c, at_) →
    exec (.debugUnlockResponse t sig) s0 = .next (settle
      (let ok := decide (s.now ≤ at_ + 60 * nsPerSec) && Config.ecdsaP384Verify 4 c sig
       ({ s with hoop := { s.hoop with unlock := none, debugOpen := s.hoop.debugOpen || ok } } : State).record 0x0504 0 [b2n ok]))) ∧
  (∀ t sig s0 s, s = s0.tick t → s.hoop.otp.lifecycle = 1 → s.hoop.unlock = none →
    exec (.debugUnlockResponse t sig) s0 = .next (settle (s.record 0x0504 0 [0]))) ∧
  (∀ t s0 s c, s = s0.tick t → s.hoop.otp.lifecycle = 1 → s.hoop.debugOpen →
    c = [0x46, 0x52, 0x54, 0x4E] ++ leBytes 8 s.hoop.otp.serial ++ padTo 36 (Config.freeBytes s.free 36) →
    exec (.fieldReturnChallenge t) s0 = .next (settle (({ s with
      free := s.free + 1, hoop := { s.hoop with fieldReturn := some (c, s.now) } } : State).emit (.debugPort c)))) ∧
  (∀ t sig s0 s c at_, s = s0.tick t → s.hoop.otp.lifecycle = 1 → s.hoop.debugOpen → s.hoop.fieldReturn = some (c, at_) →
    exec (.fieldReturnResponse t sig) s0 = .next (settle
      (if decide (s.now ≤ at_ + 60 * nsPerSec) && Config.ecdsaP384Verify 5 c sig then
        warmReset (({ s with
          hoop := { s.hoop with
            fieldReturn := none, keys := List.replicate 5 none, flashKeys := List.replicate 5 none
            otp := { s.hoop.otp with lifecycle := 2 } } } : State).record 0x0505 0 [1])
      else ({ s with hoop := { s.hoop with fieldReturn := none } } : State).record 0x0505 0 [0])))

/-- Every command of the index is a row, and its class and opcode find it. Each of the 126 commands of the index has its row: its
intake, its checks and its meaning, then what every row ends with; and the class and opcode of a packet find exactly that
command. (R105, R74, spec/04_command_reference.md) -/
def Obligations.EveryIndexEntryIsARow : Prop :=
  IsRow .nop cmdNop ∧
  IsRow .identify cmdIdentify ∧
  IsRow .getStatus cmdGetStatus ∧
  IsRow .setEventMask cmdSetEventMask ∧
  IsRow .resetBlock cmdResetBlock ∧
  IsRow .peek cmdPeek ∧
  IsRow .poke cmdPoke ∧
  IsRow .sessionOpen cmdSessionOpen ∧
  IsRow .sessionClose cmdSessionClose ∧
  IsRow .safetyHeartbeat cmdSafetyHeartbeat ∧
  IsRow .txnBegin cmdTxnBegin ∧
  IsRow .txnCommit cmdTxnCommit ∧
  IsRow .txnRollback cmdTxnRollback ∧
  IsRow .txnQuery cmdTxnQuery ∧
  IsRow .srcOpen cmdSrcOpen ∧
  IsRow .srcClose cmdSrcClose ∧
  IsRow .srcSetFilter cmdSrcSetFilter ∧
  IsRow .srcJoin cmdSrcJoin ∧
  IsRow .srcLeave cmdSrcLeave ∧
  IsRow .srcGetStats cmdSrcGetStats ∧
  IsRow .srcSetJitter cmdSrcSetJitter ∧
  IsRow .srcSetCredit cmdSrcSetCredit ∧
  IsRow .netPortConfig cmdNetPortConfig ∧
  IsRow .netAddr cmdNetAddr ∧
  IsRow .netStats cmdNetStats ∧
  IsRow .netLoop cmdNetLoop ∧
  IsRow .decConfig cmdDecConfig ∧
  IsRow .decStart cmdDecStart ∧
  IsRow .decStop cmdDecStop ∧
  IsRow .decFlush cmdDecFlush ∧
  IsRow .decGetPool cmdDecGetPool ∧
  IsRow .decSetConceal cmdDecSetConceal ∧
  IsRow .freshSetPolicy cmdFreshSetPolicy ∧
  IsRow .freshGetState cmdFreshGetState ∧
  IsRow .freezeSet cmdFreezeSet ∧
  IsRow .freshSetTreatment cmdFreshSetTreatment ∧
  IsRow .provRead cmdProvRead ∧
  IsRow .tilePause cmdTilePause ∧
  IsRow .tileResume cmdTileResume ∧
  IsRow .layerBind cmdLayerBind ∧
  IsRow .layerPlace cmdLayerPlace ∧
  IsRow .layerScale cmdLayerScale ∧
  IsRow .layerFlip cmdLayerFlip ∧
  IsRow .layerEnable cmdLayerEnable ∧
  IsRow .layerDisable cmdLayerDisable ∧
  IsRow .blendOrder cmdBlendOrder ∧
  IsRow .layerAlpha cmdLayerAlpha ∧
  IsRow .coefLoad cmdCoefLoad ∧
  IsRow .lutLoadPre cmdLutLoadPre ∧
  IsRow .lutLoadPost cmdLutLoadPost ∧
  IsRow .tableRead cmdTableRead ∧
  IsRow .fenceCreate cmdFenceCreate ∧
  IsRow .fenceSignal cmdFenceSignal ∧
  IsRow .fenceDestroy cmdFenceDestroy ∧
  IsRow .applStyleLoad cmdApplStyleLoad ∧
  IsRow .applBanner cmdApplBanner ∧
  IsRow .applSafeMap cmdApplSafeMap ∧
  IsRow .applStatus cmdApplStatus ∧
  IsRow .headTiming cmdHeadTiming ∧
  IsRow .headBindPort cmdHeadBindPort ∧
  IsRow .headApplyLine cmdHeadApplyLine ∧
  IsRow .headGenlock cmdHeadGenlock ∧
  IsRow .headSelfRefresh cmdHeadSelfRefresh ∧
  IsRow .headEnable cmdHeadEnable ∧
  IsRow .headDisable cmdHeadDisable ∧
  IsRow .headGetCrc cmdHeadGetCrc ∧
  IsRow .portTrain cmdPortTrain ∧
  IsRow .sliceLock cmdSliceLock ∧
  IsRow .encConfig cmdEncConfig ∧
  IsRow .encStart cmdEncStart ∧
  IsRow .encStop cmdEncStop ∧
  IsRow .encSetRate cmdEncSetRate ∧
  IsRow .attestConfig cmdAttestConfig ∧
  IsRow .attestRead cmdAttestRead ∧
  IsRow .audPortConfig cmdAudPortConfig ∧
  IsRow .audRoute cmdAudRoute ∧
  IsRow .audGroup cmdAudGroup ∧
  IsRow .audTone cmdAudTone ∧
  IsRow .audStats cmdAudStats ∧
  IsRow .timeConfig cmdTimeConfig ∧
  IsRow .timeGet cmdTimeGet ∧
  IsRow .timeSet cmdTimeSet ∧
  IsRow .timeSlewLimit cmdTimeSlewLimit ∧
  IsRow .timeAsym cmdTimeAsym ∧
  IsRow .timeStats cmdTimeStats ∧
  IsRow .timeLegacyMode cmdTimeLegacyMode ∧
  IsRow .touchConfig cmdTouchConfig ∧
  IsRow .touchStatus cmdTouchStatus ∧
  IsRow .touchRecal cmdTouchRecal ∧
  IsRow .gpioConfig cmdGpioConfig ∧
  IsRow .gpioStatus cmdGpioStatus ∧
  IsRow .safeStatus cmdSafeStatus ∧
  IsRow .cbusConfig cmdCbusConfig ∧
  IsRow .cbusSend cmdCbusSend ∧
  IsRow .linkConfig cmdLinkConfig ∧
  IsRow .linkTrain cmdLinkTrain ∧
  IsRow .linkStatus cmdLinkStatus ∧
  IsRow .linkPrbs cmdLinkPrbs ∧
  IsRow .linkLoop cmdLinkLoop ∧
  IsRow .linkTxeq cmdLinkTxeq ∧
  IsRow .linkLowpower cmdLinkLowpower ∧
  IsRow .energySetBudget cmdEnergySetBudget ∧
  IsRow .energyGet cmdEnergyGet ∧
  IsRow .energySetClass cmdEnergySetClass ∧
  IsRow .pstateRequest cmdPstateRequest ∧
  IsRow .pstateStatus cmdPstateStatus ∧
  IsRow .wakeConfig cmdWakeConfig ∧
  IsRow .refusalLog cmdRefusalLog ∧
  IsRow .guardUpdate cmdGuardUpdate ∧
  IsRow .guardRead cmdGuardRead ∧
  IsRow .guardFaults cmdGuardFaults ∧
  IsRow .guardLock cmdGuardLock ∧
  IsRow .bistRun cmdBistRun ∧
  IsRow .bistResult cmdBistResult ∧
  IsRow .dpPattern cmdDpPattern ∧
  IsRow .logRead cmdLogRead ∧
  IsRow .samplerRead cmdSamplerRead ∧
  IsRow .samplerArm cmdSamplerArm ∧
  IsRow .samplerTrigger cmdSamplerTrigger ∧
  IsRow .sensorRead cmdSensorRead ∧
  IsRow .updBegin cmdUpdBegin ∧
  IsRow .updChunk cmdUpdChunk ∧
  IsRow .updVerify cmdUpdVerify ∧
  IsRow .updActivate cmdUpdActivate ∧
  IsRow .updRollback cmdUpdRollback ∧
  IsRow .updStatus cmdUpdStatus ∧
  (∀ c ∈ cmdTable, lookup c.spec.cls c.spec.op = some c) ∧
  (cmdTable.map fun c => (c.spec.cls, c.spec.op)).Nodup

/-- NOP has no effect and copies its payload; IDENTIFY returns the 64 bytes of Table 4-29. Where NOP is taken and clear, its row
replies OK with a payload equal to the request's, and what it leaves is the state the reply begins in: it has no effect. Where
IDENTIFY is, its row replies OK with the payload of Table 4-29, 64 bytes, and changes nothing: the identifier 0x4A587264, the
revision, the serial number, both firmware versions, command interface 0x0100, lifecycle, running slot, installed DRAM, anti-
rollback counter, and zeros where reserved. Its conclusion is a next state of exec, under conditions on state and operands
alone, for: nop, identify. (R115, R116) -/
def Obligations.NopAndIdentify : Prop :=
  Runs .nop cmdNop (fun _ _ => True) (fun j s u p => u = s ∧ p = j.req.payload) ∧
  Runs .identify cmdIdentify (fun _ _ => True) (fun _ s u p => u = s ∧ p.length = 64 ∧
    uAt p 0 4 = 0x4A587264 ∧ uAt p 4 4 = s.hoop.otp.rev % m32 ∧ uAt p 8 8 = s.hoop.otp.serial % m64 ∧
    uAt p 16 4 = s.hoop.fwHoop % m32 ∧ uAt p 20 4 = s.hoop.fwBobbin % m32 ∧ uAt p 24 2 = 0x0100 ∧
    uAt p 26 1 = s.hoop.otp.lifecycle % 256 ∧ uAt p 27 1 = s.hoop.running % 256 ∧ uAt p 28 2 = s.hoop.otp.dramGib % m16 ∧
    uAt p 30 2 = 0 ∧ uAt p 32 4 = s.hoop.otp.arb % m32 ∧ p.drop 36 = zeros 28)

/-- The effective age of a judged frame. Whatever the outcome of the ordered tests, the verdict of a tile whose latched frame has
a record (and, after a wake, was received since) carries as effective age the greater of the timestamp age plus its
uncertainty and the arrival age where the evidence is a timestamp, the arrival age otherwise, and the arrival age where the
verdict is UNPROVEN(TIME_UNCERTAIN). (R44) -/
def Obligations.EffectiveAge : Prop :=
  ∀ (s : State) (x : Tile) (r : GimpRec) (tScan : Nat) (arr ts : Int),
    (x.latched.bind fun l => s.rec? l.1 l.2) = some r → (∀ n, x.freshFrom = some n → n ≤ r.arrivalAt) →
    tScan = (s.head x.head).tScan ((visibleRect x.cfg (s.head x.head).timing).bottom - 1) →
    arr = (tScan : Int) - r.arrivalNs + s.creditNs x.cfg → ts = (tScan : Int) - r.captureNs →
    (s.verdict x).ageNs =
      if (s.verdict x).state = 0x16 then arr else if r.evidence ≤ 3 then max (ts + s.uncertNow r) arr else arr

/-- Every layer and blend order after PORST_B or a warm reset. After PORST_ASSERT in any state, and after WARM_RESET in any state
in which PORST_B is not low and no reset came at the same instant, every layer, those of the 128 video and 64 graphic layers
alike, is unplaced, disabled and unbound, with global alpha 255, the whole picture as its crop, COEF0, phase offsets 0 and Z
0, and its pre-blend LUT reads the decoding curve; no tile exists; and every head has a fixed blend order. Its conclusion is a
next state of exec, under conditions on state and operands alone, for: porstAssert, warmReset. (R219) -/
def Obligations.ResetLayers : Prop :=
  (∀ t s u, (exec (.porstAssert t) s = .next u ∨
      (exec (.warmReset t) s = .next u ∧ ((s.tick t).hif.hoopState ≠ 0 ∨ (s.tick t).hif.panic = true) ∧
        ¬((s.tick t).hif.hoopState = 1 ∧ (s.tick t).hoop.releasedAt = (s.tick t).now))) →
    u.lay.layers.length = 192 ∧ u.lay.tiles = [] ∧
    (∀ l ∈ u.lay.layers, ∀ c, c = l.cfg ∨ c = l.base ∨ c = l.snap → l.head = none ∧ c.enable = false ∧ c.source = none ∧
      c.alpha = 255 ∧ c.whole = true ∧ c.coef = 0 ∧ c.phaseH = 0 ∧ c.phaseV = 0 ∧ c.z = 0 ∧
      ∀ comp i, preLutAt c.preLut comp i = srgbDecode i) ∧
    ∀ h ∈ u.heads, h.programmable = false) ∧
  (∀ t s, ∃ u, exec (.porstAssert t) s = .next u) ∧ ∀ t s, ∃ u, exec (.warmReset t) s = .next u

/-- FENCE_DESTROY of a fence a committing transaction lists is refused with E_BUSY. Where FENCE_DESTROY is taken and clear and
some transaction in COMMITTING lists the fence, its row replies E_BUSY with the fence's identifier and has no effect. (R128) -/
def Obligations.FenceOfACommitStays : Prop :=
  Fails .fenceDestroy cmdFenceDestroy
    (fun j s => ∃ x ∈ s.txn.live, x.st = .committing ∧ ∃ f ∈ x.fences, f.1 = j.u16 0) (fun j _ => (eBusy, j.u16 0))

/-- A request is checked in the order of R74. Where a command is taken and nothing of its source keeps it waiting: a packet too
long replies E_LENGTH; a session not open on its transport E_SESSION; a role outside the set E_DENIED with the bitmap;
reserved FLAGS, or TXN with AT_STITCH, E_PARAM 10; a Stitch that has passed E_DEADLINE; a length not accepted E_LENGTH with
the nearest one; a bad field E_PARAM with the lowest offset; each only where none before it failed; and then TXN on a command
marked not staged E_PARAM 8. The reply is all the request does. The index lists 21 classes, 0x7F not among them; a packet on
the primary SPI port of a class not listed replies E_CLASS, one of a listed class with an opcode not listed E_OPCODE (by the
loader E_STATE). Its conclusion is a next state of exec, under conditions on state and operands alone, for: spiWritePacket. (R74, R76, R77, R92, R100, R102, R103) -/
def Obligations.OrderOfChecks : Prop :=
  (∀ (c : Cmd) (row : Nat → Request → Instr) (t : Nat) (r : Request) (s : State) (j : Job) (s1 : State),
    IsRow row c → taken c t r s = some (j, s1) → mustWait j s1 = false → s1.loader = false →
    (1008 < r.payload.length →
      exec (row t r) s = .next (settle (s1.reply j eLength (c.spec.len.nearest r.payload.length) []))) ∧
    (r.payload.length ≤ 1008 →
      (s1.sessionOpen r = false → exec (row t r) s = .next (settle (s1.reply j eSession r.session []))) ∧
      (s1.sessionOpen r → s1.roleOf r ∉ c.spec.roles → c.spec.roles.length ≠ 4 →
        exec (row t r) s = .next (settle (s1.reply j eDenied (c.spec.roles.map (2 ^ ·)).sum []))) ∧
      (s1.sessionOpen r → (s1.roleOf r ∈ c.spec.roles ∨ c.spec.roles.length = 4) →
        (8 ≤ r.flags ∨ r.txn ≠ 0 ∧ r.flags.testBit 2 → exec (row t r) s = .next (settle (s1.reply j eParam 10 []))) ∧
        (r.flags < 8 → r.txn = 0 ∨ r.flags.testBit 2 = false →
          (s1.deadlinePassed r → exec (row t r) s = .next (settle (s1.reply j eDeadline 0 []))) ∧
          (s1.deadlinePassed r = false →
            (c.spec.len.ok r.payload.length = false →
              exec (row t r) s = .next (settle (s1.reply j eLength (c.spec.len.nearest r.payload.length) []))) ∧
            (∀ off, c.spec.len.ok r.payload.length → (c.param j s1).min? = some off →
              exec (row t r) s = .next (settle (s1.reply j eParam off []))) ∧
            (check c j s1 = none → c.denied j s1 = none → r.txn ≠ 0 → c.spec.staged = false →
              exec (row t r) s = .next (settle (s1.reply j eParam 8 [])))))))) ∧
  (∀ cls, classKnown cls = true ↔ cls ∈ [0x01, 0x02, 0x10, 0x11, 0x12, 0x20, 0x21, 0x22, 0x23, 0x24, 0x25, 0x30, 0x31, 0x32, 0x33, 0x34, 0x40, 0x41, 0x50, 0x51, 0x52]) ∧
  (∀ (t cls op : Nat) (r : Request) (s s1 : State) (j : Job) (pkt : List Byte), lookup cls op = none → cls < 256 → op < 256 →
    fitsPacket r → pkt = leBytes 1 cls ++ leBytes 1 op ++ leBytes 2 (16 + r.payload.length) ++ leBytes 4 r.tag ++ leBytes 2 r.txn ++
      leBytes 1 r.flags ++ leBytes 1 r.session ++ leBytes 4 r.stitch ++ r.payload →
    r.transport = .spi → r.queue = 0 → r.peer = 0 → r.udp = 0 → r.port = 0 → r.seq = 0 →
    takeSpi cls op r (s.tick t) = (s1, some j) → mustWait j s1 = false → s1.loader = false →
    exec (.spiWritePacket t false (spiBytes pkt)) s =
      .next (settle (s1.reply j (if cls ∈ [0x01, 0x02, 0x10, 0x11, 0x12, 0x20, 0x21, 0x22, 0x23, 0x24, 0x25, 0x30, 0x31, 0x32, 0x33, 0x34, 0x40, 0x41, 0x50, 0x51, 0x52] then eOpcode else eClass) 0 [])))

/-- A command is checked against its objects in the order of R104. For every command of the index that passes R74, is not staged
and waits for nothing, one that is to be deferred included: the first identifier out of range or not created replies
E_NO_OBJECT with its offset; else the first whose power domain is off, or its fabric port closed, E_DOMAIN_OFF with the
domain; else a protected object E_PROTECTED; else the first under test E_BUSY. The reply is all the command does. (R104, R106, R114) -/
def Obligations.OrderOfObjectChecks : Prop :=
  (∀ (s : State) (id : Nat), s.objOff id = none ↔ ∀ d, idDomain id = some d → s.domainOn d ∧ s.pwr.portOpen.getD d true ∧
    (idType id = 0xD → s.portPowered (idIndex id))) ∧
  (∀ (s : State) (id d : Nat), s.objOff id = some d → idDomain id = some d) ∧
  ∀ (c : Cmd) (row : Nat → Request → Instr) (t : Nat) (r : Request) (s : State) (j : Job) (s1 : State),
    IsRow row c → taken c t r s = some (j, s1) → mustWait j s1 = false → check c j s1 = none → c.denied j s1 = none →
    r.txn = 0 →
    (∀ n, (c.names j).find? (fun n => !(idInRange n.2 && (c.creates || s1.objExists n.2))) = some n →
      exec (row t r) s = .next (settle (s1.reply j eNoObject n.1 []))) ∧
    ((∀ n ∈ c.names j, idInRange n.2 ∧ (c.creates ∨ s1.objExists n.2)) →
      (∀ n d, (c.names j).find? (fun n => (s1.objOff n.2).isSome) = some n → s1.objOff n.2 = some d →
        exec (row t r) s = .next (settle (s1.reply j eDomainOff (0xF200 + d) []))) ∧
      ((∀ n ∈ c.names j, s1.objOff n.2 = none) →
        (∀ o, c.protect j s1 = some o → exec (row t r) s = .next (settle (s1.reply j eProtected o []))) ∧
        (∀ n, c.protect j s1 = none → (c.names j).find? (fun n => s1.underTest n.2) = some n →
          exec (row t r) s = .next (settle (s1.reply j eBusy n.2 [])))))

/-- A command that carries a TXN is staged. A staged-class command with a non-zero TXN that passes R74 is checked in the order of
R123: no open transaction of its session (still the one that began it) under that handle E_TXN_UNKNOWN with the handle; an
identifier out of range E_NO_OBJECT; a protected object E_PROTECTED; an object held by another transaction E_TXN_CONFLICT with
that transaction's handle; 512 commands already E_TXN_FULL with DETAIL 2. Passing all, it is appended, the transaction holds
the objects it names and its idle timer restarts, and the reply is OK_STAGED (status 1) with the number staged; nothing else
changes. (R77, R123, R124) -/
def Obligations.StagedCommands : Prop :=
  ∀ (c : Cmd) (row : Nat → Request → Instr) (t : Nat) (r : Request) (s : State) (j : Job) (s1 : State),
    IsRow row c → taken c t r s = some (j, s1) → mustWait j s1 = false → check c j s1 = none → c.denied j s1 = none →
    r.txn ≠ 0 → c.spec.staged →
    ((∀ x, s1.txn? r.txn = some x → ¬(x.st = .open_ ∧ x.orphan = false ∧ x.session = r.session ∧ x.transport = r.transport)) →
      exec (row t r) s = .next (settle (s1.reply j eTxnUnknown r.txn []))) ∧
    ∀ x, s1.txn? r.txn = some x → x.st = .open_ → x.orphan = false → x.session = r.session →
      x.transport = r.transport →
      (∀ n, (c.names j).find? (fun n => !idInRange n.2) = some n → exec (row t r) s = .next (settle (s1.reply j eNoObject n.1 []))) ∧
      ((∀ n ∈ c.names j, idInRange n.2) →
        (∀ o, c.protect j s1 = some o → exec (row t r) s = .next (settle (s1.reply j eProtected o []))) ∧
        (c.protect j s1 = none →
          (∀ y, s1.txn.live.find? (fun y => y.handle ≠ r.txn && (c.names j).any fun n => y.objects.contains n.2) = some y →
            exec (row t r) s = .next (settle (s1.reply j eTxnConflict y.handle []))) ∧
          ((∀ y ∈ s1.txn.live, y.handle ≠ r.txn → ∀ n ∈ c.names j, n.2 ∉ y.objects) →
            (512 ≤ x.staged.length → exec (row t r) s = .next (settle (s1.reply j eTxnFull 2 []))) ∧
            (x.staged.length < 512 → exec (row t r) s = .next (settle ((s1.modTxn r.txn fun x => { x with
              staged := x.staged ++ [j], idleSince := s1.now, objects := x.objects ++ (c.names j).map (·.2) }).reply
                j 1 (x.staged.length + 1) []))))))

/-- The STITCH field: deadline, now, or deferred. The field names the nearest Stitch, at the signed distance d with -2^31 <= d <
2^31. Without AT_STITCH it is a deadline, 0 none, that has passed when d < 0; with it every value names a Stitch, passed when
d < 0. A command with AT_STITCH and d > 0 that passes R74 is checked at once as if it executed now: what R104 or the command's
own conditions refuse is the reply, with no effect. Passing, with 256 deferred it replies E_NO_RESOURCE, else it joins the
deferred commands for Stitch N + d and replies OK_DEFERRED (status 2) naming that Stitch; nothing else changes. (R76) -/
def Obligations.DeferredCommands : Prop :=
  (∀ (s : State) (f : Nat), f < m32 → -2147483648 ≤ s.stitchDist f ∧ s.stitchDist f < 2147483648 ∧
    ((s.stitch : Int) + s.stitchDist f - f) % 4294967296 = 0) ∧
  (∀ (s : State) (r : Request), s.deadlinePassed r = decide (s.stitchDist r.stitch < 0 ∧ (r.flags.testBit 2 ∨ r.stitch ≠ 0))) ∧
  ∀ (c : Cmd) (row : Nat → Request → Instr) (t : Nat) (r : Request) (s : State) (j : Job) (s1 : State),
    IsRow row c → taken c t r s = some (j, s1) → mustWait j s1 = false → check c j s1 = none → c.denied j s1 = none →
    r.txn = 0 → r.flags.testBit 2 → 0 < s1.stitchDist r.stitch →
    (∀ e, checkObjects c j s1 = some e → exec (row t r) s = .next (settle (s1.reply j e.status e.detail []))) ∧
    (∀ st d, execCmd c.budgeted j s1 = .fail st d →
      st ∈ [eParam, eNoObject, eDomainOff, eProtected, eBusy, eState, eNoResource, eBudget] →
      exec (row t r) s = .next (settle (s1.reply j st d []))) ∧
    ((∀ st d, execCmd c.budgeted j s1 ≠ .fail st d) → (∀ s2 st d, execCmd c.budgeted j s1 ≠ .failWith s2 st d) →
    (256 ≤ s1.txn.deferred.length → exec (row t r) s = .next (settle (s1.reply j eNoResource 0 []))) ∧
    (s1.txn.deferred.length < 256 → exec (row t r) s = .next (settle (({ s1 with
      txn := { s1.txn with
        deferred := s1.txn.deferred ++ [{
          job := { j with deferred := true }, stitch := s1.stitch + (s1.stitchDist r.stitch).toNat }] } } : State).replyAt
            j 2 0 (s1.stitch + (s1.stitchDist r.stitch).toNat) []))))

/-- ORDERED holds a command until its source has nothing in progress. A command that is taken while a command of its source is in
progress, when it or one of those has ORDERED, or while an earlier one of its source is held, has no effect but to join the
held commands of its source. Sources are a submission queue, an SPI port, a session of the network. When the first held
command of a source has nothing to wait for, it begins. (R78) -/
def Obligations.OrderedCommands : Prop :=
  (∀ (c : Cmd) (row : Nat → Request → Instr) (t : Nat) (r : Request) (s : State) (j : Job) (s1 : State),
    IsRow row c → taken c t r s = some (j, s1) →
    ((∃ k ∈ s1.hif.inflight, sameSource j k ∧ k.deferred = false ∧
        (j.ordered ∨ ∃ k2 ∈ s1.hif.inflight, sameSource j k2 ∧ k2.deferred = false ∧ k2.ordered)) ∨
      ∃ k ∈ s1.hif.held, sameSource j k) →
    exec (row t r) s = .next (settle { s1 with hif := { s1.hif with held := s1.hif.held ++ [j] } })) ∧
  (∀ a b : Job, sameSource a b = true → a.req.transport = b.req.transport ∧
    (a.req.transport = .pcie → a.req.queue = b.req.queue) ∧ (a.req.transport = .network → a.req.session = b.req.session)) ∧
  (∀ (s : State) (j : Job), s.hif.held = [j] → (∀ k ∈ s.hif.inflight, sameSource j k = true → k.deferred) →
    s.beginHeld = beginAny j { s with hif := { s.hif with held := [] } })

/-- The reply on each transport. Every reply header is that of Table 3-2. On an SPI port and in a network session a failure is
always answered, by the header alone; a success is answered, with its payload, exactly when REPLY_WANTED is set; an SPI port
holds one command fewer after either. On PCIe with the link up every reply posts one completion entry on the paired queue, and
a payload goes whole into the reply buffer whose index the entry names, 1024 bytes for each index from the pool's base, the
entry 32 bytes for each index from the ring's. A deferred command has no reply, and its failure raises EVT_TXN with its TAG. (R73, R75, R76, R81) -/
def Obligations.ReplyPackets : Prop :=
  ∀ (s s0 : State) (j : Job) (st detail at_ : Nat) (p body hdr : List Byte),
    s0 = s.sample 0x1001 0 [j.cls + 256 * j.op + 65536 * st, j.req.tag, j.req.session, j.firstId] →
    body = (if st.testBit 15 ∨ j.req.flags.testBit 0 = false then [] else p) →
    hdr = leBytes 1 j.cls ++ leBytes 1 j.op ++ leBytes 2 (16 + body.length) ++ leBytes 4 j.req.tag ++ leBytes 2 st ++
      leBytes 2 detail ++ leBytes 4 at_ →
    (j.deferred = false → ∀ safety, j.req.transport = (if safety then .safetySpi else .spi) →
      s.replyAt j st detail at_ p = s0.setSpiPort safety { s0.spiPort safety with
        held := (s0.spiPort safety).held - 1
        waiting := if st.testBit 15 ∨ j.req.flags.testBit 0 then (s0.spiPort safety).waiting ++ [hdr ++ body]
          else (s0.spiPort safety).waiting }) ∧
    (j.deferred = false → j.req.transport = .network → j.req.session ≠ 0 →
      s.replyAt j st detail at_ p = if st.testBit 15 ∨ j.req.flags.testBit 0 then s0.sendDatagram j.req.session (hdr ++ body)
        else s0) ∧
    (j.deferred = false → j.req.transport = .pcie → s0.hif.pcieUp → body = [] → j.buf = false → j.req.queue < s0.hif.cqs.length →
      s.replyAt j st detail at_ p = (({ s0 with
        hif := { s0.hif with cqs := s0.hif.cqs.set j.req.queue (s0.hif.cqs.getD j.req.queue {}).post } } : State).emit
          (.completion j.req.queue (slotAt (s0.hif.cqs.getD j.req.queue {}).base 32 (s0.hif.cqs.getD j.req.queue {}).tail) (hdr ++
            leBytes 4 0xFFFFFFFF ++ leBytes 2 j.sqHead ++
            leBytes 2 (b2n (s0.hif.cqs.getD j.req.queue {}).phase) ++ zeros 8))).raiseIrq j.req.queue) ∧
    (j.deferred = false → j.req.transport = .pcie → s0.hif.pcieUp → body ≠ [] → j.buf → 5 ≤ (s0.hif.rbuf.free) →
      s0.hif.rbuf.cons + 1 < m16 → ∃ u : State, s.replyAt j st detail at_ p = u ∧
        u.hif.rbuf.cons = s0.hif.rbuf.cons + 1 ∧
        .replyBuffer (s0.hif.rbuf.cons % s0.hif.rbuf.count)
          (slotAt s0.hif.rbuf.base 1024 (s0.hif.rbuf.cons % s0.hif.rbuf.count)) (hdr ++ body) ∈ u.out ∧
        .completion j.req.queue (slotAt (s0.hif.cqs.getD j.req.queue {}).base 32 (s0.hif.cqs.getD j.req.queue {}).tail) (hdr ++
          leBytes 4 (s0.hif.rbuf.cons % s0.hif.rbuf.count) ++ leBytes 2 j.sqHead ++
            leBytes 2 (b2n (s0.hif.cqs.getD j.req.queue {}).phase) ++ zeros 8) ∈ u.out) ∧
    (j.deferred → s.replyAt j st detail at_ p = if st.testBit 15 then s0.raise 0x0B 0 (leBytes 2 0 ++ leBytes 1 4 ++ leBytes 1 0 ++
      leBytes 2 st ++ leBytes 2 0 ++ leBytes 4 j.req.tag ++ zeros 4) else s0)

/-- A new transaction gets a handle from 1 to 65,535 that no live or recent one has. While at most 4 transactions are live and at
most 16 finished ones are kept, the handle TXN_BEGIN assigns lies in 1 to 65,535 and is none of theirs; where the handle after
the previous one (1 after 65,535) is free, it is that one. (R120) -/
def Obligations.NextHandleIsFree : Prop :=
  ∀ (s : State) (used : List Nat), used = s.txn.live.map (·.handle) ++ s.txn.finished.map (·.handle) →
    s.txn.live.length ≤ 4 → s.txn.finished.length ≤ 16 →
    1 ≤ s.nextHandle ∧ s.nextHandle ≤ 65535 ∧ s.nextHandle ∉ used ∧
    (s.txn.lastHandle ≤ 65535 → (if s.txn.lastHandle = 65535 then 1 else s.txn.lastHandle + 1) ∉ used →
      s.nextHandle = if s.txn.lastHandle = 65535 then 1 else s.txn.lastHandle + 1)

/-- What reset leaves, by the spec. At reset the device is not ready and no command is in progress, held or waiting; no session is
open; no transaction, staged change or deferred command exists and the last handle is 0; ENABLE is 0; no event is held; every
head is untimed and disabled; no tile and no fence exists; no ingest channel is open; no port trains; memory is in canonical
form; and no transaction is in APPLYING. Values the model chose (log entries 1 to 3) are no part of it. (R97, R120, R219, R240) -/
def Obligations.ResetState : Prop :=
  State.reset.hif.ready = false ∧ State.reset.hif.inflight = [] ∧ State.reset.hif.held = [] ∧ State.reset.pending = [] ∧
  State.reset.ses.sessions = [] ∧ State.reset.ses.heldEvents = [] ∧ State.reset.txn.live = [] ∧ State.reset.txn.changes = [] ∧
  State.reset.txn.deferred = [] ∧ State.reset.txn.finished = [] ∧ State.reset.txn.lastHandle = 0 ∧ State.reset.hif.enable = false ∧
  (∀ h ∈ State.reset.heads, h.st = .untimed ∧ h.accEnable = false) ∧ State.reset.lay.tiles = [] ∧
  (∀ f ∈ State.reset.lay.fences, f.made = false) ∧ (∀ c ∈ State.reset.net.srcs, c.st = .closed) ∧
  (∀ p ∈ State.reset.ports, p.st = 0) ∧ Memory.wf State.reset.mem ∧ State.reset.applyingWaits

/-- A transaction in APPLYING always has a change to make. Every step from every state, reached or not, leaves a state in which
each transaction in APPLYING has a change that waits: when the last one is made, that very step ends the transaction as
APPLIED (with its event), so no step leaves a transaction that has nothing left to apply. On the empty queue the invariant
must hold before. (R121, R137) -/
def Obligations.ApplyingWaitsIsKept : Prop :=
  (∀ s u : State, s.applyingWaits → step s = .next u → u.applyingWaits) ∧
  ∀ s u : State, s.pending ≠ [] → step s = .next u → u.applyingWaits

/-- What every row ends with is nothing when nothing waits. When no command is held, local time has not stepped forward at this
instant and every transaction in APPLYING has a change that waits, what every row ends with leaves the state as it is: the
rows' own effects are then all that happens. (R78, R121, R324) -/
def Obligations.QuietSettle : Prop :=
  ∀ s : State, s.hif.held = [] → s.clk.lastForward ≠ some s.now → s.applyingWaits → settle s = s
end

