-- ==== Sys2Proof/Laws/Frames.lean ====
section
/-! SUPPORT. What events, log records and replies can change: the host interface, the sessions, the network ports, the Hoop's
log and Sampler, and the outputs; nothing else of the state. -/
namespace Sys2Proof.Machine

/-- `u` differs from `s` at most in what delivery to the host touches. -/
def Delivers (s u : State) : Prop := u = { s with hif := u.hif, ses := u.ses, net := u.net, hoop := u.hoop, out := u.out }

theorem Delivers.refl (s : State) : Delivers s s := rfl

theorem Delivers.trans {s u v : State} (h1 : Delivers s u) (h2 : Delivers u v) : Delivers s v := by
  unfold Delivers at *
  rw [h2, h1]

theorem Delivers.after {s u v : State} (h2 : Delivers u v) (h1 : Delivers s u) : Delivers s v := h1.trans h2

theorem Delivers.ite {s u v : State} {c : Prop} [Decidable c] (h1 : Delivers s u) (h2 : Delivers s v) :
    Delivers s (if c then u else v) := by
  split
  · exact h1
  · exact h2

theorem Delivers.when {s : State} {b : Bool} {f : State → State} (h : Delivers s (f s)) : Delivers s (s.when b f) :=
  Delivers.ite h (Delivers.refl s)

theorem Delivers.forEach {α : Type} {f : α → State → State} (h : ∀ a s, Delivers s (f a s)) :
    ∀ (l : List α) (s : State), Delivers s (s.forEach l f)
  | [], s => Delivers.refl s
  | a :: l, s => (h a s).trans (Delivers.forEach h l (f a s))

/-! ### What a delivery leaves -/

theorem Delivers.clk_eq {s u : State} (h : Delivers s u) : u.clk = s.clk := by rw [h]
theorem Delivers.txn_eq {s u : State} (h : Delivers s u) : u.txn = s.txn := by rw [h]
theorem Delivers.pwr_eq {s u : State} (h : Delivers s u) : u.pwr = s.pwr := by rw [h]
theorem Delivers.dec_eq {s u : State} (h : Delivers s u) : u.dec = s.dec := by rw [h]
theorem Delivers.lay_eq {s u : State} (h : Delivers s u) : u.lay = s.lay := by rw [h]
theorem Delivers.heads_eq {s u : State} (h : Delivers s u) : u.heads = s.heads := by rw [h]
theorem Delivers.ports_eq {s u : State} (h : Delivers s u) : u.ports = s.ports := by rw [h]
theorem Delivers.enc_eq {s u : State} (h : Delivers s u) : u.enc = s.enc := by rw [h]
theorem Delivers.aud_eq {s u : State} (h : Delivers s u) : u.aud = s.aud := by rw [h]
theorem Delivers.nrg_eq {s u : State} (h : Delivers s u) : u.nrg = s.nrg := by rw [h]
theorem Delivers.grd_eq {s u : State} (h : Delivers s u) : u.grd = s.grd := by rw [h]
theorem Delivers.lnk_eq {s u : State} (h : Delivers s u) : u.lnk = s.lnk := by rw [h]
theorem Delivers.io_eq {s u : State} (h : Delivers s u) : u.io = s.io := by rw [h]
theorem Delivers.mem_eq {s u : State} (h : Delivers s u) : u.mem = s.mem := by rw [h]
theorem Delivers.free_eq {s u : State} (h : Delivers s u) : u.free = s.free := by rw [h]
theorem Delivers.pending_eq {s u : State} (h : Delivers s u) : u.pending = s.pending := by rw [h]

/-! ### The operations of delivery -/

theorem emit_delivers (s : State) (o : Output) : Delivers s (s.emit o) := rfl

theorem raiseIrq_delivers (s : State) (c : Nat) : Delivers s (s.raiseIrq c) := by
  unfold State.raiseIrq
  split
  · rfl
  · dsimp only; split <;> rfl

theorem sample_delivers (s : State) (c o : Nat) (a : List Nat) : Delivers s (s.sample c o a) := rfl
theorem logOnly_delivers (s : State) (c o : Nat) (a : List Nat) : Delivers s (s.logOnly c o a) := by
  unfold Delivers State.logOnly
  rfl
theorem record_delivers (s : State) (c o : Nat) (a : List Nat) : Delivers s (s.record c o a) :=
  (sample_delivers s c o a).trans (logOnly_delivers _ c o a)
theorem txFrame_delivers (s : State) (p n : Nat) : Delivers s (s.txFrame p n) := rfl
theorem modSession_delivers (s : State) (n : Nat) (f : Session → Session) : Delivers s (s.modSession n f) := rfl

theorem setSpiPort_delivers (s : State) (b : Bool) (p : Spi) : Delivers s (s.setSpiPort b p) := by
  unfold State.setSpiPort
  dsimp only
  refine Delivers.trans ?_ (Delivers.when rfl)
  split <;> rfl

theorem sendDatagram_delivers (s : State) (n : Nat) (b : List Byte) : Delivers s (s.sendDatagram n b) := by
  unfold State.sendDatagram
  split
  · rfl
  · exact Delivers.ite (Delivers.refl _) rfl

theorem offerPcie_delivers (s : State) (e : Event) : Delivers s (s.offerPcie e) := by
  unfold State.offerPcie
  dsimp only
  split
  · exact (raiseIrq_delivers _ 5).after rfl
  · exact (raiseIrq_delivers _ 4).after rfl

theorem offerSpi_delivers (s : State) (b : Bool) (e : Event) : Delivers s (s.offerSpi b e) := by
  cases b <;>
  · unfold State.offerSpi
    dsimp only
    split
    · exact (setSpiPort_delivers _ _ _).after rfl
    · exact (setSpiPort_delivers _ _ _).after rfl

theorem offerNet_delivers (s : State) (n : Nat) (e : Event) : Delivers s (s.offerNet n e) := by
  unfold State.offerNet
  split
  · rfl
  · dsimp only
    split
    · rfl
    · exact (sendDatagram_delivers _ _ _).after rfl

theorem offer_delivers (s : State) (e : Event) : Delivers s (s.offer e) := by
  unfold State.offer
  refine Delivers.trans ?_ (Delivers.forEach (fun (a : Session) s => offerNet_delivers s a.number e) _ _)
  refine Delivers.trans ?_ (Delivers.when (offerSpi_delivers _ _ _))
  refine Delivers.trans ?_ (Delivers.when (offerSpi_delivers _ _ _))
  exact Delivers.when (offerPcie_delivers _ _)

/-- Raising an event changes nothing but what delivery touches. -/
theorem raise_delivers (s : State) (op src : Nat) (d : List Byte) : Delivers s (s.raise op src d) :=
  Delivers.trans (sample_delivers s _ _ _) (offer_delivers _ _)

theorem raiseOnce_delivers (s : State) (op src c : Nat) (d : List Byte) : Delivers s (s.raiseOnce op src c d) := by
  unfold State.raiseOnce
  split
  · rfl
  · exact (raise_delivers _ _ _ _).after rfl

theorem evtTxn_delivers (s : State) (a b c d e f : Nat) : Delivers s (s.evtTxn a b c d e f) := raise_delivers _ _ _ _

theorem evtSampler_delivers (s : State) (a b c : Nat) : Delivers s (s.evtSampler a b c) := raise_delivers _ _ _ _

theorem trigger_delivers (s : State) (c o : Nat) (a : List Nat) : Delivers s (s.trigger c o a) := by
  unfold State.trigger
  dsimp only
  split
  · exact (evtSampler_delivers _ _ _ _).after rfl
  · rfl
  · exact (evtSampler_delivers _ _ _ _).after rfl
  · exact (evtSampler_delivers _ _ _ _).after rfl

theorem complete_delivers (s : State) (j : Job) (a b c : Nat) (p : List Byte) : Delivers s (s.complete j a b c p) := by
  unfold State.complete
  dsimp only
  split
  · rfl
  · refine Delivers.trans ?_ (Delivers.when (raiseIrq_delivers _ _))
    refine Delivers.trans ?_ (raiseIrq_delivers _ _)
    exact (Delivers.when (emit_delivers _ _)).trans rfl

/-- A reply changes nothing but what delivery touches. -/
theorem replyAt_delivers (s : State) (j : Job) (a b c : Nat) (p : List Byte) : Delivers s (s.replyAt j a b c p) := by
  unfold State.replyAt
  dsimp only
  refine Delivers.trans (sample_delivers s 0x1001 0 [j.cls + 256 * j.op + 65536 * a, j.req.tag, j.req.session, j.firstId]) ?_
  generalize s.sample 0x1001 0 [j.cls + 256 * j.op + 65536 * a, j.req.tag, j.req.session, j.firstId] = v
  split
  · exact Delivers.when (evtTxn_delivers _ _ _ _ _ _ _)
  · split
    · exact complete_delivers _ _ _ _ _ _
    · refine Delivers.ite (Delivers.refl _) (Delivers.ite ?_ (sendDatagram_delivers _ _ _))
      exact Delivers.ite (Delivers.refl _) (Delivers.trans (txFrame_delivers _ _ _) (emit_delivers _ _))
    all_goals exact Delivers.ite (setSpiPort_delivers _ _ _) (setSpiPort_delivers _ _ _)

theorem reply_delivers (s : State) (j : Job) (a b : Nat) (p : List Byte) : Delivers s (s.reply j a b p) :=
  replyAt_delivers _ _ _ _ _ _

theorem finish_delivers (s : State) (j : Job) (a b : Nat) (p : List Byte) : Delivers s (s.finish j a b p) := by
  unfold State.finish
  split
  · exact (reply_delivers _ _ _ _ _).after rfl
  · rfl

theorem finish?_delivers (s : State) (j : Option Job) (a b : Nat) (p : List Byte) : Delivers s (s.finish? j a b p) := by
  cases j
  · rfl
  · exact finish_delivers _ _ _ _ _

end Sys2Proof.Machine
end

