-- ==== Sys2Proof/Laws/Host.lean ====
section
/-! SUPPORT. What a host command's row answers, by the result its execution gives. -/
namespace Sys2Proof.Machine

/-- The budget wrapper changes only the execution. -/
theorem budgeted_spec (c : Cmd) : c.budgeted.spec = c.spec := rfl

theorem check_budgeted (c : Cmd) (j : Job) (s : State) : check c.budgeted j s = check c j s := rfl

theorem checkObjects_budgeted (c : Cmd) (j : Job) (s : State) : checkObjects c.budgeted j s = checkObjects c j s := rfl

/-- A command that is taken and clear concludes with what its execution gives. -/
theorem host_clear {c : Cmd} {t : Nat} {r : Request} {s s1 : State} {j : Job}
    (ht : taken c t r s = some (j, s1)) (hc : clear c j s1 = true) :
    host c.budgeted r (s.tick t) = conclude j s1 (c.run j s1) := by
  unfold taken at ht
  unfold host
  rw [budgeted_spec]
  generalize intake c.spec.cls c.spec.op c.spec.reply true r (s.tick t) = k at ht ⊢
  obtain ⟨s0, jo⟩ := k
  cases jo with
  | none => simp at ht
  | some j0 =>
    simp only [Option.some.injEq, Prod.mk.injEq] at ht
    obtain ⟨rfl, rfl⟩ := ht
    simp only [clear, Bool.and_eq_true, Bool.not_eq_true', Option.isNone_iff_eq_none, decide_eq_true_eq] at hc
    obtain ⟨⟨⟨⟨⟨⟨hw, hk⟩, hd⟩, hx⟩, ha⟩, ho⟩, hb⟩ := hc
    have hd' : c.budgeted.denied j0 (s0.accepted_ r) = none := hd
    simp only [takeUp, begin_, check_budgeted, hw, hk, hd', hx, ha, execCmd, checkObjects_budgeted, ho]
    simp only [Bool.false_eq_true, if_false, ne_eq, not_true_eq_false]
    congr 1
    show withBudget j0 (s0.accepted_ r) (c.run j0 (s0.accepted_ r)) = _
    unfold withBudget
    split <;> simp_all

/-- The job of a taken command carries its class and opcode and the request itself, and is not a deferred one. -/
theorem taken_job {c : Cmd} {t : Nat} {r : Request} {s s1 : State} {j : Job} (h : taken c t r s = some (j, s1)) :
    j.cls = c.spec.cls ∧ j.op = c.spec.op ∧ j.req = r ∧ j.deferred = false := by
  have key : ∀ cls op reply s0 k, intake cls op reply true r s0 = (k, some j) →
      j.cls = cls ∧ j.op = op ∧ j.req = r ∧ j.deferred = false := by
    intro cls op reply s0 k hk
    unfold intake at hk
    split at hk
    · unfold takeEntry at hk; dsimp only at hk; split at hk
      · simp at hk
      · split at hk <;> simp at hk; simp [← hk.2]
    · unfold takeSpi at hk; dsimp only at hk; split at hk <;> first | (split at hk <;> simp at hk; simp [← hk.2]) | simp at hk
    · unfold takeSpi at hk; dsimp only at hk; split at hk <;> first | (split at hk <;> simp at hk; simp [← hk.2]) | simp at hk
    · split at hk
      · simp at hk
      · unfold takeNet at hk; dsimp only at hk
        split at hk
        · split at hk <;> simp at hk; simp [← hk.2]
        · split at hk
          · simp at hk
          · split at hk <;> simp at hk; simp [← hk.2]
  unfold taken at h
  generalize hk : intake c.spec.cls c.spec.op c.spec.reply true r (s.tick t) = k at h
  obtain ⟨s0, jo⟩ := k
  cases jo with
  | none => simp at h
  | some j0 =>
    simp only [Option.some.injEq, Prod.mk.injEq] at h
    obtain ⟨rfl, -⟩ := h
    exact key _ _ _ _ _ hk

/-- A clear command whose execution succeeds replies OK. -/
theorem host_ok {c : Cmd} {t : Nat} {r : Request} {s s1 u : State} {j : Job} {p : List Byte}
    (ht : taken c t r s = some (j, s1)) (hc : clear c j s1 = true) (hr : c.run j s1 = .ok u p) :
    host c.budgeted r (s.tick t) = u.replyAt j 0 0 s1.stitch32 p := by
  rw [host_clear ht hc, hr]; rfl

/-- A clear command whose execution is partial replies OK_PARTIAL. -/
theorem host_part {c : Cmd} {t : Nat} {r : Request} {s s1 u : State} {j : Job} {n : Nat} {p : List Byte}
    (ht : taken c t r s = some (j, s1)) (hc : clear c j s1 = true) (hr : c.run j s1 = .part u n p) :
    host c.budgeted r (s.tick t) = u.replyAt j 3 (sat16 n) s1.stitch32 p := by
  rw [host_clear ht hc, hr]; rfl

/-- A clear command that replies later joins those in progress. -/
theorem host_later {c : Cmd} {t : Nat} {r : Request} {s s1 u : State} {j : Job}
    (ht : taken c t r s = some (j, s1)) (hc : clear c j s1 = true) (hr : c.run j s1 = .later u) :
    host c.budgeted r (s.tick t) = { u with hif := { u.hif with inflight := u.hif.inflight ++ [j] } } := by
  rw [host_clear ht hc, hr]; rfl

/-- A clear command that has replied leaves its own state. -/
theorem host_done {c : Cmd} {t : Nat} {r : Request} {s s1 u : State} {j : Job}
    (ht : taken c t r s = some (j, s1)) (hc : clear c j s1 = true) (hr : c.run j s1 = .done u) :
    host c.budgeted r (s.tick t) = u := by
  rw [host_clear ht hc, hr]; rfl

/-! ### Statements about one command row -/

theorem Runs.of {row : Nat → Request → Instr} {c : Cmd} {pre : Job → State → Prop}
    {post : Job → State → State → List Byte → Prop} (hr : IsRow row c)
    (h : ∀ j s, j.cls = c.spec.cls → j.op = c.spec.op → clear c j s = true → pre j s →
      ∃ u p, c.run j s = .ok u p ∧ post j s u p) : Runs row c pre post := by
  intro t r s j s1 ht hc hp
  obtain ⟨u, p, hu, hq⟩ := h j s1 (taken_job ht).1 (taken_job ht).2.1 hc hp
  exact ⟨u, p, by rw [hr, host_ok ht hc hu], hq⟩

theorem RunsPart.of {row : Nat → Request → Instr} {c : Cmd} {pre : Job → State → Prop}
    {post : Job → State → State → Nat → List Byte → Prop} (hr : IsRow row c)
    (h : ∀ j s, j.cls = c.spec.cls → j.op = c.spec.op → clear c j s = true → pre j s →
      ∃ u n p, c.run j s = .part u n p ∧ post j s u n p) : RunsPart row c pre post := by
  intro t r s j s1 ht hc hp
  obtain ⟨u, n, p, hu, hq⟩ := h j s1 (taken_job ht).1 (taken_job ht).2.1 hc hp
  exact ⟨u, n, p, by rw [hr, host_part ht hc hu], hq⟩

theorem RunsLater.of {row : Nat → Request → Instr} {c : Cmd} {pre : Job → State → Prop}
    {post : Job → State → State → Prop} (hr : IsRow row c)
    (h : ∀ j s, j.cls = c.spec.cls → j.op = c.spec.op → clear c j s = true → pre j s →
      ∃ u, c.run j s = .later u ∧ post j s u) : RunsLater row c pre post := by
  intro t r s j s1 ht hc hp
  obtain ⟨u, hu, hq⟩ := h j s1 (taken_job ht).1 (taken_job ht).2.1 hc hp
  exact ⟨u, by rw [hr, host_later ht hc hu], hq⟩

theorem RunsDone.of {row : Nat → Request → Instr} {c : Cmd} {pre : Job → State → Prop}
    {post : Job → State → State → Prop} (hr : IsRow row c)
    (h : ∀ j s, j.cls = c.spec.cls → j.op = c.spec.op → clear c j s = true → pre j s →
      ∃ u, c.run j s = .done u ∧ post j s u) : RunsDone row c pre post := by
  intro t r s j s1 ht hc hp
  obtain ⟨u, hu, hq⟩ := h j s1 (taken_job ht).1 (taken_job ht).2.1 hc hp
  exact ⟨u, by rw [hr, host_done ht hc hu], hq⟩

end Sys2Proof.Machine
end

