-- ==== Sys2Proof/Laws/Memory.lean ====
section
/-! SUPPORT. Memory: every operation keeps the canonical form, a read after a write gives the byte written and every other address
reads as before, and canonical memories that read alike are equal. -/
namespace Sys2Proof.Machine

/-- A lower bound that an address lies above. -/
def above (lo : Option Nat) (a : Nat) : Prop := ∀ l, lo = some l → l < a

theorem memRising_cons {lo : Option Nat} {c : Host.Cell} {m : Memory} :
    memRising lo (c :: m) = true ↔ above lo c.1 ∧ c.2 ≠ 0 ∧ memRising (some c.1) m = true := by
  cases lo <;> simp [memRising, above, and_assoc]

theorem memRising_weaken {lo lo' : Option Nat} {m : Memory} (h : memRising lo m = true)
    (hw : ∀ a, above lo a → above lo' a) : memRising lo' m = true := by
  cases m with
  | nil => rfl
  | cons c m => rw [memRising_cons] at h ⊢; exact ⟨hw _ h.1, h.2⟩

/-- An address at or below the lower bound reads 0. -/
theorem memRead_below : ∀ {m : Memory} {l a : Nat}, memRising (some l) m = true → a ≤ l → memRead m a = 0
  | [], _, _, _, _ => rfl
  | c :: m, l, a, h, ha => by
    rw [memRising_cons] at h
    have := h.1 l rfl
    simp only [memRead]
    rw [if_neg (by omega), if_pos (by omega)]

theorem memWrite_rising : ∀ {m : Memory} {lo : Option Nat} {a : Nat} {b : Byte}, memRising lo m = true → above lo a →
    memRising lo (memWrite m a b) = true
  | [], lo, a, b, _, ha => by
    simp only [memWrite]
    split
    · rfl
    · rename_i hb; exact memRising_cons.2 ⟨ha, hb, rfl⟩
  | c :: m, lo, a, b, h, ha => by
    have hc := memRising_cons.1 h
    simp only [memWrite]
    split
    · rename_i hca
      split
      · exact memRising_weaken hc.2.2 fun x hx l hl => Nat.lt_trans (hc.1 l hl) (hx c.1 rfl)
      · rename_i hb; exact memRising_cons.2 ⟨ha, hb, by rw [← hca]; exact hc.2.2⟩
    · split
      · rename_i hac
        split
        · exact h
        · rename_i hb
          exact memRising_cons.2 ⟨ha, hb, memRising_cons.2 ⟨fun l hl => by cases hl; exact hac, hc.2⟩⟩
      · rename_i h1 h2
        exact memRising_cons.2 ⟨hc.1, hc.2.1, memWrite_rising hc.2.2 fun l hl => by cases hl; omega⟩

/-- A store keeps the canonical form. -/
theorem memWrite_wf {m : Memory} (a : Nat) (b : Byte) (h : Memory.wf m = true) : Memory.wf (memWrite m a b) = true :=
  memWrite_rising h (by intro l hl; cases hl)

/-- A byte that was written reads back. -/
theorem memRead_memWrite_self : ∀ {m : Memory} {lo : Option Nat} (a : Nat) (b : Byte), memRising lo m = true →
    memRead (memWrite m a b) a = b
  | [], _, a, b, _ => by
    simp only [memWrite]
    split
    · rename_i hb; rw [hb]; rfl
    · simp [memRead]
  | c :: m, _, a, b, h => by
    have hc := memRising_cons.1 h
    simp only [memWrite]
    split
    · rename_i hca
      split
      · rename_i hb; rw [hb]; exact memRead_below hc.2.2 (by omega)
      · simp [memRead]
    · split
      · split
        · rename_i h1 h2 hb; simp only [memRead]; rw [if_neg h1, if_pos h2, hb]
        · simp [memRead]
      · rename_i h1 h2; simp only [memRead]; rw [if_neg h1, if_neg h2]; exact memRead_memWrite_self a b hc.2.2

/-- A store leaves every other address as it was. -/
theorem memRead_memWrite_other : ∀ {m : Memory} {lo : Option Nat} (a : Nat) (b : Byte) {x : Nat}, memRising lo m = true → x ≠ a →
    memRead (memWrite m a b) x = memRead m x
  | [], _, a, b, x, _, hx => by
    simp only [memWrite]
    split
    · rfl
    · simp only [memRead]; rw [if_neg (Ne.symm hx)]; split <;> rfl
  | c :: m, _, a, b, x, h, hx => by
    have hc := memRising_cons.1 h
    simp only [memWrite]
    split
    · rename_i hca
      split
      · simp only [memRead]
        rw [if_neg (by omega)]
        split
        · exact memRead_below hc.2.2 (by omega)
        · rfl
      · simp only [memRead]; rw [if_neg (Ne.symm hx), hca, if_neg (Ne.symm hx)]
    · split
      · split
        · rfl
        · rename_i h1 h2 hb
          simp only [memRead]
          rw [if_neg (Ne.symm hx)]
          split
          · rw [if_neg (by omega), if_pos (by omega)]
          · rfl
      · simp only [memRead, memRead_memWrite_other a b hc.2.2 hx]

/-- Canonical memories that read alike everywhere are equal. -/
theorem memory_ext : ∀ {m n : Memory} {lo : Option Nat}, memRising lo m = true → memRising lo n = true →
    (∀ a, memRead m a = memRead n a) → m = n
  | [], [], _, _, _, _ => rfl
  | [], d :: n, _, _, hn, h => by
    have hd := memRising_cons.1 hn
    exact absurd (h d.1).symm (by simpa [memRead] using hd.2.1)
  | c :: m, [], _, hm, _, h => by
    have hc := memRising_cons.1 hm
    exact absurd (h c.1) (by simpa [memRead] using hc.2.1)
  | c :: m, d :: n, _, hm, hn, h => by
    have hc := memRising_cons.1 hm
    have hd := memRising_cons.1 hn
    have h1 := h c.1
    have h2 := h d.1
    simp only [memRead] at h1 h2
    have he : c.1 = d.1 := by
      rcases Nat.lt_trichotomy c.1 d.1 with hl | hl | hl
      · rw [if_neg (show ¬d.1 = c.1 by omega), if_pos hl] at h1; exact absurd (by simpa using h1) hc.2.1
      · exact hl
      · rw [if_neg (show ¬c.1 = d.1 by omega), if_pos hl] at h2; exact absurd (by simpa using h2.symm) hd.2.1
    rw [if_pos he.symm] at h1
    replace h1 : c.2 = d.2 := by simpa using h1
    have hcd : c = d := Prod.ext he h1
    subst hcd
    rw [memory_ext hc.2.2 hd.2.2 fun a => ?_]
    by_cases ha : a ≤ c.1
    · rw [memRead_below hc.2.2 ha, memRead_below hd.2.2 ha]
    · have := h a
      simpa only [memRead, if_neg (show ¬c.1 = a by omega), if_neg (show ¬a < c.1 by omega)] using this

/-- Dropping cells keeps the canonical form. -/
theorem filter_rising (f : Host.Cell → Bool) : ∀ {m : Memory} {lo : Option Nat}, memRising lo m = true →
    memRising lo (m.filter f) = true
  | [], _, _ => rfl
  | c :: m, lo, h => by
    have hc := memRising_cons.1 h
    simp only [List.filter_cons]
    split
    · exact memRising_cons.2 ⟨hc.1, hc.2.1, filter_rising f hc.2.2⟩
    · exact filter_rising f (memRising_weaken hc.2.2 fun a ha l hl => Nat.lt_trans (hc.1 l hl) (ha c.1 rfl))

/-- A write on the fabric stores its byte or does nothing. -/
theorem fabricWrite_cases (s : State) (a : Nat) (b : Byte) :
    s.fabricWrite a b = s ∨ s.fabricWrite a b = { s with mem := memWrite s.mem a b } := by
  unfold State.fabricWrite
  generalize s.place a = p
  generalize (s.offAt a).isSome = q
  cases p <;> cases q <;> simp

/-- A write on the fabric keeps the canonical form. -/
theorem fabricWrite_wf (s : State) (a : Nat) (b : Byte) (h : Memory.wf s.mem = true) :
    Memory.wf (s.fabricWrite a b).mem = true := by
  rcases fabricWrite_cases s a b with e | e <;> rw [e]
  · exact h
  · exact memWrite_wf a b h

/-- Losing the shared-SRAM banks that are not retained keeps the canonical form. -/
theorem dropBanks_wf (s : State) (h : Memory.wf s.mem = true) : Memory.wf s.dropBanks.mem = true := by
  unfold State.dropBanks
  exact filter_rising _ h

end Sys2Proof.Machine
end

