-- ==== Sys2Proof/Laws/Pixels.lean ====
section
/-! SUPPORT. Pixels: how many a composed frame has, what the treatments and the banners leave outside their areas, and the ranges of the
colour arithmetic. -/
namespace Sys2Proof.Machine

theorem clampTo_le (top : Nat) (v : Int) : clampTo top v ≤ top := Nat.min_le_left _ _

/-- A luma code of R300 fits its bits. -/
theorem codeLuma_le (n top : Nat) (c : List Nat) : codeLuma n top c ≤ 2 ^ n - 1 := clampTo_le _ _

/-- A chroma code of R300 fits its bits. -/
theorem codeChroma_le (n top comp : Nat) (ps : List (Nat × List Nat)) : codeChroma n top comp ps ≤ 2 ^ n - 1 := clampTo_le _ _

/-- A decoded sample gives three 10-bit codes (stage 5 of Table 9-3). -/
theorem yuvToRgb_le (m : Nat) (full : Bool) (y cb cr : Nat) : ∀ v ∈ yuvToRgb m full y cb cr, v ≤ 1023 := by
  intro v hv
  simp only [yuvToRgb, List.mem_cons, List.not_mem_nil, or_false] at hv
  obtain rfl | rfl | rfl := hv <;> exact clampTo_le _ _

theorem rasterOf_length {α : Type} (r : Rect) (f : Nat → Nat → α) : (rasterOf r f).length = r.h * r.w := by
  simp [rasterOf, List.length_flatMap]

/-- A composed frame has one word for each active pixel. -/
theorem composePicture_length (s : State) (h : Nat) :
    (s.composePicture h).length = (s.head h).timing.active.h * (s.head h).timing.active.w := by
  unfold State.composePicture
  exact rasterOf_length _ _

/-- The output stage sends as many words as were composed. -/
theorem sentPixels_length (o : ScanObs) (shot : List (Nat × Nat)) : (sentPixels o shot).length = shot.length := by
  simp [sentPixels]

/-- Desaturation and fill stay inside the tile (R55, R242). -/
theorem treated_outside {d : Drawing} {px py : Nat} (p : Px) (h : d.rect.has px py = false) : d.treated px py p = p := by
  simp [Drawing.treated, h]

/-- A tile draws nothing outside its visible rectangle (R54, R242). -/
theorem over_outside {d : Drawing} {px py : Nat} (p : Px) (h : d.rect.has px py = false) : d.over px py p = p := by
  simp [Drawing.over, Drawing.marked, treated_outside p h, h]

/-- A banner stays inside its strip (R247). -/
theorem strip_outside {b : Strip} {px py : Nat} (format : Nat) (p : Px) (h : b.rect.has px py = false) :
    b.over format px py p = p := by simp [Strip.over, h]

/-- A head whose active lines have been fetched is not composed again. -/
theorem shoot_idle {s : State} {h : Nat} (hs : (s.head h).shot.isSome = true) : s.shoot h = s := by
  simp [State.shoot, hs]

end Sys2Proof.Machine
end

