-- ==== Sys2Proof/Laws/Settle.lean ====
section
/-! SUPPORT. What every row ends with: finishing transactions touches the transactions and what delivery touches, and does nothing
when nothing waits. -/
namespace Sys2Proof.Machine

/-- `u` differs from `s` at most in the transactions and in what delivery to the host touches. -/
def Settles (s u : State) : Prop :=
  u = { s with txn := u.txn, hif := u.hif, ses := u.ses, net := u.net, hoop := u.hoop, out := u.out }

theorem Settles.refl (s : State) : Settles s s := rfl

theorem Settles.trans {s u v : State} (h1 : Settles s u) (h2 : Settles u v) : Settles s v := by
  unfold Settles at *
  rw [h2, h1]

theorem Delivers.settles {s u : State} (h : Delivers s u) : Settles s u := by
  unfold Settles
  rw [h]

theorem Settles.forEach {α : Type} {f : α → State → State} (h : ∀ a s, Settles s (f a s)) :
    ∀ (l : List α) (s : State), Settles s (s.forEach l f)
  | [], s => Settles.refl s
  | a :: l, s => (h a s).trans (Settles.forEach h l (f a s))

theorem retireTxn_settles (s : State) (x : Txn) : Settles s (s.retireTxn x) := rfl

/-- Transactions that end as APPLIED change the transactions and raise their events, nothing else. -/
theorem settleTxns_settles (s : State) : Settles s s.settleTxns :=
  Settles.forEach (fun _ s => (retireTxn_settles s _).trans (evtTxn_delivers _ _ _ _ _ _ _).settles) _ s

/-- A transaction that rolls back changes the transactions, answers a waiting commit and raises its event, nothing else. -/
theorem rollback_settles (s : State) (x : Txn) (a b c d : Nat) : Settles s (s.rollback x a b c d) := by
  unfold State.rollback
  dsimp only
  exact Settles.trans (retireTxn_settles s _) (Settles.trans (finish?_delivers _ _ _ _ _).settles
    (Delivers.when (evtTxn_delivers _ _ _ _ _ _ _)).settles)

/-- With no transaction that has nothing left to apply, nothing is finished. -/
theorem settleTxns_quiet (s : State)
    (h : s.txn.live.filter (fun x => x.st = .applying && !s.txn.changes.any fun c => c.txn = x.handle) = []) :
    s.settleTxns = s := by
  unfold State.settleTxns
  rw [h]
  rfl

/-- With no command held, none begins. -/
theorem beginHeld_quiet (s : State) (h : s.hif.held = []) : s.beginHeld = s := by
  unfold State.beginHeld
  rw [h]
  rfl

end Sys2Proof.Machine
end

