-- ==== Sys2Proof/Laws/Shared.lean ====
section
/-! SUPPORT. What operations that commands of several families share can do: the changes that wait, the regulator of VDD_CORE, and
the words of the two CRCs. -/
namespace Sys2Proof.Machine

/-! ### Changes that wait (R131, R517) -/

/-- `u` differs from `s` at most in which changes wait. -/
def OnlyChanges (s u : State) : Prop := u = { s with txn := { s.txn with changes := u.txn.changes } }

theorem atBoundary_onlyChanges (s : State) (j : Job) : OnlyChanges s (s.atBoundary j) := rfl
theorem dropChanges_onlyChanges (s : State) (j : Job) : OnlyChanges s (s.dropChanges j) := rfl
theorem waits_atBoundary (s : State) (j : Job) : (s.atBoundary j).txn.changes = s.txn.changes ++ [{ head := none, job := j }] := rfl

theorem dropRouteWait_onlyChanges (s : State) (n : Nat) : OnlyChanges s (s.dropRouteWait n) := by
  unfold State.dropRouteWait
  split <;> rfl

/-- What a dropped command leaves waiting was waiting before. -/
theorem dropChanges_sub (s : State) (j : Job) : (s.dropChanges j).txn.changes.Sublist s.txn.changes := List.filter_sublist

theorem dropRouteWait_sub (s : State) (n : Nat) : (s.dropRouteWait n).txn.changes.Sublist s.txn.changes := by
  unfold State.dropRouteWait
  split
  · exact List.filter_sublist
  · exact List.Sublist.refl _

/-! ### VDD_CORE (R507) -/

/-- The setpoint moves by at most 10 mV in each 10 µs. -/
theorem coreStep_rate (mv want sram dt : Nat) :
    mv ≤ coreStep mv want sram dt + 10 * (dt / 10000) ∧ coreStep mv want sram dt ≤ mv + 10 * (dt / 10000) := by
  unfold coreStep
  dsimp only
  omega

/-- It stays in its range while VDD_SRAM lets it. -/
theorem coreStep_range {mv want sram dt : Nat} (hm : 550 ≤ mv ∧ mv ≤ 850) (hs : 250 ≤ sram ∧ sram ≤ 1150) :
    550 ≤ coreStep mv want sram dt ∧ coreStep mv want sram dt ≤ 850 := by
  unfold coreStep
  dsimp only
  omega

/-- The Hoop changes the setpoint alone, and says so to the regulator. -/
theorem setCore_frame (s : State) (want : Nat) :
    ∃ mv at_ out, s.setCore want = { s with hoop := { s.hoop with coreMv := mv, coreMvAt := at_ }, out } := by
  unfold State.setCore
  dsimp only
  split
  · exact ⟨_, _, _, rfl⟩
  · split
    · exact ⟨_, _, _, rfl⟩
    · exact ⟨_, _, _, rfl⟩

/-! ### The two CRCs (R250) -/

/-- Without a fault of the output stage what is sent is what was composed. -/
theorem sentPixels_clean (shot : List (Nat × Nat)) : sentPixels { faults := [] } shot = shot.map (·.1) := by
  simp only [sentPixels, List.find?_nil]
  exact (List.map_map ..).symm.trans (congrArg _ (List.zipIdx_map_fst 0 shot))

end Sys2Proof.Machine
end

