-- ==== Sys2Proof/Laws/State.lean ====
section
/-! SUPPORT. The updates of State: each leaves every field of State but its own, and what it makes of its own. -/
namespace Sys2Proof.Machine

variable (s : State)

/-! ### modClk -/

@[simp] theorem State.modClk_clk (f : Clk → Clk) : (s.modClk f).clk = f s.clk := rfl
@[simp] theorem State.modClk_hif (f : Clk → Clk) : (s.modClk f).hif = s.hif := rfl
@[simp] theorem State.modClk_ses (f : Clk → Clk) : (s.modClk f).ses = s.ses := rfl
@[simp] theorem State.modClk_txn (f : Clk → Clk) : (s.modClk f).txn = s.txn := rfl
@[simp] theorem State.modClk_hoop (f : Clk → Clk) : (s.modClk f).hoop = s.hoop := rfl
@[simp] theorem State.modClk_pwr (f : Clk → Clk) : (s.modClk f).pwr = s.pwr := rfl
@[simp] theorem State.modClk_net (f : Clk → Clk) : (s.modClk f).net = s.net := rfl
@[simp] theorem State.modClk_dec (f : Clk → Clk) : (s.modClk f).dec = s.dec := rfl
@[simp] theorem State.modClk_lay (f : Clk → Clk) : (s.modClk f).lay = s.lay := rfl
@[simp] theorem State.modClk_heads (f : Clk → Clk) : (s.modClk f).heads = s.heads := rfl
@[simp] theorem State.modClk_ports (f : Clk → Clk) : (s.modClk f).ports = s.ports := rfl
@[simp] theorem State.modClk_slk (f : Clk → Clk) : (s.modClk f).slk = s.slk := rfl
@[simp] theorem State.modClk_enc (f : Clk → Clk) : (s.modClk f).enc = s.enc := rfl
@[simp] theorem State.modClk_aud (f : Clk → Clk) : (s.modClk f).aud = s.aud := rfl
@[simp] theorem State.modClk_nrg (f : Clk → Clk) : (s.modClk f).nrg = s.nrg := rfl
@[simp] theorem State.modClk_grd (f : Clk → Clk) : (s.modClk f).grd = s.grd := rfl
@[simp] theorem State.modClk_lnk (f : Clk → Clk) : (s.modClk f).lnk = s.lnk := rfl
@[simp] theorem State.modClk_io (f : Clk → Clk) : (s.modClk f).io = s.io := rfl
@[simp] theorem State.modClk_mem (f : Clk → Clk) : (s.modClk f).mem = s.mem := rfl
@[simp] theorem State.modClk_out (f : Clk → Clk) : (s.modClk f).out = s.out := rfl
@[simp] theorem State.modClk_free (f : Clk → Clk) : (s.modClk f).free = s.free := rfl
@[simp] theorem State.modClk_pending (f : Clk → Clk) : (s.modClk f).pending = s.pending := rfl

/-! ### modDom -/

@[simp] theorem State.modDom_hif (d : Nat) (f : Domain → Domain) : (s.modDom d f).hif = s.hif := rfl
@[simp] theorem State.modDom_ses (d : Nat) (f : Domain → Domain) : (s.modDom d f).ses = s.ses := rfl
@[simp] theorem State.modDom_txn (d : Nat) (f : Domain → Domain) : (s.modDom d f).txn = s.txn := rfl
@[simp] theorem State.modDom_hoop (d : Nat) (f : Domain → Domain) : (s.modDom d f).hoop = s.hoop := rfl
@[simp] theorem State.modDom_pwr (d : Nat) (f : Domain → Domain) : (s.modDom d f).pwr = s.pwr := rfl
@[simp] theorem State.modDom_net (d : Nat) (f : Domain → Domain) : (s.modDom d f).net = s.net := rfl
@[simp] theorem State.modDom_dec (d : Nat) (f : Domain → Domain) : (s.modDom d f).dec = s.dec := rfl
@[simp] theorem State.modDom_lay (d : Nat) (f : Domain → Domain) : (s.modDom d f).lay = s.lay := rfl
@[simp] theorem State.modDom_heads (d : Nat) (f : Domain → Domain) : (s.modDom d f).heads = s.heads := rfl
@[simp] theorem State.modDom_ports (d : Nat) (f : Domain → Domain) : (s.modDom d f).ports = s.ports := rfl
@[simp] theorem State.modDom_slk (d : Nat) (f : Domain → Domain) : (s.modDom d f).slk = s.slk := rfl
@[simp] theorem State.modDom_enc (d : Nat) (f : Domain → Domain) : (s.modDom d f).enc = s.enc := rfl
@[simp] theorem State.modDom_aud (d : Nat) (f : Domain → Domain) : (s.modDom d f).aud = s.aud := rfl
@[simp] theorem State.modDom_nrg (d : Nat) (f : Domain → Domain) : (s.modDom d f).nrg = s.nrg := rfl
@[simp] theorem State.modDom_grd (d : Nat) (f : Domain → Domain) : (s.modDom d f).grd = s.grd := rfl
@[simp] theorem State.modDom_lnk (d : Nat) (f : Domain → Domain) : (s.modDom d f).lnk = s.lnk := rfl
@[simp] theorem State.modDom_io (d : Nat) (f : Domain → Domain) : (s.modDom d f).io = s.io := rfl
@[simp] theorem State.modDom_mem (d : Nat) (f : Domain → Domain) : (s.modDom d f).mem = s.mem := rfl
@[simp] theorem State.modDom_out (d : Nat) (f : Domain → Domain) : (s.modDom d f).out = s.out := rfl
@[simp] theorem State.modDom_free (d : Nat) (f : Domain → Domain) : (s.modDom d f).free = s.free := rfl
@[simp] theorem State.modDom_pending (d : Nat) (f : Domain → Domain) : (s.modDom d f).pending = s.pending := rfl

/-! ### modSession -/

@[simp] theorem State.modSession_clk (n : Nat) (f : Session → Session) : (s.modSession n f).clk = s.clk := rfl
@[simp] theorem State.modSession_hif (n : Nat) (f : Session → Session) : (s.modSession n f).hif = s.hif := rfl
@[simp] theorem State.modSession_txn (n : Nat) (f : Session → Session) : (s.modSession n f).txn = s.txn := rfl
@[simp] theorem State.modSession_hoop (n : Nat) (f : Session → Session) : (s.modSession n f).hoop = s.hoop := rfl
@[simp] theorem State.modSession_pwr (n : Nat) (f : Session → Session) : (s.modSession n f).pwr = s.pwr := rfl
@[simp] theorem State.modSession_net (n : Nat) (f : Session → Session) : (s.modSession n f).net = s.net := rfl
@[simp] theorem State.modSession_dec (n : Nat) (f : Session → Session) : (s.modSession n f).dec = s.dec := rfl
@[simp] theorem State.modSession_lay (n : Nat) (f : Session → Session) : (s.modSession n f).lay = s.lay := rfl
@[simp] theorem State.modSession_heads (n : Nat) (f : Session → Session) : (s.modSession n f).heads = s.heads := rfl
@[simp] theorem State.modSession_ports (n : Nat) (f : Session → Session) : (s.modSession n f).ports = s.ports := rfl
@[simp] theorem State.modSession_slk (n : Nat) (f : Session → Session) : (s.modSession n f).slk = s.slk := rfl
@[simp] theorem State.modSession_enc (n : Nat) (f : Session → Session) : (s.modSession n f).enc = s.enc := rfl
@[simp] theorem State.modSession_aud (n : Nat) (f : Session → Session) : (s.modSession n f).aud = s.aud := rfl
@[simp] theorem State.modSession_nrg (n : Nat) (f : Session → Session) : (s.modSession n f).nrg = s.nrg := rfl
@[simp] theorem State.modSession_grd (n : Nat) (f : Session → Session) : (s.modSession n f).grd = s.grd := rfl
@[simp] theorem State.modSession_lnk (n : Nat) (f : Session → Session) : (s.modSession n f).lnk = s.lnk := rfl
@[simp] theorem State.modSession_io (n : Nat) (f : Session → Session) : (s.modSession n f).io = s.io := rfl
@[simp] theorem State.modSession_mem (n : Nat) (f : Session → Session) : (s.modSession n f).mem = s.mem := rfl
@[simp] theorem State.modSession_out (n : Nat) (f : Session → Session) : (s.modSession n f).out = s.out := rfl
@[simp] theorem State.modSession_free (n : Nat) (f : Session → Session) : (s.modSession n f).free = s.free := rfl
@[simp] theorem State.modSession_pending (n : Nat) (f : Session → Session) : (s.modSession n f).pending = s.pending := rfl

/-! ### modTxn -/

@[simp] theorem State.modTxn_clk (n : Nat) (f : Txn → Txn) : (s.modTxn n f).clk = s.clk := rfl
@[simp] theorem State.modTxn_hif (n : Nat) (f : Txn → Txn) : (s.modTxn n f).hif = s.hif := rfl
@[simp] theorem State.modTxn_ses (n : Nat) (f : Txn → Txn) : (s.modTxn n f).ses = s.ses := rfl
@[simp] theorem State.modTxn_hoop (n : Nat) (f : Txn → Txn) : (s.modTxn n f).hoop = s.hoop := rfl
@[simp] theorem State.modTxn_pwr (n : Nat) (f : Txn → Txn) : (s.modTxn n f).pwr = s.pwr := rfl
@[simp] theorem State.modTxn_net (n : Nat) (f : Txn → Txn) : (s.modTxn n f).net = s.net := rfl
@[simp] theorem State.modTxn_dec (n : Nat) (f : Txn → Txn) : (s.modTxn n f).dec = s.dec := rfl
@[simp] theorem State.modTxn_lay (n : Nat) (f : Txn → Txn) : (s.modTxn n f).lay = s.lay := rfl
@[simp] theorem State.modTxn_heads (n : Nat) (f : Txn → Txn) : (s.modTxn n f).heads = s.heads := rfl
@[simp] theorem State.modTxn_ports (n : Nat) (f : Txn → Txn) : (s.modTxn n f).ports = s.ports := rfl
@[simp] theorem State.modTxn_slk (n : Nat) (f : Txn → Txn) : (s.modTxn n f).slk = s.slk := rfl
@[simp] theorem State.modTxn_enc (n : Nat) (f : Txn → Txn) : (s.modTxn n f).enc = s.enc := rfl
@[simp] theorem State.modTxn_aud (n : Nat) (f : Txn → Txn) : (s.modTxn n f).aud = s.aud := rfl
@[simp] theorem State.modTxn_nrg (n : Nat) (f : Txn → Txn) : (s.modTxn n f).nrg = s.nrg := rfl
@[simp] theorem State.modTxn_grd (n : Nat) (f : Txn → Txn) : (s.modTxn n f).grd = s.grd := rfl
@[simp] theorem State.modTxn_lnk (n : Nat) (f : Txn → Txn) : (s.modTxn n f).lnk = s.lnk := rfl
@[simp] theorem State.modTxn_io (n : Nat) (f : Txn → Txn) : (s.modTxn n f).io = s.io := rfl
@[simp] theorem State.modTxn_mem (n : Nat) (f : Txn → Txn) : (s.modTxn n f).mem = s.mem := rfl
@[simp] theorem State.modTxn_out (n : Nat) (f : Txn → Txn) : (s.modTxn n f).out = s.out := rfl
@[simp] theorem State.modTxn_free (n : Nat) (f : Txn → Txn) : (s.modTxn n f).free = s.free := rfl
@[simp] theorem State.modTxn_pending (n : Nat) (f : Txn → Txn) : (s.modTxn n f).pending = s.pending := rfl

/-! ### modHoop -/

@[simp] theorem State.modHoop_clk (f : Hoop → Hoop) : (s.modHoop f).clk = s.clk := rfl
@[simp] theorem State.modHoop_hif (f : Hoop → Hoop) : (s.modHoop f).hif = s.hif := rfl
@[simp] theorem State.modHoop_ses (f : Hoop → Hoop) : (s.modHoop f).ses = s.ses := rfl
@[simp] theorem State.modHoop_txn (f : Hoop → Hoop) : (s.modHoop f).txn = s.txn := rfl
@[simp] theorem State.modHoop_hoop (f : Hoop → Hoop) : (s.modHoop f).hoop = f s.hoop := rfl
@[simp] theorem State.modHoop_pwr (f : Hoop → Hoop) : (s.modHoop f).pwr = s.pwr := rfl
@[simp] theorem State.modHoop_net (f : Hoop → Hoop) : (s.modHoop f).net = s.net := rfl
@[simp] theorem State.modHoop_dec (f : Hoop → Hoop) : (s.modHoop f).dec = s.dec := rfl
@[simp] theorem State.modHoop_lay (f : Hoop → Hoop) : (s.modHoop f).lay = s.lay := rfl
@[simp] theorem State.modHoop_heads (f : Hoop → Hoop) : (s.modHoop f).heads = s.heads := rfl
@[simp] theorem State.modHoop_ports (f : Hoop → Hoop) : (s.modHoop f).ports = s.ports := rfl
@[simp] theorem State.modHoop_slk (f : Hoop → Hoop) : (s.modHoop f).slk = s.slk := rfl
@[simp] theorem State.modHoop_enc (f : Hoop → Hoop) : (s.modHoop f).enc = s.enc := rfl
@[simp] theorem State.modHoop_aud (f : Hoop → Hoop) : (s.modHoop f).aud = s.aud := rfl
@[simp] theorem State.modHoop_nrg (f : Hoop → Hoop) : (s.modHoop f).nrg = s.nrg := rfl
@[simp] theorem State.modHoop_grd (f : Hoop → Hoop) : (s.modHoop f).grd = s.grd := rfl
@[simp] theorem State.modHoop_lnk (f : Hoop → Hoop) : (s.modHoop f).lnk = s.lnk := rfl
@[simp] theorem State.modHoop_io (f : Hoop → Hoop) : (s.modHoop f).io = s.io := rfl
@[simp] theorem State.modHoop_mem (f : Hoop → Hoop) : (s.modHoop f).mem = s.mem := rfl
@[simp] theorem State.modHoop_out (f : Hoop → Hoop) : (s.modHoop f).out = s.out := rfl
@[simp] theorem State.modHoop_free (f : Hoop → Hoop) : (s.modHoop f).free = s.free := rfl
@[simp] theorem State.modHoop_pending (f : Hoop → Hoop) : (s.modHoop f).pending = s.pending := rfl

/-! ### modSampler -/

@[simp] theorem State.modSampler_clk (f : Sampler → Sampler) : (s.modSampler f).clk = s.clk := rfl
@[simp] theorem State.modSampler_hif (f : Sampler → Sampler) : (s.modSampler f).hif = s.hif := rfl
@[simp] theorem State.modSampler_ses (f : Sampler → Sampler) : (s.modSampler f).ses = s.ses := rfl
@[simp] theorem State.modSampler_txn (f : Sampler → Sampler) : (s.modSampler f).txn = s.txn := rfl
@[simp] theorem State.modSampler_pwr (f : Sampler → Sampler) : (s.modSampler f).pwr = s.pwr := rfl
@[simp] theorem State.modSampler_net (f : Sampler → Sampler) : (s.modSampler f).net = s.net := rfl
@[simp] theorem State.modSampler_dec (f : Sampler → Sampler) : (s.modSampler f).dec = s.dec := rfl
@[simp] theorem State.modSampler_lay (f : Sampler → Sampler) : (s.modSampler f).lay = s.lay := rfl
@[simp] theorem State.modSampler_heads (f : Sampler → Sampler) : (s.modSampler f).heads = s.heads := rfl
@[simp] theorem State.modSampler_ports (f : Sampler → Sampler) : (s.modSampler f).ports = s.ports := rfl
@[simp] theorem State.modSampler_slk (f : Sampler → Sampler) : (s.modSampler f).slk = s.slk := rfl
@[simp] theorem State.modSampler_enc (f : Sampler → Sampler) : (s.modSampler f).enc = s.enc := rfl
@[simp] theorem State.modSampler_aud (f : Sampler → Sampler) : (s.modSampler f).aud = s.aud := rfl
@[simp] theorem State.modSampler_nrg (f : Sampler → Sampler) : (s.modSampler f).nrg = s.nrg := rfl
@[simp] theorem State.modSampler_grd (f : Sampler → Sampler) : (s.modSampler f).grd = s.grd := rfl
@[simp] theorem State.modSampler_lnk (f : Sampler → Sampler) : (s.modSampler f).lnk = s.lnk := rfl
@[simp] theorem State.modSampler_io (f : Sampler → Sampler) : (s.modSampler f).io = s.io := rfl
@[simp] theorem State.modSampler_mem (f : Sampler → Sampler) : (s.modSampler f).mem = s.mem := rfl
@[simp] theorem State.modSampler_out (f : Sampler → Sampler) : (s.modSampler f).out = s.out := rfl
@[simp] theorem State.modSampler_free (f : Sampler → Sampler) : (s.modSampler f).free = s.free := rfl
@[simp] theorem State.modSampler_pending (f : Sampler → Sampler) : (s.modSampler f).pending = s.pending := rfl

/-! ### modUpd -/

@[simp] theorem State.modUpd_clk (f : Upd → Upd) : (s.modUpd f).clk = s.clk := rfl
@[simp] theorem State.modUpd_hif (f : Upd → Upd) : (s.modUpd f).hif = s.hif := rfl
@[simp] theorem State.modUpd_ses (f : Upd → Upd) : (s.modUpd f).ses = s.ses := rfl
@[simp] theorem State.modUpd_txn (f : Upd → Upd) : (s.modUpd f).txn = s.txn := rfl
@[simp] theorem State.modUpd_pwr (f : Upd → Upd) : (s.modUpd f).pwr = s.pwr := rfl
@[simp] theorem State.modUpd_net (f : Upd → Upd) : (s.modUpd f).net = s.net := rfl
@[simp] theorem State.modUpd_dec (f : Upd → Upd) : (s.modUpd f).dec = s.dec := rfl
@[simp] theorem State.modUpd_lay (f : Upd → Upd) : (s.modUpd f).lay = s.lay := rfl
@[simp] theorem State.modUpd_heads (f : Upd → Upd) : (s.modUpd f).heads = s.heads := rfl
@[simp] theorem State.modUpd_ports (f : Upd → Upd) : (s.modUpd f).ports = s.ports := rfl
@[simp] theorem State.modUpd_slk (f : Upd → Upd) : (s.modUpd f).slk = s.slk := rfl
@[simp] theorem State.modUpd_enc (f : Upd → Upd) : (s.modUpd f).enc = s.enc := rfl
@[simp] theorem State.modUpd_aud (f : Upd → Upd) : (s.modUpd f).aud = s.aud := rfl
@[simp] theorem State.modUpd_nrg (f : Upd → Upd) : (s.modUpd f).nrg = s.nrg := rfl
@[simp] theorem State.modUpd_grd (f : Upd → Upd) : (s.modUpd f).grd = s.grd := rfl
@[simp] theorem State.modUpd_lnk (f : Upd → Upd) : (s.modUpd f).lnk = s.lnk := rfl
@[simp] theorem State.modUpd_io (f : Upd → Upd) : (s.modUpd f).io = s.io := rfl
@[simp] theorem State.modUpd_mem (f : Upd → Upd) : (s.modUpd f).mem = s.mem := rfl
@[simp] theorem State.modUpd_out (f : Upd → Upd) : (s.modUpd f).out = s.out := rfl
@[simp] theorem State.modUpd_free (f : Upd → Upd) : (s.modUpd f).free = s.free := rfl
@[simp] theorem State.modUpd_pending (f : Upd → Upd) : (s.modUpd f).pending = s.pending := rfl

/-! ### modBist -/

@[simp] theorem State.modBist_clk (f : Bist → Bist) : (s.modBist f).clk = s.clk := rfl
@[simp] theorem State.modBist_hif (f : Bist → Bist) : (s.modBist f).hif = s.hif := rfl
@[simp] theorem State.modBist_ses (f : Bist → Bist) : (s.modBist f).ses = s.ses := rfl
@[simp] theorem State.modBist_txn (f : Bist → Bist) : (s.modBist f).txn = s.txn := rfl
@[simp] theorem State.modBist_pwr (f : Bist → Bist) : (s.modBist f).pwr = s.pwr := rfl
@[simp] theorem State.modBist_net (f : Bist → Bist) : (s.modBist f).net = s.net := rfl
@[simp] theorem State.modBist_dec (f : Bist → Bist) : (s.modBist f).dec = s.dec := rfl
@[simp] theorem State.modBist_lay (f : Bist → Bist) : (s.modBist f).lay = s.lay := rfl
@[simp] theorem State.modBist_heads (f : Bist → Bist) : (s.modBist f).heads = s.heads := rfl
@[simp] theorem State.modBist_ports (f : Bist → Bist) : (s.modBist f).ports = s.ports := rfl
@[simp] theorem State.modBist_slk (f : Bist → Bist) : (s.modBist f).slk = s.slk := rfl
@[simp] theorem State.modBist_enc (f : Bist → Bist) : (s.modBist f).enc = s.enc := rfl
@[simp] theorem State.modBist_aud (f : Bist → Bist) : (s.modBist f).aud = s.aud := rfl
@[simp] theorem State.modBist_nrg (f : Bist → Bist) : (s.modBist f).nrg = s.nrg := rfl
@[simp] theorem State.modBist_grd (f : Bist → Bist) : (s.modBist f).grd = s.grd := rfl
@[simp] theorem State.modBist_lnk (f : Bist → Bist) : (s.modBist f).lnk = s.lnk := rfl
@[simp] theorem State.modBist_io (f : Bist → Bist) : (s.modBist f).io = s.io := rfl
@[simp] theorem State.modBist_mem (f : Bist → Bist) : (s.modBist f).mem = s.mem := rfl
@[simp] theorem State.modBist_out (f : Bist → Bist) : (s.modBist f).out = s.out := rfl
@[simp] theorem State.modBist_free (f : Bist → Bist) : (s.modBist f).free = s.free := rfl
@[simp] theorem State.modBist_pending (f : Bist → Bist) : (s.modBist f).pending = s.pending := rfl

/-! ### modPort -/

@[simp] theorem State.modPort_clk (n : Nat) (f : NetPort → NetPort) : (s.modPort n f).clk = s.clk := rfl
@[simp] theorem State.modPort_hif (n : Nat) (f : NetPort → NetPort) : (s.modPort n f).hif = s.hif := rfl
@[simp] theorem State.modPort_ses (n : Nat) (f : NetPort → NetPort) : (s.modPort n f).ses = s.ses := rfl
@[simp] theorem State.modPort_txn (n : Nat) (f : NetPort → NetPort) : (s.modPort n f).txn = s.txn := rfl
@[simp] theorem State.modPort_hoop (n : Nat) (f : NetPort → NetPort) : (s.modPort n f).hoop = s.hoop := rfl
@[simp] theorem State.modPort_pwr (n : Nat) (f : NetPort → NetPort) : (s.modPort n f).pwr = s.pwr := rfl
@[simp] theorem State.modPort_dec (n : Nat) (f : NetPort → NetPort) : (s.modPort n f).dec = s.dec := rfl
@[simp] theorem State.modPort_lay (n : Nat) (f : NetPort → NetPort) : (s.modPort n f).lay = s.lay := rfl
@[simp] theorem State.modPort_heads (n : Nat) (f : NetPort → NetPort) : (s.modPort n f).heads = s.heads := rfl
@[simp] theorem State.modPort_ports (n : Nat) (f : NetPort → NetPort) : (s.modPort n f).ports = s.ports := rfl
@[simp] theorem State.modPort_slk (n : Nat) (f : NetPort → NetPort) : (s.modPort n f).slk = s.slk := rfl
@[simp] theorem State.modPort_enc (n : Nat) (f : NetPort → NetPort) : (s.modPort n f).enc = s.enc := rfl
@[simp] theorem State.modPort_aud (n : Nat) (f : NetPort → NetPort) : (s.modPort n f).aud = s.aud := rfl
@[simp] theorem State.modPort_nrg (n : Nat) (f : NetPort → NetPort) : (s.modPort n f).nrg = s.nrg := rfl
@[simp] theorem State.modPort_grd (n : Nat) (f : NetPort → NetPort) : (s.modPort n f).grd = s.grd := rfl
@[simp] theorem State.modPort_lnk (n : Nat) (f : NetPort → NetPort) : (s.modPort n f).lnk = s.lnk := rfl
@[simp] theorem State.modPort_io (n : Nat) (f : NetPort → NetPort) : (s.modPort n f).io = s.io := rfl
@[simp] theorem State.modPort_mem (n : Nat) (f : NetPort → NetPort) : (s.modPort n f).mem = s.mem := rfl
@[simp] theorem State.modPort_out (n : Nat) (f : NetPort → NetPort) : (s.modPort n f).out = s.out := rfl
@[simp] theorem State.modPort_free (n : Nat) (f : NetPort → NetPort) : (s.modPort n f).free = s.free := rfl
@[simp] theorem State.modPort_pending (n : Nat) (f : NetPort → NetPort) : (s.modPort n f).pending = s.pending := rfl

/-! ### modSrc -/

@[simp] theorem State.modSrc_clk (n : Nat) (f : Src → Src) : (s.modSrc n f).clk = s.clk := rfl
@[simp] theorem State.modSrc_hif (n : Nat) (f : Src → Src) : (s.modSrc n f).hif = s.hif := rfl
@[simp] theorem State.modSrc_ses (n : Nat) (f : Src → Src) : (s.modSrc n f).ses = s.ses := rfl
@[simp] theorem State.modSrc_txn (n : Nat) (f : Src → Src) : (s.modSrc n f).txn = s.txn := rfl
@[simp] theorem State.modSrc_hoop (n : Nat) (f : Src → Src) : (s.modSrc n f).hoop = s.hoop := rfl
@[simp] theorem State.modSrc_pwr (n : Nat) (f : Src → Src) : (s.modSrc n f).pwr = s.pwr := rfl
@[simp] theorem State.modSrc_dec (n : Nat) (f : Src → Src) : (s.modSrc n f).dec = s.dec := rfl
@[simp] theorem State.modSrc_lay (n : Nat) (f : Src → Src) : (s.modSrc n f).lay = s.lay := rfl
@[simp] theorem State.modSrc_heads (n : Nat) (f : Src → Src) : (s.modSrc n f).heads = s.heads := rfl
@[simp] theorem State.modSrc_ports (n : Nat) (f : Src → Src) : (s.modSrc n f).ports = s.ports := rfl
@[simp] theorem State.modSrc_slk (n : Nat) (f : Src → Src) : (s.modSrc n f).slk = s.slk := rfl
@[simp] theorem State.modSrc_enc (n : Nat) (f : Src → Src) : (s.modSrc n f).enc = s.enc := rfl
@[simp] theorem State.modSrc_aud (n : Nat) (f : Src → Src) : (s.modSrc n f).aud = s.aud := rfl
@[simp] theorem State.modSrc_nrg (n : Nat) (f : Src → Src) : (s.modSrc n f).nrg = s.nrg := rfl
@[simp] theorem State.modSrc_grd (n : Nat) (f : Src → Src) : (s.modSrc n f).grd = s.grd := rfl
@[simp] theorem State.modSrc_lnk (n : Nat) (f : Src → Src) : (s.modSrc n f).lnk = s.lnk := rfl
@[simp] theorem State.modSrc_io (n : Nat) (f : Src → Src) : (s.modSrc n f).io = s.io := rfl
@[simp] theorem State.modSrc_mem (n : Nat) (f : Src → Src) : (s.modSrc n f).mem = s.mem := rfl
@[simp] theorem State.modSrc_out (n : Nat) (f : Src → Src) : (s.modSrc n f).out = s.out := rfl
@[simp] theorem State.modSrc_free (n : Nat) (f : Src → Src) : (s.modSrc n f).free = s.free := rfl
@[simp] theorem State.modSrc_pending (n : Nat) (f : Src → Src) : (s.modSrc n f).pending = s.pending := rfl

/-! ### modCtx -/

@[simp] theorem State.modCtx_clk (n : Nat) (f : Ctx → Ctx) : (s.modCtx n f).clk = s.clk := rfl
@[simp] theorem State.modCtx_hif (n : Nat) (f : Ctx → Ctx) : (s.modCtx n f).hif = s.hif := rfl
@[simp] theorem State.modCtx_ses (n : Nat) (f : Ctx → Ctx) : (s.modCtx n f).ses = s.ses := rfl
@[simp] theorem State.modCtx_txn (n : Nat) (f : Ctx → Ctx) : (s.modCtx n f).txn = s.txn := rfl
@[simp] theorem State.modCtx_hoop (n : Nat) (f : Ctx → Ctx) : (s.modCtx n f).hoop = s.hoop := rfl
@[simp] theorem State.modCtx_pwr (n : Nat) (f : Ctx → Ctx) : (s.modCtx n f).pwr = s.pwr := rfl
@[simp] theorem State.modCtx_net (n : Nat) (f : Ctx → Ctx) : (s.modCtx n f).net = s.net := rfl
@[simp] theorem State.modCtx_lay (n : Nat) (f : Ctx → Ctx) : (s.modCtx n f).lay = s.lay := rfl
@[simp] theorem State.modCtx_heads (n : Nat) (f : Ctx → Ctx) : (s.modCtx n f).heads = s.heads := rfl
@[simp] theorem State.modCtx_ports (n : Nat) (f : Ctx → Ctx) : (s.modCtx n f).ports = s.ports := rfl
@[simp] theorem State.modCtx_slk (n : Nat) (f : Ctx → Ctx) : (s.modCtx n f).slk = s.slk := rfl
@[simp] theorem State.modCtx_enc (n : Nat) (f : Ctx → Ctx) : (s.modCtx n f).enc = s.enc := rfl
@[simp] theorem State.modCtx_aud (n : Nat) (f : Ctx → Ctx) : (s.modCtx n f).aud = s.aud := rfl
@[simp] theorem State.modCtx_nrg (n : Nat) (f : Ctx → Ctx) : (s.modCtx n f).nrg = s.nrg := rfl
@[simp] theorem State.modCtx_grd (n : Nat) (f : Ctx → Ctx) : (s.modCtx n f).grd = s.grd := rfl
@[simp] theorem State.modCtx_lnk (n : Nat) (f : Ctx → Ctx) : (s.modCtx n f).lnk = s.lnk := rfl
@[simp] theorem State.modCtx_io (n : Nat) (f : Ctx → Ctx) : (s.modCtx n f).io = s.io := rfl
@[simp] theorem State.modCtx_mem (n : Nat) (f : Ctx → Ctx) : (s.modCtx n f).mem = s.mem := rfl
@[simp] theorem State.modCtx_out (n : Nat) (f : Ctx → Ctx) : (s.modCtx n f).out = s.out := rfl
@[simp] theorem State.modCtx_free (n : Nat) (f : Ctx → Ctx) : (s.modCtx n f).free = s.free := rfl
@[simp] theorem State.modCtx_pending (n : Nat) (f : Ctx → Ctx) : (s.modCtx n f).pending = s.pending := rfl

/-! ### modSlk -/

@[simp] theorem State.modSlk_clk (n : Nat) (f : Slk → Slk) : (s.modSlk n f).clk = s.clk := rfl
@[simp] theorem State.modSlk_hif (n : Nat) (f : Slk → Slk) : (s.modSlk n f).hif = s.hif := rfl
@[simp] theorem State.modSlk_ses (n : Nat) (f : Slk → Slk) : (s.modSlk n f).ses = s.ses := rfl
@[simp] theorem State.modSlk_txn (n : Nat) (f : Slk → Slk) : (s.modSlk n f).txn = s.txn := rfl
@[simp] theorem State.modSlk_hoop (n : Nat) (f : Slk → Slk) : (s.modSlk n f).hoop = s.hoop := rfl
@[simp] theorem State.modSlk_pwr (n : Nat) (f : Slk → Slk) : (s.modSlk n f).pwr = s.pwr := rfl
@[simp] theorem State.modSlk_net (n : Nat) (f : Slk → Slk) : (s.modSlk n f).net = s.net := rfl
@[simp] theorem State.modSlk_dec (n : Nat) (f : Slk → Slk) : (s.modSlk n f).dec = s.dec := rfl
@[simp] theorem State.modSlk_lay (n : Nat) (f : Slk → Slk) : (s.modSlk n f).lay = s.lay := rfl
@[simp] theorem State.modSlk_heads (n : Nat) (f : Slk → Slk) : (s.modSlk n f).heads = s.heads := rfl
@[simp] theorem State.modSlk_ports (n : Nat) (f : Slk → Slk) : (s.modSlk n f).ports = s.ports := rfl
@[simp] theorem State.modSlk_slk (n : Nat) (f : Slk → Slk) : (s.modSlk n f).slk = modAt s.slk n f := rfl
@[simp] theorem State.modSlk_enc (n : Nat) (f : Slk → Slk) : (s.modSlk n f).enc = s.enc := rfl
@[simp] theorem State.modSlk_aud (n : Nat) (f : Slk → Slk) : (s.modSlk n f).aud = s.aud := rfl
@[simp] theorem State.modSlk_nrg (n : Nat) (f : Slk → Slk) : (s.modSlk n f).nrg = s.nrg := rfl
@[simp] theorem State.modSlk_grd (n : Nat) (f : Slk → Slk) : (s.modSlk n f).grd = s.grd := rfl
@[simp] theorem State.modSlk_lnk (n : Nat) (f : Slk → Slk) : (s.modSlk n f).lnk = s.lnk := rfl
@[simp] theorem State.modSlk_io (n : Nat) (f : Slk → Slk) : (s.modSlk n f).io = s.io := rfl
@[simp] theorem State.modSlk_mem (n : Nat) (f : Slk → Slk) : (s.modSlk n f).mem = s.mem := rfl
@[simp] theorem State.modSlk_out (n : Nat) (f : Slk → Slk) : (s.modSlk n f).out = s.out := rfl
@[simp] theorem State.modSlk_free (n : Nat) (f : Slk → Slk) : (s.modSlk n f).free = s.free := rfl
@[simp] theorem State.modSlk_pending (n : Nat) (f : Slk → Slk) : (s.modSlk n f).pending = s.pending := rfl

/-! ### modLayer -/

@[simp] theorem State.modLayer_clk (n : Nat) (f : Layer → Layer) : (s.modLayer n f).clk = s.clk := rfl
@[simp] theorem State.modLayer_hif (n : Nat) (f : Layer → Layer) : (s.modLayer n f).hif = s.hif := rfl
@[simp] theorem State.modLayer_ses (n : Nat) (f : Layer → Layer) : (s.modLayer n f).ses = s.ses := rfl
@[simp] theorem State.modLayer_txn (n : Nat) (f : Layer → Layer) : (s.modLayer n f).txn = s.txn := rfl
@[simp] theorem State.modLayer_hoop (n : Nat) (f : Layer → Layer) : (s.modLayer n f).hoop = s.hoop := rfl
@[simp] theorem State.modLayer_pwr (n : Nat) (f : Layer → Layer) : (s.modLayer n f).pwr = s.pwr := rfl
@[simp] theorem State.modLayer_net (n : Nat) (f : Layer → Layer) : (s.modLayer n f).net = s.net := rfl
@[simp] theorem State.modLayer_dec (n : Nat) (f : Layer → Layer) : (s.modLayer n f).dec = s.dec := rfl
@[simp] theorem State.modLayer_heads (n : Nat) (f : Layer → Layer) : (s.modLayer n f).heads = s.heads := rfl
@[simp] theorem State.modLayer_ports (n : Nat) (f : Layer → Layer) : (s.modLayer n f).ports = s.ports := rfl
@[simp] theorem State.modLayer_slk (n : Nat) (f : Layer → Layer) : (s.modLayer n f).slk = s.slk := rfl
@[simp] theorem State.modLayer_enc (n : Nat) (f : Layer → Layer) : (s.modLayer n f).enc = s.enc := rfl
@[simp] theorem State.modLayer_aud (n : Nat) (f : Layer → Layer) : (s.modLayer n f).aud = s.aud := rfl
@[simp] theorem State.modLayer_nrg (n : Nat) (f : Layer → Layer) : (s.modLayer n f).nrg = s.nrg := rfl
@[simp] theorem State.modLayer_grd (n : Nat) (f : Layer → Layer) : (s.modLayer n f).grd = s.grd := rfl
@[simp] theorem State.modLayer_lnk (n : Nat) (f : Layer → Layer) : (s.modLayer n f).lnk = s.lnk := rfl
@[simp] theorem State.modLayer_io (n : Nat) (f : Layer → Layer) : (s.modLayer n f).io = s.io := rfl
@[simp] theorem State.modLayer_mem (n : Nat) (f : Layer → Layer) : (s.modLayer n f).mem = s.mem := rfl
@[simp] theorem State.modLayer_out (n : Nat) (f : Layer → Layer) : (s.modLayer n f).out = s.out := rfl
@[simp] theorem State.modLayer_free (n : Nat) (f : Layer → Layer) : (s.modLayer n f).free = s.free := rfl
@[simp] theorem State.modLayer_pending (n : Nat) (f : Layer → Layer) : (s.modLayer n f).pending = s.pending := rfl

/-! ### modTile -/

@[simp] theorem State.modTile_clk (n h : Nat) (f : Tile → Tile) : (s.modTile n h f).clk = s.clk := rfl
@[simp] theorem State.modTile_hif (n h : Nat) (f : Tile → Tile) : (s.modTile n h f).hif = s.hif := rfl
@[simp] theorem State.modTile_ses (n h : Nat) (f : Tile → Tile) : (s.modTile n h f).ses = s.ses := rfl
@[simp] theorem State.modTile_txn (n h : Nat) (f : Tile → Tile) : (s.modTile n h f).txn = s.txn := rfl
@[simp] theorem State.modTile_hoop (n h : Nat) (f : Tile → Tile) : (s.modTile n h f).hoop = s.hoop := rfl
@[simp] theorem State.modTile_pwr (n h : Nat) (f : Tile → Tile) : (s.modTile n h f).pwr = s.pwr := rfl
@[simp] theorem State.modTile_net (n h : Nat) (f : Tile → Tile) : (s.modTile n h f).net = s.net := rfl
@[simp] theorem State.modTile_dec (n h : Nat) (f : Tile → Tile) : (s.modTile n h f).dec = s.dec := rfl
@[simp] theorem State.modTile_heads (n h : Nat) (f : Tile → Tile) : (s.modTile n h f).heads = s.heads := rfl
@[simp] theorem State.modTile_ports (n h : Nat) (f : Tile → Tile) : (s.modTile n h f).ports = s.ports := rfl
@[simp] theorem State.modTile_slk (n h : Nat) (f : Tile → Tile) : (s.modTile n h f).slk = s.slk := rfl
@[simp] theorem State.modTile_enc (n h : Nat) (f : Tile → Tile) : (s.modTile n h f).enc = s.enc := rfl
@[simp] theorem State.modTile_aud (n h : Nat) (f : Tile → Tile) : (s.modTile n h f).aud = s.aud := rfl
@[simp] theorem State.modTile_nrg (n h : Nat) (f : Tile → Tile) : (s.modTile n h f).nrg = s.nrg := rfl
@[simp] theorem State.modTile_grd (n h : Nat) (f : Tile → Tile) : (s.modTile n h f).grd = s.grd := rfl
@[simp] theorem State.modTile_lnk (n h : Nat) (f : Tile → Tile) : (s.modTile n h f).lnk = s.lnk := rfl
@[simp] theorem State.modTile_io (n h : Nat) (f : Tile → Tile) : (s.modTile n h f).io = s.io := rfl
@[simp] theorem State.modTile_mem (n h : Nat) (f : Tile → Tile) : (s.modTile n h f).mem = s.mem := rfl
@[simp] theorem State.modTile_out (n h : Nat) (f : Tile → Tile) : (s.modTile n h f).out = s.out := rfl
@[simp] theorem State.modTile_free (n h : Nat) (f : Tile → Tile) : (s.modTile n h f).free = s.free := rfl
@[simp] theorem State.modTile_pending (n h : Nat) (f : Tile → Tile) : (s.modTile n h f).pending = s.pending := rfl

/-! ### modHead -/

@[simp] theorem State.modHead_clk (h : Nat) (f : Head → Head) : (s.modHead h f).clk = s.clk := rfl
@[simp] theorem State.modHead_hif (h : Nat) (f : Head → Head) : (s.modHead h f).hif = s.hif := rfl
@[simp] theorem State.modHead_ses (h : Nat) (f : Head → Head) : (s.modHead h f).ses = s.ses := rfl
@[simp] theorem State.modHead_txn (h : Nat) (f : Head → Head) : (s.modHead h f).txn = s.txn := rfl
@[simp] theorem State.modHead_hoop (h : Nat) (f : Head → Head) : (s.modHead h f).hoop = s.hoop := rfl
@[simp] theorem State.modHead_pwr (h : Nat) (f : Head → Head) : (s.modHead h f).pwr = s.pwr := rfl
@[simp] theorem State.modHead_net (h : Nat) (f : Head → Head) : (s.modHead h f).net = s.net := rfl
@[simp] theorem State.modHead_dec (h : Nat) (f : Head → Head) : (s.modHead h f).dec = s.dec := rfl
@[simp] theorem State.modHead_lay (h : Nat) (f : Head → Head) : (s.modHead h f).lay = s.lay := rfl
@[simp] theorem State.modHead_heads (h : Nat) (f : Head → Head) : (s.modHead h f).heads = modAt s.heads h f := rfl
@[simp] theorem State.modHead_ports (h : Nat) (f : Head → Head) : (s.modHead h f).ports = s.ports := rfl
@[simp] theorem State.modHead_slk (h : Nat) (f : Head → Head) : (s.modHead h f).slk = s.slk := rfl
@[simp] theorem State.modHead_enc (h : Nat) (f : Head → Head) : (s.modHead h f).enc = s.enc := rfl
@[simp] theorem State.modHead_aud (h : Nat) (f : Head → Head) : (s.modHead h f).aud = s.aud := rfl
@[simp] theorem State.modHead_nrg (h : Nat) (f : Head → Head) : (s.modHead h f).nrg = s.nrg := rfl
@[simp] theorem State.modHead_grd (h : Nat) (f : Head → Head) : (s.modHead h f).grd = s.grd := rfl
@[simp] theorem State.modHead_lnk (h : Nat) (f : Head → Head) : (s.modHead h f).lnk = s.lnk := rfl
@[simp] theorem State.modHead_io (h : Nat) (f : Head → Head) : (s.modHead h f).io = s.io := rfl
@[simp] theorem State.modHead_mem (h : Nat) (f : Head → Head) : (s.modHead h f).mem = s.mem := rfl
@[simp] theorem State.modHead_out (h : Nat) (f : Head → Head) : (s.modHead h f).out = s.out := rfl
@[simp] theorem State.modHead_free (h : Nat) (f : Head → Head) : (s.modHead h f).free = s.free := rfl
@[simp] theorem State.modHead_pending (h : Nat) (f : Head → Head) : (s.modHead h f).pending = s.pending := rfl

/-! ### modDp -/

@[simp] theorem State.modDp_clk (p : Nat) (f : DpPort → DpPort) : (s.modDp p f).clk = s.clk := rfl
@[simp] theorem State.modDp_hif (p : Nat) (f : DpPort → DpPort) : (s.modDp p f).hif = s.hif := rfl
@[simp] theorem State.modDp_ses (p : Nat) (f : DpPort → DpPort) : (s.modDp p f).ses = s.ses := rfl
@[simp] theorem State.modDp_txn (p : Nat) (f : DpPort → DpPort) : (s.modDp p f).txn = s.txn := rfl
@[simp] theorem State.modDp_hoop (p : Nat) (f : DpPort → DpPort) : (s.modDp p f).hoop = s.hoop := rfl
@[simp] theorem State.modDp_pwr (p : Nat) (f : DpPort → DpPort) : (s.modDp p f).pwr = s.pwr := rfl
@[simp] theorem State.modDp_net (p : Nat) (f : DpPort → DpPort) : (s.modDp p f).net = s.net := rfl
@[simp] theorem State.modDp_dec (p : Nat) (f : DpPort → DpPort) : (s.modDp p f).dec = s.dec := rfl
@[simp] theorem State.modDp_lay (p : Nat) (f : DpPort → DpPort) : (s.modDp p f).lay = s.lay := rfl
@[simp] theorem State.modDp_heads (p : Nat) (f : DpPort → DpPort) : (s.modDp p f).heads = s.heads := rfl
@[simp] theorem State.modDp_ports (p : Nat) (f : DpPort → DpPort) : (s.modDp p f).ports = modAt s.ports p f := rfl
@[simp] theorem State.modDp_slk (p : Nat) (f : DpPort → DpPort) : (s.modDp p f).slk = s.slk := rfl
@[simp] theorem State.modDp_enc (p : Nat) (f : DpPort → DpPort) : (s.modDp p f).enc = s.enc := rfl
@[simp] theorem State.modDp_aud (p : Nat) (f : DpPort → DpPort) : (s.modDp p f).aud = s.aud := rfl
@[simp] theorem State.modDp_nrg (p : Nat) (f : DpPort → DpPort) : (s.modDp p f).nrg = s.nrg := rfl
@[simp] theorem State.modDp_grd (p : Nat) (f : DpPort → DpPort) : (s.modDp p f).grd = s.grd := rfl
@[simp] theorem State.modDp_lnk (p : Nat) (f : DpPort → DpPort) : (s.modDp p f).lnk = s.lnk := rfl
@[simp] theorem State.modDp_io (p : Nat) (f : DpPort → DpPort) : (s.modDp p f).io = s.io := rfl
@[simp] theorem State.modDp_mem (p : Nat) (f : DpPort → DpPort) : (s.modDp p f).mem = s.mem := rfl
@[simp] theorem State.modDp_out (p : Nat) (f : DpPort → DpPort) : (s.modDp p f).out = s.out := rfl
@[simp] theorem State.modDp_free (p : Nat) (f : DpPort → DpPort) : (s.modDp p f).free = s.free := rfl
@[simp] theorem State.modDp_pending (p : Nat) (f : DpPort → DpPort) : (s.modDp p f).pending = s.pending := rfl

/-! ### modEnc -/

@[simp] theorem State.modEnc_clk (n : Nat) (f : Enc → Enc) : (s.modEnc n f).clk = s.clk := rfl
@[simp] theorem State.modEnc_hif (n : Nat) (f : Enc → Enc) : (s.modEnc n f).hif = s.hif := rfl
@[simp] theorem State.modEnc_ses (n : Nat) (f : Enc → Enc) : (s.modEnc n f).ses = s.ses := rfl
@[simp] theorem State.modEnc_txn (n : Nat) (f : Enc → Enc) : (s.modEnc n f).txn = s.txn := rfl
@[simp] theorem State.modEnc_hoop (n : Nat) (f : Enc → Enc) : (s.modEnc n f).hoop = s.hoop := rfl
@[simp] theorem State.modEnc_pwr (n : Nat) (f : Enc → Enc) : (s.modEnc n f).pwr = s.pwr := rfl
@[simp] theorem State.modEnc_net (n : Nat) (f : Enc → Enc) : (s.modEnc n f).net = s.net := rfl
@[simp] theorem State.modEnc_dec (n : Nat) (f : Enc → Enc) : (s.modEnc n f).dec = s.dec := rfl
@[simp] theorem State.modEnc_lay (n : Nat) (f : Enc → Enc) : (s.modEnc n f).lay = s.lay := rfl
@[simp] theorem State.modEnc_heads (n : Nat) (f : Enc → Enc) : (s.modEnc n f).heads = s.heads := rfl
@[simp] theorem State.modEnc_ports (n : Nat) (f : Enc → Enc) : (s.modEnc n f).ports = s.ports := rfl
@[simp] theorem State.modEnc_slk (n : Nat) (f : Enc → Enc) : (s.modEnc n f).slk = s.slk := rfl
@[simp] theorem State.modEnc_enc (n : Nat) (f : Enc → Enc) : (s.modEnc n f).enc = modAt s.enc n f := rfl
@[simp] theorem State.modEnc_aud (n : Nat) (f : Enc → Enc) : (s.modEnc n f).aud = s.aud := rfl
@[simp] theorem State.modEnc_nrg (n : Nat) (f : Enc → Enc) : (s.modEnc n f).nrg = s.nrg := rfl
@[simp] theorem State.modEnc_grd (n : Nat) (f : Enc → Enc) : (s.modEnc n f).grd = s.grd := rfl
@[simp] theorem State.modEnc_lnk (n : Nat) (f : Enc → Enc) : (s.modEnc n f).lnk = s.lnk := rfl
@[simp] theorem State.modEnc_io (n : Nat) (f : Enc → Enc) : (s.modEnc n f).io = s.io := rfl
@[simp] theorem State.modEnc_mem (n : Nat) (f : Enc → Enc) : (s.modEnc n f).mem = s.mem := rfl
@[simp] theorem State.modEnc_out (n : Nat) (f : Enc → Enc) : (s.modEnc n f).out = s.out := rfl
@[simp] theorem State.modEnc_free (n : Nat) (f : Enc → Enc) : (s.modEnc n f).free = s.free := rfl
@[simp] theorem State.modEnc_pending (n : Nat) (f : Enc → Enc) : (s.modEnc n f).pending = s.pending := rfl

/-! ### modAud -/

@[simp] theorem State.modAud_clk (f : Aud → Aud) : (s.modAud f).clk = s.clk := rfl
@[simp] theorem State.modAud_hif (f : Aud → Aud) : (s.modAud f).hif = s.hif := rfl
@[simp] theorem State.modAud_ses (f : Aud → Aud) : (s.modAud f).ses = s.ses := rfl
@[simp] theorem State.modAud_txn (f : Aud → Aud) : (s.modAud f).txn = s.txn := rfl
@[simp] theorem State.modAud_hoop (f : Aud → Aud) : (s.modAud f).hoop = s.hoop := rfl
@[simp] theorem State.modAud_pwr (f : Aud → Aud) : (s.modAud f).pwr = s.pwr := rfl
@[simp] theorem State.modAud_net (f : Aud → Aud) : (s.modAud f).net = s.net := rfl
@[simp] theorem State.modAud_dec (f : Aud → Aud) : (s.modAud f).dec = s.dec := rfl
@[simp] theorem State.modAud_lay (f : Aud → Aud) : (s.modAud f).lay = s.lay := rfl
@[simp] theorem State.modAud_heads (f : Aud → Aud) : (s.modAud f).heads = s.heads := rfl
@[simp] theorem State.modAud_ports (f : Aud → Aud) : (s.modAud f).ports = s.ports := rfl
@[simp] theorem State.modAud_slk (f : Aud → Aud) : (s.modAud f).slk = s.slk := rfl
@[simp] theorem State.modAud_enc (f : Aud → Aud) : (s.modAud f).enc = s.enc := rfl
@[simp] theorem State.modAud_aud (f : Aud → Aud) : (s.modAud f).aud = f s.aud := rfl
@[simp] theorem State.modAud_nrg (f : Aud → Aud) : (s.modAud f).nrg = s.nrg := rfl
@[simp] theorem State.modAud_grd (f : Aud → Aud) : (s.modAud f).grd = s.grd := rfl
@[simp] theorem State.modAud_lnk (f : Aud → Aud) : (s.modAud f).lnk = s.lnk := rfl
@[simp] theorem State.modAud_io (f : Aud → Aud) : (s.modAud f).io = s.io := rfl
@[simp] theorem State.modAud_mem (f : Aud → Aud) : (s.modAud f).mem = s.mem := rfl
@[simp] theorem State.modAud_out (f : Aud → Aud) : (s.modAud f).out = s.out := rfl
@[simp] theorem State.modAud_free (f : Aud → Aud) : (s.modAud f).free = s.free := rfl
@[simp] theorem State.modAud_pending (f : Aud → Aud) : (s.modAud f).pending = s.pending := rfl

/-! ### modGuard -/

@[simp] theorem State.modGuard_clk (u : Nat) (f : GuardUnit → GuardUnit) : (s.modGuard u f).clk = s.clk := rfl
@[simp] theorem State.modGuard_hif (u : Nat) (f : GuardUnit → GuardUnit) : (s.modGuard u f).hif = s.hif := rfl
@[simp] theorem State.modGuard_ses (u : Nat) (f : GuardUnit → GuardUnit) : (s.modGuard u f).ses = s.ses := rfl
@[simp] theorem State.modGuard_txn (u : Nat) (f : GuardUnit → GuardUnit) : (s.modGuard u f).txn = s.txn := rfl
@[simp] theorem State.modGuard_hoop (u : Nat) (f : GuardUnit → GuardUnit) : (s.modGuard u f).hoop = s.hoop := rfl
@[simp] theorem State.modGuard_pwr (u : Nat) (f : GuardUnit → GuardUnit) : (s.modGuard u f).pwr = s.pwr := rfl
@[simp] theorem State.modGuard_net (u : Nat) (f : GuardUnit → GuardUnit) : (s.modGuard u f).net = s.net := rfl
@[simp] theorem State.modGuard_dec (u : Nat) (f : GuardUnit → GuardUnit) : (s.modGuard u f).dec = s.dec := rfl
@[simp] theorem State.modGuard_lay (u : Nat) (f : GuardUnit → GuardUnit) : (s.modGuard u f).lay = s.lay := rfl
@[simp] theorem State.modGuard_heads (u : Nat) (f : GuardUnit → GuardUnit) : (s.modGuard u f).heads = s.heads := rfl
@[simp] theorem State.modGuard_ports (u : Nat) (f : GuardUnit → GuardUnit) : (s.modGuard u f).ports = s.ports := rfl
@[simp] theorem State.modGuard_slk (u : Nat) (f : GuardUnit → GuardUnit) : (s.modGuard u f).slk = s.slk := rfl
@[simp] theorem State.modGuard_enc (u : Nat) (f : GuardUnit → GuardUnit) : (s.modGuard u f).enc = s.enc := rfl
@[simp] theorem State.modGuard_aud (u : Nat) (f : GuardUnit → GuardUnit) : (s.modGuard u f).aud = s.aud := rfl
@[simp] theorem State.modGuard_nrg (u : Nat) (f : GuardUnit → GuardUnit) : (s.modGuard u f).nrg = s.nrg := rfl
@[simp] theorem State.modGuard_grd (u : Nat) (f : GuardUnit → GuardUnit) : (s.modGuard u f).grd = modAt s.grd u f := rfl
@[simp] theorem State.modGuard_lnk (u : Nat) (f : GuardUnit → GuardUnit) : (s.modGuard u f).lnk = s.lnk := rfl
@[simp] theorem State.modGuard_io (u : Nat) (f : GuardUnit → GuardUnit) : (s.modGuard u f).io = s.io := rfl
@[simp] theorem State.modGuard_mem (u : Nat) (f : GuardUnit → GuardUnit) : (s.modGuard u f).mem = s.mem := rfl
@[simp] theorem State.modGuard_out (u : Nat) (f : GuardUnit → GuardUnit) : (s.modGuard u f).out = s.out := rfl
@[simp] theorem State.modGuard_free (u : Nat) (f : GuardUnit → GuardUnit) : (s.modGuard u f).free = s.free := rfl
@[simp] theorem State.modGuard_pending (u : Nat) (f : GuardUnit → GuardUnit) : (s.modGuard u f).pending = s.pending := rfl

/-! ### modLk -/

@[simp] theorem State.modLk_clk (n : Nat) (f : Lk → Lk) : (s.modLk n f).clk = s.clk := rfl
@[simp] theorem State.modLk_hif (n : Nat) (f : Lk → Lk) : (s.modLk n f).hif = s.hif := rfl
@[simp] theorem State.modLk_ses (n : Nat) (f : Lk → Lk) : (s.modLk n f).ses = s.ses := rfl
@[simp] theorem State.modLk_txn (n : Nat) (f : Lk → Lk) : (s.modLk n f).txn = s.txn := rfl
@[simp] theorem State.modLk_hoop (n : Nat) (f : Lk → Lk) : (s.modLk n f).hoop = s.hoop := rfl
@[simp] theorem State.modLk_pwr (n : Nat) (f : Lk → Lk) : (s.modLk n f).pwr = s.pwr := rfl
@[simp] theorem State.modLk_net (n : Nat) (f : Lk → Lk) : (s.modLk n f).net = s.net := rfl
@[simp] theorem State.modLk_dec (n : Nat) (f : Lk → Lk) : (s.modLk n f).dec = s.dec := rfl
@[simp] theorem State.modLk_lay (n : Nat) (f : Lk → Lk) : (s.modLk n f).lay = s.lay := rfl
@[simp] theorem State.modLk_heads (n : Nat) (f : Lk → Lk) : (s.modLk n f).heads = s.heads := rfl
@[simp] theorem State.modLk_ports (n : Nat) (f : Lk → Lk) : (s.modLk n f).ports = s.ports := rfl
@[simp] theorem State.modLk_slk (n : Nat) (f : Lk → Lk) : (s.modLk n f).slk = s.slk := rfl
@[simp] theorem State.modLk_enc (n : Nat) (f : Lk → Lk) : (s.modLk n f).enc = s.enc := rfl
@[simp] theorem State.modLk_aud (n : Nat) (f : Lk → Lk) : (s.modLk n f).aud = s.aud := rfl
@[simp] theorem State.modLk_nrg (n : Nat) (f : Lk → Lk) : (s.modLk n f).nrg = s.nrg := rfl
@[simp] theorem State.modLk_grd (n : Nat) (f : Lk → Lk) : (s.modLk n f).grd = s.grd := rfl
@[simp] theorem State.modLk_io (n : Nat) (f : Lk → Lk) : (s.modLk n f).io = s.io := rfl
@[simp] theorem State.modLk_mem (n : Nat) (f : Lk → Lk) : (s.modLk n f).mem = s.mem := rfl
@[simp] theorem State.modLk_out (n : Nat) (f : Lk → Lk) : (s.modLk n f).out = s.out := rfl
@[simp] theorem State.modLk_free (n : Nat) (f : Lk → Lk) : (s.modLk n f).free = s.free := rfl
@[simp] theorem State.modLk_pending (n : Nat) (f : Lk → Lk) : (s.modLk n f).pending = s.pending := rfl

/-! ### modIo -/

@[simp] theorem State.modIo_clk (f : Io → Io) : (s.modIo f).clk = s.clk := rfl
@[simp] theorem State.modIo_hif (f : Io → Io) : (s.modIo f).hif = s.hif := rfl
@[simp] theorem State.modIo_ses (f : Io → Io) : (s.modIo f).ses = s.ses := rfl
@[simp] theorem State.modIo_txn (f : Io → Io) : (s.modIo f).txn = s.txn := rfl
@[simp] theorem State.modIo_hoop (f : Io → Io) : (s.modIo f).hoop = s.hoop := rfl
@[simp] theorem State.modIo_pwr (f : Io → Io) : (s.modIo f).pwr = s.pwr := rfl
@[simp] theorem State.modIo_net (f : Io → Io) : (s.modIo f).net = s.net := rfl
@[simp] theorem State.modIo_dec (f : Io → Io) : (s.modIo f).dec = s.dec := rfl
@[simp] theorem State.modIo_lay (f : Io → Io) : (s.modIo f).lay = s.lay := rfl
@[simp] theorem State.modIo_heads (f : Io → Io) : (s.modIo f).heads = s.heads := rfl
@[simp] theorem State.modIo_ports (f : Io → Io) : (s.modIo f).ports = s.ports := rfl
@[simp] theorem State.modIo_slk (f : Io → Io) : (s.modIo f).slk = s.slk := rfl
@[simp] theorem State.modIo_enc (f : Io → Io) : (s.modIo f).enc = s.enc := rfl
@[simp] theorem State.modIo_aud (f : Io → Io) : (s.modIo f).aud = s.aud := rfl
@[simp] theorem State.modIo_nrg (f : Io → Io) : (s.modIo f).nrg = s.nrg := rfl
@[simp] theorem State.modIo_grd (f : Io → Io) : (s.modIo f).grd = s.grd := rfl
@[simp] theorem State.modIo_lnk (f : Io → Io) : (s.modIo f).lnk = s.lnk := rfl
@[simp] theorem State.modIo_io (f : Io → Io) : (s.modIo f).io = f s.io := rfl
@[simp] theorem State.modIo_mem (f : Io → Io) : (s.modIo f).mem = s.mem := rfl
@[simp] theorem State.modIo_out (f : Io → Io) : (s.modIo f).out = s.out := rfl
@[simp] theorem State.modIo_free (f : Io → Io) : (s.modIo f).free = s.free := rfl
@[simp] theorem State.modIo_pending (f : Io → Io) : (s.modIo f).pending = s.pending := rfl

/-! ### modInp -/

@[simp] theorem State.modInp_clk (i : Nat) (f : Inp → Inp) : (s.modInp i f).clk = s.clk := rfl
@[simp] theorem State.modInp_hif (i : Nat) (f : Inp → Inp) : (s.modInp i f).hif = s.hif := rfl
@[simp] theorem State.modInp_ses (i : Nat) (f : Inp → Inp) : (s.modInp i f).ses = s.ses := rfl
@[simp] theorem State.modInp_txn (i : Nat) (f : Inp → Inp) : (s.modInp i f).txn = s.txn := rfl
@[simp] theorem State.modInp_hoop (i : Nat) (f : Inp → Inp) : (s.modInp i f).hoop = s.hoop := rfl
@[simp] theorem State.modInp_pwr (i : Nat) (f : Inp → Inp) : (s.modInp i f).pwr = s.pwr := rfl
@[simp] theorem State.modInp_net (i : Nat) (f : Inp → Inp) : (s.modInp i f).net = s.net := rfl
@[simp] theorem State.modInp_dec (i : Nat) (f : Inp → Inp) : (s.modInp i f).dec = s.dec := rfl
@[simp] theorem State.modInp_lay (i : Nat) (f : Inp → Inp) : (s.modInp i f).lay = s.lay := rfl
@[simp] theorem State.modInp_heads (i : Nat) (f : Inp → Inp) : (s.modInp i f).heads = s.heads := rfl
@[simp] theorem State.modInp_ports (i : Nat) (f : Inp → Inp) : (s.modInp i f).ports = s.ports := rfl
@[simp] theorem State.modInp_slk (i : Nat) (f : Inp → Inp) : (s.modInp i f).slk = s.slk := rfl
@[simp] theorem State.modInp_enc (i : Nat) (f : Inp → Inp) : (s.modInp i f).enc = s.enc := rfl
@[simp] theorem State.modInp_aud (i : Nat) (f : Inp → Inp) : (s.modInp i f).aud = s.aud := rfl
@[simp] theorem State.modInp_nrg (i : Nat) (f : Inp → Inp) : (s.modInp i f).nrg = s.nrg := rfl
@[simp] theorem State.modInp_grd (i : Nat) (f : Inp → Inp) : (s.modInp i f).grd = s.grd := rfl
@[simp] theorem State.modInp_lnk (i : Nat) (f : Inp → Inp) : (s.modInp i f).lnk = s.lnk := rfl
@[simp] theorem State.modInp_mem (i : Nat) (f : Inp → Inp) : (s.modInp i f).mem = s.mem := rfl
@[simp] theorem State.modInp_out (i : Nat) (f : Inp → Inp) : (s.modInp i f).out = s.out := rfl
@[simp] theorem State.modInp_free (i : Nat) (f : Inp → Inp) : (s.modInp i f).free = s.free := rfl
@[simp] theorem State.modInp_pending (i : Nat) (f : Inp → Inp) : (s.modInp i f).pending = s.pending := rfl

/-! ### modCbus -/

@[simp] theorem State.modCbus_clk (i : Nat) (f : Cbus → Cbus) : (s.modCbus i f).clk = s.clk := rfl
@[simp] theorem State.modCbus_hif (i : Nat) (f : Cbus → Cbus) : (s.modCbus i f).hif = s.hif := rfl
@[simp] theorem State.modCbus_ses (i : Nat) (f : Cbus → Cbus) : (s.modCbus i f).ses = s.ses := rfl
@[simp] theorem State.modCbus_txn (i : Nat) (f : Cbus → Cbus) : (s.modCbus i f).txn = s.txn := rfl
@[simp] theorem State.modCbus_hoop (i : Nat) (f : Cbus → Cbus) : (s.modCbus i f).hoop = s.hoop := rfl
@[simp] theorem State.modCbus_pwr (i : Nat) (f : Cbus → Cbus) : (s.modCbus i f).pwr = s.pwr := rfl
@[simp] theorem State.modCbus_net (i : Nat) (f : Cbus → Cbus) : (s.modCbus i f).net = s.net := rfl
@[simp] theorem State.modCbus_dec (i : Nat) (f : Cbus → Cbus) : (s.modCbus i f).dec = s.dec := rfl
@[simp] theorem State.modCbus_lay (i : Nat) (f : Cbus → Cbus) : (s.modCbus i f).lay = s.lay := rfl
@[simp] theorem State.modCbus_heads (i : Nat) (f : Cbus → Cbus) : (s.modCbus i f).heads = s.heads := rfl
@[simp] theorem State.modCbus_ports (i : Nat) (f : Cbus → Cbus) : (s.modCbus i f).ports = s.ports := rfl
@[simp] theorem State.modCbus_slk (i : Nat) (f : Cbus → Cbus) : (s.modCbus i f).slk = s.slk := rfl
@[simp] theorem State.modCbus_enc (i : Nat) (f : Cbus → Cbus) : (s.modCbus i f).enc = s.enc := rfl
@[simp] theorem State.modCbus_aud (i : Nat) (f : Cbus → Cbus) : (s.modCbus i f).aud = s.aud := rfl
@[simp] theorem State.modCbus_nrg (i : Nat) (f : Cbus → Cbus) : (s.modCbus i f).nrg = s.nrg := rfl
@[simp] theorem State.modCbus_grd (i : Nat) (f : Cbus → Cbus) : (s.modCbus i f).grd = s.grd := rfl
@[simp] theorem State.modCbus_lnk (i : Nat) (f : Cbus → Cbus) : (s.modCbus i f).lnk = s.lnk := rfl
@[simp] theorem State.modCbus_mem (i : Nat) (f : Cbus → Cbus) : (s.modCbus i f).mem = s.mem := rfl
@[simp] theorem State.modCbus_out (i : Nat) (f : Cbus → Cbus) : (s.modCbus i f).out = s.out := rfl
@[simp] theorem State.modCbus_free (i : Nat) (f : Cbus → Cbus) : (s.modCbus i f).free = s.free := rfl
@[simp] theorem State.modCbus_pending (i : Nat) (f : Cbus → Cbus) : (s.modCbus i f).pending = s.pending := rfl

/-! ### emit -/

@[simp] theorem State.emit_clk (o : Output) : (s.emit o).clk = s.clk := rfl
@[simp] theorem State.emit_hif (o : Output) : (s.emit o).hif = s.hif := rfl
@[simp] theorem State.emit_ses (o : Output) : (s.emit o).ses = s.ses := rfl
@[simp] theorem State.emit_txn (o : Output) : (s.emit o).txn = s.txn := rfl
@[simp] theorem State.emit_hoop (o : Output) : (s.emit o).hoop = s.hoop := rfl
@[simp] theorem State.emit_pwr (o : Output) : (s.emit o).pwr = s.pwr := rfl
@[simp] theorem State.emit_net (o : Output) : (s.emit o).net = s.net := rfl
@[simp] theorem State.emit_dec (o : Output) : (s.emit o).dec = s.dec := rfl
@[simp] theorem State.emit_lay (o : Output) : (s.emit o).lay = s.lay := rfl
@[simp] theorem State.emit_heads (o : Output) : (s.emit o).heads = s.heads := rfl
@[simp] theorem State.emit_ports (o : Output) : (s.emit o).ports = s.ports := rfl
@[simp] theorem State.emit_slk (o : Output) : (s.emit o).slk = s.slk := rfl
@[simp] theorem State.emit_enc (o : Output) : (s.emit o).enc = s.enc := rfl
@[simp] theorem State.emit_aud (o : Output) : (s.emit o).aud = s.aud := rfl
@[simp] theorem State.emit_nrg (o : Output) : (s.emit o).nrg = s.nrg := rfl
@[simp] theorem State.emit_grd (o : Output) : (s.emit o).grd = s.grd := rfl
@[simp] theorem State.emit_lnk (o : Output) : (s.emit o).lnk = s.lnk := rfl
@[simp] theorem State.emit_io (o : Output) : (s.emit o).io = s.io := rfl
@[simp] theorem State.emit_mem (o : Output) : (s.emit o).mem = s.mem := rfl
@[simp] theorem State.emit_out (o : Output) : (s.emit o).out = o :: s.out := rfl
@[simp] theorem State.emit_free (o : Output) : (s.emit o).free = s.free := rfl
@[simp] theorem State.emit_pending (o : Output) : (s.emit o).pending = s.pending := rfl

/-! ### sample -/

@[simp] theorem State.sample_clk (c o : Nat) (a : List Nat) : (s.sample c o a).clk = s.clk := rfl
@[simp] theorem State.sample_hif (c o : Nat) (a : List Nat) : (s.sample c o a).hif = s.hif := rfl
@[simp] theorem State.sample_ses (c o : Nat) (a : List Nat) : (s.sample c o a).ses = s.ses := rfl
@[simp] theorem State.sample_txn (c o : Nat) (a : List Nat) : (s.sample c o a).txn = s.txn := rfl
@[simp] theorem State.sample_pwr (c o : Nat) (a : List Nat) : (s.sample c o a).pwr = s.pwr := rfl
@[simp] theorem State.sample_net (c o : Nat) (a : List Nat) : (s.sample c o a).net = s.net := rfl
@[simp] theorem State.sample_dec (c o : Nat) (a : List Nat) : (s.sample c o a).dec = s.dec := rfl
@[simp] theorem State.sample_lay (c o : Nat) (a : List Nat) : (s.sample c o a).lay = s.lay := rfl
@[simp] theorem State.sample_heads (c o : Nat) (a : List Nat) : (s.sample c o a).heads = s.heads := rfl
@[simp] theorem State.sample_ports (c o : Nat) (a : List Nat) : (s.sample c o a).ports = s.ports := rfl
@[simp] theorem State.sample_slk (c o : Nat) (a : List Nat) : (s.sample c o a).slk = s.slk := rfl
@[simp] theorem State.sample_enc (c o : Nat) (a : List Nat) : (s.sample c o a).enc = s.enc := rfl
@[simp] theorem State.sample_aud (c o : Nat) (a : List Nat) : (s.sample c o a).aud = s.aud := rfl
@[simp] theorem State.sample_nrg (c o : Nat) (a : List Nat) : (s.sample c o a).nrg = s.nrg := rfl
@[simp] theorem State.sample_grd (c o : Nat) (a : List Nat) : (s.sample c o a).grd = s.grd := rfl
@[simp] theorem State.sample_lnk (c o : Nat) (a : List Nat) : (s.sample c o a).lnk = s.lnk := rfl
@[simp] theorem State.sample_io (c o : Nat) (a : List Nat) : (s.sample c o a).io = s.io := rfl
@[simp] theorem State.sample_mem (c o : Nat) (a : List Nat) : (s.sample c o a).mem = s.mem := rfl
@[simp] theorem State.sample_out (c o : Nat) (a : List Nat) : (s.sample c o a).out = s.out := rfl
@[simp] theorem State.sample_free (c o : Nat) (a : List Nat) : (s.sample c o a).free = s.free := rfl
@[simp] theorem State.sample_pending (c o : Nat) (a : List Nat) : (s.sample c o a).pending = s.pending := rfl

end Sys2Proof.Machine
end

