-- ==== Sys2Proof/Laws/Tables.lean ====
section
/-! SUPPORT. Tables of fixed length: what changing one entry (`modAt`) leaves, and doing a thing for each of a list. -/
namespace Sys2Proof.Machine

@[simp] theorem modAt_length {α : Type} (l : List α) (i : Nat) (f : α → α) : (modAt l i f).length = l.length := by
  simp [modAt]

theorem modAt_getElem? {α : Type} (l : List α) (i k : Nat) (f : α → α) :
    (modAt l i f)[k]? = l[k]?.map fun a => if k = i then f a else a := by
  simp [modAt, List.getElem?_mapIdx]

/-- The changed entry of a table. -/
theorem modAt_getD_self {α : Type} (l : List α) (i : Nat) (f : α → α) (d : α) (h : i < l.length) :
    (modAt l i f).getD i d = f (l.getD i d) := by
  simp [List.getD_eq_getElem?_getD, modAt_getElem?, List.getElem?_eq_getElem h]

/-- The other entries of a table stay. -/
theorem modAt_getD_other {α : Type} (l : List α) (i k : Nat) (f : α → α) (d : α) (h : k ≠ i) :
    (modAt l i f).getD k d = l.getD k d := by
  simp only [List.getD_eq_getElem?_getD, modAt_getElem?, if_neg h]
  cases l[k]? <;> rfl

/-- Only what a change makes of the entry itself matters. -/
theorem modAt_congr {α : Type} (l : List α) (i : Nat) (f g : α → α) (d : α) (h : f (l.getD i d) = g (l.getD i d)) :
    modAt l i f = modAt l i g := by
  apply List.ext_getElem?
  intro k
  rw [modAt_getElem?, modAt_getElem?]
  by_cases hk : k = i
  · subst hk
    cases hl : l[k]? with
    | none => rfl
    | some a =>
      rw [List.getD_eq_getElem?_getD, hl] at h
      simpa using h
  · simp [hk]

/-- Two changes of one entry are one. -/
theorem modAt_modAt {α : Type} (l : List α) (i : Nat) (f g : α → α) : modAt (modAt l i f) i g = modAt l i (g ∘ f) := by
  apply List.ext_getElem?
  intro k
  simp only [modAt_getElem?, Option.map_map]
  congr 1
  funext a
  by_cases hk : k = i <;> simp [hk]

@[simp] theorem State.forEach_nil {α : Type} (s : State) (f : α → State → State) : s.forEach [] f = s := rfl

@[simp] theorem State.forEach_cons {α : Type} (s : State) (a : α) (l : List α) (f : α → State → State) :
    s.forEach (a :: l) f = (f a s).forEach l f := rfl

theorem State.forEach_append {α : Type} (s : State) (l k : List α) (f : α → State → State) :
    s.forEach (l ++ k) f = (s.forEach l f).forEach k f := List.foldl_append ..

/-- What each round keeps, all rounds keep. -/
theorem State.forEach_keeps {α : Type} {p : State → Prop} {f : α → State → State} (h : ∀ a s, p s → p (f a s)) :
    ∀ (l : List α) (s : State), p s → p (s.forEach l f)
  | [], _, hs => hs
  | a :: l, s, hs => State.forEach_keeps h l (f a s) (h a s hs)

end Sys2Proof.Machine
end

