-- ==== Sys2Proof/WellFormed.lean ====
section
/-! DEFINITION. Well-formed rows: each operand is a value that its field or its interface can carry (spec/03, spec/04). -/
namespace Sys2Proof

/-- A request fits the header of Table 3-1 and the coordinates of its transport. -/
def Request.wf (r : Request) : Bool :=
  r.queue < 4 && r.port < 5 && r.udp < m16 && r.peer < 2 ^ 128 && r.seq < m64 && r.tag < m32 && r.txn < m16 &&
  r.flags < 256 && r.session < 16 && r.stitch < m32 && r.payload.length + 16 < m16

/-- A submission entry fits Table 3-3. -/
def SqEntry.wf (e : SqEntry) : Bool :=
  e.control < m32 && e.length < m32 && e.address < m64 && e.inline.length = 48

/-- A row's operands are values their fields can carry; the objects of an event are in range (Tables 4-27, 4-28). -/
def Instr.wf (i : Instr) : Bool :=
  match i with
  | .nop _ r => r.wf
  | .identify _ r => r.wf
  | .getStatus _ r => r.wf
  | .setEventMask _ r => r.wf
  | .resetBlock _ r => r.wf
  | .engineResetDone _ _ => true
  | .peek _ r => r.wf
  | .poke _ r => r.wf
  | .sessionOpen _ r => r.wf
  | .sessionClose _ r => r.wf
  | .networkSessionIdleClose _ session => session < 16
  | .safetyHeartbeat _ r => r.wf
  | .heartbeatLost _ => true
  | .txnBegin _ r => r.wf
  | .txnCommit _ r => r.wf
  | .txnRollback _ r => r.wf
  | .txnQuery _ r => r.wf
  | .txnIdleExpiry _ handle => handle < 65536
  | .txnFenceTimeout _ handle => handle < 65536
  | .txnApplyGlobal _ handle => handle < 65536
  | .deferredCommandExecute _ => true
  | .heldEventsDiscard _ => true
  | .srcOpen _ r => r.wf
  | .srcClose _ r => r.wf
  | .srcSetFilter _ r => r.wf
  | .srcJoin _ r => r.wf
  | .srcLeave _ r => r.wf
  | .srcGetStats _ r => r.wf
  | .srcSetJitter _ r => r.wf
  | .srcSetCredit _ r => r.wf
  | .netPortConfig _ r => r.wf
  | .netAddr _ r => r.wf
  | .netStats _ r => r.wf
  | .netLoop _ r => r.wf
  | .netLoopExpiry _ port => port < 5
  | .packetReceive _ _ => true
  | .reorderWindowExpiry _ src => src < 96
  | .candidateTimeout _ src => src < 96
  | .channelSilent _ src => src < 96
  | .contestClear _ src => src < 96
  | .pathDown _ src path => src < 96 && path < 2
  | .ethSpeedWindowExpiry _ o => o.port < 4
  | .ethLinkUp _ port _ => port < 5
  | .ethLinkDown _ port => port < 5
  | .membershipQuery _ _ => true
  | .membershipReportRetransmit _ port => port < 5
  | .arpNdpIcmpRequest _ _ => true
  | .decConfig _ r => r.wf
  | .decStart _ r => r.wf
  | .decStop _ r => r.wf
  | .decFlush _ r => r.wf
  | .decGetPool _ r => r.wf
  | .decSetConceal _ r => r.wf
  | .decodeRowComplete _ ch _ => ch < 64
  | .decodeDone _ ch _ => ch < 64
  | .freshSetPolicy _ r => r.wf
  | .freshGetState _ r => r.wf
  | .freezeSet _ r => r.wf
  | .freshSetTreatment _ r => r.wf
  | .provRead _ r => r.wf
  | .tilePause _ r => r.wf
  | .tileResume _ r => r.wf
  | .layerBind _ r => r.wf
  | .layerPlace _ r => r.wf
  | .layerScale _ r => r.wf
  | .layerFlip _ r => r.wf
  | .layerEnable _ r => r.wf
  | .layerDisable _ r => r.wf
  | .blendOrder _ r => r.wf
  | .layerAlpha _ r => r.wf
  | .coefLoad _ r => r.wf
  | .lutLoadPre _ r => r.wf
  | .lutLoadPost _ r => r.wf
  | .tableRead _ r => r.wf
  | .shadowTimeout _ _ => true
  | .fenceCreate _ r => r.wf
  | .fenceSignal _ r => r.wf
  | .fenceDestroy _ r => r.wf
  | .applStyleLoad _ r => r.wf
  | .applBanner _ r => r.wf
  | .applSafeMap _ r => r.wf
  | .applStatus _ r => r.wf
  | .headTiming _ r => r.wf
  | .headBindPort _ r => r.wf
  | .headApplyLine _ r => r.wf
  | .headGenlock _ r => r.wf
  | .headSelfRefresh _ r => r.wf
  | .headEnable _ r => r.wf
  | .headDisable _ r => r.wf
  | .headGetCrc _ r => r.wf
  | .portTrain _ r => r.wf
  | .portTrainingComplete _ port _ => port < 16
  | .hpdShortPulse _ port _ => port < 16
  | .hpdLongLow _ port => port < 16
  | .hpdRise _ port => port < 16
  | .sliceLock _ r => r.wf
  | .stitchBoundary _ _ => true
  | .headFrameStart _ head => head < 32
  | .applyLineReached _ head => head < 32
  | .flipAbandon _ layer head => layer < 192 && head < 33
  | .tileVerdict _ head layer _ => head < 32 && layer < 192
  | .tileStateCoalesce _ layer head => layer < 192 && head < 32
  | .sliceCheckLine _ ch _ => ch < 64
  | .sliceLockReturn _ ch => ch < 64
  | .lastActiveLineEnd _ head _ => head < 32
  | .attestRecordComplete _ head => head < 32
  | .encConfig _ r => r.wf
  | .encStart _ r => r.wf
  | .encStop _ r => r.wf
  | .encSetRate _ r => r.wf
  | .attestConfig _ r => r.wf
  | .attestRead _ r => r.wf
  | .encodePictureDone _ ec _ => ec < 16
  | .rtcpSenderReport _ ec => ec < 16
  | .audPortConfig _ r => r.wf
  | .audRoute _ r => r.wf
  | .audGroup _ r => r.wf
  | .audTone _ r => r.wf
  | .audStats _ r => r.wf
  | .tonePhaseChange _ tone => tone < 8
  | .toneDurationExpiry _ tone => tone < 8
  | .nonPcmDetect _ _ pair _ => pair < 64
  | .nonPcmClear _ _ pair => pair < 64
  | .steerLimit _ group _ => group < 8
  | .timeConfig _ r => r.wf
  | .timeGet _ r => r.wf
  | .timeSet _ r => r.wf
  | .timeSlewLimit _ r => r.wf
  | .timeAsym _ r => r.wf
  | .timeStats _ r => r.wf
  | .timeLegacyMode _ r => r.wf
  | .ptpSync _ _ => true
  | .ptpAnnounce _ domain _ => domain < 2
  | .ptpMasterTimeout _ domain => domain < 2
  | .domainEvaluation _ => true
  | .rtcLoad _ => true
  | .touchConfig _ r => r.wf
  | .touchStatus _ r => r.wf
  | .touchRecal _ r => r.wf
  | .gpioConfig _ r => r.wf
  | .gpioStatus _ r => r.wf
  | .safeStatus _ r => r.wf
  | .cbusConfig _ r => r.wf
  | .cbusSend _ r => r.wf
  | .cbusFrameSent _ port _ _ => port < 2
  | .cbusSendTimeout _ port => port < 2
  | .consoleFrameReceive _ port _ => port < 2
  | .plcaLost _ port => port < 2
  | .plcaBeacon _ port => port < 2
  | .touchScan _ _ => true
  | .touchHoldLimit _ electrode => electrode < 32
  | .approachScan _ _ => true
  | .inputDebouncedChange _ input => input < 56
  | .inputRawTransition _ input _ => input < 56
  | .chatterClear _ input => input < 56
  | .inputStuck _ input => input < 56
  | .pairFault _ pair => pair < 4
  | .pairOk _ pair => pair < 4
  | .linkConfig _ r => r.wf
  | .linkTrain _ r => r.wf
  | .linkStatus _ r => r.wf
  | .linkPrbs _ r => r.wf
  | .linkLoop _ r => r.wf
  | .linkLoopExpiry _ link => link < 4
  | .linkTxeq _ r => r.wf
  | .linkLowpower _ r => r.wf
  | .linkTrainingComplete _ link _ => link < 4
  | .linkRetryTimer _ link => link < 4
  | .linkRetrainTrigger _ link _ _ => link < 4
  | .linkActiveLossTimeout _ link => link < 4
  | .flitReceive _ link _ => link < 4
  | .llcReceive _ link _ => link < 4
  | .replayTimeout _ link => link < 4
  | .forwardMessageSend _ link _ _ _ _ _ => link < 4
  | .forwardedMessageReceive _ link _ => link < 4
  | .beaconReceive _ link _ => link < 4
  | .linkMisaligned _ link => link < 4
  | .marginMeasure _ link _ => link < 4
  | .linkIdleEntry _ link => link < 4
  | .linkSleepEntry _ link => link < 4
  | .energySetBudget _ r => r.wf
  | .energyGet _ r => r.wf
  | .energySetClass _ r => r.wf
  | .energyCorrectionUpdate _ _ => true
  | .pmbusLost _ => true
  | .pstateRequest _ r => r.wf
  | .pstateStatus _ r => r.wf
  | .wakeConfig _ r => r.wf
  | .refusalLog _ r => r.wf
  | .scheduledEntry _ => true
  | .pstateEntryComplete _ => true
  | .wakeEvent _ _ => true
  | .rtcAlarm _ => true
  | .wakeComplete _ => true
  | .guardUpdate _ r => r.wf
  | .guardUpdateReopen _ unit => unit < 9
  | .guardRead _ r => r.wf
  | .guardFaults _ r => r.wf
  | .guardLock _ r => r.wf
  | .guardAccessCheck _ _ => true
  | .eccUncorrectableControl _ _ => true
  | .eccUncorrectablePixel _ _ => true
  | .scrubPass _ _ => true
  | .bistRun _ r => r.wf
  | .bistComplete _ _ => true
  | .bistResult _ r => r.wf
  | .dpPattern _ r => r.wf
  | .logRead _ r => r.wf
  | .samplerRead _ r => r.wf
  | .samplerArm _ r => r.wf
  | .samplerTrigger _ r => r.wf
  | .samplerFreeze _ => true
  | .samplerCopyDone _ _ => true
  | .sensorRead _ r => r.wf
  | .sensorSample _ _ => true
  | .gradientClear _ => true
  | .thermalTrip _ sensor _ => sensor < 18
  | .thermalTripRecovery _ => true
  | .bobbinWatchdogMiss _ bobbin => bobbin < 12
  | .hoopWatchdogExpiry _ => true
  | .brownOut _ _ => true
  | .updBegin _ r => r.wf
  | .updChunk _ r => r.wf
  | .updChunkProgrammed _ => true
  | .updVerify _ r => r.wf
  | .updActivate _ r => r.wf
  | .updRollback _ r => r.wf
  | .updStatus _ r => r.wf
  | .trialHealthy _ => true
  | .trialTimeout _ => true
  | .delayedWarmReset _ => true
  | .debugUnlockResponse _ _ => true
  | .fieldReturnResponse _ _ => true
  | .clockMonitorFinding _ input _ _ => input < 16
  | .clockGoodAgain _ input => input < 16
  | .clockFaultBanner _ => true
  | .refclkRecoveryEnd _ => true
  | .porstAssert _ => true
  | .porstRelease _ => true
  | .warmReset _ => true
  | .deviceReady _ => true
  | .hifCtrlEnableSet _ => true
  | .hifCtrlEnableClear _ => true
  | .hifStitchLoRead _ => true
  | .sqTailDoorbell _ queue _ => queue < 4
  | .cqHeadDoorbell _ queue _ => queue < 4
  | .eqHeadDoorbell _ _ => true
  | .rbufProdWrite _ _ => true
  | .hifFenceSignalWrite _ _ _ => true
  | .irqStatusClear _ _ => true
  | .apertureBaseWrite _ _ _ => true
  | .registerWrite _ _ _ => true
  | .apertureAccess _ _ _ _ _ => true
  | .sqEntryTake _ entry => entry.wf
  | .networkDatagramReceive _ port _ _ _ => port < 5
  | .spiWritePacket _ _ _ => true
  | .spiReadReply _ _ => true
  | .frameSyncEdge _ port _ => port < 8
  | .samplePlayTime _ group => group < 8
  | .llcAckTimer _ link => link < 4
  | .ptpDelayReqInterval _ domain => domain < 2
  | .ptpDelayResponse _ domain _ _ => domain < 2
  | .debugUnlockChallenge _ => true
  | .fieldReturnChallenge _ => true

end Sys2Proof
end

