-- ==== Sys2Proof/Tests/Slice0.lean ====
section
/-! SUPPORT. Tests of the model: ill-formed operands that the checks refuse, single steps against values of the spec, and for
every statement with hypotheses a concrete state and operands that meet them. -/
namespace Sys2Proof.Tests
open Sys2Proof Sys2Proof.Machine
set_option Elab.async false

/-- A device that has signalled ready, with an ADMIN and a SERVICE session on the SPI port. -/
def ready : State :=
  { State.reset with
    hif := { State.reset.hif with ready := true, hoopState := 2 }
    ses := { State.reset.ses with
      sessions := [{ number := 1, role := 2, transport := .spi }, { number := 2, role := 4, transport := .spi }] } }

/-- The little-endian bytes of fields, given as (width, value). -/
def fields (l : List (Nat × Nat)) : List Byte := l.flatMap fun f => leBytes f.1 f.2

/-- A request with these payload fields: on session 0 of the SPI port, its ADMIN or SERVICE session, the safety port. -/
def rq (l : List (Nat × Nat)) : Request := { payload := fields l }
def rqA (l : List (Nat × Nat)) : Request := { payload := fields l, session := 1 }
def rqV (l : List (Nat × Nat)) : Request := { payload := fields l, session := 2 }
def rqS (l : List (Nat × Nat)) : Request := { payload := fields l, transport := .safetySpi }

/-- The request is taken and clear in `s`, and `p` holds of it there. -/
def meets (c : Cmd) (r : Request) (s : State) (p : Job → State → Bool := fun _ _ => true) : Bool :=
  match taken c 0 r s with
  | some (j, s1) => clear c j s1 && p j s1
  | none => false

/-! ### Witnesses: sessions, engines, transactions -/

/-- A challenge given to the SPI port's session 0, a key and the proof over them. -/
def challenged (tr : Transport) : State :=
  { ready with
    ses := { ready.ses with challenges := [{ transport := tr, bytes := List.replicate 16 7, issued := 0 }] }
    hoop := { ready.hoop with keys := ready.hoop.keys.set 1 (some (List.replicate 32 9)) } }

/-- SESSION_OPEN MODE 1 as ADMIN with the proof of R95. -/
def openPayload : List Byte :=
  [1, 2, 0, 0] ++ List.replicate 16 5 ++
    (hmacSha256 (List.replicate 32 9) (List.replicate 16 7 ++ List.replicate 16 5 ++ [2])).take 16

/-- `challenged` over the network, with port 4 up. -/
def challengedNet : State :=
  ({ challenged .network with
    net := { ready.net with ports := ready.net.ports.set 4 { enable := true, command := true, link := true } } } : State)

/-- `ready` while the engine named is under test. -/
def withBist (origin : Nat) : State := { ready with hoop := { ready.hoop with bist := { st := 1, origin } } }

theorem witness_HostCommands :
    meets cmdNop (rq [(1, 5)]) ready ∧ meets cmdIdentify (rq []) ready ∧
    meets cmdGetStatus (rq [(4, 0)]) ready (fun j _ => j.u8 0 = 0) ∧
    meets cmdGetStatus (rq [(4, 2)]) ready (fun j s => j.u8 0 = 2 && !s.loader) ∧
    meets cmdSetEventMask (rq [(8, 0xFFFE)]) ready ∧ meets cmdSessionOpen (rq [(36, 0)]) ready (fun j _ => j.u8 0 = 0) ∧
    meets cmdSessionOpen { payload := openPayload } (challenged .spi) (fun j s => j.u8 0 ≠ 0 ∧ j.req.transport ≠ .network ∧
      (s.ses.challenges.find? fun c => c.of j.req && s.now < c.issued + 10000000000) =
        some { transport := .spi, bytes := List.replicate 16 7, issued := 0 } ∧
      roleOver (j.u8 1) j.req.transport ∧ s.hoop.keys.getD (j.u8 1 - 1) none = some (List.replicate 32 9) ∧
      (hmacSha256 (List.replicate 32 9) (List.replicate 16 7 ++ j.bytes 4 16 ++ [BitVec.ofNat 8 (j.u8 1)])).take 16 =
        j.bytes 20 16 ∧ j.u8 1 ≠ 3 ∧
      ((List.range 15).map (· + 1)).find? (fun n => !s.ses.sessions.any fun x => x.number = n) = some 3) ∧
    meets cmdSessionOpen { payload := openPayload, transport := .network, port := 4 } challengedNet (fun j s =>
      j.u8 0 ≠ 0 ∧ j.req.transport = .network ∧
      (s.ses.challenges.find? fun c => c.of j.req && s.now < c.issued + 10000000000) =
        some { transport := .network, bytes := List.replicate 16 7, issued := 0 } ∧
      s.hoop.keys.getD (j.u8 1 - 1) none = some (List.replicate 32 9) ∧
      (hmacSha256 (List.replicate 32 9) (List.replicate 16 7 ++ j.bytes 4 16 ++ [BitVec.ofNat 8 (j.u8 1)])).take 16 =
        j.bytes 20 16 ∧ (j.u8 1 = 3 → ∀ x ∈ s.ses.sessions, x.role = 3 → x.transport ≠ .network) ∧
      ((List.range 15).map (· + 1)).find? (fun n => !s.ses.sessions.any fun x => x.number = n) = some 3) ∧
    meets cmdSessionClose (rqA [(4, 2)]) ready (fun j s => (s.session? 2).isSome ∧ s.roleOf j.req = 2) ∧
    meets cmdSessionClose (rqV [(4, 0)]) ready (fun j s => j.u8 0 = 0 ∧ (s.session? j.req.session).isSome) ∧
    meets cmdSafetyHeartbeat (rqS [(4, 0), (4, 77)]) ready ∧
    meets cmdResetBlock (rqA [(4, 0x1001)]) ready (fun j s => engineExists (j.u16 0) ∧ resetProtected (j.u16 0) = false ∧
      s.hoop.bist.st ≠ 1 ∧ clusterDomain (j.u16 0 / 256) = some 3 ∧ j.u16 0 / 256 ≠ 0x50 ∧ s.reachable 3) ∧
    meets cmdResetBlock (rqA [(4, 0x1001)]) (withBist 0x5001) (fun j s => s.hoop.bist.st = 1 ∧
      ¬(originCovers s.hoop.bist.origin (j.u16 0) ∨ originCovers (j.u16 0) s.hoop.bist.origin)) ∧
    meets cmdResetBlock (rqA [(4, 0x50FF)]) ready (fun j s => engineExists (j.u16 0) ∧ s.hoop.bist.st ≠ 1 ∧ s.reachable 13) ∧
    meets cmdResetBlock (rqA [(4, 0x5004)]) ready (fun j s => j.u16 0 / 256 = 0x50 ∧ j.u16 0 % 256 ≠ 0xFF ∧
      s.reachable (13 + j.u16 0 % 256 / 4)) := by
  decide +kernel

theorem witness_SessionAndEngineEvents :
    (let s := ({ ready with
        ses := { ready.ses with sessions := [{ number := 1, role := 2, transport := .network }] } } : State).tick 300000000000;
      (s.session? 1).any fun x => x.transport = .network && x.lastAccepted + 300000000000 ≤ s.now) ∧
    (let s := ({ ready with ses := { ready.ses with supervised := true, hbDeadline := 5 } } : State).tick 5;
      s.ses.supervised ∧ s.ses.hbLost = false ∧ s.hbPaused = false ∧ s.ses.hbDeadline ≤ s.now) ∧
    (ready.tick 9).ses.heldUntil ≤ (ready.tick 9).now ∧
    (let s := ({ ready with hoop := { ready.hoop with resetting := [(0x1001, none)] } } : State).tick 1;
      s.hoop.resetting.find? (fun r => r.1 = 0x1001) = some (0x1001, none)) ∧
    ((ready.tick 1).hif.ready ∧ (ready.tick 1).domainOn 2 ∧ (ready.tick 1).domainOn 12 ∧
      (ready.tick 1).hoop.bobbinDown.contains 11 = false) ∧
    (let s := ({ ready with pwr := { ready.pwr with pstate := 2, on := ready.pwr.on.set 2 false } } : State).tick 1;
      s.hif.ready ∧ s.domainOn 2 = false ∧ s.pwr.pstate = 2 ∧ s.hoop.bobbinDown.contains 11 = false) ∧
    engineExists 0x1001 := by
  decide +kernel

/-- Transaction 1 of the SPI port's session 0 in a given state. -/
def withTxn (x : Txn) (s : State := ready) : State := { s with txn := { s.txn with live := [x] } }
def txn1 : Txn := { handle := 1, session := 0, transport := .spi }

theorem witness_TransactionRows :
    meets cmdTxnBegin (rq [(4, 0)]) ready (fun _ s => s.txn.live.length < 4) ∧
    meets cmdTxnCommit (rq [(4, 1), (8, 0x80000000), (4, 10000000), (4, 1), (2, 0xB0FF), (2, 0), (8, 9)])
      { withTxn txn1 with
        lay := { ready.lay with fences := ready.lay.fences.set 255 { made := true } } } (fun j s =>
      s.txn? (j.u16 0) = some txn1 ∧ txn1.st = .open_ ∧ txn1.owned j.req ∧ s.stitch < j.u64 4 ∧
      (commitFences j).length = 1 ∧ (commitFences j).all fun f => idInRange f.2.1 && s.objExists f.2.1) ∧
    meets cmdTxnRollback (rq [(4, 1)]) (withTxn txn1) (fun j s => s.txn? (j.u16 0) = some txn1 ∧ txn1.owned j.req ∧ txn1.st = .open_) ∧
    meets cmdTxnQuery (rq [(4, 1)]) (withTxn txn1) (fun j s =>
      (s.txn.live ++ s.txn.finished).find? (fun x => x.handle = j.u16 0) = some txn1) ∧
    (let s := (withTxn txn1).tick 10000000000;
      s.txn? 1 = some txn1 ∧ txn1.st = .open_ ∧ txn1.idleSince + txn1.idleNs ≤ s.now) ∧
    (let x : Txn := { txn1 with st := .committing, fences := [(0xB000, 1)], timeoutNs := 500000 };
      let s := ({ withTxn x with clk := { ready.clk with boundary := 500000 } } : State).tick 500000;
      s.txn? 1 = some x ∧ x.fences ≠ [] ∧ x.acceptedAt + x.timeoutNs ≤ s.boundaryAt) ∧
    (let x : Txn := { txn1 with st := .fixed, sa := 2 };
      let s := ({ withTxn x with clk := { ready.clk with stitch := 2 } } : State).tick 1;
      s.txn? 1 = some x ∧ x.st = .fixed ∧ x.sa ≤ s.stitch) := by
  decide +kernel

/-- Rings with legal sizes (R79), one queue in use. -/
def ringed : State :=
  { ready with
    hif := { ready.hif with
      sqs := ready.hif.sqs.set 0 { size := 16 }, cqs := ready.hif.cqs.set 0 { size := 4096 }, eq := { size := 64 }
      rbuf := { ready.hif.rbuf with count := 16 } } }

theorem witness_HostRegisterRows :
    (ready.pcieOn ∧ ready.hif.enable = false ∧ ringsOk ready.hif = false) ∧
    (ringed.pcieOn ∧ ringed.hif.enable = false ∧ ringsOk ringed.hif) ∧
    (15 % 4096 < (ringed.hif.sqs.getD 0 {}).size ∧ (ringed.hif.sqs.getD 0 {}).size ≤ 16 % 4096) ∧
    (4095 % 4096 < (ringed.hif.cqs.getD 0 {}).size ∧ (ringed.hif.cqs.getD 3 {}).size ≤ 0 % 4096) ∧
    (63 % 4096 < ringed.hif.eq.size ∧ ringed.hif.eq.size ≤ 64 % 4096) ∧
    ((16 % m16 + m16 - ringed.hif.rbuf.cons) % m16 ≤ ringed.hif.rbuf.count ∧
      ringed.hif.rbuf.count < (17 % m16 + m16 - ringed.hif.rbuf.cons) % m16) ∧
    (ready.lay.fences.getD (255 % 256) {}).made = false ∧
    (({ made := true } : Fence) = ({ ready with
      lay := { ready.lay with fences := ready.lay.fences.set 255 { made := true } } } : State).lay.fences.getD (255 % 256) {}) ∧
    (let n (value w : Nat) := value / m32 * m32 + w;
      5 ≤ n 5 9 ∧ n (m32 + 5) 3 < m32 + 5 ∧ n (m32 + 5) 3 + m32 < m64 ∧ n (m64 - 1) 0 < m64 - 1 ∧ m64 - 1 < m64 ∧ m64 ≤ n (m64 - 1) 0 + m32) ∧
    (let s := ({ ready with hif := { ready.hif with spi := { waiting := [[1]] } } } : State).tick 1;
      s.transportUp ∧ (s.spiPort false).waiting = [[1]]) ∧
    ({ ready with hif := { ready.hif with panic := true, hoopState := 0 } } : State).loader := by
  decide +kernel

theorem witness_RegisterWriteRows :
    ringed.pcieOn ∧ ringed.hif.enable = false ∧
    ({ ringed with hif := { ringed.hif with enable := true } } : State).pcieOn := by
  decide +kernel

/-- Guard unit `u` with one region that grants all of the address space, locked or not. -/
def guarded (u : Nat) (lock : Bool) : State :=
  ready.modGuard u fun g => { g with
    regions := g.regions.set 0 { base := 0, sizeExp := 40, read := true, write := true, role := 4, lock, owner := 0xFF } }

/-- Guard unit `u` closed for an update. -/
def closing (u : Nat) : State :=
  (guarded u false).modGuard u fun g => { g with update := some { program := g.regions, job := { req := rqV [] } } }

theorem witness_GuardRows :
    meets cmdGuardUpdate (rqV [(4, 0x0001E000), (4, 0), (8, 0x1000), (4, 0x04030C0F), (4, 0xFF)]) ready (fun j s =>
      j.u8 2 = (j.len - 8) / 16 ∧ ¬(j.u8 2 = 0 ∧ j.u8 3 = 0) ∧
      (List.range (j.u8 2)).findSome? (guardEntryErr (s.guard 0) (idIndex (j.u16 0)) j) = none ∧ (s.guard 0).update.isNone ∧
      overlapPair ((s.guard 0).regions.mapIdx fun i g => match ((List.range (j.u8 2)).map (guardEntry j)).find? fun e => e.1 = i with
        | some e => e.2
        | none => g) = none) ∧
    meets cmdGuardUpdate (rqV [(8, 0xE008)]) ready (fun j s => j.u8 2 = 0 ∧ j.len < 24 ∧ j.u8 3 = 0 ∧ (s.guard 8).update = none ∧
      overlapPair (s.guard 8).regions = none) ∧
    meets cmdGuardLock (rqV [(4, 0xE000)]) (guarded 0 true) (fun j s => (s.guard (idIndex (j.u16 0))).update = none ∧
      let g := (s.guard (idIndex (j.u16 0))).regions.getD (j.u8 2) {};
      g.enabled ∧ g.role ≠ 0 ∧ g.lock) ∧
    meets cmdGuardLock (rqV [(4, 0xE000)]) (guarded 0 false) (fun j s => (s.guard (idIndex (j.u16 0))).update = none ∧
      let g := (s.guard (idIndex (j.u16 0))).regions.getD (j.u8 2) {};
      g.enabled ∧ g.role ≠ 0 ∧ g.lock = false) ∧
    meets cmdGuardRead (rqV [(4, 0xE000)]) ready ∧ meets cmdGuardFaults (rqA [(4, 0x011EE000)]) ready ∧
    ((closing 3).guard 3).update.isSome ∧ ((guarded 3 false).guard 3).update = none ∧
    ((ready.tick 1).hif.pcieUp ∧ (ready.tick 1).domainOn 19) ∧
    meets cmdPeek (rqV [(8, 0x2001000000), (4, 4)]) (guarded 2 false) (fun j s => (s.guard 2).update = none ∧
      s.peekErr (j.u64 0) = none ∧ j.op ≠ 6 ∧ (s.agent false (j.u64 0) none (j.u16 8 / 4)).2.2) ∧
    meets cmdPoke (rqV [(8, 0x2001000000), (4, 4), (4, 0)]) (guarded 2 false) (fun j s => (s.guard 2).update = none ∧
      s.peekErr (j.u64 0) = none ∧ j.op = 6 ∧ (s.agent false (j.u64 0) (some (j.req.payload.drop 12)) (j.u16 8 / 4)).2.2) ∧
    meets cmdPeek (rqV [(8, 0x2001000000), (4, 4)]) (closing 2) (fun _ s => (s.guard 2).update.isSome) ∧
    meets cmdPoke (rqV [(8, 0x2001000000), (4, 4), (4, 0)]) (closing 2) (fun _ s => (s.guard 2).update.isSome) ∧
    (let s := (guarded 0 false).tick 1;
      (s.guard 0).update = none ∧ s.place 0 = .dram ∧ s.offAt 0 = none ∧ s.guardCheck 0 0 0 true = none ∧ Memory.wf s.mem) ∧
    (let s := ((guarded 8 false).tick 1); ({ s with hoop := { s.hoop with debugOpen := true } } : State).hoop.debugOpen ∧
      s.guardCheck 8 0 0 true = none) ∧
    (let x : Access := { unit := 4, sub := 0, address := 0x1000000000, write := false, data := [], length := 4, control := true };
      (ready.access x false).2.2 ≠ .good ∧ x.control ∧ masterEngine x.unit x.sub ≠ none) := by
  decide +kernel

/-! ### Witnesses: ingest channels and network ports -/

/-- `ready` with ingest channel `n` as given. -/
def withSrc (n : Nat) (c : Src) (s : State := ready) : State := s.modSrc n fun _ => c

/-- `ready` with network port `k` as given. -/
def withPort (k : Nat) (p : NetPort) (s : State := ready) : State := s.modPort k fun _ => p

/-- SRC_JOIN and SRC_LEAVE of channel 0, path 0, group 239.0.0.1, any source. -/
def joinFields : List (Nat × Nat) := [(4, 0x00001000 + 2 ^ 24), (4, 0), (10, 0), (2, 0xFFFF), (4, 0x010000EF), (16, 0)]

/-- An open channel 0 on port 0, with the group of `joinFields` joined. -/
def joined : State := withSrc 0 { st := .waiting, typ := 1, joins := [{ path := 0, mode := 1, group := 0xFFFFEF000001, source := 0 }] }

/-- A packet of an established space. -/
def pkt1 : PktRec :=
  { ext := 5, ts := 9, marker := true, arrival := 0, at_ := 0, legacy := false, path := 0, port := 0, ssrc := 1
    src := 2, au := none, slice := 0, endsSlice := true, audio := [], depthNs := 20000000, reorder := 64 }

theorem witness_ChannelCommands :
    meets cmdSrcOpen (rq [(2, 0x103F), (1, 5), (1, 0), (4, 0xC000), (16, 0), (16, 0), (4, 0), (2, 0), (2, 1920), (2, 1080), (6, 0)])
      ready (fun j s => (s.src (srcIndex (j.u16 0))).st = .closed ∧ j.u8 2 = 5 ∧
        ¬ s.heapFree < 3 * footprint (j.u16 46) (j.u16 48) 10) ∧
    meets cmdSrcOpen (rq [(2, 0x1000), (1, 1), (1, 0), (4, 0xD000), (16, 0), (16, 0), (4, 5004), (2, 96), (10, 0)])
      ready (fun j s => (s.src (srcIndex (j.u16 0))).st = .closed ∧ j.u8 2 = 1) ∧
    meets cmdSrcClose (rq [(4, 0x1000)]) joined ∧
    meets cmdSrcSetFilter (rq [(4, 0x01001000), (4, 0), (4, 7), (4, 1), (16, 1)]) joined ∧
    meets cmdSrcJoin (rq joinFields) joined (fun j s => (s.src 0).joins.contains (joinOf j)) ∧
    meets cmdSrcJoin (rq joinFields) (withSrc 0 { st := .waiting, typ := 1 }) (fun j s => !(s.src 0).joins.contains (joinOf j) &&
      ((s.src 0).joins.filter fun y => y.path = j.u8 2).length < 16) ∧
    meets cmdSrcLeave (rq joinFields) joined (fun j s => (s.src 0).joins.contains (joinOf j)) ∧
    meets cmdSrcGetStats (rq [(4, 0x1000)]) joined ∧
    meets cmdSrcSetJitter (rq [(4, 0x1000), (4, 200000), (4, 1024)]) joined ∧
    meets cmdSrcSetCredit (rq [(4, 0x1000), (4, 10000000)]) joined := by
  decide +kernel

theorem witness_NetworkPortRows :
    meets cmdNetPortConfig (rqA [(2, 0xD004), (1, 1), (1, 3), (1, 0), (1, 1), (2, 1500), (8, 0)]) ready ∧
    meets cmdNetAddr (rqA [(2, 0xD000), (1, 3), (1, 32), (6, 1), (1, 64), (37, 0)]) ready ∧
    meets cmdNetStats (rq [(4, 0xD006)]) ready ∧
    meets cmdNetLoop (rqV [(2, 0xD000), (2, 1), (4, 0)]) ready (fun j _ => j.req.transport ≠ .network) ∧
    (let s := (withPort 0 { loop := 1, loopUntil := some 5 }).tick 5;
      (s.port 0).loopUntil = some 5 ∧ 5 ≤ s.now) ∧
    (let s := (withPort 3 { enable := true }).tick 500000000;
      (s.port 3).enable ∧ (s.port 3).speed = 0 ∧ (s.port 3).link = false ∧ (s.port 3).searchSince + 500000000 ≤ s.now ∧
      (s.port 3).searchRate = 1 ∧ s.pwr.pstate < 2 ∧ s.clk.refLost = false) ∧
    (let s := (withPort 4 { enable := true }).tick 1;
      (s.port 4).enable ∧ (s.port 4).link = false ∧ s.pwr.pstate < 2 ∧ (s.port 4).speed = 0) ∧
    ((withPort 2 { enable := true, link := true }).tick 1).portRx 2 := by
  decide +kernel

theorem witness_IngestEvents :
    (let s := (withPort 0 { enable := true, link := true } (withSrc 0 { st := .active, typ := 1, paths := [{ udp := 5004 }, {}] })).tick 1;
      s.portRx 0 ∧ (s.port 0).fecActive = false ∧ (s.port 0).vlan = 0 ∧ (s.port 0).mtu + 18 = 1518) ∧
    (let s := (withSrc 0 { st := .active, typ := 1, wait := [pkt1], nextE := some 5 }).tick 1;
      (s.src 0).st ≠ .closed ∧ s.bySlice 0 = false ∧ unitRuns (s.src 0).wait = [[pkt1]] ∧
      s.unitDue (s.src 0) [pkt1] none = some false) ∧
    (let s := (withSrc 0 { st := .active, typ := 1, part := some { ts := 1, seq := 1, firstAt := 0, depthNs := 1, next := 1 } }).tick 1;
      (s.src 0).st ≠ .closed ∧ s.bySlice 0) ∧
    (let d : Candidate := { pkts := [pkt1], hc := 5, lastAt := 0, established := 1 };
      let s := (withSrc 0 { st := .active, cand := some d }).tick 100000000;
      (s.src 0).cand = some d ∧ d.inter = false ∧ d.lastAt + 100000000 ≤ s.now) ∧
    (let s := (withSrc 0 { st := .active }).tick nsPerSec;
      (s.src 0).st = .active ∧ (s.src 0).lastAccepted + nsPerSec ≤ s.now) ∧
    (let s := (withSrc 0 { st := .active, contested := true, contestedUntil := 3 }).tick 3;
      (s.src 0).contested ∧ (s.src 0).contestedUntil ≤ s.now) ∧
    (let s := (withSrc 0 { st := .active, dual := true, paths := [{}, { lastAccepted := some 0 }] }).tick 100000000;
      (s.src 0).st ≠ .closed ∧ (s.src 0).dual ∧ ((s.src 0).paths.getD 1 {}).down = false ∧
      ((s.src 0).paths.getD 1 {}).lastAccepted = some 0 ∧ 0 + 100000000 ≤ s.now) := by
  decide +kernel

/-! ### Witnesses: layers, flips, tables, freshness -/

/-- `ready` with layer `i` as given. -/
def withLayer (i : Nat) (l : Layer) (s : State := ready) : State := s.modLayer i fun _ => l

/-- A tile of a layer on head 0. -/
def tile1 (i : Nat) : Tile := { layer := i, head := 0, placed := 1 }

/-- `ready` with one tile. -/
def withTile (t : Tile) (s : State := ready) : State :=
  { s with
    lay := { s.lay with tiles := [t] } }

/-- `ready` with fence 255 made. -/
def fenced : State := { ready with lay := { ready.lay with fences := ready.lay.fences.set 255 { made := true } } }

/-- A guarded layer. -/
def guardedLayer (paused : Bool) : Layer := { cfg := { guarded := true, paused } }

theorem witness_LayerCommands :
    meets cmdLayerBind (rq [(4, 0x10003000), (4, 0x0100)]) joined (fun j s => (s.src (idIndex (j.u16 2))).typ ≠ 4 ∧
      s.lockedLayer j j.layer = false ∧ s.queuedFlips j.layer = [] ∧ (s.layer j.layer).head = none) ∧
    meets cmdLayerBind (rq [(4, 0x4000), (4, 1)]) ready (fun j s => j.u16 2 = 0 ∧ s.lockedLayer j j.layer = false ∧
      s.queuedFlips j.layer = []) ∧
    meets cmdLayerPlace (rq [(16, 0x3000)]) ready (fun j s => j.u16 2 = 0 ∧ s.lockedLayer j j.layer = false) ∧
    meets cmdLayerPlace (rq [(4, 0x60004000), (8, 0x0010001000000000), (4, 5)]) (withLayer 128 { head := some 0 }) (fun j s =>
      j.u16 2 ≠ 0 ∧ (s.layer j.layer).head = some (idIndex (j.u16 2)) ∧ !isVideo j.layer ∧ !(s.head 0).accEnable) ∧
    meets cmdLayerPlace (rq [(4, 0x601F4000), (8, 0x0010001000000000), (4, 255)]) ready (fun j s =>
      j.u16 2 ≠ 0 ∧ (s.layer j.layer).head ≠ some (idIndex (j.u16 2)) ∧ !isVideo j.layer ∧ s.lockedLayer j j.layer = false ∧
      (s.placedOn (idIndex (j.u16 2))).length < 16 ∧ !(s.head 31).accEnable) ∧
    meets cmdLayerPlace (rq [(4, 0x60003000), (8, 0x0010001000000000), (4, 5)]) ready (fun j s => j.u16 2 ≠ 0 ∧ isVideo j.layer ∧
      (s.ratioErr { s.ratioBase j with dest := j.rect 4, z := j.u8 12 } (s.lockedLayer j j.layer)).isNone ∧ !(s.head 0).accEnable) ∧
    meets cmdLayerScale (rq [(4, 0xF0CF3000), (8, 0x0010001000000000), (4, 0x0040FFC0), (8, 1)])
      (withLayer 0 { head := some 0, base := { dest := { w := 16, h := 16 } } }) (fun j s => (s.ratioBase j).dest.w ≠ 0 ∧
        (s.ratioErr { s.ratioBase j with crop := j.rect 4 } (s.lockedLayer j j.layer)).isNone ∧ !(s.head 0).accEnable) ∧
    meets cmdLayerScale (rq [(4, 0xF0CF3000), (8, 0x0010001000000000), (4, 0x0040FFC0), (8, 1)]) ready (fun j s =>
      (s.layer j.layer).head = none ∧ (s.ratioBase j).dest.w = 0) ∧
    meets cmdLayerEnable (rq [(4, 0x3000)]) ready (fun j s => (s.layer j.layer).cfg.enable = false ∧ (s.layer j.layer).head = none) ∧
    meets cmdLayerEnable (rq [(4, 0x3000)]) (withLayer 0 { cfg := { enable := true } }) (fun j s => (s.layer j.layer).cfg.enable) ∧
    meets cmdLayerDisable (rq [(4, 0x3000)]) (withLayer 0 { cfg := { enable := true } }) (fun j s => (s.layer j.layer).cfg.enable) ∧
    meets cmdLayerDisable (rq [(4, 0x3000)]) ready (fun j s => (s.layer j.layer).cfg.enable = false) ∧
    meets cmdLayerAlpha (rq [(4, 0x00FF403F)]) ready ∧
    meets cmdBlendOrder (rq [(4, 0x01016000), (2, 0x4000)]) (withLayer 128 { head := some 0 }) (fun j s =>
      (s.layer 128).head = some (idIndex (j.u16 0)) ∧ (s.placedOn 0).all fun x => [128].contains x.1) := by
  decide +kernel

/-- A layer edit's job. -/
def jobOf (c : Cmd) (r : Request) : Job := { req := r, cls := c.spec.cls, op := c.spec.op }

theorem witness_ChangesWaitForTheApplyLine :
    (({ ready with heads := ready.heads.set 0 { st := .scanning } } : State).head 0).immediate = false ∧
    (ready.head 31).immediate ∧ ready.layerHeads 0 = [] ∧
    ready.layerHeads 0 ++ [0] ++ ready.txnPlaces (jobOf cmdLayerAlpha (rq [])) 0 ≠ [] := by
  decide +kernel

theorem witness_LayerChangesInForce :
    ((withTile (tile1 0)).tile? (layerIndex ((jobOf cmdLayerAlpha (rq [(4, 0x00FF3000)])).u16 0)) 0 = some (tile1 0)) ∧
    (let j := jobOf cmdLayerPlace (rq [(4, 0x60003000), (12, 0)]);
      j.cls = 0x20 ∧ j.op = 0x02 ∧ j.u16 2 = headId 0 ∧ headId 0 ≠ 0 ∧ ready.tilesOf (layerIndex (j.u16 0)) = []) ∧
    (let j := jobOf cmdLayerPlace (rq [(4, 0x60003000), (8, 0x0010001000000000), (4, 5)]);
      (withTile (tile1 0)).tile? (layerIndex (j.u16 0)) 0 = some (tile1 0) ∧ j.cls = 0x20 ∧ j.op = 0x02 ∧ j.u16 2 = headId 0 ∧
      j.rect 4 ≠ (tile1 0).cfg.dest ∧ (jobOf cmdLayerPlace (rq [(4, 0x60003000), (12, 0)])).rect 4 = (tile1 0).cfg.dest) ∧
    (let j := jobOf cmdFreshSetPolicy (rqS [(4, 0x00013000), (20, 0)]);
      j.cls = 0x12 ∧ j.op = 0x01 ∧ j.u8 4 = 0 ∧ ({ tile1 0 with cfg := { guarded := true } } : Tile).cfg.guarded) ∧
    (let j := jobOf cmdLayerPlace (rq [(16, 0x3000)]);
      j.u16 2 = 0 ∧ j.cls = 0x20 ∧ j.op = 0x02 ∧ (withTile (tile1 0)).tilesOf (layerIndex (j.u16 0)) = [tile1 0] ∧ (tile1 0).hold = false ∧
      (tile1 0).prevHeld = none ∧ isVideo 0 ∧ 0 < ready.lay.layers.length) := by
  decide +kernel

theorem witness_FlipsAndFences :
    meets cmdLayerFlip (rq [(4, 0xB0FF4000), (8, 5), (8, 0), (2, 64), (2, 16), (2, 4096), (2, 0)])
      (withLayer 128 { everBound := true, cfg := { format := 1 } } fenced) (fun j s => (s.layer j.layer).everBound ∧
        j.u16 22 * formatBytes (s.layer j.layer).cfg.format ≤ j.u16 20 ∧
        ((s.quota (graphicId j.layer)).recs.filter (·.live)).length < 8) ∧
    meets cmdFenceCreate (rq [(8, 7), (4, 0)]) ready (fun _ s => (s.lay.fences.getD 0 {}).made = false) ∧
    meets cmdFenceSignal (rq [(4, 0xB0FF), (8, 0)]) fenced (fun j s => (s.lay.fences.getD (idIndex (j.u16 0)) {}).value ≤ j.u64 4) ∧
    meets cmdFenceDestroy (rq [(4, 0xB0FF)]) fenced (fun j s => s.fenceUsed (j.u16 0) = false) ∧
    (fenced.flipReady 1 { seq := 1 } ∧ fenced.flipReady 1 { seq := 2, fence := 0xB0FF, target := 1 } = false ∧
      fenced.flipReady 0 { seq := 3 } = false ∧ ({ seq := 2, fence := 0xB0FF, target := 1 } : Flip).there 1 ∧
      ({ seq := 3 } : Flip).there 0 = false) ∧
    (let f : Flip := { seq := 2, fence := 0xB0FF, target := 1, fronts := 99 };
      let s := (withLayer 128 { base := { format := 1 }, queue := [f] } fenced).tick 1;
      (s.layer 128).base.format ≠ 0 ∧ s.tilesOf 128 = [] ∧ (s.layer 128).queue = [f] ∧ s.flipOverdue f ∧
      s.flipReady (s.boundaryAt * fine : Nat) f = false) := by
  decide +kernel

/-- One phase of a coefficient set that passes its sum. -/
def phaseFields : List (Nat × Nat) := [(2, 0), (2, 0), (2, 0), (2, 256), (2, 0), (2, 0), (2, 0), (2, 0)]

theorem witness_TableCommands :
    meets cmdCoefLoad (rq ([(4, 0xF0CF), (4, 0)] ++ phaseFields)) ready (fun j s => s.shadowBusy j = false ∧ j.u8 3 = 0 ∧ 0 < j.entries) ∧
    meets cmdCoefLoad (rq ([(4, 0x0100F0CF), (4, 0)] ++ phaseFields)) ready (fun j s => s.shadowBusy j = false ∧ j.u8 3 = 1 ∧
      0 < j.entries ∧ coefSums ((List.range j.entries).foldl (fun c i => putEntry c (512 * j.u8 2 + j.u16 4 + i) (j.s16 (8 + 2 * i))) [])) ∧
    meets cmdLutLoadPre (rq [(4, 0x3000), (4, 1023), (2, 1)]) ready (fun j s => s.shadowBusy j = false ∧ j.u8 3 = 0 ∧ 0 < j.entries) ∧
    meets cmdLutLoadPre (rq [(4, 0x01004000), (4, 0), (2, 1)]) ready (fun j s => s.shadowBusy j = false ∧ j.u8 3 = 1 ∧ 0 < j.entries) ∧
    meets cmdLutLoadPost (rq [(4, 0x601F), (4, 4095), (2, 1)]) ready (fun j s => s.shadowBusy j = false ∧ j.u8 3 = 0 ∧ 0 < j.entries) ∧
    meets cmdLutLoadPost (rq [(4, 0x01006000), (4, 0), (2, 1)]) ready (fun j s => s.shadowBusy j = false ∧ j.u8 3 = 1 ∧ 0 < j.entries) ∧
    meets cmdTableRead (rq [(4, 0x0001F0C0), (4, 0x00010000)]) ready (fun j _ => j.u8 2 = 1) ∧
    meets cmdTableRead (rq [(4, 0xF0CF), (4, 0x000101FF)]) ready (fun j _ => j.u8 2 = 0) ∧
    meets cmdTableRead (rq [(4, 0x02023000), (4, 0x000103FF)]) ready (fun j _ => j.u8 2 = 2) ∧
    meets cmdTableRead (rq [(4, 0x0203601F), (4, 0x00010FFF)]) ready (fun j _ => j.u8 2 = 3) ∧
    meets cmdTableRead (rq [(4, 0x0005F0E0), (4, 0x00180000)]) ready (fun j _ => j.u8 2 = 5) ∧
    (let s := ({ ready with lay := { ready.lay with shadows := [{ table := 0xF0C0, session := 0, transport := .spi, lastWrite := 0 }] } } :
        State).tick (10 * nsPerSec);
      s.lay.shadows.any fun x => x.table = 0xF0C0 && x.lastWrite + 10 * nsPerSec ≤ s.now) ∧
    meets cmdApplStyleLoad (rqS [(2, 0xF0E0), (1, 8), (1, 3), (1, 2), (1, 8), (1, 2), (1, 2), (1, 0), (1, 0), (2, 0), (36, 0)]) ready
      (fun j _ => idIndex (j.u16 0) = 0xE0) ∧
    meets cmdApplStyleLoad (rqS [(2, 0xF0EF), (1, 8), (1, 3), (1, 2), (1, 8), (1, 2), (1, 2), (1, 0), (1, 0), (2, 0), (36, 0)]) ready ∧
    meets cmdApplBanner (rqS [(2, 0xF1FF), (1, 1), (1, 1), (1, 15), (1, 1), (1, 1), (1, 0), (4, 0x41)]) ready ∧
    meets cmdApplSafeMap (rqS [(4, 0xF1FFF087), (4, 1)]) ready ∧ meets cmdApplStatus (rq [(4, 0x6000)]) ready := by
  decide +kernel

theorem witness_FreshnessCommands :
    meets cmdFreshSetPolicy (rqS [(4, 0x00013000), (4, 0), (4, 10000), (16, 0)]) ready (fun j _ => j.u8 4 = 0) ∧
    meets cmdFreshSetPolicy (rqS [(4, 0x00003000), (4, 1), (20, 0)]) (withLayer 0 (guardedLayer false)) (fun j s => j.u8 4 = 1 ∧
      (s.layer j.layer).cfg.guarded) ∧
    meets cmdFreshSetTreatment (rqS [(4, 0xFF083000), (4, 0)]) (withLayer 0 (guardedLayer false)) (fun j s =>
      (s.layer j.layer).cfg.guarded) ∧
    meets cmdTilePause (rq [(4, 0x3000)]) (withLayer 0 (guardedLayer false)) (fun j s => (s.layer j.layer).cfg.guarded ∧
      (s.layer j.layer).cfg.paused = false) ∧
    meets cmdTileResume (rq [(4, 0x3000)]) (withLayer 0 (guardedLayer true)) (fun j s => (s.layer j.layer).cfg.paused) ∧
    meets cmdFreshGetState (rq [(4, 0x3000)]) (withTile (tile1 0)) (fun j s => j.u16 2 = 0 ∧ s.newestTile j.layer ≠ none) ∧
    meets cmdFreshGetState (rq [(4, 0x60003000)]) (withTile (tile1 0)) (fun j s => j.u16 2 ≠ 0 ∧
      s.tile? j.layer (idIndex (j.u16 2)) ≠ none) ∧
    meets cmdFreezeSet (rqS [(4, 0x000F1000), (4, 0x00010001), (4, 0x00010001), (4, 60000000), (4, 1), (4, 1000000)]) joined (fun j s =>
      (s.src (idIndex (j.u16 0))).typ ≠ 4) ∧
    meets cmdProvRead (rq [(4, 0x00011000), (4, 0)]) { joined with
      dec := { joined.dec with gimpCh := joined.dec.gimpCh.set 0 { recs := [{ object := 0x1000, seq := 9 }], nextSeq := 10 } } } (fun j s =>
      j.u32 4 = 0 ∧ j.u8 2 = 1 ∧ (s.rec? (j.u16 0) 9).isSome) ∧
    meets cmdProvRead (rq [(4, 0x000F1000), (4, 9)]) { joined with
      dec := { joined.dec with gimpCh := joined.dec.gimpCh.set 0 { recs := [{ object := 0x1000, seq := 9 }], nextSeq := 10 } } } (fun j s =>
      j.u8 2 = 15 ∧ (s.rec? (j.u16 0) 9).isSome ∧ (s.rec? (j.u16 0) 8) = none) ∧
    (let s := (withTile { tile1 0 with evtAt := some 0, heldEvt := true, reported := 1 }).tick 250000000;
      (s.tile? 0 0).any fun x => x.evtAt = some 0 && 0 + 250000000 ≤ s.now && x.heldEvt && x.state ≠ x.reported) ∧
    (let s := (withTile { tile1 0 with evtAt := some 0, heldEvt := true, reported := 7 }).tick 250000000;
      (s.tile? 0 0).any fun x => x.evtAt = some 0 && x.heldEvt && x.state = x.reported) := by
  decide +kernel

/-- Head 0 scanning 1920 x 1080, with an enabled guarded tile over it. -/
def scanning : State :=
  withTile { tile1 0 with cfg := { guarded := true, enable := true, dest := { w := 1920, h := 1080 } } }
    { ready with heads := ready.heads.set 0 {
        st := .scanning, accEnable := true, composed := true, timing := {
          pclkKhz := 148500, hAct := 1920, hFp := 88, hSync := 44, hBp := 148, vAct := 1080, vFp := 4, vSync := 5, vBp := 36 } } }

/-- The record that the tile of `scanning` has latched: evidence 0, of frame 9 of channel 0. -/
def latched : State :=
  let s := { scanning with
    dec := { ready.dec with gimpCh := ready.dec.gimpCh.set 0 { recs := [{ object := 0x1000, seq := 9, evidence := 0 }] } } }
  s.modTile 0 0 fun t => { t with latched := some (0x1000, 9) }

theorem witness_TileVerdictRow :
    (let s := scanning.tick 1;
      (s.tile? 0 0).any fun x => s.scanned x && (s.head 0).applied = false && x.latchFrame ≠ some (s.head 0).frame &&
        ((((s.sliceVerdict x).latch x).seeLatched 0 0).tile? 0 0).any fun y => y.cfg.guarded) ∧
    ((latched.tile? 0 0).any fun x => x.latched = some (0x1000, 9) && (latched.rec? 0x1000 9).isSome &&
      ((latched.takeVerdict x { lumaMean := 0 }).tile? x.layer x.head).isSome) := by
  decide +kernel

theorem witness_VerdictOrder :
    (∃ x, scanning.tile? 0 0 = some x ∧ (x.latched.bind fun l => scanning.rec? l.1 l.2) = none) ∧
    (∃ x r, latched.tile? 0 0 = some x ∧ (x.latched.bind fun l => latched.rec? l.1 l.2) = some r ∧
      (latched.head 0).appliqueFault = false ∧ x.cfg.paused = false ∧ r.released = false) := by
  exact ⟨⟨_, rfl, by decide +kernel⟩, ⟨_, _, rfl, rfl, by decide +kernel⟩⟩

/-! ### Witnesses: heads, ports, slices, encoders, decoders -/

/-- 1920 x 1080 at 60 Hz. -/
def hd60 : Timing :=
  { pclkKhz := 148500, hAct := 1920, hFp := 88, hSync := 44, hBp := 148, vAct := 1080, vFp := 4, vSync := 5, vBp := 36 }

/-- `ready` with head `h` as given. -/
def withHead (h : Nat) (x : Head) (s : State := ready) : State := s.modHead h fun _ => x

/-- A timed head bound to port 0, which is trained. -/
def timedHead : Head := { st := .disabled, timing := hd60, accTiming := some hd60, target := 0x7000, accTarget := 0x7000 }
def trained : DpPort := { st := 2, hpd := true, rate := 4, lanes := 4, lastRate := 4, lastLanes := 4, sinkRate := 4, sinkLanes := 4 }
def withDp (p : Nat) (x : DpPort) (s : State := ready) : State := s.modDp p fun _ => x

theorem witness_HeadCommands :
    meets cmdHeadTiming (rq [(4, 0x01006000), (4, 148500), (2, 1920), (2, 88), (2, 44), (2, 148), (2, 1080), (2, 4), (2, 5), (2, 36),
      (4, 60), (4, 1), (8, 0)]) ready (fun j s => idType (s.head 0).accTarget ≠ 8 ∧
        ((s.modHead 0 fun x => { x with accTiming := some (timingOf j) }).headResources 0).isNone) ∧
    meets cmdHeadBindPort (rq [(4, 0x700F601F), (4, 0)]) ready (fun j s => (s.head (idIndex (j.u16 0))).enabled = false ∧
      s.heads.all fun x => x.accTarget ≠ j.u16 2) ∧
    meets cmdHeadBindPort (rq [(8, 0x6000)]) ready (fun j s => (s.head (idIndex (j.u16 0))).enabled = false ∧ j.u16 2 = 0) ∧
    meets cmdHeadBindPort (rq [(4, 0x70006002), (1, 2), (3, 0)]) (withHead 1 { timedHead with accStream := 1, stream := 1 } (withDp 0 { trained with mst := true }))
      (fun j s => (s.head 2).enabled = false ∧ idType (j.u16 2) = 7 ∧ j.u8 4 = 2 ∧
        ((s.heads.zipIdx.filter fun x => x.2 ≠ 2 && x.1.accTarget = j.u16 2).map (·.1.accStream)) = [1]) ∧
    meets cmdHeadApplyLine (rq [(4, 0xFFFF6000)]) ready (fun j _ => j.u16 2 = 0xFFFF) ∧
    meets cmdHeadApplyLine (rq [(4, 0x04606000)]) (withHead 0 timedHead) (fun j s => j.u16 2 ≠ 0xFFFF ∧ (s.head 0).timed ∧
      (checkTiming j (s.head 0)).lineOk (j.u16 2)) ∧
    meets cmdHeadGenlock (rq [(4, 0x00026000), (8, 0), (4, 0), (4, 16666666), (12, 0)]) (withHead 0 timedHead) (fun j s =>
      (s.head 0).timed ∧ j.u8 2 ≠ 0 ∧ j.u32 16 * (checkTiming j (s.head 0)).num < nsPerSec * (checkTiming j (s.head 0)).den) ∧
    meets cmdHeadGenlock (rq [(4, 0x6000), (28, 0)]) (withHead 0 timedHead) (fun j s => (s.head 0).timed ∧ j.u8 2 = 0 ∧
      s.ledHead j 0 = false ∧ j.u32 16 * (checkTiming j (s.head 0)).num < nsPerSec * (checkTiming j (s.head 0)).den) ∧
    meets cmdHeadEnable (rq [(4, 0x6000)]) (withDp 0 trained (withHead 0 timedHead)) (fun _ s =>
      (s.head 0).accEnable = false ∧ (s.head 0).timed ∧ (s.head 0).accTarget = 0x7000 ∧ (s.ports.getD 0 {}).st = 2 ∧
      ((s.modHead 0 fun x => { x with accEnable := true }).headResources 0).isNone) ∧
    meets cmdHeadEnable (rq [(4, 0x6000)]) (withHead 0 { timedHead with accEnable := true }) (fun _ s => (s.head 0).accEnable) ∧
    meets cmdHeadDisable (rq [(4, 0x6000)]) (withHead 0 { timedHead with accEnable := true }) (fun _ s => (s.head 0).accEnable) ∧
    meets cmdHeadDisable (rq [(4, 0x6000)]) ready (fun _ s => (s.head 0).accEnable = false) ∧
    meets cmdHeadSelfRefresh (rq [(4, 0x6000)]) ready (fun j _ => j.u8 2 = 0) ∧
    meets cmdHeadSelfRefresh (rq [(4, 0x00016000)]) (withDp 0 { trained with psr := true } (withHead 0 { timedHead with st := .scanning }))
      (fun j s => j.u8 2 = 1 ∧ (s.head 0).st = .scanning ∧ idType (s.head 0).target = 7 ∧ (s.head 0).stream = 0 ∧
        (s.ports.getD 0 {}).psr ∧ (s.ports.getD 0 {}).psrTrain = false ∧ s.anyBanner 0 = false ∧ (s.head 0).lastAllPaused) ∧
    meets cmdHeadGetCrc (rq [(4, 0x00016000)]) (withHead 0 { timedHead with st := .closing, crcSel := some 1, crcOut := [1, 0, 0, 0] })
      (fun j s => (s.head 0).crcSel = some (j.u16 2) ∧ (s.head 0).crcOut ≠ []) ∧
    meets cmdHeadGetCrc (rq [(4, 0x00016000)]) (withHead 0 { timedHead with st := .scanning, crcSel := some 1 })
      (fun j s => (s.head 0).crcSel = some (j.u16 2) ∧ (s.head 0).crcOut = []) ∧
    meets cmdHeadGetCrc (rq [(4, 0x00016000)]) (withHead 0 { timedHead with st := .scanning })
      (fun j s => (s.head 0).crcSel ≠ some (j.u16 2) ∧ (s.head 0).crcPending = none) ∧
    meets cmdHeadGetCrc (rq [(4, 0x00016000)]) (withHead 0 { timedHead with st := .scanning, crcPending := some (1, []) })
      (fun j s => (s.head 0).crcSel ≠ some (j.u16 2) ∧ (s.head 0).crcPending = some (j.u16 2, [])) := by
  decide +kernel

/-- A training at HBR3 with four lanes. -/
def trainResult1 : TrainResult :=
  { ok := true, rate := 4, lanes := 4, mst := false, psr := false, psr2 := false, psrTrain := false, dpcdRev := 0x14, sinkRate := 4
    sinkLanes := 4 }

theorem witness_DisplayPortRows :
    meets cmdPortTrain (rq [(4, 0x7000)]) ready (fun j _ => j.u8 2 = 0) ∧
    meets cmdPortTrain (rq [(4, 0x00027000)]) ready (fun j s => j.u8 2 = 2 ∧ (s.dp 0).training = false ∧ s.portHeads 0 = [] ∧ s.portWaits j = []) ∧
    meets cmdPortTrain (rq [(4, 0x00017000)]) ready (fun j s => j.u8 2 = 1 ∧ (s.dp 0).training = false ∧ (s.dp 0).hpd = false) ∧
    meets cmdPortTrain (rq [(4, 0x0001700F)]) (withDp 15 { hpd := true }) (fun j s => j.u8 2 = 1 ∧ (s.dp 15).training = false ∧
      (s.dp 15).hpd ∧ s.portWaits j = []) ∧
    ((withDp 0 { trained with training := true }).trainOk 0 trainResult1 ∧
      ((withDp 0 { trained with training := true }).dp 0).training ∧ ((withDp 0 { trained with training := true }).dp 0).hpd) ∧
    (let s := (withDp 0 trained).tick 1;
      let up : LaneStatus := { cr := true, eq := true, symbol := true };
      s.dpOn 0 ∧ (s.dp 0).hpd ∧ (s.dp 0).st = 2 ∧ (s.dp 0).training = false ∧ (s.dp 0).pattern = 0 ∧
      lockLost { lanes := [up, up, up], aligned := true, test := none } 4 ∧
      lockLost { lanes := List.replicate 4 up, aligned := true, test := none } 4 = false) ∧
    (let s := ({ ready with pwr := { ready.pwr with on := List.replicate 21 false } } : State).tick 1;
      s.dpOn 0 = false ∧ (s.dp 0).hpd = false) ∧
    (let s := (withDp 0 { lastRate := 4 } (withHead 0 { timedHead with accEnable := true })).tick 1;
      let s1 := (s.modDp 0 fun x => { x with hpd := true }).setDpState 0 1;
      (s.dp 0).hpd = false ∧ s1.portHeads 0 ≠ [] ∧ (s.dp 0).training = false ∧ (s.dp 0).lastRate ≠ 0) ∧
    (ready.tick 1).portHeads 0 = [] := by
  decide +kernel

/-- A scanning head whose next start, apply line or end is due. -/
def dueHead : Head := { timedHead with st := .scanning, composed := true, recDue := true }

theorem witness_FrameRows :
    (let s := (withHead 31 { dueHead with nextTF := some 0 }).tick 1;
      31 < s.heads.length ∧ (s.head 31).nextTF = some 0 ∧ (s.head 31).st ≠ .untimed ∧ 0 ≤ s.localFine) ∧
    ((ready.tick 1).head 0).nextTF = none ∧
    (let s := (withHead 0 dueHead).tick 16600000;
      (s.head 0).st ≠ .untimed ∧ (s.head 0).applied = false ∧ (s.head 0).tF + (s.head 0).timing.lines (s.head 0).line ≤ s.localFine ∧
      0 < s.heads.length ∧ s.tilesOn 0 = [] ∧ s.txn.changes = [] ∧ (s.slk.all fun k => k.mode ≠ .locked)) ∧
    (let s := (withHead 0 dueHead).tick 16600000;
      (s.head 0).ended = false ∧ (s.head 0).tF + (s.head 0).timing.lines (s.head 0).timing.vAct ≤ s.localFine ∧ (s.head 0).recDue ∧
      (s.head 0).composing ∧ (s.head 0).st = .scanning) ∧
    (let s := (withHead 0 { dueHead with st := .closing, closingFrame := true, recDue := false }).tick 16600000;
      (s.head 0).ended = false ∧ (s.head 0).tF + (s.head 0).timing.lines (s.head 0).timing.vAct ≤ s.localFine ∧
      (s.head 0).st = .closing ∧ (s.head 0).closingFrame ∧ (s.head 0).recDue = false) ∧
    (let s := (withHead 0 { dueHead with st := .srEntry, srFail := true }).tick 16600000;
      (s.head 0).st = .srEntry ∧ (s.head 0).srFail ∧ (s.head 0).ended = false) ∧
    (dueHead.genlock.st = .free ∧ dueHead.placeNext = false ∧ dueHead.half = false) ∧
    (let s := (withHead 0 { dueHead with recs := [(1, [])] }).tick 1;
      (s.head 0).recs = [(1, [])] ∧ (s.enc.all fun e => e.pics = []) ∧ (s.head 0).attest.send = false ∧
      s.hoop.bobbinDown.contains (egressBobbin (0 / 16)) = false) := by
  decide +kernel

/-- Channel 0 decoding HEVC onto layer 0, which is placed on the genlocked head 0. -/
def lockable : State :=
  let s := withLayer 0 { head := some 0, cfg := { source := some 0, dest := { w := 1920, h := 1080 }, crop := { w := 1920, h := 1080 } } }
    (withHead 0 { timedHead with accGenlockMode := 1, genlock := { mode := 1, st := .locked } } (withSrc 0 { st := .active, typ := 2 }))
  s.modCtx 0 fun _ => { st := .configured, maxW := 1920, maxH := 1080 }

/-- Channel 0 slice-locked, its picture 7 of two slices judged in the head's frame 0. -/
def judged (rows : List (Nat × Nat)) (mode : SlkMode) : State :=
  let all : Rect := { w := 1920, h := 1080 }
  let t : Tile := { tile1 0 with cfg := { guarded := true, enable := true, source := some 0, dest := all, crop := all } }
  let s := withTile t (withHead 0 dueHead (withSrc 0 { st := .active, typ := 2 }))
  let c := s.modCtx 0 fun _ => { st := .decoding, maxW := 1920, maxH := 1080, bufs := [{
    seq := 7, width := 1920, height := 1080, ctu := 64, plan := [(0, 8), (9, 8)], rows, slices := [{
      n := 0, arrival := 0, stitch := 0, lost := false, started := true }] }] }
  c.modSlk 0 fun _ => { mode, layer := 0, head := 0, pic := 7 }

theorem witness_SliceAndStitchRows :
    meets cmdSliceLock (rq [(4, 0x30001000), (8, 0)]) (lockable.modSlk 0 fun k => { k with acc := true }) (fun j s =>
      j.u8 4 = 0 ∧ (s.slice 0).holds j ∧ (s.src 0).typ = 2) ∧
    meets cmdSliceLock (rq [(4, 0x30001000), (8, 0)]) (judged [] .dropped) (fun j s =>
      j.u8 4 = 0 ∧ (s.slice 0).acc = false ∧ (s.slice 0).holds j ∧ (s.src 0).typ = 2) ∧
    meets cmdSliceLock (rq [(4, 0x30001000), (4, 1), (4, 262144)]) lockable (fun j s =>
      j.u8 4 = 1 ∧ (s.slice 0).holds j = false ∧ (s.src 0).typ = 2 ∧ (s.lockErr j 0 0).isNone) ∧
    (let s := (judged [] .locked).tick 16600000;
      let k := s.slice 0;
      let hd := s.head k.head;
      k.mode ≠ .off ∧ k.pic ≠ 0 ∧ k.checked.contains 0 = false ∧ hd.frame = k.picFrame ∧ (s.tile? k.layer k.head).isSome ∧
      (((s.ctx 0).bufs.find? fun y => y.seq = k.pic).any fun b => 0 < b.plan.length && !(b.eligible && b.sliceReady 0 0) &&
        ((s.tile? k.layer k.head).any fun x => sliceInCrop x.cfg b.outSize.1 b.outSize.2.1
          (b.sliceSpan b.outSize.2.2 0)))) ∧
    (let s := (judged [] .locked).tick 16600000;
      ((sliceCheckLine 0 0 s).slice 0).late = 1) ∧
    (let s := (judged ((List.range 20).map fun k => (k, 0)) .locked).tick 16600000;
      ((sliceCheckLine 0 1 s).slice 0).late = 0 ∧ ((sliceCheckLine 0 1 s).slice 0).checked = [1]) ∧
    (let k : Slk := { mode := .locked, lateAt := [0, 0] };
      k.pendingDrop = none ∧ 2 ≤ (k.lateAt.filter fun t => (5 : Nat) < t + nsPerSec).length ∧ 0 < ready.slk.length) ∧
    (let s := (((withHead 0 { dueHead with applied := true, tF := 2000000000 * fine }).modSlk 0 fun _ => { mode := .dropped, head := 0 })).tick 2016600000;
      (s.slice 0).mode = .dropped ∧ (s.head 0).applied ∧ (s.slice 0).noReturn = false ∧
      (s.slice 0).cleanSince + 2 * nsPerSec + (s.localFine - ((s.head 0).tF + (s.head 0).timing.lines (s.head 0).line)) / fine ≤
        s.now) ∧
    (let s := (((withHead 0 { dueHead with applied := true, tF := 2000000000 * fine }).modSlk 0 fun _ =>
        { mode := .dropped, head := 0, cleanSince := 2000000000, cleanPassed := some 2000000000 })).tick 2016600000;
      (s.slice 0).mode = .dropped ∧ (s.head 0).applied ∧ (s.slice 0).cleanPassed = some 2000000000 ∧
      2000000000 + (s.localFine - ((s.head 0).tF + (s.head 0).timing.lines (s.head 0).line)) / fine ≤ s.now) ∧
    ((ready.tick 499999).boundaryDue = false) ∧
    ((ready.tick 500000).pwr.pstate ≠ 3 ∧ (ready.tick 500000).hif.hoopState ≠ 0 ∧ (ready.tick 500000).clk.stepDue = false ∧
      (ready.tick 500000).clk.boundary + stitchNs ≤ (ready.tick 500000).local) ∧
    ({ ready with clk := { ready.clk with stepDue := true } } : State).clk.stepDue := by
  decide +kernel

/-- Encode channel 0 as given, its virtual head 0. -/
def withEnc (e : Enc) : State :=
  (withHead 0 { timedHead with target := 0x8000, accTarget := 0x8000 }).modEnc 0 fun _ => e

/-- A picture of head 0 whose last line has ended. -/
def encPic1 : EncPic :=
  { head := 0, frame := 1, w := 64, h := 64, num := 60, den := 1, tF := 0, ts := 0, uncertNs := 0, established := true
    rate := [28, 42, 30, 1048576, 0], idr := none, ended := true }

theorem witness_EncodeRows :
    meets cmdEncConfig (rq [(4, 0x03018000), (1, 41), (1, 0), (1, 8), (1, 1), (4, 0), (2, 0xD000), (2, 5004), (16, 1), (4, 0), (1, 96), (1, 0),
      (1, 1), (1, 0), (2, 5004), (2, 1400), (4, 0)]) (withEnc {}) (fun _ s => (s.encode 0).st = .unconfigured) ∧
    meets cmdEncStart (rq [(4, 0x8000)]) (withEnc { st := .configured, cfg := { level := 42 } }) (fun _ s =>
      (s.encode 0).st = .configured ∧ (s.boundHead 0).any fun h => h.timed && (s.encode 0).startable h.newTiming &&
        s.coreFits (s.spareCore 0) 0 (encRatio h.newTiming (s.encode 0).cfg.divider)) ∧
    meets cmdEncStart (rq [(4, 0x8000)]) (withEnc { st := .running }) (fun _ s => (s.encode 0).st = .running) ∧
    meets cmdEncStop (rq [(4, 0x8000)]) (withEnc { st := .running, pics := [encPic1] }) (fun _ s => (s.encode 0).st = .running ∧
      (s.encode 0).pics ≠ []) ∧
    meets cmdEncStop (rq [(4, 0x8000)]) (withEnc { st := .running }) (fun _ s => (s.encode 0).st = .running ∧ (s.encode 0).pics = []) ∧
    meets cmdEncSetRate (rq [(4, 0x33018000), (4, 0x00F00033), (4, 16777216), (4, 0), (4, 0)]) (withEnc { st := .running }) ∧
    meets cmdAttestConfig (rqS [(4, 0x00036000), (2, 0xD004), (2, 1), (16, 1), (2, 1), (1, 63), (1, 1), (20, 0)]) ready ∧
    meets cmdAttestRead (rq [(4, 0x00016000), (8, 0)]) (withHead 0 { timedHead with ring := [(1, [0]), (2, [0])] }) (fun j s =>
      (keepNewest (j.u8 2) (s.head 0).ring) ≠ [] ∧ j.u8 2 ≤ (keepNewest (j.u8 2) (s.head 0).ring).length) ∧
    meets cmdAttestRead (rq [(4, 0x00036000), (8, 2)]) (withHead 0 { timedHead with ring := [(1, [0]), (2, [0])] }) (fun j s =>
      (((s.head 0).ring.dropWhile fun r => r.1 ≠ j.u64 4).take (j.u8 2)).length = 1 ∧ j.u8 2 = 3) ∧
    (((withEnc { st := .running, pics := [encPic1] }).tick 1).encode 0).pics = [encPic1] ∧ encPic1.ended ∧
    (let e : Enc := { st := .running, pics := [encPic1] }; 0 < (withEnc e).enc.length ∧ e.stopping = none ∧
      e.cfg.holds encPic1 { before := [], heads := [], rows := [] } (e.ownNals encPic1) ∧
      e.cfg.holds encPic1 { before := [], heads := [], rows := [([], zeros 13)] } (e.ownNals encPic1) = false) ∧
    (let s := (withEnc { st := .running }).tick nsPerSec;
      (s.encode 0).st = .running ∧ (s.encode 0).lastSr + nsPerSec ≤ s.now) := by
  decide +kernel

/-- A unit of channel 0 under decoding in buffer 0, with one row left or none. -/
def decoding (left : List RowLeft) : State :=
  (withSrc 0 { st := .active, typ := 1 }).modCtx 0 fun _ => {
    st := .decoding, codec := 1, bufs := [{ decoding := true, seq := 1 }, {}], cur := some {
      unit := { seq := 1, info := { noInfo with byRows := false }, arrival := 0, stitch := 0, lost := false }
      buf := 0, rowsLeft := left } }

theorem witness_DecodeRows :
    meets cmdDecConfig (rq [(4, 0x03011000), (4, 0x00000429 + 2 ^ 16 * 0), (2, 1920), (2, 1080), (4, 65536), (1, 8), (15, 0)])
      (withSrc 0 { st := .waiting, typ := 1 }) (fun j s => (s.src 0).typ = 1 ∧ j.u8 2 = 1 ∧
        leastCpb (j.u8 2) (j.u8 3) (j.u8 4) ≤ j.u32 12 ∧ (s.ctx 0).running = false ∧
        j.u8 5 * footprint (j.u16 8) (j.u16 10) (j.u8 16) + j.u32 12 * 1024 ≤ s.heapFree + (s.ctx 0).heap) ∧
    meets cmdDecStart (rq [(4, 0x1000)]) lockable (fun _ s => (s.ctx 0).st = .configured) ∧
    meets cmdDecStop (rq [(4, 0x1000)]) (decoding []) (fun _ s => (s.ctx 0).running) ∧
    meets cmdDecFlush (rq [(4, 0x1000)]) (decoding []) (fun _ s => (s.ctx 0).running) ∧
    0 < ready.dec.ctxs.length ∧
    meets cmdDecGetPool (rq [(4, 0x1000)]) (decoding []) (fun _ s => (s.ctx 0).st ≠ .unconfigured) ∧
    meets cmdDecSetConceal (rq [(4, 0x00011000)]) (decoding []) (fun _ s => (s.ctx 0).st ≠ .unconfigured) ∧
    (let r : RowLeft := { row := 3, samples := 100, rem := 0, bins := 0, core := 0, due := 9 };
      (((decoding [r]).tick 9).ctx 0).cur.any fun p => p.rowsLeft.find? (fun x => x.row = 3 && x.due ≠ 0 && x.due ≤ 9) = some r ∧
        p.rowGone 3 = false ∧ (p.forced {} { row := 3, blocks := [], concealed := none }).isEmpty) ∧
    (let s := (decoding []).tick 9;
      (s.src 0).typ = 1 ∧ (s.ctx 0).cur.any fun p => p.rowsLeft = [] ∧ p.unit.whole ∧ p.unit.info.byRows = false) ∧
    (((ready.tick 1).ctx 0).cur = none) := by
  decide +kernel

/-! ### Witnesses: Lacing links, energy, power states -/

/-- `ready` with Lacing link `n` as given. -/
def withLk (n : Nat) (l : Lk) (s : State := ready) : State := s.modLk n fun _ => l

/-- LINK_CONFIG's port layout for link 3. -/
def linkFields : List (Nat × Nat) := [(4, 0x0100C003), (1, 3), (1, 0xFF), (2, 0), (2, 8), (2, 8), (2, 480), (2, 16)]

theorem witness_LinkCommands :
    meets cmdLinkConfig (rqA linkFields) ready (fun j _ => j.u8 2 = 0) ∧
    meets cmdLinkConfig (rqA [(4, 0x0101C000), (2, 0x1000), (2, 4095), (1, 6), (7, 0)]) (withSrc 0 { st := .active, typ := 1 }) (fun j s =>
      j.u8 2 = 1 ∧ j.u8 3 = 1 ∧ (s.fwdErr 0 0 (j.u16 6) (j.u8 8)).isNone) ∧
    meets cmdLinkConfig (rqA [(4, 0x0001C000), (2, 0x1000), (2, 1), (1, 6), (7, 0)]) (withSrc 0 { st := .active, typ := 1 }) (fun j _ =>
      j.u8 2 = 1 ∧ j.u8 3 = 0) ∧
    meets cmdLinkTrain (rqA [(4, 0xC000)]) (withLk 0 { st := 2 }) (fun _ s => (s.lk 0).job = none ∧ (s.lk 0).st = 2) ∧
    meets cmdLinkTxeq (rqA [(4, 0x0100C000), (4, 0), (1, 7), (1, 0), (1, 63), (1, 0)]) ready (fun j _ => j.u8 2 = 0) ∧
    meets cmdLinkTxeq (rqA [(8, 0x0001C000)]) (withLk 0 { st := 3 }) (fun j s => j.u8 2 = 1 ∧ (s.lk 0).st = 3) ∧
    meets cmdLinkTxeq (rqV [(8, 0x0002C000)]) ready (fun j _ => j.u8 2 = 2) ∧
    meets cmdLinkLowpower (rqA [(8, 0x0003C000)]) (withLk 0 { st := 2 }) (fun j s => j.u8 2 = 3 ∧ s.linkInUse 0 = false) ∧
    meets cmdLinkLowpower (rqA [(4, 0x0002C000), (2, 100), (2, 10)]) ready (fun j _ => j.u8 2 ≠ 3) ∧
    meets cmdLinkLoop (rqV [(4, 0x0001C000), (4, 3600000)]) (withLk 0 { st := 4 }) (fun j s => j.u8 2 ≠ 0 ∧ s.linkInUse 0 = false ∧
      2 ≤ (s.lk 0).st ∧ (s.lk 0).st ≤ 4) ∧
    meets cmdLinkLoop (rqV [(8, 0xC000)]) ready (fun j _ => j.u8 2 = 0) ∧
    meets cmdLinkPrbs (rqV [(4, 0x1F03C000), (8, 0xFF)]) (withLk 0 { st := 3 }) (fun j s => j.u8 2 = 3 ∧ j.u8 5 = 0 ∧
      s.linkInUse 0 = false ∧ (s.lk 0).st = 3) ∧
    meets cmdLinkPrbs (rqV [(12, 0x0700C000)]) ready (fun j _ => j.u8 2 = 0) ∧
    meets cmdLinkPrbs (rqV [(12, 0x0704C000)]) ready (fun j _ => j.u8 2 = 4 ∧ j.u8 5 = 0) ∧
    meets cmdLinkPrbs (rqV [(12, 0x1F05C000)]) ready (fun j _ => j.u8 2 = 5 ∧ j.u8 5 = 0) ∧
    meets cmdLinkStatus (rq [(4, 0xC003)]) ready := by
  decide +kernel

/-- A good training against peer 1. -/
def linkResult1 (result : Nat) : LinkTrainResult :=
  { result, failLanes := 0, skew := 0, fom := List.replicate 8 1500, peerId := 1, peerSerial := 5, peerCredits := [16, 16, 320, 160]
    roundTrip := 201, search := [] }

theorem witness_LinkTrainingRows :
    (let l : Lk := { st := 1 };
      l.job = none ∧ l.replay = [] ∧ l.queue = [] ∧ l.policy ≠ 3 ∧ 2100000 ≤ l.trainingAt + (if l.tapSearch then 11100000 else 2100000) ∧
      l.trainingAt + (if l.tapSearch then 11100000 else 2100000) < 2100001 ∧ creditsOk l.credits ∧ l.peerCfg = 0xFF ∧ (linkResult1 0).result = 0 ∧
      (linkResult1 7).result ≠ 0 ∧ (linkResult1 0).peerId ≠ ready.lnk.localId ∧ creditsOk (linkResult1 0).peerCredits ∧
      ((withLk 3 l).lk 3).st = 1) ∧
    (let s := (withLk 3 { st := 3, enable := true, retryAt := 9 }).tick 9;
      (s.lk 3).st = 3 ∧ (s.lk 3).enable ∧ (s.lk 3).retryAt ≤ s.now) ∧
    (((withLk 0 { st := 2, badRun := [3, 0, 0, 0, 0, 0, 0, 0], resendRun := 8 }).lk 0).st = 2 ∧
      ((withLk 0 { st := 2, badRun := [3, 0, 0, 0, 0, 0, 0, 0] }).lk 0).badRun.any (3 ≤ ·)) ∧
    (let s := (withLk 0 { st := 1, leftActive := some 0 }).tick nsPerSec;
      (s.lk 0).leftActive = some 0 ∧ (s.lk 0).st ≠ 2 ∧ 0 + nsPerSec ≤ s.now) ∧
    (let s := (withLk 0 { st := 4, loop := 1, loopUntil := some 3 }).tick 3;
      (s.lk 0).loopUntil = some 3 ∧ 3 ≤ s.now) ∧
    (let s := (withLk 0 { st := 2, policy := 2 }).tick 1000;
      (s.lk 0).st = 2 ∧ (s.lk 0).txPower = 0 ∧ (s.lk 0).replay = [] ∧ (s.lk 0).quietSince + (s.lk 0).idleNs ≤ s.now) ∧
    (let s := (withLk 0 { st := 2, policy := 2, txPower := 1 }).tick 100000;
      (s.lk 0).st = 2 ∧ (s.lk 0).txPower = 1 ∧ (s.lk 0).idleSince + (s.lk 0).sleepUs * 1000 ≤ s.now) ∧
    ((List.range 8).all fun _ => 250 ≤ sat16 (min (1000 * 299 / 300) (1000 * 30 / 30))) ∧
    (let s := (withLk 0 { st := 2, aligned := true }).tick 1;
      (s.lk 0).aligned ∧ s.linkAligned (s.lk 0) = false) := by
  decide +kernel

/-- A DATA flit of VC 3 with sequence number 0. -/
def flit1 : List Byte := flitBytes 1 3 true true 0 []

theorem witness_FlitAndMessageRows :
    (flit1.length = 64 ∧ uAt flit1 60 4 = crc32c (flit1.take 60) ∧ byteAt flit1 0 / 16 = 1 ∧ byteAt flit1 1 = ({} : Lk).rxSeq ∧
      byteAt flit1 1 ≠ ({ rxSeq := 255 } : Lk).rxSeq ∧ ({} : Lk).queue = [] ∧ ({} : Lk).discarding = false) ∧
    (uAt (flit1.set 9 1) 60 4 ≠ crc32c ((flit1.set 9 1).take 60) ∧ ({ discarding := true } : Lk).discarding) ∧
    (let p := fields [(1, 4), (1, 2), (8, 0)];
      let l : Lk := { st := 2, replay := [{ seq := 3, vc := 0, bytes := [] }, { seq := 4, vc := 0, bytes := [] }] };
      byteAt p 1 % 2 = 0 ∧ bits (byteAt p 1) 3 2 ≠ 3 ∧ (byteAt p 1).testBit 1 ∧
      l.replay.findIdx? (fun x => x.seq = byteAt p 0) = some 1 ∧ l.replay.findIdx? (fun x => x.seq = 5) = none) ∧
    (let s := (withLk 0 { st := 2, unacked := 1 }).tick 1000;
      (s.lk 0).st = 2 ∧ 0 < (s.lk 0).unacked ∧ (s.lk 0).unackedAt + 1000 ≤ s.now) ∧
    (let s := (withLk 0 { st := 2, replay := [{ seq := 0, vc := 0, bytes := flit1 }], resendRun := 6 }).tick 2000;
      (s.lk 0).st = 2 ∧ (s.lk 0).replay ≠ [] ∧ (s.lk 0).oldestAt + 2000 ≤ s.now ∧ (s.lk 0).resendRun < 7) ∧
    (let e : FwdEntry := { channel := 0, stream := 1, kind := 5 };
      let s := withLk 0 { st := 2, fwds := [e] } (decoding []);
      (s.lk 0).fwds.find? (fun e => e.stream = 1) = some e ∧ s.fwdSeq e = some 1) ∧
    (let e : FwdEntry := { channel := 0, stream := 1, kind := 6 };
      let s := withLk 0 { st := 2, fwds := [e] } { decoding [] with
        dec := { (decoding []).dec with gimpCh := ready.dec.gimpCh.set 0 { recs := [{ object := 0x1000, seq := 9 }] } } };
      (s.lk 0).fwds.find? (fun e => e.stream = 1) = some e ∧ s.fwdSeq e = some 9 ∧
      s.hoop.bobbinDown.contains (egressBobbin (e.channel / 32)) = false) ∧
    (let s := withLk 0 { enable := true } (withSrc 5 { st := .active, installed := true, typ := 6, paths := [{ udp := 9 }, {}] });
      (s.lk 0).enable ∧ ((s.net.srcs.take 64).all fun c => !(c.installed && (c.paths.getD 0 {}).udp = 8)) ∧
      (s.net.srcs.take 64).findIdx? (fun c => c.installed && (c.paths.getD 0 {}).port = 0 && (c.paths.getD 0 {}).udp = 9 &&
        ((c.typ = 5 && ((3 : Nat) = 1 || (3 : Nat) = 2)) || (c.typ = 6 && (3 : Nat) = 3))) = some 5) := by
  decide +kernel

theorem witness_EnergyRows :
    meets cmdEnergySetBudget (rqA [(4, 8000), (4, 60000000)]) ready ∧
    meets cmdEnergySetClass (rqA [(4, 0x00071000)]) joined (fun j _ => idType (j.u16 0) = 1) ∧
    meets cmdEnergySetClass (rqA [(4, 0x0007601F)]) ready (fun j _ => idType (j.u16 0) = 6) ∧
    meets cmdEnergySetClass (rqA [(4, 0x0007800F)]) ready (fun j _ => idType (j.u16 0) = 8) ∧
    meets cmdEnergySetClass (rqA [(4, 0x0007403F)]) ready (fun j _ => idType (j.u16 0) = 4) ∧
    meets cmdEnergyGet (rq [(4, 1)]) ready ∧
    (let s := ({ ready with nrg := { ready.nrg with hist := [{ c := m32, model := [1000] }], corrLimit := true } } : State).tick 1;
      0 < ((s.nrg.hist.take 20).map fun e => e.model.sum).sum ∧ s.nrg.pmbusLost = false ∧ s.nrg.corrLimit) ∧
    ((ready.tick 50000000).nrg.pmbusLost = false ∧ (ready.tick 50000000).nrg.lastRail + 50000000 ≤ (ready.tick 50000000).now) ∧
    (let s := ({ ready with
        nrg := { ready.nrg with breach := true, chClass := ready.nrg.chClass.set 0 0 } } : State);
      s.nrg.breach ∧ State.loads0 (jobOf cmdDecStart (rq [(4, 0x1000)])) s s ∧
      State.loads0 (jobOf cmdNop (rq [])) s s = false) ∧
    ready.nrg.breach = false := by
  decide +kernel

/-- `ready` in a power state or in a transition. -/
def powered (p : Pwr) : State := { ready with pwr := p }
def entering : Transition := { target := 2, waking := false }

theorem witness_PowerRows :
    meets cmdPstateRequest (rqA [(8, 4)]) ready (fun j s => s.pwr.trans = none ∧ s.hoop.bist.st ≠ 1 ∧ j.u8 0 = 4) ∧
    meets cmdPstateRequest (rqA [(4, 0x0103), (4, 9)]) ready (fun j s => s.pwr.trans = none ∧ j.u8 0 < 4 ∧ j.u8 1 = 1) ∧
    meets cmdPstateRequest (rqA [(8, 0)]) ready (fun j s => s.pwr.trans = none ∧ j.u8 1 = 0 ∧ j.u8 0 = s.pwr.pstate) ∧
    meets cmdPstateRequest (rqA [(8, 0)]) (powered { pstate := 2 }) (fun j s => s.pwr.trans = none ∧ j.u8 1 = 0 ∧
      j.u8 0 < s.pwr.pstate) ∧
    meets cmdPstateRequest (rqA [(8, 1)]) ready (fun j s => s.pwr.trans = none ∧ j.u8 1 = 0 ∧ s.pwr.pstate < j.u8 0 ∧
      s.clk.refLost = false ∧ s.hushErr.isNone ∧ s.refuser 1 = none) ∧
    meets cmdPstateStatus (rq []) ready ∧ meets cmdRefusalLog (rq []) ready ∧
    meets cmdWakeConfig (rqA [(2, 127), (1, 1), (1, 255), (4, 1), (4, 0x3FFFFFF), (1, 255), (1, 15), (2, 0)]) ready ∧
    (let s := (powered { scheduled := some (1, 0) }).tick 1;
      s.pwr.scheduled = some (1, 0) ∧ s.rtc.1 % m32 = 0 ∧ s.pwr.trans = none ∧ s.hoop.bist.st ≠ 1 ∧ s.pwr.pstate < 1 ∧
      s.clk.refLost = false ∧ ({ s with pwr := { s.pwr with scheduled := none } } : State).hushErr.isNone) ∧
    (let s := (powered { trans := some { entering with origin := some 0 } }).tick 16000;
      s.pwr.trans = some { entering with origin := some 0 } ∧ 0 + 16000 ≤ s.now ∧ s.pwr.latched = none) ∧
    (powered { pstate := 2 }).wakeValid 2 7 ∧ (powered { pstate := 2 }).pwr.trans = none ∧
    (powered { trans := some entering }).wakeValid entering.target 1 ∧ entering.origin = none ∧ entering.waking = false ∧
    (let s := (powered { wake := { alarm := 1 }, pstate := 1 }).tick nsPerSec;
      s.pwr.wake.alarm ≠ 0 ∧ s.rtc.1 % m32 = s.pwr.wake.alarm ∧ s.clk.faults = []) ∧
    (let s := powered { trans := some { entering with waking := true }, pstate := 3 };
      s.pwr.trans = some { entering with waking := true } ∧ s.pwr.pstate = 3) ∧
    (powered { trans := some { entering with waking := true }, pstate := 2 }).pwr.pstate ≠ 3 := by
  decide +kernel

/-! ### Witnesses: console and inputs -/

def withIo (f : Io → Io) (s : State := ready) : State := s.modIo f
def withInp (i : Nat) (p : Inp) (s : State := ready) : State := s.modInp i fun _ => p
def withCb (c : Cbus) (s : State := ready) : State :=
  (s.modCbus 0 fun _ => c).modPort 5 fun x => { x with enable := true, link := true }

theorem witness_ConsoleAndInputCommands :
    meets cmdTouchConfig (rqA [(1, 1), (1, 1), (14, 0), (1, 31), (1, 1), (1, 1), (1, 1)]) ready ∧
    meets cmdTouchStatus (rq []) ready ∧
    meets cmdTouchRecal (rqA [(4, 0x80000001)]) { ready with
      hoop := { ready.hoop with otp := { ready.hoop.otp with lifecycle := 3 } } } (fun _ s => s.hoop.otp.lifecycle ≠ 0) ∧
    meets cmdTouchRecal (rqA [(4, 3)]) { ready with
      hoop := { ready.hoop with otp := { ready.hoop.otp with lifecycle := 0 } } } (fun _ s => s.hoop.otp.lifecycle = 0) ∧
    meets cmdGpioConfig (rqA [(2, 0xF06F), (1, 3), (1, 0x20), (1, 1), (1, 2), (2, 10), (4, 100)]) ready
      (fun j _ => inpIndex (j.u16 0) < 48) ∧
    meets cmdGpioConfig (rqA [(2, 0xF086), (1, 1), (1, 0x18), (1, 1), (1, 0), (2, 60000), (4, 0)]) ready (fun j s =>
      48 ≤ inpIndex (j.u16 0) ∧ j.u8 2 = 1 ∧ (inpIndex (j.u16 0) % 2 = 0 ∨ !s.paired ((inpIndex (j.u16 0) - 48) / 2))) ∧
    meets cmdGpioStatus (rq []) ready ∧ meets cmdSafeStatus (rq []) ready := by
  decide +kernel

/-- A console message of one item. -/
def console (kind : Nat) (item : List (Nat × Nat)) : ConsoleFrame :=
  { src := 5, etherType := 0x88B5, bytes := fields ([(1, 0x4A), (1, 1), (1, kind), (1, 1), (4, 0)] ++ item) }

theorem witness_ConsoleBusRows :
    meets cmdCbusConfig (rqA [(2, 0xD006), (1, 1), (1, 2), (1, 15), (1, 0), (1, 1), (1, 0), (8, 5)]) ready ∧
    meets cmdCbusSend (rq [(2, 0xD005), (1, 2), (1, 0), (6, 9), (2, 0), (4, 0)]) (withCb {}) (fun j s =>
      (s.cbus (idIndex (j.u16 0) - 5)).queue.length < 8 ∧ (s.cbPort (idIndex (j.u16 0) - 5)).enable) ∧
    (let f : CbFrame := { job := { req := rq [], cls := 0x32, op := 8 }, bytes := [], since := 0 };
      let s := (withCb { queue := [f] }).tick 100000000;
      (s.cbus 0).queue = f :: [] ∧ (s.cbPort 0).enable ∧ s.portPowered 5 ∧ f.since + 100000000 ≤ s.now) ∧
    (let s := (withCb { allowed := [5], mode := 2 }).tick 4000000;
      (s.cbPort 0).enable ∧ s.portPowered (5 + 0) ∧ (s.cbPort 0).loop = 0 ∧ (s.cbus 0).allowed.contains 6 = false ∧ (s.cbus 0).allowed.contains 5 ∧
      cbParse (console 3 [(1, 1), (1, 1), (2, 0)]).bytes = none ∧
      cbParse (console 3 [(1, 1), (1, 0), (2, 0xFF)]).bytes = some (3, [fields [(1, 1), (1, 0), (2, 0xFF)]]) ∧
      cbParse (console 1 [(1, 7), (1, 1), (2, 0)]).bytes = some (1, [fields [(1, 7), (1, 1), (2, 0)]]) ∧
      (s.cbus 0).mode = 2 ∧ (s.cbus 0).plcaLost = false ∧ (s.cbus 0).lastBeacon + 4000000 ≤ s.now) := by
  decide +kernel

theorem witness_InputEvents :
    (ready.io.touchOn ∧ ready.pwr.pstate = 0) ∧
    (let s := (withIo (fun x => { x with electrodes := x.electrodes.set 31 { st := 4, pressAt := 0 } })).tick (20 * nsPerSec);
      let e := s.io.electrodes.getD 31 {};
      (e.st = 2 ∨ e.st = 4) ∧ e.enabled ∧ e.pressAt + s.io.holdS * nsPerSec ≤ s.now) ∧
    (let s := ({ ready with pwr := { ready.pwr with pstate := 1 } } : State); s.io.touchOn ∧ s.pwr.pstate ≠ 0) ∧
    (let s := ready.tick 5;
      (s.inp 55).mode = 1 ∧ s.sampled 55 ∧ (if (s.inpCfg 55).flags.testBit 0 then !true else true) ≠ (s.inp 55).raw) ∧
    (let s := (withInp 0 { raw := true, rawAt := 100000 }).tick 10000000;
      (s.inp 0).mode = 1 ∧ (s.inp 0).chatter = false ∧ (s.inp 0).raw ≠ (s.inp 0).level ∧ debounced (s.inpCfg 0) (s.inp 0) s.now ∧
      debounced (s.inpCfg 0) (s.inp 0) (s.now - 1) = false) ∧
    (let s := (withInp 48 { raw := true, chatter := true, debounce := 5, chatterW := 100 }).tick 100000000;
      (s.inp 48).mode = 1 ∧ (s.inp 48).raw ≠ (s.inp 48).level ∧ debounced (s.inpCfg 48) (s.inp 48) s.now ∧ (s.inp 48).chatter ∧
      (s.inp 48).rawAt + (s.inpCfg 48).chatterW * 1000000 ≤ s.now) ∧
    (let s := (withInp 47 { level := true, stuckMs := 100 }).tick 100000000;
      (s.inp 47).mode = 1 ∧ (s.inpCfg 47).stuckMs ≠ 0 ∧ (s.inp 47).level ∧ (s.inp 47).stuck = false ∧
      (s.inp 47).levelAt + (s.inpCfg 47).stuckMs * 1000000 ≤ s.now) ∧
    (let s := (withInp 54 { flags := 8 } (withIo fun x => { x with pairs := x.pairs.set 3 { disagreeAt := some 0 } })).tick 10000001;
      s.paired 3 ∧ (s.io.pairs.getD 3 {}).fault = false ∧ (s.io.pairs.getD 3 {}).disagreeAt = some 0 ∧ 0 + 10000000 < s.now) ∧
    (let s := (withInp 48 { flags := 8 } (withIo fun x => { x with pairs := x.pairs.set 0 { fault := true, okSince := some 0 } })).tick
        100000000;
      s.paired 0 ∧ (s.io.pairs.getD 0 {}).fault ∧ (s.io.pairs.getD 0 {}).okSince = some 0 ∧ 0 + 100000000 ≤ s.now) := by
  decide +kernel

/-! ### Witnesses: audio -/

def withAud (f : Aud → Aud) (s : State := ready) : State := s.modAud f

/-- Input port 0 and output port 1, enabled, in group 0 of this clock. -/
def grouped (clock : Nat := 0) (s : State := ready) : State :=
  withAud (fun a => { a with
    ports := (a.ports.set 0 { enable := true }).set 1 { enable := true, master := true, output := true }
    groups := a.groups.set 0 { made := true, clock, playout := 2000, members := [0x9000, 0x9001] } }) s

theorem witness_AudioCommands :
    meets cmdAudPortConfig (rq [(2, 0x9007), (1, 1), (1, 0), (1, 1), (1, 0), (1, 16), (1, 32), (1, 2), (7, 0)]) ready
      (fun j s => s.groupOf (j.u16 0) = none) ∧
    meets cmdAudRoute (rq [(1, 127), (1, 0), (14, 0)]) ready (fun j _ => j.u8 1 = 0) ∧
    meets cmdAudRoute (rq [(1, 127), (1, 1), (2, 0x9000), (1, 1), (1, 1), (2, 0x9001), (2, 0), (2, 65536 - 600), (4, 0)]) (grouped)
      (fun j s => j.u8 1 = 1 ∧ idType (j.u16 6) = 9 ∧
        (∀ r ∈ s.accRoutes, r.number ≠ j.u8 0 → ¬(r.dst = j.u16 6 ∧ r.dstCh = j.u8 5)) ∧ s.sameGroup (j.u16 2) (j.u16 6) ∧
        s.isInput (j.u16 6) = false ∧ s.isInput (j.u16 2) ∧ j.u16 8 = 0) ∧
    meets cmdAudRoute (rq [(1, 127), (1, 1), (2, 0x9000), (1, 1), (1, 1), (2, 0x9001), (2, 0x3000), (6, 0)])
      (withLayer 0 { cfg := { guarded := true } } (grouped)) (fun j s => j.u8 1 = 1 ∧ idType (j.u16 6) = 9 ∧
        s.accRoutes = [] ∧ s.sameGroup (j.u16 2) (j.u16 6) ∧ s.isInput (j.u16 6) = false ∧ s.isInput (j.u16 2) ∧ j.u16 8 ≠ 0 ∧
        (s.lay.layers.getD (layerIndex (j.u16 8)) {}).cfg.guarded ∧ s.layerHeads (layerIndex (j.u16 8)) = []) ∧
    meets cmdAudGroup (rq [(2, 0xA107), (2, 0), (2, 2000), (1, 0), (1, 1)]) ready (fun j _ => j.u8 7 = 1) ∧
    meets cmdAudGroup (rq [(2, 0xA107), (2, 0), (2, 2000), (1, 0), (1, 0), (2, 0x9001)]) (withAud fun a => { a with
        ports := a.ports.set 1 { enable := true, master := true, output := true } }) (fun j s =>
      j.u8 7 = 0 ∧ (j.u16 2 = 0 ∨ s.isInput (j.u16 2)) ∧ groupErr s (idIndex (j.u16 0) - 0x100) (j.u16 2) (groupMembers j) = none) ∧
    meets cmdAudTone (rq [(2, 0xF0A0), (2, 0), (2, 20), (10, 0)]) ready (fun j _ => j.u8 2 = 0) ∧
    meets cmdAudTone (rq [(2, 0xF0A0), (1, 1), (1, 0xC4), (2, 20), (2, 10000), (2, 0), (2, 0x9001), (4, 0)]) (grouped) (fun j s =>
      j.u8 2 = 1 ∧ s.groupOf (j.u16 10) ≠ none ∧ (if idType (j.u16 10) = 9 then
        (s.audPort (idIndex (j.u16 10))).enable && !s.isInput (j.u16 10)
        else (s.heads.getD (idIndex (j.u16 10)) {}).accEnable && idType (s.heads.getD (idIndex (j.u16 10)) {}).target = 7) = true) ∧
    meets cmdAudTone (rqS [(2, 0xF0A7), (1, 2), (1, 0), (2, 20), (10, 0)]) ready (fun j s =>
      j.u8 2 = 2 ∧ (s.aud.tones.getD (idIndex (j.u16 0) - 0xA0) {}).owned = false) ∧
    meets cmdAudTone (rqS [(2, 0xF0A7), (1, 3), (1, 0), (2, 20), (10, 0)]) (withAud fun a => { a with tones := a.tones.set 7 { owned := true } })
      (fun j s => j.u8 2 = 3 ∧ (s.aud.tones.getD (idIndex (j.u16 0) - 0xA0) {}).owned = true) ∧
    meets cmdAudStats (rq [(4, 0xA100)]) ready := by
  decide +kernel

/-- `grouped` on the clock of port 0, with the rest of its group as given. -/
def foreign (g : Group) : State :=
  (grouped 0x9000).modGroup 0 fun x => { g with made := true, clock := 0x9000, playout := 2000, members := x.members }

theorem witness_AudioEvents :
    (let s := (withAud fun a => { a with ports := a.ports.set 7 { enable := true } }).tick 100;
      let p := s.audPort 7;
      p.enable ∧ p.output = false ∧ p.fault = false ∧ s.domainOn 20 ∧ s.groupOf 0x9007 = none) ∧
    (let s := (grouped 0x9000).tick 100;
      (s.audPort 0).enable ∧ (s.audPort 0).output = false ∧ (s.audPort 0).fault = false ∧ s.groupOf 0x9000 = some 0 ∧
      (s.group 0).clock = 0x9000 ∧ (s.group 0).clock ≠ 0 ∧ (grouped).groupOf 0x9000 = some 0 ∧ ((grouped).group 0).clock ≠ 0x9000) ∧
    (let s := (grouped).tick 3000000;
      let g := s.group 0;
      g.made ∧ s.domainOn 20 ∧ g.clock = 0 ∧ g.playout * 1000 ≤ s.local ∧ g.played = none) ∧
    (let s := (withAud fun a => { a with tones := a.tones.set 7 { playing := true, onMs := 10, phaseOn := true, duration := 1 } }).tick
        nsPerSec;
      let x := s.aud.tones.getD 7 {};
      x.playing ∧ x.onMs ≠ 0 ∧ x.phaseAt + (if x.phaseOn then x.onMs else x.offMs) * 1000000 ≤ s.now ∧
      x.duration ≠ 0 ∧ x.startAt + x.duration * nsPerSec ≤ s.now) ∧
    (let s := withAud (fun a => { a with
        pairs := [{ src := 0x9000, pair := 1, found := true, muted := true, clean := 32768 }, { src := 0x9001, pair := 0, status := true }]
        }) ready;
      (∃ p, s.aud.pairs.find? (fun p => p.src = 0x9000 && p.pair = 1) = some p ∧ p.found ∧ p.muted ∧ 32768 ≤ p.clean) ∧
      (∃ p, s.aud.pairs.find? (fun p => p.src = 0x9001 && p.pair = 0) = some p ∧ p.status ∧ p.muted = false)) ∧
    (let s := (foreign { refCount := 9, refFirst := some 0 }).tick (3 * nsPerSec);
      let g := s.group 0;
      g.made ∧ s.domainOn 20 ∧ g.clock ≠ 0 ∧ (g.nextAt (s.groupHz g) s.local).any fun due => due < (s.local + 1) * m32) ∧
    (let s := (foreign { limitAt := some 0 }).tick nsPerSec;
      let g := s.group 0;
      g.made ∧ g.clock ≠ 0 ∧ g.limitAt = some 0 ∧ 0 + nsPerSec ≤ s.now ∧ g.limit = false) ∧
    (let g := ((grouped 0x9000).tick 5).group 0; g.made ∧ g.clock ≠ 0 ∧ g.limitAt = none) := by
  refine ⟨by decide +kernel, by decide +kernel, by decide +kernel, by decide +kernel, ?_, by decide +kernel, by decide +kernel,
    by decide +kernel⟩
  exact ⟨⟨_, rfl, by decide +kernel⟩, ⟨_, rfl, by decide +kernel⟩⟩

/-! ### Witnesses: time, clock inputs and resets -/

/-- Domain 0 as given, on an enabled network port 0 whose link is up. -/
def withDom (x : Domain) (f : Clk → Clk := id) (s : State := ready) : State :=
  ((s.modDom 0 fun _ => x).modClk f).modPort 0 fun p => { p with enable := true, link := true }

theorem witness_TimeCommands :
    meets cmdTimeConfig (rqA [(1, 1), (1, 1), (2, 0xD004), (1, 127), (1, 1), (1, 2), (1, 0xF9), (1, 4), (3, 0), (4, 100000), (4, 1000),
        (4, 0)]) ready (fun j s => ¬(j.u8 1 = 1 ∧ (s.dom (1 - j.u8 0)).st ≠ .disabled ∧
      (s.dom (1 - j.u8 0)).port = idIndex (j.u16 2) ∧ (s.dom (1 - j.u8 0)).number = j.u8 4)) ∧
    meets cmdTimeSet (rqA [(8, 1000), (4, 999999999), (4, 1000000)]) ready (fun _ s => s.clk.domains.any Domain.valid = false) ∧
    meets cmdTimeSlewLimit (rqA [(4, 500)]) ready ∧
    meets cmdTimeAsym (rqA [(2, 0xD004), (2, 0xFFFF), (4, 0), (4, 0x80000000)]) ready ∧
    meets cmdTimeLegacyMode (rqA [(2, 0xD004), (2, 1)]) ready ∧ meets cmdTimeGet (rq []) ready ∧
    meets cmdTimeStats (rq [(4, 1)]) ready := by
  decide +kernel

/-- A master of class 6, its Sync of origin 0 and its Announce. -/
def gm : Master := { gmId := 1, clockClass := 6, sender := 3 }
def sync0 (origin : Nat := 0) : SyncMsg := { domain := 0, sender := 3, origin, twoStep := true, frameLen := 86 }
def announce0 : AnnounceMsg :=
  { sender := 3, gmId := 1, priority1 := 128, clockClass := 6, accuracy := 0x21, variance := 0, priority2 := 128, stepsRemoved := 0
    utcOffset := 37, logInterval := 0, frameLen := 106 }

/-- The estimate the Sync of `origin` gives. -/
def estimate (s : State) (origin : Nat) : Int :=
  (s.stamp (s.dom 0).port : Int) - origin - (s.dom 0).pathDelay - (s.clk.asym.getD (s.dom 0).port {}).asym / 16 - s.corr

theorem witness_PtpEvents :
    (∀ st : Fin 4, let x : Domain := { st := [.listening, .holdover, .uncalibrated, .locked].getD st.val .locked, master := some gm };
      let s := (withDom x).tick 5; s.portRx (s.dom 0).port ∧ s.goodLength 0 (s.port 0).vlan (sync0).frameLen ∧
      (s.dom 0).master = some gm ∧ gm.sender = (sync0).sender) ∧
    (let s := (withDom { st := .uncalibrated, master := some gm, ests := List.replicate 7 0, lockRun := 7 }).tick 5;
      let far (o : Nat) := (estimate s o - mean (((estimate s o :: (s.dom 0).ests).take 64).take 8)).natAbs;
      far 5 ≤ s.lockTol 0 ∧ 7 ≤ (s.dom 0).lockRun ∧ ¬(far 5000 ≤ s.lockTol 0 ∧ 7 ≤ (s.dom 0).lockRun) ∧
      100000 < far 1000000 ∧ far 5 ≤ 100000) ∧
    (let s := (withDom { st := .listening }).tick 5; (s.dom 0).st ≠ .disabled ∧ s.portRx (s.dom 0).port ∧ s.goodLength 0 (s.port 0).vlan announce0.frameLen) ∧
    (let s := (withDom { st := .locked, master := some gm }).tick (3 * nsPerSec);
      (s.dom 0).st = .locked ∧ decide ((s.dom 0).master ≠ none ∧ (s.dom 0).lastAnnounce + (s.dom 0).announceLimit ≤ s.now) = true) ∧
    (let s := (withDom { st := .locked, master := some gm, lastAnnounce := 3000000000 } ).tick (3 * nsPerSec);
      (s.dom 0).st = .locked ∧ decide ((s.dom 0).master ≠ none ∧ (s.dom 0).lastAnnounce + (s.dom 0).announceLimit ≤ s.now) = false ∧
      (s.dom 0).lastSync + 3 * expSec (s.dom 0).logSync ≤ s.now) ∧
    (let ev (a b : Domain) := ((withDom a (fun c => { c with active := some 0 })).modDom 1 fun _ => b).tick nsPerSec;
      let l : Domain := { st := .locked };
      let s := ev l l;
      s.clk.active = some 0 ∧ s.now / nsPerSec ≠ s.clk.lastEval / nsPerSec ∧ (s.dom 1).valid ∧ (s.dom 0).valid ∧
      s.domDiff.natAbs ≤ 1000000 ∧ 1000000 < (ev { l with ests := [1000001] } l).domDiff.natAbs ∧ ((ev l {}).dom 1).valid = false ∧
      ((ev {} l).dom 0).valid = false) ∧
    (let s := (withDom { st := .listening, delay := 1, delayReqPending := true }).tick nsPerSec;
      let p := s.net.ports.getD (s.dom 0).port {};
      (s.dom 0).st ≠ .disabled ∧ (s.dom 0).delay = 1 ∧ p.enable ∧ p.link ∧ s.portPowered (s.dom 0).port ∧
      (s.dom 0).lastDelayReq + expSec (s.dom 0).logDelay ≤ s.now ∧ (s.dom 0).delayReqPending ∧ s.portRx (s.dom 0).port ∧
      s.goodLength 0 (s.port 0).vlan 72) ∧
    (let s := (ready.modClk fun c => { c with established := true }).tick (60 * nsPerSec);
      s.clk.established ∧ s.local / nsPerSec % 60 = 0 ∧ ∀ f ∈ s.clk.faults, f.1 ≠ 1) := by
  decide +kernel

theorem witness_ClockAndResetEvents :
    (ready.watched 0 ∧ ready.watched 1 ∧ ready.watched 2 ∧ ready.watched 3 ∧ ready.watched 4 ∧ ready.watched 5 = false ∧
      (withAud fun a => { a with ports := a.ports.set 7 { enable := true } }).watched 15) ∧
    (let s := (ready.modClk fun c => { c with faults := [(0, 0), (1, 0), (2, 0), (15, 0)] }).tick 10000000;
      [0, 1, 2, 15].all fun n => s.clk.faults.find? (fun f => f.1 = n) = some (n, 0) ∧ 0 + 10000000 ≤ s.now ∧ s.hoop.awaitRef = false) ∧
    (let s := ({ State.reset with hoop := { State.reset.hoop with awaitRef := true } } : State).modClk fun c => { c with refLost := true, faults := [(0, 0)] };
      s.hoop.awaitRef ∧ s.clk.faults.find? (fun f => f.1 = 0) = some (0, 0) ∧ s.clk.refLost ∧ s.hif.hoopState = 0) ∧
    (let s := State.reset.modClk fun c => { c with refLost := true };
      s.hif.hoopState = 0 ∧ s.hif.panic = false ∧ s.hoop.awaitRef = false ∧ s.clk.refLost) ∧
    (let s := (ready.modClk fun c => { c with refLost := true, refGoodAt := some 0 }).tick nsPerSec;
      s.clk.refLost ∧ s.clk.refLostAt + nsPerSec ≤ s.now ∧ s.clk.refGoodAt = some 0 ∧ 0 + nsPerSec ≤ s.now) ∧
    (let s := State.reset; s.hif.hoopState = 0 ∧ s.hif.panic = false ∧ s.hoop.awaitRef = false ∧ s.clk.refLost = false ∧ s.slotOk s.hoop.bootSlot ∧ s.slotOk (1 - s.hoop.bootSlot) = false) ∧
    (let slots (a b : Bool) := ({ State.reset with
        hoop := { State.reset.hoop with slots := [{ valid := a }, { valid := b }] } } : State);
      (slots false true).slotOk 0 = false ∧ (slots false true).slotOk 1 ∧ (slots false false).slotOk 1 = false) ∧
    (ready.hif.hoopState ≠ 0 ∧ ready.hif.hoopState ≠ 1) ∧
    (let s := { State.reset with hif := { State.reset.hif with hoopState := 1 } }; s.hif.hoopState = 1 ∧ s.hoop.releasedAt = s.now) ∧
    (let s := { State.reset with hif := { State.reset.hif with hoopState := 1 } };
      s.hif.hoopState = 1 ∧ s.hif.panic = false ∧ s.hif.ready = false ∧ s.hoop.bist.diePending = false ∧ s.clk.refLost = false ∧
      s.ses.heldEvents = [] ∧ s.hoop.trippedReport = none) := by
  decide +kernel

/-! ### Witnesses: the Hoop -/

def withHoop (f : Hoop → Hoop) (s : State := ready) : State := { s with hoop := f s.hoop }
def withUpd (u : Upd) (s : State := ready) : State := withHoop (fun h => { h with upd := u }) s
def withSampler (m : Sampler) (s : State := ready) : State := withHoop (fun h => { h with sampler := m }) s

theorem witness_SensorAndThermalRows :
    meets cmdSensorRead (rq [(4, 3)]) ready ∧
    (let x : Sensor := { mC := 95000 };
      ((-55000 : Int) ≤ 95000 ∧ (95000 : Int) ≤ 150000 ∧ 95000 - x.mC ≤ 20000 ∧ x.mC - 95000 ≤ 20000) ∧
      (x.read 95000).2 = [1] ∧ ({ x with warned := true }.read 90000).2 = [2] ∧ ({ x with warned := true }.read 90001).2 = [] ∧
      (x.read 94999).2 = [] ∧ ({ x with faulty := true, okRun := 99 }.read 95000).2 = [6] ∧ (x.read 115001).2 = [5]) ∧
    (let s := (withHoop fun h => { h with gradient := true, gradientOkSince := some 0 }).tick nsPerSec;
      s.hoop.gradient ∧ s.hoop.gradientOkSince = some 0 ∧ 0 + nsPerSec ≤ s.now) ∧
    (ready.hoop.tripped = false ∧ (110000 : Int) ≤ 110000 ∧ 17 < 18 ∧ (ready.hoop.sensors.getD 17 {}).faulty = false) ∧
    (let s := withHoop fun h => { h with tripped := true }; s.hoop.tripped ∧ ∀ x ∈ s.hoop.sensors, x.faulty ∨ x.mC < 95000) ∧
    ready.hif.hoopState ≠ 0 ∧ 499 < 500 := by
  decide +kernel

/-- Log entries 1 and 2, and a Sampler store of two records. -/
def logged : State := withHoop fun h => { h with
  log := [{ seq := 1 }, { seq := 2 }], logSeq := 3, sampler := { ring := [{}, {}] } }

theorem witness_LogAndSamplerRows :
    (∀ start : Fin 3, start.val = 0 ∨ start.val = 2 ∨ meets cmdLogRead (rq [(1, 0), (1, 2), (2, 0), (4, start.val)]) logged (fun j s =>
      j.u8 1 ≤ (if j.u32 4 = 0 then s.logEntries (j.u8 0) else (s.logEntries (j.u8 0)).dropWhile fun e => e.1 ≠ j.u32 4).length)) ∧
    meets cmdLogRead (rq [(1, 0), (1, 31), (2, 0), (4, 2)]) logged (fun j s =>
      ((s.logEntries (j.u8 0)).dropWhile fun e => e.1 ≠ j.u32 4).length < j.u8 1 ∧
      (s.logEntries (j.u8 0)).dropWhile (fun e => e.1 ≠ j.u32 4) ≠ []) ∧
    meets cmdSamplerRead (rqA [(1, 0), (1, 1), (2, 0), (4, 1)]) logged (fun j s =>
      j.u8 0 = 0 ∧ j.u32 4 + j.u8 1 ≤ s.hoop.sampler.ring.length) ∧
    meets cmdSamplerRead (rqA [(1, 0), (1, 2), (2, 0), (4, 1)]) logged (fun j s =>
      j.u8 0 = 0 ∧ j.u32 4 < s.hoop.sampler.ring.length ∧ s.hoop.sampler.ring.length < j.u32 4 + j.u8 1) ∧
    meets cmdSamplerArm (rqV [(4, 1024)]) ready (fun _ s => s.hoop.sampler.st = .armed) ∧
    meets cmdSamplerArm (rqV [(4, 0)]) (withSampler { st := .frozen }) (fun _ s => s.hoop.sampler.st = .frozen) ∧
    meets cmdSamplerTrigger (rqA [(4, 7)]) ready ∧
    ((withSampler { st := .postTrigger, remaining := 0 }).hoop.sampler.st = .postTrigger) ∧
    ((withSampler { st := .copying }).tick 5).hoop.sampler.st = .copying := by
  decide +kernel

/-- A bundle image of one payload byte and three empty sections, unsigned, and an update that has received it. -/
def image : List Byte :=
  fields [(4, 0x494D4E4C), (2, 1), (1, 3), (1, 1), (4, 7), (1, 1), (1, 3), (2, 0), (4, 1), (4, 0)] ++ sha384 [0x5A#8] ++
  fields [(4, 1), (4, 0), (4, 0), (4, 2), (4, 0), (4, 0), (4, 3), (4, 0), (4, 0)] ++ zeros (256 - 108) ++ [0x5A#8]
def receiving (st : UpdState := .receiving) (type : Nat := 3) : State :=
  withUpd { st, session := 2, transport := .spi, length := 257, crc := crc32 image, received := image, imgType := type }

theorem witness_UpdateRows :
    meets cmdUpdBegin (rqV [(4, 257), (4, 0), (8, 0)]) ready (fun _ s => s.hoop.upd.st = .idle) ∧
    meets cmdUpdChunk (rqV [(8, 0), (4, 9)]) (withUpd { st := .receiving, session := 2, transport := .spi, length := 4 }) (fun j s =>
      s.hoop.upd.st = .receiving ∧ s.ownsUpdate j.req ∧ j.u32 0 = s.hoop.upd.received.length ∧ 0 < (j.req.payload.drop 8).length ∧
      j.u32 0 + (j.req.payload.drop 8).length ≤ s.hoop.upd.length) ∧
    meets cmdUpdChunk (rqV [(8, 4), (1, 1)]) (receiving) (fun j s => s.hoop.upd.st = .receiving ∧ s.ownsUpdate j.req ∧
      j.u32 0 + (j.req.payload.drop 8).length ≤ s.hoop.upd.received.length ∧
      (s.hoop.upd.received.drop (j.u32 0)).take (j.req.payload.drop 8).length = j.req.payload.drop 8) ∧
    (let j : Job := { req := rqV [], cls := 0x35, op := 2 };
      let s := withUpd { st := .receiving, chunks := [(0, [], j)] };
      s.hoop.sampler.st ≠ .copying ∧ s.hoop.upd.chunks = (0, [], j) :: []) ∧
    meets cmdUpdActivate (rqV [(4, 1)]) (receiving .verified) (fun j s =>
      s.hoop.upd.st = .verified ∧ s.ownsUpdate j.req ∧ s.hoop.upd.imgType = 3 ∧ s.loader = false) ∧
    meets cmdUpdActivate (rqV [(4, 1)]) (receiving .verified 1) (fun j s =>
      s.hoop.upd.st = .verified ∧ s.ownsUpdate j.req ∧ s.hoop.upd.imgType = 1) ∧
    meets cmdUpdActivate (rqV [(4, 1)]) (receiving .verified 2) (fun j s =>
      s.hoop.upd.st = .verified ∧ s.ownsUpdate j.req ∧ s.hoop.upd.imgType = 2) ∧
    (∀ st : Fin 4, meets cmdUpdRollback (rqV [(4, 0)]) (receiving ([.receiving, .verified, .activated, .trial].getD st.val .idle)) (fun j s =>
      s.ownsUpdate j.req)) ∧
    meets cmdUpdRollback (rqV [(4, 0)]) (withUpd { st := .receiving, session := 1, transport := .spi }) (fun j s =>
      s.hoop.upd.st = .receiving ∧ s.ownsUpdate j.req = false) ∧
    meets cmdUpdRollback (rqV [(4, 0)]) (withUpd { st := .activated, session := 9, transport := .spi }) (fun j s =>
      s.hoop.upd.st = .activated ∧ s.ownsUpdate j.req = false ∧
      ∀ x ∈ s.ses.sessions, ¬(x.number = s.hoop.upd.session ∧ x.transport = s.hoop.upd.transport)) ∧
    meets cmdUpdRollback (rqV [(4, 0)]) (withHoop fun h => { h with slots := [{ valid := true }, { valid := true }] }) (fun _ s =>
      s.hoop.upd.st = .idle ∧ (s.hoop.slots.getD (1 - s.hoop.running) {}).valid ∧
      s.hoop.otp.arb ≤ (s.hoop.slots.getD (1 - s.hoop.running) {}).arb) ∧
    meets cmdUpdStatus (rq []) ready ∧
    (let s := (withUpd { st := .trial }).tick nsPerSec;
      s.hoop.upd.st = .trial ∧ s.hif.ready ∧ s.hoop.bobbinDown = [] ∧ s.hoop.bobbinOkSince + nsPerSec ≤ s.now ∧
      s.hoop.samplerSinceReset = false ∧ s.now ≤ s.hoop.releasedAt + 60 * nsPerSec ∧ s.hoop.upd.trialUntil ≤ s.now ∧
      imgSection (s.hoop.slots.getD s.hoop.running {}).bytes 3 = none) ∧
    (let s := (withHoop fun h => { h with warmAt := some 5 }).tick 5; s.hoop.warmAt = some 5 ∧ 5 ≤ s.now) := by
  decide +kernel

/-- Outside a breach the budget turns nothing away, so a command is clear once the other checks pass, whatever it gives. -/
theorem clear_of (c : Cmd) (j : Job) (s : State)
    (h : (!s.nrg.breach && !mustWait j s && (check c j s).isNone && (c.denied j s).isNone && decide (j.req.txn = 0) &&
      !(atStitch j.req && decide (s.stitchDist j.req.stitch > 0)) && (checkObjects c j s).isNone) = true) : clear c j s = true := by
  simp only [Bool.and_eq_true, Bool.not_eq_true'] at h
  obtain ⟨⟨⟨⟨⟨⟨h1, h2⟩, h3⟩, h4⟩, h5⟩, h6⟩, h7⟩ := h
  simp only [clear, h2, h3, h4, h5, h6, h7, budgetErr, h1]
  cases c.run j s <;> rfl

/-- UPD_VERIFY of the image is clear, and the signature aside the image passes: whatever the verification answers decides. -/
theorem witness_UpdVerify : ∃ j s1, taken cmdUpdVerify 0 (rqV [(4, 0)]) (receiving) = some (j, s1) ∧ clear cmdUpdVerify j s1 = true ∧
    s1.hoop.upd.st = .receiving ∧ s1.ownsUpdate j.req ∧ s1.hoop.upd.received = image ∧ image.length = s1.hoop.upd.length ∧
    s1.hoop.upd.chunks = [] ∧ s1.loader = false ∧ crc32 image = s1.hoop.upd.crc ∧ s1.imageErr image [3] =
      (if Config.ecdsaP384Verify (uAt image 14 1) (image.take 160) ((image.drop 160).take 96) then none else some ⟨eIntegrity, 2⟩) := by
  refine ⟨_, _, rfl, clear_of _ _ _ (by decide +kernel), rfl, rfl, rfl, by decide +kernel, rfl, rfl, rfl, ?_⟩
  unfold State.imageErr
  rw [if_neg (show ¬(image.take 4 ≠ [0x4C, 0x4E, 0x4D, 0x49]) by decide +kernel)]
  rw [if_neg (show ¬(uAt image 4 2 ≠ 1) by decide +kernel)]
  rw [if_neg (show ¬(sha384 (image.drop 256) ≠ (image.drop 24).take 48) by decide +kernel)]
  rw [show uAt image 14 1 = 0 by decide +kernel]
  generalize Config.ecdsaP384Verify 0 _ _ = v
  revert v
  decide +kernel

theorem witness_TestAndDebugRows :
    meets cmdBistRun (rqV [(2, 0x1000), (1, 1), (1, 1), (4, 0)]) ready (fun j s =>
      j.u16 0 ≠ 0 ∧ engineExists (j.u16 0) ∧ s.targetOff (j.u16 0) = none ∧ testProtected (j.u16 0) = false ∧ s.hoop.bist.st ≠ 1 ∧
      s.notIdle (j.u16 0) = none) ∧
    meets cmdBistRun (rqV [(2, 0), (1, 3), (1, 0), (4, 0)]) ready (fun j s => j.u16 0 = 0 ∧ s.hoop.upd.st ≠ .trial ∧
      s.hoop.bist.st ≠ 1 ∧ s.hoop.sampler.st ≠ .copying) ∧
    (let s := { State.reset with hoop := { State.reset.hoop with bist := { st := 1, diePending := true } } };
      s.hoop.bist.st = 1 ∧ s.hoop.bist.diePending ∧ s.hif.ready = false ∧ s.hoop.warmAt = none) ∧
    (let s := withHoop fun h => { h with bist := { st := 1, origin := 0x1000 } }; s.hoop.bist.st = 1 ∧ s.hoop.bist.diePending = false) ∧
    meets cmdBistResult (rqV [(4, 0)]) ready (fun j _ => j.u8 0 = 0) ∧
    meets cmdBistResult (rqV [(4, 1)]) (withHoop fun h => { h with bist := { st := 2, records := List.replicate 82 ⟨0, 0, 0, 0⟩ } })
      (fun j s => j.u8 0 = 1 ∧ j.u16 2 < s.hoop.bist.records.length ∧ s.hoop.bist.records.length ≤ j.u16 2 + 82) ∧
    meets cmdBistResult (rqV [(4, 1)]) (withHoop fun h => { h with bist := { st := 2, records := List.replicate 83 ⟨0, 0, 0, 0⟩ } })
      (fun j s => j.u8 0 = 1 ∧ j.u16 2 + 82 < s.hoop.bist.records.length) ∧
    meets cmdDpPattern (rqV [(2, 0x700F), (1, 8), (1, 4), (1, 4), (1, 3), (2, 0)]) ready (fun j s =>
      (s.dp (idIndex (j.u16 0))).training = false ∧ s.portWaits j = []) ∧
    (let s := withHoop fun h => { h with debugOpen := true, unlock := some ([], 0), fieldReturn := some ([], 0) };
      s.hoop.otp.lifecycle = 1 ∧ s.hoop.unlock = some ([], 0) ∧ s.hoop.debugOpen ∧ s.hoop.fieldReturn = some ([], 0)) ∧
    (withHoop fun h => { h with otp := { h.otp with lifecycle := 2 } }).hoop.otp.lifecycle ≠ 1 ∧ ready.hoop.unlock = none := by
  decide +kernel

/-! ### Witnesses: rules of every command -/

/-- The request is taken in `s`, nothing of its source keeps it waiting, and `p` holds of it there. -/
def reaches (c : Cmd) (r : Request) (s : State) (p : Job → State → Bool) : Bool :=
  match taken c 0 r s with
  | some (j, s1) => !mustWait j s1 && !s1.loader && p j s1
  | none => false

theorem witness_NopAndIdentify : meets cmdNop (rq [(4, 9)]) ready ∧ meets cmdIdentify (rq []) ready := by
  decide +kernel

theorem witness_EffectiveAge : ∃ x r, latched.tile? 0 0 = some x ∧ (x.latched.bind fun l => latched.rec? l.1 l.2) = some r ∧
    r.evidence ≤ 3 := by
  refine ⟨_, _, rfl, rfl, by decide +kernel⟩

theorem witness_ResetLayers : (ready.tick 0).hif.hoopState ≠ 0 ∧ (ready.tick 0).hif.hoopState ≠ 1 := by
  decide +kernel

/-- `fenced`, with a transaction of the ADMIN session in COMMITTING that lists fence 255. -/
def committing : State :=
  { fenced with txn := { fenced.txn with live := [{ handle := 1, session := 1, transport := .spi, st := .committing, fences := [(0xB0FF, 5)] }] } }

theorem witness_FenceOfACommitStays :
    meets cmdFenceDestroy (rq [(4, 0xB0FF)]) committing (fun j s =>
      s.txn.live.any fun x => x.st = .committing && x.fences.any fun f => f.1 = j.u16 0) := by
  decide +kernel

theorem witness_OrderOfChecks :
    reaches cmdNop { payload := zeros 1009 } ready (fun j _ => 1008 < j.req.payload.length) ∧
    reaches cmdNop { session := 9 } ready (fun j s => s.sessionOpen j.req = false) ∧
    reaches cmdTimeSet (rq [(16, 0)]) ready (fun j s => s.sessionOpen j.req ∧ s.roleOf j.req ∉ cmdTimeSet.spec.roles ∧
      cmdTimeSet.spec.roles.length ≠ 4) ∧
    reaches cmdNop { flags := 8 } ready (fun j s => s.sessionOpen j.req ∧ s.roleOf j.req ∈ cmdNop.spec.roles ∧ 8 ≤ j.req.flags) ∧
    reaches cmdNop { flags := 4, txn := 1 } ready (fun j s => s.sessionOpen j.req ∧ j.req.txn ≠ 0 ∧ j.req.flags.testBit 2) ∧
    reaches cmdNop { stitch := 0xFFFFFFFF } ready (fun j s => j.req.flags < 8 ∧ j.req.txn = 0 ∧ s.deadlinePassed j.req) ∧
    reaches cmdTimeStats (rq [(8, 0)]) ready (fun j s => s.deadlinePassed j.req = false ∧
      cmdTimeStats.spec.len.ok j.req.payload.length = false) ∧
    reaches cmdTimeStats (rq [(1, 2), (3, 0)]) ready (fun j s => cmdTimeStats.spec.len.ok j.req.payload.length ∧
      (cmdTimeStats.param j s).min? = some 16) ∧
    reaches cmdTimeStats { rq [(4, 1)] with txn := 1 } ready (fun j s => (check cmdTimeStats j s).isNone ∧
      (cmdTimeStats.denied j s).isNone ∧ j.req.txn ≠ 0 ∧ cmdTimeStats.spec.staged = false) ∧
    (let r : Request := { payload := fields [(4, 0)], tag := 5 };
      lookup 0x01 0xFF = none ∧ lookup 0x7F 0x01 = none ∧ classKnown 0x01 ∧ classKnown 0x7F = false ∧ r.payload.length ≤ 1008 ∧
      (takeSpi 0x01 0xFF r (ready.tick 0)).2.any fun j => !mustWait j (takeSpi 0x01 0xFF r (ready.tick 0)).1) := by
  decide +kernel

/-- The checks of R74 pass, and the command is to be executed now. -/
def passes (c : Cmd) (r : Request) (s : State) (p : Job → State → Bool) : Bool :=
  reaches c r s fun j s1 => (check c j s1).isNone && (c.denied j s1).isNone && p j s1

/-- `ready` without the power domain of Lacing, and with ENC under test. -/
def laceOff : State := { ready with pwr := { ready.pwr with on := ready.pwr.on.set 17 false } }
def testing : State := withHoop fun h => { h with bist := { st := 1, origin := 0x4803 } }

theorem witness_OrderOfObjectChecks :
    passes cmdLinkStatus (rq [(4, 0xC004)]) ready (fun j s => j.req.txn = 0 ∧ j.req.flags.testBit 2 = false ∧
      (cmdLinkStatus.names j).find? (fun n => !(idInRange n.2 && (cmdLinkStatus.creates || s.objExists n.2))) = some (16, 0xC004)) ∧
    passes cmdLinkStatus (rq [(4, 0xC003)]) laceOff (fun j s =>
      (∀ n ∈ cmdLinkStatus.names j, idInRange n.2 ∧ (cmdLinkStatus.creates ∨ s.objExists n.2)) ∧
      (cmdLinkStatus.names j).find? (fun n => (s.objOff n.2).isSome) = some (16, 0xC003) ∧ s.objOff 0xC003 = some 17) ∧
    passes cmdLinkStatus (rq [(4, 0xC003)]) { ready with pwr := { ready.pwr with portOpen := ready.pwr.portOpen.set 17 false } } (fun _ s =>
      s.domainOn 17 ∧ s.objOff 0xC003 = some 17) ∧
    passes cmdAudTone (rq [(2, 0xF0A7), (2, 0), (2, 20), (10, 0)]) (withAud fun a => { a with tones := a.tones.set 7 { owned := true } }) (fun j s =>
      (∀ n ∈ cmdAudTone.names j, idInRange n.2 ∧ (cmdAudTone.creates ∨ s.objExists n.2)) ∧
      ((cmdAudTone.names j).all fun n => (s.objOff n.2).isNone) ∧ cmdAudTone.protect j s = some 16) ∧
    passes cmdLinkStatus (rq [(4, 0xC003)]) testing (fun j s => cmdLinkStatus.protect j s = none ∧
      (cmdLinkStatus.names j).find? (fun n => s.underTest n.2) = some (16, 0xC003)) := by
  decide +kernel

/-- `ready` with transactions 1 (open, of the ADMIN session, as given) and 2. -/
def staging (x : Txn := { handle := 1, session := 1, transport := .spi }) : State :=
  { ready with txn := { ready.txn with live := [x, { handle := 2, session := 2, transport := .spi, objects := [0xF041] }] } }
/-- A staged GPIO_CONFIG under a transaction. -/
def staged (id txn : Nat) : Request :=
  { rqA [(2, id), (1, 1), (1, 0), (1, 1), (1, 0), (2, 10), (4, 0)] with txn }

theorem witness_StagedCommands :
    passes cmdGpioConfig (staged 0xF040 3) (staging) (fun j s => j.req.txn ≠ 0 ∧ cmdGpioConfig.spec.staged ∧
      (s.txn? j.req.txn).isNone) ∧
    passes cmdGpioConfig (staged 0xF040 2) (staging) (fun j s => (s.txn? j.req.txn).any fun x => x.session ≠ j.req.session) ∧
    passes cmdGpioConfig (staged 0xF0FF 1) (staging) (fun j s =>
      ((s.txn? 1).any fun x => x.st = .open_ && x.session = j.req.session && x.transport = j.req.transport) ∧
      (cmdGpioConfig.names j).find? (fun n => !idInRange n.2) = some (16, 0xF0FF)) ∧
    passes cmdLutLoadPost { rqA [(2, 0x6000), (2, 0), (2, 0), (1, 1), (1, 0)] with txn := 1 } (staging) (fun j s =>
      cmdLutLoadPost.spec.staged ∧ cmdLutLoadPost.protect j s = some 22 ∧ ∀ n ∈ cmdLutLoadPost.names j, idInRange n.2) ∧
    passes cmdGpioConfig (staged 0xF041 1) (staging) (fun j s =>
      (s.txn.live.find? fun y => y.handle ≠ j.req.txn && (cmdGpioConfig.names j).any fun n => y.objects.contains n.2).any
        fun y => y.handle = 2) ∧
    passes cmdGpioConfig (staged 0xF040 1)
      (staging { handle := 1, session := 1, transport := .spi, staged := List.replicate 512 (jobOf cmdNop {}) }) (fun j s =>
      ((s.txn? 1).any fun x => x.st = .open_ && 512 ≤ x.staged.length) ∧ cmdGpioConfig.protect j s = none ∧
      ∀ y ∈ s.txn.live, y.handle ≠ j.req.txn → ∀ n ∈ cmdGpioConfig.names j, n.2 ∉ y.objects) ∧
    passes cmdGpioConfig (staged 0xF040 1) (staging) (fun j s =>
      ((s.txn? 1).any fun x => x.st = .open_ && x.staged.length < 512) ∧
      ∀ y ∈ s.txn.live, y.handle ≠ j.req.txn → ∀ n ∈ cmdGpioConfig.names j, n.2 ∉ y.objects) := by
  decide +kernel

theorem witness_DeferredCommands :
    passes cmdNop { flags := 4, stitch := 1 } ready (fun j s => j.req.txn = 0 ∧ j.req.flags.testBit 2 ∧ 0 < s.stitchDist j.req.stitch ∧
      s.txn.deferred.length < 256) ∧
    passes cmdNop { flags := 4, stitch := 1 } { ready with
      txn := { ready.txn with deferred := List.replicate 256 { job := jobOf cmdNop {}, stitch := 9 } } } (fun j s =>
        0 < s.stitchDist j.req.stitch ∧ 256 ≤ s.txn.deferred.length) := by
  decide +kernel

def inProgress (r : Request) : State := { ready with hif := { ready.hif with inflight := [jobOf cmdNop r] } }

theorem witness_OrderedCommands :
    ((taken cmdNop 0 { flags := 2 } (inProgress {})).any fun x => x.2.hif.inflight.any fun k =>
      sameSource x.1 k && !k.deferred && x.1.ordered) ∧
    ((taken cmdNop 0 {} (inProgress { flags := 2 })).any fun x => x.2.hif.inflight.any fun k =>
      sameSource x.1 k && !k.deferred && k.ordered) ∧
    ((taken cmdNop 0 {} { ready with hif := { ready.hif with held := [jobOf cmdNop {}] } }).any fun x =>
      x.2.hif.held.any fun k => sameSource x.1 k) ∧
    (let j := jobOf cmdNop {}; sameSource j j ∧
      ({ ready with hif := { ready.hif with held := [j] } } : State).hif.held = [j] ∧ ready.hif.inflight = []) := by
  decide +kernel

/-- `ready` with PCIe up, queues of 4 and 8 reply buffers. -/
def pcie : State :=
  let h := ready.hif
  { ready with
    hif := { h with
      enable := true, pcieUp := true, sqs := h.sqs.map fun q => { q with size := 4, tail := 1 }
      cqs := h.cqs.map (fun q => { q with size := 4 }), rbuf := { h.rbuf with count := 8, prod := 8 } } }

theorem witness_ReplyPackets :
    (let s0 := pcie.sample 0x1001 0 [1, 0, 0, 0];
      s0.hif.pcieUp ∧ 0 < s0.hif.cqs.length ∧ 5 ≤ s0.hif.rbuf.free ∧ s0.hif.rbuf.cons + 1 < m16) ∧
    (jobOf cmdNop {}).deferred = false ∧ (jobOf cmdNop {}).buf = false ∧
    ({ jobOf cmdNop { transport := .pcie, flags := 1 } with buf := true, deferred := false } : Job).buf := by
  decide +kernel

theorem witness_NextHandleIsFree :
    (let s := staging; s.txn.live.length ≤ 4 ∧ s.txn.finished.length ≤ 16 ∧ s.txn.lastHandle ≤ 65535 ∧
      1 ∈ s.txn.live.map (·.handle) ++ s.txn.finished.map (·.handle)) ∧
    (let s := { ready with txn := { ready.txn with lastHandle := 65535 } }; s.txn.lastHandle = 65535 ∧ s.txn.live = []) := by
  decide +kernel

theorem witness_ApplyingWaitsIsKept : ready.applyingWaits ∧ ({ ready with pending := [.nop 0 (rq [])] } : State).pending ≠ [] := by
  exact ⟨fun _ hx => absurd hx List.not_mem_nil, fun h => by cases h⟩

theorem witness_QuietSettle : ready.hif.held = [] ∧ ready.clk.lastForward ≠ some ready.now ∧ ready.applyingWaits := by
  exact ⟨by decide +kernel, by decide +kernel, fun _ hx => absurd hx List.not_mem_nil⟩

/-! ### Witnesses: packets -/

/-- A request that fits a packet, of each transport. -/
def fitting (tr : Transport) (session : Nat) : Request :=
  { tag := 7, flags := 1, session, payload := fields [(4, 0xA5)], transport := tr }

theorem witness_Packets :
    lookup cmdNop.spec.cls cmdNop.spec.op = some cmdNop ∧ IsRow .nop cmdNop ∧
    (∀ tr ses, ses < 256 → fitsPacket (fitting tr ses)) ∧
    (∃ s x, (s : State).session? 3 = some x ∧ x.key ≠ []) ∧ (pcie.tick 0).nextQueue = some 0 ∧
    (packetOf cmdNop (fitting .pcie 0)).length = 20 ∧
    (let e : SqEntry := { control := 0, length := 20, address := 0, inline := packetOf cmdNop (fitting .pcie 0), indirect := [] };
      e.control = 0 ∧ e.address = 0 ∧ e.length ≤ 48 ∧ e.inline.take e.length = packetOf cmdNop (fitting .pcie 0)) ∧
    (let e : SqEntry := { control := 1, length := 20, address := 64, inline := [], indirect := packetOf cmdNop (fitting .pcie 0) };
      e.control = 1 ∧ e.address % 64 = 0 ∧ e.indirect = packetOf cmdNop (fitting .pcie 0)) ∧
    (ready.pending = [] ∧ 1008 = (fields [(1008, 0)]).length) := by
  refine ⟨rfl, fun _ _ _ => rfl, fun _ _ h =>
    ⟨(by decide : 7 < m32), (by decide : 0 < m16), (by decide : 1 < 256), h, (by decide : 0 < m32), (by decide : 4 ≤ 1008)⟩,
    ⟨{ ready with ses := { ready.ses with sessions := [{ number := 3, role := 1, transport := .network, key := [1#8] }] } }, _, rfl,
      by decide⟩, by decide +kernel, by decide +kernel, by decide +kernel, by decide +kernel, by decide +kernel⟩

/-! ### Witnesses of further clauses -/

theorem witness_EnergyRows_layers :
    meets cmdEnergySetClass (rqA [(4, 0x00053000)]) ready (fun j s => idType (j.u16 0) = 3 ∧ s.layerHeads (layerIndex (j.u16 0)) = []) ∧
    meets cmdEnergySetClass (rqA [(4, 0x00053000)]) (withTile (tile1 0) (withLayer 0 { head := some 0 })) (fun j s =>
      idType (j.u16 0) = 3 ∧ s.layerHeads (layerIndex (j.u16 0)) ≠ []) := by
  decide +kernel

theorem witness_PortsWithHeads :
    meets cmdDpPattern (rqV [(4, 0x0401700F), (4, 1)]) ready (fun j s => (s.dp 15).training = false ∧ s.portWaits j = []) ∧
    meets cmdDpPattern (rqV [(4, 0x04017000), (4, 1)]) (withHead 0 { timedHead with st := .scanning }) (fun j s =>
      (s.dp 0).training = false ∧ s.portWaits j ≠ [] ∧ j.req.txn = 0) ∧
    meets cmdPortTrain (rq [(4, 0x00017000)]) (withHead 0 { timedHead with st := .scanning } (withDp 0 { hpd := true })) (fun j s =>
      j.u8 2 = 1 ∧ (s.dp 0).training = false ∧ (s.dp 0).hpd ∧ s.portWaits j ≠ []) ∧
    meets cmdPortTrain (rq [(4, 0x00027000)]) (withHead 0 { timedHead with st := .closing } (withDp 0 trained)) (fun j s =>
      j.u8 2 = 2 ∧ (s.dp 0).training = false ∧ s.portHeads 0 = [] ∧ s.portWaits j ≠ []) := by
  decide +kernel

theorem witness_ScrubAndAperture :
    (let s := ready.tick (24 * 3600 * nsPerSec);
      s.hif.ready ∧ s.domainOn 12 ∧ s.pwr.scrubAt + s.hoop.scrubHours * 3600 * nsPerSec ≤ s.now) ∧
    (let s := ready.tick 1; s.hif.pcieUp ∧ s.domainOn 19 ∧ (s.guard 0).update = none) ∧
    ((withCb { node := 0 } (withPort 5 { enable := true, loop := 1 })).cbPort 0).loop ≠ 0 := by
  decide +kernel

theorem witness_LockWindows :
    (let s := (withPort 3 { enable := true }).tick 500000000;
      (s.port 3).enable ∧ (s.port 3).speed = 0 ∧ (s.port 3).link = false ∧ (s.port 3).lockSince = none ∧ (s.port 3).searchSince = 0) ∧
    ∀ a : Nat, (a = 0 ∨ a = 499999999 → 0 ≤ a ∧ a < 0 + 500000000) ∧ (a = 500000000 → a < 0 ∨ 0 + 500000000 ≤ a) := by
  exact ⟨by decide +kernel, fun a => ⟨by omega, by omega⟩⟩

theorem witness_FramesAtAPort :
    (let s := (withPort 0 { enable := true, link := true } (withSrc 0 { st := .active, typ := 1, installed := true, paths := [{ udp := 5004 }, {}] })).tick 1;
      let k : Packet := { port := 0, frameLen := 64, fcsOk := true, vlan := 0, dst := 0, udpDst := 5005, src := 1, udpSrc := 1, fec := (0, 0, 0), body := .rtcp 1 none };
      s.portRx k.port ∧ (s.port k.port).fecActive = false ∧ 64 ≤ k.frameLen ∧ k.frameLen ≤ (s.port 0).mtu + 18 ∧
      k.vlan = (s.port k.port).vlan ∧ k.port ≠ 4 ∧ k.body = .rtcp 1 none ∧ (s.src 1).matches_ 0 k = false ∧ (s.src 0).matches_ 0 k) ∧
    (let s := (withDom { st := .listening, delay := 1, transport := 1, number := 7 }).tick 1;
      s.portRx 0 ∧ (s.port 0).fecActive = false ∧ s.goodLength 0 0 (54 + ptpHeaders 1) ∧ (s.port 0).vlan = 0 ∧
      (s.rxFrame 0 (54 + ptpHeaders 1)).answersPdelay 0 7 1) ∧
    (let s := (withPort 0 { enable := true, link := true }).tick 1;
      s.portRx 0 ∧ s.goodLength 0 (s.port 0).vlan 63 = false ∧ s.goodLength 0 (s.port 0).vlan 1519 = false ∧
      s.goodLength 0 (s.port 0).vlan 64 ∧ s.goodLength 0 (s.port 0).vlan 1518) ∧
    (let s := (withSrc 0 { st := .active, dual := true, paths := [{}, {}] }).tick 100000000;
      ((s.src 0).paths.getD 1 {}).lastAccepted.getD ((s.src 0).paths.getD 1 {}).since + 100000000 ≤ s.now) := by
  decide +kernel

theorem witness_EncStop_idle :
    meets cmdEncStop (rq [(4, 0x8000)]) (withEnc { st := .idle }) (fun _ s => (s.encode 0).st = .idle ∧ (s.encode 0).pics = []) ∧
    meets cmdEncStop (rq [(4, 0x8000)]) (withEnc { st := .configured }) (fun _ s => (s.encode 0).st ≠ .running ∧ (s.encode 0).st ≠ .idle) ∧
    meets cmdHeadGenlock (rq [(4, 0x6000), (28, 0)]) ready (fun j s => (s.head 0).timed = false ∧ j.u8 2 = 0 ∧
      s.ledHead j 0 = false) := by
  decide +kernel

theorem witness_FramesAfterAWake :
    (let x : Tile := { (latched.tile? 0 0).getD (tile1 0) with freshFrom := some 0 };
      x.latched = some (0x1000, 9) ∧ (latched.judgedRec x).isSome ∧ ∀ n, x.freshFrom = some n → n ≤ 0) ∧
    (let x : Tile := { (latched.tile? 0 0).getD (tile1 0) with freshFrom := some 1 }; latched.judgedRec x = none) := by
  decide +kernel

theorem witness_PathDelays :
    (let s := (withDom { st := .listening, delayReqPending := true, syncTimes := some (5, 9) }).tick 1;
      (s.dom 0).delay ≠ 1 ∧ (s.dom 0).syncTimes = some (5, 9) ∧ (s.dom 0).delayReqPending ∧ s.portRx (s.dom 0).port) ∧
    (ready.dom 0).syncTimes = none := by
  decide +kernel

theorem witness_DeferredCommands_refused :
    passes cmdLinkStatus { rq [(4, 0xC004)] with flags := 4, stitch := 5 } ready (fun j s => j.req.txn = 0 ∧ 0 < s.stitchDist j.req.stitch ∧
      (checkObjects cmdLinkStatus j s).isSome) ∧
    passes cmdLinkTrain { rqA [(4, 0xC000)] with flags := 4, stitch := 5 } ready (fun j s => j.req.txn = 0 && 0 < s.stitchDist j.req.stitch &&
      match execCmd cmdLinkTrain.budgeted j s with
      | .fail st _ => st = eState
      | _ => false) ∧
    passes cmdNop { flags := 4, stitch := 5 } ready (fun j s => j.req.txn = 0 && 0 < s.stitchDist j.req.stitch &&
      match execCmd cmdNop.budgeted j s with
      | .ok _ _ => true
      | .fail _ _ | .failWith _ _ _ | .part _ _ _ | .later _ | .done _ => false) := by
  decide +kernel

/-! ### Ill-formed operands are refused, one check at a time -/

theorem test_request_wf :
    ({} : Request).wf ∧ ¬({ queue := 4 } : Request).wf ∧ ¬({ port := 5 } : Request).wf ∧ ¬({ udp := 65536 } : Request).wf ∧
    ¬({ peer := 2 ^ 128 } : Request).wf ∧ ¬({ seq := 2 ^ 64 } : Request).wf ∧ ¬({ tag := 2 ^ 32 } : Request).wf ∧
    ¬({ txn := 65536 } : Request).wf ∧ ¬({ flags := 256 } : Request).wf ∧ ¬({ session := 16 } : Request).wf ∧
    ¬({ stitch := 2 ^ 32 } : Request).wf ∧ ¬({ payload := List.replicate 65520 0 } : Request).wf ∧
    ({ payload := List.replicate 65519 0 } : Request).wf := by
  decide +kernel

/-- An empty submission entry. -/
def entry0 : SqEntry := { control := 0, length := 0, address := 0, inline := zeros 48, indirect := [] }

theorem test_entry_wf :
    entry0.wf ∧ ¬{ entry0 with control := 2 ^ 32 }.wf ∧ ¬{ entry0 with length := 2 ^ 32 }.wf ∧ ¬{ entry0 with address := 2 ^ 64 }.wf ∧
    ¬{ entry0 with inline := zeros 47 }.wf ∧ ¬(Instr.sqEntryTake 0 { entry0 with inline := [] }).wf := by
  decide +kernel

/-- One ill-formed term for each bound on an event's object, the least value beyond it. -/
theorem test_instr_wf :
    (Instr.nop 0 {}).wf ∧ ¬(Instr.nop 0 { queue := 4 }).wf ∧
    ([.networkSessionIdleClose 0 16, .txnIdleExpiry 0 65536, .txnFenceTimeout 0 65536, .txnApplyGlobal 0 65536, .netLoopExpiry 0 5,
      .reorderWindowExpiry 0 96, .candidateTimeout 0 96, .channelSilent 0 96, .contestClear 0 96, .pathDown 0 96 0, .pathDown 0 0 2,
      .ethSpeedWindowExpiry 0 ⟨4, none⟩, .ethLinkDown 0 5, .membershipReportRetransmit 0 5, .hpdLongLow 0 16, .hpdRise 0 16,
      .headFrameStart 0 32, .applyLineReached 0 32, .flipAbandon 0 192 0, .flipAbandon 0 0 33, .tileStateCoalesce 0 192 0,
      .tileStateCoalesce 0 0 32, .sliceCheckLine 0 64 0, .sliceLockReturn 0 64, .attestRecordComplete 0 32, .rtcpSenderReport 0 16,
      .tonePhaseChange 0 8, .toneDurationExpiry 0 8, .nonPcmDetect 0 0 64 0, .nonPcmClear 0 0 64, .steerLimit 0 8 true,
      .ptpMasterTimeout 0 2, .cbusSendTimeout 0 2, .cbusFrameSent 0 2 0 0, .plcaLost 0 2, .plcaBeacon 0 2, .touchHoldLimit 0 32,
      .inputDebouncedChange 0 56, .inputRawTransition 0 56 true, .chatterClear 0 56, .inputStuck 0 56, .pairFault 0 4, .pairOk 0 4,
      .linkLoopExpiry 0 4, .linkRetryTimer 0 4, .linkActiveLossTimeout 0 4, .flitReceive 0 4 ⟨[]⟩, .llcReceive 0 4 [], .replayTimeout 0 4,
      .forwardMessageSend 0 4 0 0 0 0 0, .linkMisaligned 0 4, .linkIdleEntry 0 4, .linkSleepEntry 0 4, .guardUpdateReopen 0 9,
      .thermalTrip 0 18 0, .bobbinWatchdogMiss 0 12, .clockMonitorFinding 0 16 1 0, .clockGoodAgain 0 16, .sqTailDoorbell 0 4 0,
      .cqHeadDoorbell 0 4 0, .networkDatagramReceive 0 5 0 0 [], .frameSyncEdge 0 8 [], .samplePlayTime 0 8, .llcAckTimer 0 4,
      .ptpDelayReqInterval 0 2, .ptpDelayResponse 0 2 0 0] : List Instr).all (fun i => !i.wf) ∧
    (∀ o r, ¬(Instr.ethLinkUp 0 5 o).wf ∧ ¬(Instr.linkTrainingComplete 0 4 r).wf) ∧
    (∀ a b c d, ¬(Instr.ptpAnnounce 0 2 a).wf ∧ ¬(Instr.consoleFrameReceive 0 2 b).wf ∧ ¬(Instr.portTrainingComplete 0 16 c).wf ∧
      ¬(Instr.forwardedMessageReceive 0 4 d).wf) ∧
    (∀ a b c d e f, ¬(Instr.hpdShortPulse 0 16 a).wf ∧ ¬(Instr.tileVerdict 0 32 0 b).wf ∧ ¬(Instr.tileVerdict 0 0 192 b).wf ∧
      ¬(Instr.lastActiveLineEnd 0 32 c).wf ∧ ¬(Instr.encodePictureDone 0 16 d).wf ∧ ¬(Instr.beaconReceive 0 4 e).wf ∧
      ¬(Instr.marginMeasure 0 4 f).wf) ∧
    (∀ a b, ¬(Instr.decodeRowComplete 0 64 a).wf ∧ ¬(Instr.decodeDone 0 64 b).wf) ∧ ∀ a b, ¬(Instr.linkRetrainTrigger 0 4 a b).wf := by
  refine ⟨by decide +kernel, by decide +kernel, by decide +kernel, ?_, ?_, ?_, ?_, ?_⟩ <;> intros <;> simp [Instr.wf]

/-! ### Values the spec works out -/

/-- Spec 03 and 19 name the CRCs; "123456789" is their published check string. -/
theorem test_crc_check_values :
    (let m : List Byte := [0x31, 0x32, 0x33, 0x34, 0x35, 0x36, 0x37, 0x38, 0x39];
      crc32 m = 0xCBF43926 ∧ crc32c m = 0xE3069283 ∧ crc16 m = 0x29B1 ∧ crc64 m = 0x6C40DF5F0B497347) := by
  decide +kernel

/-- The published digests of "abc" (FIPS 180-4) and the second case of RFC 4231. -/
theorem test_hash_vectors :
    sha256 [0x61, 0x62, 0x63] = beBytes 32 0xBA7816BF8F01CFEA414140DE5DAE2223B00361A396177A9CB410FF61F20015AD ∧
    (sha384 [0x61, 0x62, 0x63]).take 16 = beBytes 16 0xCB00753F45A35E8BB5A03D699AC65007 ∧
    hmacSha256 [0x4A, 0x65, 0x66, 0x65] ("what do ya want for nothing?".toList.map fun c => BitVec.ofNat 8 c.toNat) =
      beBytes 32 0x5BDCC146BF60754E6A042426089575C75A003F089D2739839DEC58B964EC3843 := by
  decide +kernel

/-- Spec 04: the time 2001.010114000 s. -/
theorem test_time_bytes : timeBytes 2001010114000 = [0xD1, 7, 0, 0, 0, 0, 0, 0, 0xD0, 0x53, 0x9A, 0] := by
  decide +kernel

/-- Spec 04: PEEK of TAMB1 by SERVICE on session 3, byte by byte. -/
theorem test_peek_packet :
    packetOf cmdPeek { tag := 0x42, flags := 1, session := 3, payload := fields [(8, 0x2021000040), (4, 8)] } =
      [1, 5, 0x1C, 0, 0x42, 0, 0, 0, 0, 0, 1, 3, 0, 0, 0, 0, 0x40, 0, 0, 0x21, 0x20, 0, 0, 0, 8, 0, 0, 0] := by
  decide +kernel

/-- Spec 04: the same PEEK while PD_TAMB1 (domain 9) is off: E_DOMAIN_OFF, DETAIL 0xF209. -/
theorem test_peek_off :
    (match taken cmdPeek 0 (rqV [(8, 0x2021000040), (4, 8)])
        ({ ready with pwr := { ready.pwr with on := ready.pwr.on.set 9 false } } : State) with
      | some (j, s1) => match cmdPeek.run j s1 with
        | .failWith _ st d => st = 0x8009 && d = 0xF209
        | _ => false
      | none => false) = true := by
  decide +kernel

/-- Spec 02: `HD2`, SST, 3840 × 2160 at 60 Hz, sink latency 8,000 µs; the frame starts at 1000.1 s. -/
def hd2 : Head :=
  { target := 0x7002, tF := 1000100000000 * fine, timing := {
      hAct := 3840, hFp := 176, hSync := 88, hBp := 296, vAct := 2160, vFp := 8, vSync := 10, vBp := 72, sinkUs := 8000 } }

/-- Spec 02: T_scan 1000.124002 s for y_last 2159 and 1000.116002 s for 1079; the MST example is 2001.010114 s. -/
theorem test_scan_time :
    hd2.tScan 2159 = 1000124002000 ∧ hd2.tScan 1079 = 1000116002000 ∧
    ({ hd2 with stream := 1, tF := 2001002000000 * fine, timing := {
        hAct := 2560, hFp := 48, hSync := 32, hBp := 80, vAct := 1440, vFp := 3, vSync := 5, vBp := 33, num := 60000, den := 1001 } }
      : Head).tScan 719 = 2001010114000 := by
  decide +kernel

/-- Spec 02: tile `V17` on `HD2` showing a frame of class G1 captured at this time. -/
def v17 (y capture : Nat) : State × Tile :=
  let r : GimpRec := {
    object := 0x1000, seq := 5, captureNs := capture, arrivalNs := 999912345000, evidence := 1, uncert := 800, width := 1920, height := 1080 }
  let t : Tile := { layer := 17, head := 2, latched := some (0x1000, 5), cfg := {
    dest := { x := 0, y := y, w := 3840, h := 1080 }, guarded := true, enable := true, source := some 0
    policy := { boundUs := 250000, minEvidence := 1 } } }
  ({ ready with
    clk := { ready.clk with established := true, referenceSeen := true }
    heads := ready.heads.set 2 hd2
    net := { ready.net with srcs := modAt ready.net.srcs 0 fun c => { c with st := .active, typ := 2 } }
    dec := { ready.dec with gimpCh := ready.dec.gimpCh.set 0 { recs := [r] } } }, t)

def verdictOf (x : State × Tile) : Nat := (x.1.verdict x.2).state

/-- Spec 02: STALE at the bound; LATE one microsecond later, and in the upper tile. -/
theorem test_verdict_example :
    verdictOf (v17 1080 999874802000) = 3 ∧ verdictOf (v17 1080 999874803000) = 2 ∧ verdictOf (v17 0 999874802000) = 2 ∧
    ((v17 1080 999874802000).1.verdict (v17 1080 999874802000).2).ageNs = 250000000 := by
  decide +kernel

/-- Spec 12: entry 0 of the attestation record of the STALE tile. -/
theorem test_attest_entry :
    ({ (v17 1080 999874802000).2 with state := 3, notScanned := false, judged := true, evidence := 1, ageUs := 250000 } : Tile).attestEntry
      { hd2 with st := .scanning } = [0x11, 0x30, 3, 1, 0x90, 0xD0, 3, 0, 0xFF, 0, 0, 0] := by
  decide +kernel

/-- Spec 07, Table 7-4 and the worked footprint. -/
theorem test_cpb_and_footprint :
    leastCpb 1 1 31 = 2051 ∧ leastCpb 1 2 41 = 9156 ∧ leastCpb 1 3 41 = 11445 ∧ leastCpb 1 3 52 = 43946 ∧ leastCpb 2 1 123 = 2686 ∧
    leastCpb 2 2 153 = 5372 ∧ footprint 1920 1080 8 = 3342336 ∧ 8 * footprint 1920 1080 8 = 26738688 := by
  decide +kernel

/-- Spec 08: RTP 180,085,050 with arrival 2000.9625 s was captured at 2000.945 s. -/
theorem test_media_capture : mediaCapture 2000962500000 180085050 = 2000945000000 := by
  decide +kernel

/-- Spec 09: the scaling example at dx = 0, 1, 2 and the hatch of cell (22, 13). -/
theorem test_scaling_example :
    srcPos 1920 640 640 0 0 = (639, 43) ∧ srcPos 1920 640 640 1 0 = (640, 0) ∧ srcPos 1920 640 640 2 0 = (640, 21) ∧
    (let c : LayerCfg := { dest := { x := 0, y := 0, w := 1920, h := 1080 }, crop := { x := 640, y := 360, w := 640, h := 360 } };
      hatchRect c hd2.timing 1920 1080 22 13 = { x := 177, y := 156, w := 126, h := 120 }) := by
  decide +kernel

/-- Spec 10, Table 10-4: e = +337.5 lines, k = 1912, and the frame then starts within one line of the target. -/
theorem test_snap_example :
    (let t : Timing := hd2.timing;
      let g : Genlock := { mode := 1, phaseNs := 1500000, st := .acquiring };
      let h : Head := { hd2 with tF := 3000004000000 * fine, genlock := g };
      errLines t g h.tF = 337 ∧ h.acquireLines (h.startAfter 2250) = 1912 ∧
      h.fixNext.nextTF.map (· / fine / 1000) = some 3000034829 ∧ errWithin t g (h.fixNext.nextTF.getD 0) 1) := by
  decide +kernel

/-- Spec 10: four `HD9` heads of FORMAT 1 fit `DPO4` at HBR3 on 4 lanes in 60 slots; three of FORMAT 2 take 54, four do not fit. -/
theorem test_slots_example :
    (let hd9 (f : Nat) : Head := { hd2 with stream := 1, accStream := 1, timing := {
        format := f, hAct := 2560, hFp := 48, hSync := 32, hBp := 80, vAct := 1440, vFp := 3, vSync := 5, vBp := 33
        num := 60000, den := 1001 } };
      portSlots (List.replicate 4 (hd9 1)) 4 4 = 60 ∧ portSlots (List.replicate 3 (hd9 2)) 4 4 = 54 ∧
      portFits (List.replicate 3 (hd9 2)) 4 4 ∧ portFits (List.replicate 4 (hd9 2)) 4 4 = false) := by
  decide +kernel

/-- Spec 13: the forward step from Stitch 8,000,247 lands in Stitch 8,000,748. -/
theorem test_step_example :
    (let s := ready.modClk fun c => { c with
        established := true, localNs := 4000123456789, stitch := 8000247, boundary := 4000123000000 };
      let u := s.stepClock 250300000;
      u.local = 4000373756789 ∧ u.clk.stitch = 8000748 ∧ u.clk.boundary = 4000373500000) := by
  decide +kernel

/-- Spec 13: 40 s of holdover at 2,000 ppb is 80 µs. -/
theorem test_holdover_example :
    ((ready.modClk fun c => { c with active := some 0, oscPpb := 2000, established := true }).modDom 0 fun x =>
      { x with st := .holdover }).uDev = 0 ∧
    (((ready.modClk fun c => { c with active := some 0, oscPpb := 2000, established := true }).modDom 0 fun x =>
      { x with st := .holdover }).tick (40 * nsPerSec)).uDev = 80000 := by
  decide +kernel

/-- Spec 14: sample 96,000,000 plays at 2000.005 s with PLAYOUT 5,000 µs at 48 kHz; k = 30 of the repair is late, k = 31 in time. -/
theorem test_play_time_example :
    (let g : Group := { made := true, playout := 5000 };
      playAt g 48000 96000000 = 2000005000000 ∧
      2000005500000 + 125000 ≥ playAt g 48000 96000030 ∧ 2000005500000 + 125000 < playAt g 48000 96000031) := by
  decide +kernel

/-- Spec 17: 128 bytes at 0x02_47FF_FFC0 split at region 2's top; the second part lacks W. -/
theorem test_guard_split_example :
    (let s := ready.modGuard 6 fun u => { u with
        regions := (u.regions.set 2 { base := 0x240000000, sizeExp := 27, read := true, write := true }).set 3
          { base := 0x248000000, sizeExp := 12, read := true } };
      s.accessParts 6 0x247FFFFC0 128 = [(0x247FFFFC0, 64), (0x248000000, 64)] ∧ s.guardCheck 6 1 0x247FFFFC0 true = none ∧
      (s.guardCheck 6 1 0x248000000 true).any fun d => d.region = 3) := by
  decide +kernel

/-- Spec 19: header UNCERT 650 µs, o_link 2.3 µs and 3σ 0.1 µs give 653 µs. -/
theorem test_forward_uncert :
    ({ aligned := true, offsets := [2400] } : Lk).fwdUncert 650 = 653 := by
  decide +kernel

/-- Spec 01: an unlisted byte reads 0, and a written one what was written. -/
theorem test_memory :
    memRead [] 5 = 0 ∧ memRead (memWrite [] 5 7) 5 = 7 ∧ memWrite (memWrite [] 5 7) 5 0 = [] ∧ Memory.wf (memWrite [] 5 7) := by
  decide +kernel

/-- One step: NOP with REPLY_WANTED at the front of the queue; its reply waits on the SPI port. -/
theorem test_step_nop :
    (match step ({ ready with pending := [.nop 0 { tag := 7, flags := 1, payload := [9] }] } : State) with
      | .next u => u.hif.spi.waiting = [[1, 0, 17, 0, 7, 0, 0, 0, 0, 0, 0, 0, 0, 0, 0, 0, 9]] && u.pending = []
      | _ => false) = true := by
  decide +kernel

/-! ### Values that standards the spec names work out -/

/-- IEC 61966-2-1 (R234) at the ends, on both sides of the break, and near the middle. -/
theorem test_srgb_curves :
    [0, 41, 42, 512, 1023].map srgbDecode = [0, 203, 208, 14057, 65535] ∧
    [0, 12, 13, 877, 4095].map srgbEncode = [0, 2481, 2687, 32776, 65535] := by
  decide +kernel

/-- BT.709 in limited range (R300): white, black and the primaries in 8 and 10 bits. -/
theorem test_bt709_codes :
    [[255, 255, 255], [0, 0, 0], [255, 0, 0], [0, 255, 0], [0, 0, 255]].map (codeLuma 8 255) = [235, 16, 63, 173, 32] ∧
    codeLuma 10 1023 [1023, 1023, 1023] = 940 ∧ codeChroma 8 255 0 [(8, [255, 0, 0])] = 240 ∧
    codeChroma 8 255 2 [(8, [0, 0, 255])] = 240 ∧ codeChroma 8 255 2 [(8, [255, 0, 0])] = 102 ∧
    codeChroma 10 1023 2 [(8, [7, 7, 7])] = 512 := by
  decide +kernel

/-- Stage 5 of Table 9-3: nominal white and black, in limited and full range. -/
theorem test_matrix_ends :
    yuvToRgb 0 false 940 512 512 = [1023, 1023, 1023] ∧ yuvToRgb 1 false 64 512 512 = [0, 0, 0] ∧
    yuvToRgb 2 true 1023 512 512 = [1023, 1023, 1023] := by
  decide +kernel

/-- R507: 10 mV in 10 us, 0.55 V to 0.85 V, within 0.30 V of VDD_SRAM. -/
theorem test_core_setpoint :
    coreStep 750 800 800 10000 = 760 ∧ coreStep 750 800 800 9999 = 750 ∧ coreStep 750 900 800 1000000 = 850 ∧
    coreStep 750 400 800 1000000 = 550 ∧ coreStep 750 400 900 1000000 = 600 := by
  decide +kernel

/-- R82, R83: a full ring whose whole content the host has consumed is empty; an unmoved head consumes nothing of another. -/
theorem test_whole_ring_consumed :
    (({ size := 16, head := 3, posted := 16 } : Cq).consume 3).posted = 0 ∧
    (({ size := 16, head := 3, posted := 5 } : Cq).consume 3).posted = 5 ∧
    (({ size := 16, head := 14, posted := 16 } : Cq).consume 1).posted = 13 := by
  decide +kernel

/-- Table 3-5: the identifier, a write-only doorbell, an unlisted offset, and an upper half of a base. -/
theorem test_register_reads :
    (let s := { ready with hif := { ready.hif with sqs := ready.hif.sqs.set 1 { base := 0x12_34567000, size := 16, tail := 9, head := 4 } } }
     [0x000, 0x120, 0x124, 0x128, 0x12C, 0x130, 0x3FC].map s.registerRead = [0x4A587264, 0x34567000, 0x12, 16, 0, 4, 0]) := by
  decide +kernel

/-- R55 on 10-bit codes: white becomes the neutral grey of half its linear luminance, which IEC 61966-2-1 encodes as 0.7354. -/
theorem test_grey_of_white : greyOf 2 [1023, 1023, 1023] = [752, 752, 752] := by
  decide +kernel

end Sys2Proof.Tests
end

section
/-! PROOF. The rows of sessions, engine resets and memory errors (spec/01, spec/03, spec/18), each meaning under its condition,
and the statement that gathers them. -/
namespace Sys2Proof.Machine

/-! ### Sessions and the heartbeat (R97, R99, R137) -/

theorem sessionIdle_closes {s : State} {n : Nat} {x : Session} (hx : s.session? n = some x) (hnet : x.transport = .network)
    (hidle : x.lastAccepted + 300000000000 ≤ s.now) : sessionIdle n s = s.closeSession n := by
  simp [sessionIdle, hx, hnet, hidle]

theorem hbOverdue_of {s : State} (hsup : s.ses.supervised = true) (hlost : s.ses.hbLost = false) (hpaused : s.hbPaused = false)
    (hend : s.ses.hbDeadline ≤ s.now) : s.hbOverdue = true := by
  simp [State.hbOverdue, hsup, hlost, hpaused, hend]

theorem heartbeatLost_overdue {s : State} (h : s.hbOverdue = true) :
    heartbeatLost s = ({ s with ses := { s.ses with hbLost := true, hbLostAt := s.ses.hbDeadline } } : State).record 0x0502 0
      [s.ses.hbPeriodMs] := by
  simp [heartbeatLost, h]

theorem heldDiscard_due {s : State} (h : s.ses.heldUntil ≤ s.now) :
    heldDiscard s = { s with ses := { s.ses with heldEvents := [] } } := if_pos h

/-! ### Engines (R25, R408) -/

/-- An engine in reset reports (R118): what waited for it is answered, and DEGRADED ends with the last one. -/
theorem engineResetDone_found {s : State} {o : Nat} {r : Nat × Option Job} {rest : List (Nat × Option Job)} {up down : List Nat}
    (hr : s.hoop.resetting.find? (fun r => r.1 = o) = some r) (hrest : rest = s.hoop.resetting.erase r)
    (hup : up = (enginesOf o).filter fun e => e / 256 = 2)
    (hdown : down = s.hoop.bobbinDown.filter fun b => !up.contains (0x200 + b)) :
    engineResetDone o s = ({ s with
      hoop := { s.hoop with
        resetting := rest, bobbinDown := down, bobbinOkSince := if up.isEmpty then s.hoop.bobbinOkSince else s.now }
      hif := { s.hif with
        hoopState := if s.hif.hoopState = 3 && rest.isEmpty && down.isEmpty then 2 else s.hif.hoopState } } : State).finish?
          r.2 0 0 [] := by
  subst hrest hup hdown
  simp only [engineResetDone, hr]
  rfl

theorem bobbinMiss_resets {s : State} {b : Nat} (hb : b < 12) (hready : s.hif.ready = true)
    (hon : s.domainOn 2 = true ∨ (b = 11 ∧ s.pwr.pstate = 2)) (hup : s.hoop.bobbinDown.contains b = false) :
    bobbinMiss b s = (s.trigger 0x0101 (0x0200 + b) [4]).resetEngine (0x0200 + b) none := by
  have hserves : (s.domainOn 2 || (decide (b = 11) && decide (s.pwr.pstate = 2))) = true := by simpa using hon
  simp only [bobbinMiss, hserves, hready, hup, Nat.not_le.2 hb, decide_false, Bool.not_true, Bool.or_false]
  rfl

/-! ### Uncorrectable errors and the scrubber (R23-R25) -/

theorem eccControl_owned {s : State} {e : EccInfo} (he : engineExists e.origin = true) (hg : e.gimp = 0) :
    eccControl e s = ((s.countUnc e.origin).trigger 0x0103 e.origin
      [e.address % m32, e.address / m32, e.syndrome % m32]).resetEngine e.origin none := by
  simp [eccControl, he, hg, State.when]

/-- In a record of the Gimp table the quota is retired, and its Bobbin is the owner (R198). -/
theorem eccControl_gimp {s : State} {e : EccInfo} (he : engineExists e.origin = true) (hg : e.gimp ≠ 0) :
    eccControl e s = (((s.countUnc e.origin).trigger 0x0103 e.origin
      [e.address % m32, e.address / m32, e.syndrome % m32]).retireQuota e.gimp).resetEngine
        (if idType e.gimp = 1 then 0x0200 + idIndex e.gimp / 8 else 0x020B) none := by
  simp [eccControl, he, hg, State.when]

theorem eccPixel_counted {s : State} {e : EccPixel} (he : engineExists e.origin = true) :
    eccPixel e s = ((s.countUnc e.origin).record 0x0302 e.origin [e.address % m32, e.address / m32]).taintPixels e := by
  simp [eccPixel, he]

/-- The cells of a record after an error in its picture (R24). -/
def GimpRec.cellsWith (r : GimpRec) (e : EccPixel) : List Nat := r.cells ++ e.cells.filter fun k => !r.cells.contains k

/-- A record after an error in its picture: its cells, and how many are tainted (R24, R187). -/
def GimpRec.taintedBy (e : EccPixel) (r : GimpRec) : GimpRec :=
  { r with
    cells := r.cellsWith e
    tainted := sat16 (r.cellsWith e ++ (r.mapCells.map (·.1)).filter fun k => !(r.cellsWith e).contains k).length }

/-- The tainted cells that the record of an error's picture counts. -/
def State.taintOfPicture (s : State) (e : EccPixel) : Nat := ((s.rec? e.object e.seq).map (·.tainted)).getD 0

/-- The buffers of a channel after an error in a picture: its units become FIRM (R187). -/
def State.firmPicture (s : State) (e : EccPixel) : State :=
  s.modCtx (idIndex e.object) fun c => { c with
    bufs := c.bufs.map fun b => if b.seq = e.seq && b.seq ≠ 0 then b.firmCells e.cells else b }

theorem taintPixels_picture {s : State} {e : EccPixel} (h0 : e.object ≠ 0) (h8 : idType e.object ≠ 8) :
    s.taintPixels e = s.taintRead e := by
  simp [State.taintPixels, State.when, h0, h8]

theorem taintRead_other {s : State} {e : EccPixel} (h : idType e.object ≠ 1) :
    s.taintRead e = s.modRec e.object e.seq (GimpRec.taintedBy e) := if_pos h

/-- On an ingest channel the buffer is tainted too, and a count that rises from 0 raises TAINTED (R191). -/
theorem taintRead_channel {s : State} {e : EccPixel} (h : idType e.object = 1) :
    s.taintRead e =
      (if s.taintOfPicture e = 0 && (s.modRec e.object e.seq (GimpRec.taintedBy e)).taintOfPicture e ≠ 0 then
        (((s.modRec e.object e.seq (GimpRec.taintedBy e)).firmPicture e).modCtx (idIndex e.object) fun c =>
          { c with lastTainted := (s.modRec e.object e.seq (GimpRec.taintedBy e)).taintOfPicture e, sinceTainted := 0 }).evtDecode
          (idIndex e.object) 9 0 ((s.modRec e.object e.seq (GimpRec.taintedBy e)).taintOfPicture e) 0 e.seq
      else (s.modRec e.object e.seq (GimpRec.taintedBy e)).firmPicture e) := if_neg (not_not.2 h)

theorem scrubDue_of {s : State} (hready : s.hif.ready = true) (hon : s.domainOn 12 = true)
    (hat : s.pwr.scrubAt + s.hoop.scrubHours * 3600 * nsPerSec ≤ s.now) : s.scrubDue = true := by
  simp [State.scrubDue, hready, hon, hat]

/-- The counters and findings of a scrub pass (R23). -/
def State.scrubbed (s : State) (o : ScrubObs) : State :=
  { s with pwr := { s.pwr with
      eccCorr := s.pwr.eccCorr.mapIdx fun i n => satAdd32 n (o.corrected.getD i 0)
      scrubAt := s.now
      scrubFound := s.pwr.scrubFound ++ o.pixel.filter fun e => engineExists e.origin } }

theorem scrubPass_due {s : State} {o : ScrubObs} (h : s.scrubDue = true) :
    scrubPass o s = ((s.scrubbed o).forEach (o.pixel.filter fun e => engineExists e.origin) fun e s =>
      (s.countUnc e.origin).record 0x0302 e.origin [e.address % m32, e.address / m32]).forEach o.control fun e s => eccControl e s := by
  simp only [scrubPass, h]
  rfl

/-! ### The rows -/

theorem exec_networkSessionIdleClose (t n : Nat) (s : State) :
    exec (.networkSessionIdleClose t n) s = .next (settle (sessionIdle n (s.tick t))) := rfl
theorem exec_heartbeatLost (t : Nat) (s : State) :
    exec (.heartbeatLost t) s = .next (settle (heartbeatLost (s.tick t)).bannersEndSr) := rfl
theorem exec_heldEventsDiscard (t : Nat) (s : State) :
    exec (.heldEventsDiscard t) s = .next (settle (heldDiscard (s.tick t))) := rfl
theorem exec_engineResetDone (t o : Nat) (s : State) :
    exec (.engineResetDone t o) s = .next (settle (engineResetDone o (s.tick t))) := rfl
theorem exec_bobbinWatchdogMiss (t b : Nat) (s : State) :
    exec (.bobbinWatchdogMiss t b) s = .next (settle (bobbinMiss b (s.tick t))) := rfl
theorem exec_eccUncorrectableControl (t : Nat) (e : EccInfo) (s : State) :
    exec (.eccUncorrectableControl t e) s = .next (settle (eccControl e (s.tick t))) := rfl
theorem exec_eccUncorrectablePixel (t : Nat) (e : EccPixel) (s : State) :
    exec (.eccUncorrectablePixel t e) s = .next (settle (eccPixel e (s.tick t))) := rfl
theorem exec_scrubPass (t : Nat) (o : ScrubObs) (s : State) :
    exec (.scrubPass t o) s = .next (settle (scrubPass o (s.tick t))) := rfl

/-- Settles O7: each row is its meaning on the ticked state, under the condition of its rule. -/
theorem sessionAndEngineEvents : Obligations.SessionAndEngineEvents := by
  unfold Obligations.SessionAndEngineEvents
  refine ⟨?idle, ?lost, ?held, ?resetDone, ?watchdog, ?control, ?gimp, ?pixel, ?taint, ?scrub⟩
  case idle =>
    rintro t n s0 s x rfl hx hnet hidle
    rw [exec_networkSessionIdleClose, sessionIdle_closes hx hnet hidle]
  case lost =>
    rintro t s0 s rfl hsup hlost hpaused hend
    rw [exec_heartbeatLost, heartbeatLost_overdue (hbOverdue_of hsup hlost hpaused hend)]
  case held =>
    rintro t s0 s rfl hdue
    rw [exec_heldEventsDiscard, heldDiscard_due hdue]
  case resetDone =>
    rintro t o s0 s r rest up down rfl hr hrest hup hdown
    rw [exec_engineResetDone, engineResetDone_found hr hrest hup hdown]
  case watchdog =>
    rintro t b s0 s rfl hb hready hon hup
    rw [exec_bobbinWatchdogMiss, bobbinMiss_resets hb hready hon hup]
  case control =>
    rintro t e s0 s rfl he hg
    rw [exec_eccUncorrectableControl, eccControl_owned he hg]
  case gimp =>
    rintro t e s0 s rfl he hg
    rw [exec_eccUncorrectableControl, eccControl_gimp he hg]
  case pixel =>
    rintro t e s0 s rfl he
    rw [exec_eccUncorrectablePixel, eccPixel_counted he]
  case taint =>
    rintro s e old s1 n h0 h8 rfl rfl rfl
    rw [taintPixels_picture h0 h8]
    exact ⟨taintRead_other, taintRead_channel⟩
  case scrub =>
    rintro t o s0 s s1 rfl hready hon hat rfl
    rw [exec_scrubPass, scrubPass_due (scrubDue_of hready hon hat)]
    rfl

end Sys2Proof.Machine
end

section
/-! PROOF. The slice-locked path and the Stitch boundary (spec/11, spec/01 R16): each meaning under its condition, and the
statement that gathers them. -/
namespace Sys2Proof.Machine

/-! ### SLICE_LOCK (R278, R279) -/

/-- The TYPEs of channels that can be slice-locked (R279). -/
def State.sliceTyped (s : State) (ch : Nat) : Prop := (s.src ch).typ = 1 ∨ (s.src ch).typ = 2 ∨ (s.src ch).typ = 6

theorem sliceTyped_check {s : State} {ch : Nat} (h : s.sliceTyped ch) :
    (!((s.src ch).typ = 1 || (s.src ch).typ = 2 || (s.src ch).typ = 6)) = false := by
  obtain h | h | h := h <;> simp [h]

theorem sliceUnlock_run {j : Job} {s : State} (ht : s.sliceTyped (idIndex (j.u16 0))) (ha : j.u8 4 = 0)
    (hk : (s.slice (idIndex (j.u16 0))).holds j = true) :
    cmdSliceLock.run j s = .ok ((s.modSlk (idIndex (j.u16 0)) fun k => { k with acc := false }).affect j
      [if (s.slice (idIndex (j.u16 0))).acc then (s.slice (idIndex (j.u16 0))).accHead else (s.slice (idIndex (j.u16 0))).head]) [] := by
  simp only [cmdSliceLock, sliceTyped_check ht, ha, hk, Bool.not_true]
  rfl

theorem sliceLock_run {j : Job} {s : State} (ht : s.sliceTyped (idIndex (j.u16 0))) (ha : j.u8 4 = 1)
    (hk : (s.slice (idIndex (j.u16 0))).holds j = false) (he : s.lockErr j (idIndex (j.u16 0)) (idIndex (j.u16 2)) = none) :
    cmdSliceLock.run j s = .ok ((s.modSlk (idIndex (j.u16 0)) fun k => { k with
      acc := true, accLayer := idIndex (j.u16 2), accHead := (s.layer (idIndex (j.u16 2))).head.getD 0
      accReserve := j.sliceReserve }).affect j [(s.layer (idIndex (j.u16 2))).head.getD 0]) [] := by
  simp only [cmdSliceLock, sliceTyped_check ht, ha, hk, he]
  rfl

/-- What a direct lock has met (R279): its layer is on a head and shows the channel, and that head is genlocked. -/
theorem lockErr_none {s : State} {j : Job} {ch i : Nat} (hd : j.req.txn = 0) (he : s.lockErr j ch i = none) :
    ∃ h, (s.layer i).head = some h ∧ (s.layer i).cfg.source = some ch ∧ (s.head h).accGenlockMode ≠ 0 ∧
      (s.head h).genlock.st ≠ .free := by
  unfold State.lockErr at he
  cases hh : (s.layer i).head with
  | none => simp [hh] at he
  | some h =>
    simp only [hh] at he
    split_ifs at he with _ _ hok hgen
    simp only [hd, Bool.not_eq_true', Bool.not_eq_false, Bool.and_eq_true, Bool.or_eq_true, decide_eq_true_eq, not_or,
      true_and] at hok hgen
    exact ⟨h, rfl, hok.1.1, hgen⟩

theorem clear_direct {c : Cmd} {j : Job} {s : State} (h : clear c j s = true) : j.req.txn = 0 := by
  simp only [clear, Bool.and_eq_true, decide_eq_true_eq] at h
  exact h.1.1.1.2

theorem isRow_sliceLock : IsRow .sliceLock cmdSliceLock := fun _ _ _ => rfl

/-! ### Check lines (R285, R288, R290) -/

/-- What a check line judges in a head frame: slice `n` of the picture in buffer `b` of channel `ch`, shown by tile `x`, of which
nothing has been judged yet; its check line departs at head time `need`. -/
structure SliceJudged (s : State) (ch n : Nat) (x : Tile) (b : Buf) (need : Nat) : Prop where
  active : (s.slice ch).mode ≠ .off
  picture : (s.slice ch).pic ≠ 0
  unchecked : (s.slice ch).checked.contains n = false
  frame : (s.head (s.slice ch).head).frame = (s.slice ch).picFrame
  tile : s.tile? (s.slice ch).layer (s.slice ch).head = some x
  buffer : (s.ctx ch).bufs.find? (fun y => y.seq = (s.slice ch).pic) = some b
  planned : n < b.plan.length
  inCrop : sliceInCrop x.cfg b.outW b.outH (b.sliceSpan b.cropY n) = true
  line : need = (s.head (s.slice ch).head).tF + (s.head (s.slice ch).head).timing.lines (checkLine x.cfg
    (s.head (s.slice ch).head).timing b.outW b.outH (b.sliceSpan b.cropY n).1) + (s.head (s.slice ch).head).dTx * fine
  departed : need ≤ s.localFine

/-- The slice counts as judged in this head frame. -/
def State.checkSlice (s : State) (ch n : Nat) : State := s.modSlk ch fun y => { y with checked := n :: y.checked }

/-- The rows of slice `n` of an eligible picture are readable at head time `need` (R285). -/
def Buf.onTime (b : Buf) (n need : Nat) : Bool := b.eligible && b.sliceReady n (need / fine)

/-- Slice `n` arrived 1.5 ms or more before head time `need`. -/
def Buf.early (b : Buf) (n need : Nat) : Bool :=
  match b.slices.find? fun y => y.n = n with
  | some y => decide ((y.arrival + 1500000) * fine < need)
  | none => false

/-- A late slice is counted at the elapsed instant of its check line and noted for this head frame (R288, R290). -/
def State.countLate (s : State) (ch n at_ : Nat) : State :=
  ((s.checkSlice ch n).lateSlice ch at_).modSlk ch fun k => { k with lateNow := n :: k.lateNow }

section
variable {s : State} {ch n need : Nat} {x : Tile} {b : Buf}

theorem sliceCheckLine_judged (h : SliceJudged s ch n x b need) : sliceCheckLine ch n s =
    if !b.onTime n need then
      if (s.slice ch).mode = .locked then (s.countLate ch n (s.now - (s.localFine - need) / fine)).markLate x
        (rowCells b.outW b.outH (b.sliceSpan b.cropY n)) (checkLine x.cfg (s.head (s.slice ch).head).timing b.outW b.outH
          (b.sliceSpan b.cropY n).1)
      else s.countLate ch n (s.now - (s.localFine - need) / fine)
    else (s.checkSlice ch n).when (b.early n need) fun y => y.modSlk ch fun k => { k with early := k.early + 1 } := by
  obtain ⟨hmode, hpic, hun, hframe, htile, hbuf, hplan, hcrop, rfl, hneed⟩ := h
  have hplan' : ¬b.plan.length ≤ n := by omega
  have hneed' := Nat.not_lt.2 hneed
  simp only [sliceCheckLine, hmode, hpic, hun, hframe, htile, hbuf, Buf.outSize, hplan', hcrop, hneed', ne_eq, not_true_eq_false,
    decide_false, Bool.or_false, Bool.not_true]
  rfl

theorem sliceCheckLine_late (h : SliceJudged s ch n x b need) (hl : ¬(b.eligible ∧ b.sliceReady n (need / fine))) :
    sliceCheckLine ch n s =
      if (s.slice ch).mode = .locked then (s.countLate ch n (s.now - (s.localFine - need) / fine)).markLate x
        (rowCells b.outW b.outH (b.sliceSpan b.cropY n)) (checkLine x.cfg (s.head (s.slice ch).head).timing b.outW b.outH
          (b.sliceSpan b.cropY n).1)
      else s.countLate ch n (s.now - (s.localFine - need) / fine) := by
  have ho : b.onTime n need = false := by simpa [Buf.onTime] using hl
  rw [sliceCheckLine_judged h, ho]
  rfl

theorem sliceCheckLine_onTime (h : SliceJudged s ch n x b need) (he : b.eligible) (hr : b.sliceReady n (need / fine)) :
    sliceCheckLine ch n s =
      (s.checkSlice ch n).when (b.early n need) fun y => y.modSlk ch fun k => { k with early := k.early + 1 } := by
  have ho : b.onTime n need = true := by simp [Buf.onTime, he, hr]
  rw [sliceCheckLine_judged h, ho]
  rfl

end

/-- A late slice of a channel: its count, and when it makes a locked layer wait to be dropped (R290). -/
theorem lateSlice_slice {s : State} {ch at_ : Nat} (h : ch < s.slk.length) : (s.lateSlice ch at_).slice ch =
    { (s.slice ch).restart at_ with
      late := (s.slice ch).late + 1, lateAt := at_ :: (s.slice ch).lateAt.filter fun t => at_ < t + nsPerSec
      pendingDrop := if (s.slice ch).mode = .locked &&
          3 ≤ (at_ :: (s.slice ch).lateAt.filter fun t => at_ < t + nsPerSec).length && (s.slice ch).pendingDrop = none then some 2
        else (s.slice ch).pendingDrop } :=
  modAt_getD_self _ _ _ _ h

/-! ### The return of a dropped layer (R291) -/

/-- Time since the line that a head has reached, in ns. -/
def State.sinceLine (s : State) (h : Nat) : Nat := (s.localFine - ((s.head h).tF + (s.head h).timing.lines (s.head h).line)) / fine

/-- A window of 2 s without a late slice had passed at that line: the one that runs, or an earlier one (R291). -/
def State.cleanWindow (s : State) (ch : Nat) : Prop :=
  (s.slice ch).cleanSince + 2 * nsPerSec + s.sinceLine (s.slice ch).head ≤ s.now ∨
    ∃ c, (s.slice ch).cleanPassed = some c ∧ c + s.sinceLine (s.slice ch).head ≤ s.now

theorem sliceReturn_locks {s : State} {ch : Nat} (hm : (s.slice ch).mode = .dropped) (ha : (s.head (s.slice ch).head).applied = true)
    (hn : (s.slice ch).noReturn = false) (hclean : s.cleanWindow ch) :
    sliceReturn ch s = (s.sliceMode ch .locked 1).modSlk ch fun k =>
      { k with justLocked := false, lateAt := [], pendingDrop := none, cleanPassed := none } := by
  unfold State.cleanWindow State.sinceLine at hclean
  simp only [sliceReturn]
  rw [if_pos]
  obtain h | ⟨c, hp, h⟩ := hclean
  · rw [hm, ha, hn, decide_eq_true h, Bool.true_or]
    rfl
  · rw [hm, ha, hn, hp, Option.any_some, decide_eq_true h, Bool.or_true]
    rfl

/-! ### The Stitch boundary (R16, R324) -/

theorem boundaryDue_of {s : State} (hp : s.pwr.pstate ≠ 3) (ho : s.hif.hoopState ≠ 0 ∨ s.hif.panic = true)
    (hd : s.clk.stepDue = true ∨ s.clk.boundary + stitchNs ≤ s.local) : s.boundaryDue = true := by
  simp [State.boundaryDue, hp, ho, hd]

theorem stitchBoundary_due {obs : StitchObs} {s : State} (h : s.boundaryDue = true) :
    stitchBoundary obs s = boundaryWork obs s.nextStitch := if_pos h

theorem stitchBoundary_early {obs : StitchObs} {s : State} (h : s.boundaryDue = false) : stitchBoundary obs s = s := by
  simp [stitchBoundary, h]

theorem nextStitch_counts {s : State} (h : s.clk.stepDue = false) :
    s.nextStitch = { s with clk := { s.clk with boundary := s.clk.boundary + stitchNs, stitch := s.clk.stitch + 1 } } := by
  simp [State.nextStitch, h, State.modClk]

/-- A forward step has already moved the Stitch number over this boundary (R324). -/
theorem nextStitch_stepped {s : State} (h : s.clk.stepDue = true) :
    s.nextStitch = { s with clk := { s.clk with stepDue := false } } := if_pos h

/-! ### The rows -/

theorem exec_sliceCheckLine (t ch n : Nat) (s : State) :
    exec (.sliceCheckLine t ch n) s = .next (settle (sliceCheckLine ch n (s.tick t))) := rfl
theorem exec_sliceLockReturn (t ch : Nat) (s : State) :
    exec (.sliceLockReturn t ch) s = .next (settle (sliceReturn ch (s.tick t))) := rfl
theorem exec_stitchBoundary (t : Nat) (obs : StitchObs) (s : State) :
    exec (.stitchBoundary t obs) s = .next (settle (stitchBoundary obs (s.tick t))) := rfl

/-- Settles O26: SLICE_LOCK from its run, the events from their meanings on the ticked state. -/
theorem sliceAndStitchRows : Obligations.SliceAndStitchRows := by
  unfold Obligations.SliceAndStitchRows
  refine ⟨?lock, ?check, ?late, ?back, ?boundary⟩
  case lock =>
    rintro lockable rfl
    refine ⟨Runs.of isRow_sliceLock ?_, Runs.of isRow_sliceLock ?_⟩
    · rintro j s - - - ⟨ha, hk, ht⟩
      exact ⟨_, _, sliceUnlock_run ht ha hk, rfl, rfl⟩
    · rintro j s - - hc ⟨ha, hk, ht, he⟩
      rw [Option.isNone_iff_eq_none] at he
      obtain ⟨h, hh, hsrc, hmode, hgen⟩ := lockErr_none (clear_direct hc) he
      refine ⟨_, _, sliceLock_run ht ha hk he, rfl, h, hh, hsrc, hmode, hgen, ?_⟩
      rw [hh]
      rfl
  case check =>
    rintro t ch n s0 s k x b w h cy hd span need s1 rfl rfl hmode hpic hun rfl hframe htile hbuf hsize rfl hplan hcrop hneed hdep rfl
    obtain ⟨rfl, rfl, rfl⟩ : w = b.outW ∧ h = b.outH ∧ cy = b.cropY := by simpa [Buf.outSize] using hsize
    have hj : SliceJudged (s0.tick t) ch n x b need :=
      ⟨hmode, hpic, hun, hframe, htile, hbuf, hplan, hcrop, hneed, hdep⟩
    constructor
    · intro hl
      rw [exec_sliceCheckLine, sliceCheckLine_late hj hl]
      rfl
    · intro he hr
      rw [exec_sliceCheckLine, sliceCheckLine_onTime hj he hr]
      rfl
  case late =>
    rintro s ch at_ hch k rfl
    rw [lateSlice_slice hch]
    refine ⟨rfl, fun hm hp h2 => ?_⟩
    simp [hm, hp, h2]
  case back =>
    rintro t ch s0 s k hd since rfl rfl rfl hm ha hn rfl hclean
    rw [exec_sliceLockReturn, sliceReturn_locks hm ha hn hclean]
  case boundary =>
    rintro t obs s0 s rfl
    refine ⟨fun hn => ?_, fun hp ho hstep hb => ?_, fun hp ho hstep => ?_⟩
    · rw [exec_stitchBoundary, stitchBoundary_early hn]
    · rw [exec_stitchBoundary, stitchBoundary_due (boundaryDue_of hp ho (.inr hb)), nextStitch_counts hstep]
    · rw [exec_stitchBoundary, stitchBoundary_due (boundaryDue_of hp ho (.inl hstep)), nextStitch_stepped hstep]

end Sys2Proof.Machine
end

section
/-! PROOF. Guard programs and the accesses that they check (spec/17, R19, R89, R119): each command's run and each event's meaning
under its condition, and the statement that gathers them. -/
namespace Sys2Proof.Machine

/-! ### GUARD_UPDATE, GUARD_LOCK and the reports (R399-R402) -/

section
variable {j : Job} {s : State}

/-- The program that GUARD_UPDATE gives a unit (R400): its entries replace regions, and ACTION 1 disables the other host regions. -/
def Job.guardProgram (j : Job) (x : GuardUnit) : List Region :=
  x.regions.mapIdx fun i g => match ((List.range (j.u8 2)).map (guardEntry j)).find? fun e => e.1 = i with
    | some e => e.2
    | none => if j.u8 3 = 1 && g.role = 4 && !g.lock then { g with sizeExp := 0 } else g

/-- An admitted update of an open unit without overlap answers at once if it changes nothing, else closes the unit. -/
theorem guardUpdate_run (hn : j.u8 2 = (j.len - 8) / 16)
    (he : (List.range (j.u8 2)).findSome? (guardEntryErr (s.guard (idIndex (j.u16 0))) (idIndex (j.u16 0)) j) = none)
    (ho : (s.guard (idIndex (j.u16 0))).update = none) (hp : overlapPair (j.guardProgram (s.guard (idIndex (j.u16 0)))) = none) :
    cmdGuardUpdate.run j s = if j.u8 2 = 0 && j.u8 3 = 0 then .ok s [] else
      closeUnit s (idIndex (j.u16 0)) (j.guardProgram (s.guard (idIndex (j.u16 0)))) j := by
  unfold Job.guardProgram at hp ⊢
  simp only [cmdGuardUpdate, he, ho, ← hn, ne_eq, not_true_eq_false, if_false, Option.isSome_none, Bool.false_eq_true]
  split
  · next a b h => exact absurd (h.symm.trans hp) (by simp)
  · rfl

/-- With no entries and ACTION 0 the program stays. -/
theorem guardProgram_empty (x : GuardUnit) (hn : j.u8 2 = 0) (ha : j.u8 3 = 0) : j.guardProgram x = x.regions := by
  simp [Job.guardProgram, hn, ha, List.mapIdx_eq_zipIdx_map]

/-- GUARD_LOCK of an enabled region that is not reserved, at an open unit. -/
theorem guardLock_run {g : Region} (hg : g = (s.guard (idIndex (j.u16 0))).regions.getD (j.u8 2) {}) (hen : g.enabled = true)
    (hr : g.role ≠ 0) (ho : (s.guard (idIndex (j.u16 0))).update = none) :
    cmdGuardLock.run j s = if g.lock then .ok s [] else
      closeUnit s (idIndex (j.u16 0)) ((s.guard (idIndex (j.u16 0))).regions.set (j.u8 2) { g with lock := true }) j := by
  subst hg
  simp only [cmdGuardLock, ho, hen, hr]
  rfl

end

/-! ### PEEK and POKE (R119) -/

/-- While GU_HOOP is closed the agent stalls (R399). -/
theorem agentCmd_stalls {j : Job} {s : State} {v : GuardUpdate} (h : (s.guard 2).update = some v) :
    agentCmd j s = .later (s.modGuard 2 fun g => { g with update := some { v with stalled := v.stalled ++ [.job j] } }) := by
  simp only [agentCmd, h]

/-- At an open unit, with every word passed, the answer is the agent's. -/
theorem agentCmd_runs {j : Job} {s : State} {d : Option (List Byte)} (hop : d = if j.op = 6 then some (j.req.payload.drop 12) else none)
    (ho : (s.guard 2).update = none) (hp : s.peekErr (j.u64 0) = none) (hr : (s.agent false (j.u64 0) d (j.u16 8 / 4)).2.2 = true) :
    agentCmd j s = .ok (s.agent false (j.u64 0) d (j.u16 8 / 4)).1 (s.agent false (j.u64 0) d (j.u16 8 / 4)).2.1 := by
  subst hop
  simp only [agentCmd, ho, runPeek, hp]
  exact if_pos hr

/-! ### Checked accesses (R393, R395, R399) -/

/-- An access has bytes, and no more than a master moves at once. -/
def AccessSized (x : Access) : Prop :=
  0 < (if x.write then x.data.length else x.length) ∧ (if x.write then x.data.length else x.length) ≤ 4096

section
variable {s : State} {x : Access}

theorem guardAccess_taken (hu : x.unit < 9) (hn : AccessSized x) : guardAccess x s =
    match (s.guard x.unit).update with
    | some v => s.modGuard x.unit fun g => { g with update := some { v with stalled := v.stalled ++ [.access x] } }
    | none => s.serveAccess x false := by
  obtain ⟨h0, h4096⟩ := hn
  apply if_neg
  simp only [hu, h0, h4096]
  decide

theorem guardAccess_open (hu : x.unit < 9) (hn : AccessSized x) (ho : (s.guard x.unit).update = none) :
    guardAccess x s = s.serveAccess x false := by
  rw [guardAccess_taken hu hn, ho]

theorem guardAccess_closed {v : GuardUpdate} (hu : x.unit < 9) (hn : AccessSized x) (hc : (s.guard x.unit).update = some v) :
    guardAccess x s = s.modGuard x.unit fun g => { g with update := some { v with stalled := v.stalled ++ [.access x] } } := by
  rw [guardAccess_taken hu hn, hc]

/-- The answer to an access on the fabric. -/
def State.answer (s : State) (x : Access) (stalled : Bool) : State :=
  (s.access x stalled).1.emit (.fabricAnswer x.unit x.sub (s.access x stalled).2.1 (s.access x stalled).2.2)

/-- Without an error on an engine's own control data an access is answered, and no more. -/
theorem serveAccess_answers {stalled : Bool} (h : (s.access x stalled).2.2 = .good ∨ x.control = false) :
    s.serveAccess x stalled = s.answer x stalled := by
  simp only [State.serveAccess, State.answer]
  cases hr : (s.access x stalled).2.2 with
  | good => rfl
  | error a =>
    have hc : x.control = false := by simpa [hr] using h
    cases masterEngine x.unit x.sub <;> simp [hc, State.when]
  | domainOff d =>
    have hc : x.control = false := by simpa [hr] using h
    cases masterEngine x.unit x.sub <;> simp [hc, State.when]

/-- An engine takes an error on its own control data as an uncorrectable error (R395). -/
theorem serveAccess_control {stalled : Bool} {a o : Nat} (hr : (s.access x stalled).2.2 = .error a) (hc : x.control = true)
    (ho : masterEngine x.unit x.sub = some o) :
    s.serveAccess x stalled = eccControl { origin := o, address := a, syndrome := 0, gimp := 0 }
      ((s.access x stalled).1.emit (.fabricAnswer x.unit x.sub (s.access x stalled).2.1 (.error a))) := by
  simp only [State.serveAccess, hr, ho, hc, State.when]
  rfl

theorem guardReopen_serves {u : Nat} {p : GuardUpdate} (h : (s.guard u).update = some p) :
    guardReopen u s = ((s.modGuard u fun g => { g with regions := p.program, update := none }).forEach p.stalled fun x s =>
      s.serveStalled x).finish p.job 0 0 [] := by
  simp only [guardReopen, h]

/-! ### A write of one byte -/

/-- No cut lies inside one byte: its access is one part (R393). -/
theorem accessParts_byte (u a : Nat) : s.accessParts u a 1 = [(a, 1)] := by
  have hcut : ∀ c, (decide (a < c) && decide (c < a + 1)) = false := fun c => by
    simp only [Bool.and_eq_false_iff, decide_eq_false_iff_not]; omega
  simp only [State.accessParts, hcut, List.filter_false, List.foldr_nil]
  simp

theorem fabricWrite_dram {a : Nat} {b : Byte} (hp : s.place a = .dram) (ho : s.offAt a = none) :
    s.fabricWrite a b = { s with mem := memWrite s.mem a b } := by
  simp [State.fabricWrite, hp, ho]

/-- A byte that its unit passes is stored, and the answer is good. -/
theorem access_writeByte {b : Byte} (hdbg : x.unit = 8 → s.hoop.debugOpen = true) (hw : x.write = true) (hd : x.data = [b])
    (hp : s.place x.address = .dram) (ho : s.offAt x.address = none) (hg : s.guardCheck x.unit x.sub x.address true = none) :
    s.access x false = ({ s with mem := memWrite s.mem x.address b }, [], .good) := by
  have hshut : s.debugShut x.unit = false := by simpa [State.debugShut] using hdbg
  simp [State.access, hw, hd, accessParts_byte, hg, hshut, hp, ho, fabricWrite_dram hp ho, State.when]

end

/-! ### The rows -/

theorem isRow_guardUpdate : IsRow .guardUpdate cmdGuardUpdate := fun _ _ _ => rfl
theorem isRow_guardLock : IsRow .guardLock cmdGuardLock := fun _ _ _ => rfl
theorem isRow_guardRead : IsRow .guardRead cmdGuardRead := fun _ _ _ => rfl
theorem isRow_guardFaults : IsRow .guardFaults cmdGuardFaults := fun _ _ _ => rfl
theorem isRow_peek : IsRow .peek cmdPeek := fun _ _ _ => rfl
theorem isRow_poke : IsRow .poke cmdPoke := fun _ _ _ => rfl

theorem exec_guardUpdateReopen (t u : Nat) (s : State) :
    exec (.guardUpdateReopen t u) s = .next (settle (guardReopen u (s.tick t))) := rfl
theorem exec_guardAccessCheck (t : Nat) (x : Access) (s : State) :
    exec (.guardAccessCheck t x) s = .next (settle (guardAccess x (s.tick t))) := rfl
theorem exec_apertureAccess (t off : Nat) (write : Bool) (data : List Byte) (len : Nat) (s : State) :
    exec (.apertureAccess t off write data len) s = .next (settle (aperture off write data len (s.tick t))) := rfl

theorem aperture_isAccess {s : State} {off len : Nat} {write : Bool} {data : List Byte} (hup : s.hif.pcieUp = true)
    (hon : s.domainOn 19 = true) : aperture off write data len s =
      guardAccess { unit := 0, sub := 0, address := (s.hif.apertureBase + off % 2 ^ 28) % 2 ^ 40, write, data, length := len } s := by
  simp [aperture, hup, hon]

/-- Settles O11: the commands from their runs, the events from their meanings on the ticked state, the frame of memory from the laws
of `memWrite`. -/
theorem guardRows : Obligations.GuardRows := by
  unfold Obligations.GuardRows
  refine ⟨?update, ?same, ?locked, ?lock, ?read, ?faults, ?reopen, ?check, ?answered, ?control, ?aperture, ?peek, ?poke, ?peekStalls,
    ?pokeStalls, ?writeByte⟩
  case update =>
    intro x program
    refine RunsLater.of isRow_guardUpdate ?_
    rintro j s - - - ⟨rfl, hn, he, ho, rfl, hp, hmore⟩
    refine ⟨_, ?_, rfl⟩
    rw [guardUpdate_run hn he (Option.isNone_iff_eq_none.1 ho) hp, if_neg (by simpa using hmore)]
    rfl
  case same =>
    refine Runs.of isRow_guardUpdate ?_
    rintro j s - - - ⟨hn, hlen, ha, ho, hp⟩
    refine ⟨s, [], ?_, rfl, rfl⟩
    rw [guardUpdate_run (by omega) (by simp [hn]) ho (by rwa [guardProgram_empty _ hn ha]), if_pos (by simp [hn, ha])]
  case locked =>
    intro g
    refine Runs.of isRow_guardLock ?_
    rintro j s - - - ⟨hg, hen, hr, hl, ho⟩
    exact ⟨s, [], by rw [guardLock_run hg hen hr ho, if_pos hl], rfl, rfl⟩
  case lock =>
    intro g
    refine RunsLater.of isRow_guardLock ?_
    rintro j s - - - ⟨hg, hen, hr, hl, ho⟩
    refine ⟨_, ?_, rfl⟩
    rw [guardLock_run hg hen hr ho, hl]
    rfl
  case read => exact Runs.of isRow_guardRead fun j s _ _ _ _ => ⟨_, _, rfl, rfl, rfl⟩
  case faults => exact Runs.of isRow_guardFaults fun j s _ _ _ _ => ⟨_, _, rfl, rfl, rfl⟩
  case reopen =>
    rintro t u s0 s p rfl hp
    rw [exec_guardUpdateReopen, guardReopen_serves hp]
  case check =>
    rintro t x s0 s rfl hu h0 h4096
    refine ⟨fun ho => ?_, fun v hc => ?_⟩
    · rw [exec_guardAccessCheck, guardAccess_open hu ⟨h0, h4096⟩ ho]
    · rw [exec_guardAccessCheck, guardAccess_closed hu ⟨h0, h4096⟩ hc]
  case answered => exact fun s x stalled h => serveAccess_answers h
  case control => exact fun s x stalled a o hr hc ho => serveAccess_control hr hc ho
  case aperture =>
    rintro t off write data len s0 s rfl hup hon x rfl
    rw [exec_apertureAccess, aperture_isAccess hup hon]
    refine ⟨rfl, fun h0 h4096 ho => ?_⟩
    rw [guardAccess_open (Nat.succ_pos 8) ⟨h0, h4096⟩ ho, serveAccess_answers (.inr rfl)]
    rfl
  case peek =>
    refine Runs.of isRow_peek ?_
    rintro j s - - - ⟨ho, hp, hop, hr⟩
    exact ⟨_, _, agentCmd_runs (if_neg hop).symm ho hp hr, rfl, rfl⟩
  case poke =>
    refine Runs.of isRow_poke ?_
    rintro j s - - - ⟨ho, hp, hop, hr⟩
    exact ⟨_, _, agentCmd_runs (if_pos hop).symm ho hp hr, rfl⟩
  case peekStalls =>
    exact fun v => RunsLater.of isRow_peek fun j s _ _ _ hc => ⟨_, agentCmd_stalls hc, rfl⟩
  case pokeStalls =>
    exact fun v => RunsLater.of isRow_poke fun j s _ _ _ hc => ⟨_, agentCmd_stalls hc, rfl⟩
  case writeByte =>
    rintro t x b s0 s u rfl hu hdbg hw hd ho hp hoff hg hwf rfl
    have hn : AccessSized x := by simp [AccessSized, hw, hd]
    have ha := access_writeByte hdbg hw hd hp hoff hg
    refine ⟨?_, memRead_memWrite_self _ _ hwf, fun a hne => memRead_memWrite_other _ _ hwf hne⟩
    rw [exec_guardAccessCheck, guardAccess_open hu hn ho, serveAccess_answers (.inl (by rw [ha])), State.answer, ha]

end Sys2Proof.Machine
end

section
/-! PROOF. The verdict of a tile (spec/02 R44, R49, R50): the ages that it compares, the order of its tests, and what it reports. -/
namespace Sys2Proof.Machine

section
variable {s : State} {x : Tile} {r : GimpRec}

/-- Predicted scan time of the tile's last visible line (R39). -/
def State.scanTime (s : State) (x : Tile) : Nat :=
  (s.head x.head).tScan ((visibleRect x.cfg (s.head x.head).timing).bottom - 1)

/-- Arrival age of the frame of a record (R42). -/
def State.arrivalAge (s : State) (x : Tile) (r : GimpRec) : Int := (s.scanTime x : Int) - r.arrivalNs + s.creditNs x.cfg

/-- Timestamp age of the frame of a record with its uncertainty (R41, R44). -/
def State.stampAge (s : State) (x : Tile) (r : GimpRec) : Int := (s.scanTime x : Int) - r.captureNs + s.uncertNow r

/-- A_eff (R44). -/
def State.effectiveAge (s : State) (x : Tile) (r : GimpRec) : Int :=
  if r.evidence ≤ 3 then max (s.stampAge x r) (s.arrivalAge x r) else s.arrivalAge x r

/-- The policy's bound in ns. -/
def Tile.boundNs (x : Tile) : Int := (x.cfg.policy.boundUs * 1000 : Nat)

/-- Time is unproven for the frame of a record (R49): whatever its evidence, or as the evidence is a timestamp. -/
def State.timeUncertain (s : State) (x : Tile) (r : GimpRec) : Bool :=
  s.arrivalUnproven r || (r.evidence ≤ 3 && (r.uncert = 0xFFFF || s.uncertNow r > x.cfg.policy.uMaxUs * 1000 || s.unproven))

/-- The effective age has reached the late fraction of the bound (R48). -/
def State.isLate (s : State) (x : Tile) (r : GimpRec) : Bool :=
  decide (s.effectiveAge x r * 65536 ≥ x.boundNs * x.cfg.policy.late)

/-- The impaired fraction of the tile is above `num` ÷ 65,536 (R52). -/
def State.impaired (s : State) (x : Tile) (r : GimpRec) (num : Nat) : Bool :=
  let p := taintOf x.cfg r x.frameCells (s.graphicDenied x)
  impairedAbove p.1 p.2 (s.coveredArea x r.width r.height) (visibleRect x.cfg (s.head x.head).timing).area num

/-- A verdict of a frame with this state byte, which reports A_eff. -/
def State.outcome (s : State) (x : Tile) (r : GimpRec) (state : Nat) : Verdict where
  state
  ageNs := s.effectiveAge x r
  uncertNs := if r.evidence ≤ 3 then s.uncertNow r else 0
  tainted := (taintOf x.cfg r x.frameCells (s.graphicDenied x)).1

/-- The tests of R49 that follow that of the evidence: they need proven time. -/
def State.timedVerdict (s : State) (x : Tile) (r : GimpRec) : Verdict :=
  if s.timeUncertain x r then { s.outcome x r 0x16 with ageNs := s.arrivalAge x r }
  else if r.evidence ≤ 3 && decide (s.stampAge x r ≥ x.boundNs) then s.outcome x r 3
  else if s.impaired x r x.cfg.policy.impaired then s.outcome x r 0x25
  else if s.impaired x r 0 then s.outcome x r (0x15 + 128 * b2n (s.isLate x r))
  else if s.isLate x r then s.outcome x r 2
  else s.outcome x r 1

theorem verdict_unjudged (hr : s.judgedRec x = none) : (s.verdict x).state =
    if (s.head x.head).appliqueFault then 0x46 else if x.cfg.paused && x.freshFrom.isNone then 8 else 7 := by
  unfold State.verdict
  rw [hr]

/-- The tests of R49 in order. -/
theorem verdict_judged (hr : s.judgedRec x = some r) : s.verdict x =
    if (s.head x.head).appliqueFault then s.outcome x r 0x46
    else if x.cfg.paused then s.outcome x r 8
    else if r.released || s.sourceLost x.cfg then { s.outcome x r 7 with uncertNs := 0 }
    else if s.arrivalAge x r ≥ x.boundNs then s.outcome x r 3
    else if s.contestedNow x.cfg r then s.outcome x r 0x26
    else if s.firedBits r &&& s.freezeEnables x.cfg r ≠ 0 then s.outcome x r 4
    else if r.evidence > x.cfg.policy.minEvidence then s.outcome x r 0x36
    else s.timedVerdict x r := by
  unfold State.verdict
  rw [hr]
  rfl

/-! ### The age it reports (R44) -/

theorem arrivalAge_le_effectiveAge : s.arrivalAge x r ≤ s.effectiveAge x r := by
  unfold State.effectiveAge
  split
  · exact le_max_right _ _
  · exact le_rfl

theorem stampAge_le_effectiveAge (h : r.evidence ≤ 3) : s.stampAge x r ≤ s.effectiveAge x r := by
  rw [State.effectiveAge, if_pos h]
  exact le_max_left _ _

/-- A verdict reports A_eff, one of TIME_UNCERTAIN the arrival age. -/
def Verdict.ages (v : Verdict) (arr eff : Int) : Prop := v.ageNs = if v.state = 0x16 then arr else eff

theorem outcome_ages {st : Nat} (h : st ≠ 0x16) : (s.outcome x r st).ages (s.arrivalAge x r) (s.effectiveAge x r) :=
  (if_neg h).symm

theorem timedVerdict_ages : (s.timedVerdict x r).ages (s.arrivalAge x r) (s.effectiveAge x r) := by
  unfold State.timedVerdict
  split_ifs
  · rfl
  all_goals exact outcome_ages (by omega)

theorem verdict_ages (hr : s.judgedRec x = some r) : (s.verdict x).ages (s.arrivalAge x r) (s.effectiveAge x r) := by
  rw [verdict_judged hr]
  split_ifs
  case neg => exact timedVerdict_ages
  iterate 2 exact outcome_ages (by omega)
  · exact outcome_ages (st := 7) (by omega)
  all_goals exact outcome_ages (by omega)

/-- A frame with a record is judged by it, after a wake when it was received since (R35). -/
theorem judgedRec_of (hr : (x.latched.bind fun l => s.rec? l.1 l.2) = some r)
    (hf : ∀ n, x.freshFrom = some n → n ≤ r.arrivalAt) : s.judgedRec x = some r := by
  unfold State.judgedRec
  rw [hr, Option.filter_some]
  cases hx : x.freshFrom with
  | none => rfl
  | some n => simp [hf n hx]

end

/-- Settles O48: each outcome of the ordered tests reports its age as R44 says. -/
theorem effectiveAge : Obligations.EffectiveAge := by
  unfold Obligations.EffectiveAge
  rintro s x r tScan arr ts hr hf rfl rfl rfl
  exact verdict_ages (judgedRec_of hr hf)

/-! ### Its state (R49) -/

section
variable {s : State} {x : Tile} {r : GimpRec}

/-- No impairment at all (R52): no cell is tainted and nothing is covered. -/
theorem impairedAbove_zero {t n c a : Nat} (h : impairedAbove t n c a 0 = false) : t = 0 ∧ c = 0 := by
  simp only [impairedAbove, decide_eq_false_iff_not] at h
  have h0 : t * max 1 a = 0 ∧ c * max 1 n = 0 := by omega
  simpa using h0

@[simp] theorem outcome_state (st : Nat) : (s.outcome x r st).state = st := rfl

/-- What LIVE claims of the tests that need proven time. -/
theorem timedVerdict_live (h : (s.timedVerdict x r).state = 1) :
    s.timeUncertain x r = false ∧ s.impaired x r 0 = false ∧ s.isLate x r = false := by
  unfold State.timedVerdict at h
  split_ifs at h with hu hs hw hp hl
  case neg =>
    simp only [Bool.not_eq_true] at hu hp hl
    exact ⟨hu, hp, hl⟩
  all_goals rw [outcome_state] at h; omega

/-- Proven time (R49): of an uncertainty within the policy, and known, where the evidence is a timestamp. -/
theorem timeProven_of (h : s.timeUncertain x r = false) : s.arrivalUnproven r = false ∧
    (r.evidence ≤ 3 → s.uncertNow r ≤ x.cfg.policy.uMaxUs * 1000 ∧ s.unproven = false) := by
  rw [State.timeUncertain, Bool.or_eq_false_iff] at h
  obtain ⟨harr, hstamp⟩ := h
  refine ⟨harr, fun hev => ?_⟩
  simp only [hev, decide_true, Bool.true_and, Bool.or_eq_false_iff, decide_eq_false_iff_not, not_lt] at hstamp
  obtain ⟨⟨-, hmax⟩, hproven⟩ := hstamp
  exact ⟨hmax, hproven⟩

/-- What LIVE claims of the tests before them. -/
theorem verdict_live (hr : s.judgedRec x = some r) (h : (s.verdict x).state = 1) :
    (s.head x.head).appliqueFault = false ∧ x.cfg.paused = false ∧ r.released = false ∧ s.sourceLost x.cfg = false ∧
      s.arrivalAge x r < x.boundNs ∧ s.contestedNow x.cfg r = false ∧ s.firedBits r &&& s.freezeEnables x.cfg r = 0 ∧
      r.evidence ≤ x.cfg.policy.minEvidence ∧ (s.timedVerdict x r).state = 1 := by
  rw [verdict_judged hr] at h
  split_ifs at h with hf hp hl ha hc hz he
  case neg =>
    simp only [Bool.not_eq_true, Bool.or_eq_false_iff] at hf hp hl hc
    exact ⟨hf, hp, hl.1, hl.2, not_le.1 ha, hc, not_not.1 hz, not_lt.1 he, h⟩
  all_goals rw [outcome_state] at h; omega

end

/-- Settles O22: each clause from the order of the tests; LIVE is the case in which none decides. -/
theorem verdictOrder : Obligations.VerdictOrder := by
  unfold Obligations.VerdictOrder
  rintro s x h v rfl rfl
  refine ⟨fun hr => ?unjudged, ?_⟩
  case unjudged => simpa using verdict_unjudged hr
  rintro r arr hr rfl
  refine ⟨?fault, ?paused, ?lost, ?stale, ?contested, ?frozen, ?evidence, ?live⟩
  case fault => intro hf; simp [verdict_judged hr, hf]
  case paused => intro hf hp; simp [verdict_judged hr, hf, hp]
  case lost => intro hf hp hl; simp [verdict_judged hr, hf, hp, hl]
  case stale =>
    intro hf hp hrel hsrc (ha : s.arrivalAge x r ≥ x.boundNs)
    simp [verdict_judged hr, hf, hp, hrel, hsrc, ha]
  case contested =>
    intro hf hp hrel hsrc (ha : s.arrivalAge x r < x.boundNs) hc
    simp [verdict_judged hr, hf, hp, hrel, hsrc, not_le.2 ha, hc]
  case frozen =>
    intro hf hp hrel hsrc (ha : s.arrivalAge x r < x.boundNs) hc hz
    simp [verdict_judged hr, hf, hp, hrel, hsrc, not_le.2 ha, hc, hz]
  case evidence =>
    intro hf hp hrel hsrc (ha : s.arrivalAge x r < x.boundNs) hc hz he
    simp [verdict_judged hr, hf, hp, hrel, hsrc, not_le.2 ha, hc, hz, he]
  case live =>
    intro hlive
    obtain ⟨hf, hp, hrel, hsrc, ha, hc, hz, he, ht⟩ := verdict_live hr hlive
    obtain ⟨hu, himp, hlate⟩ := timedVerdict_live ht
    obtain ⟨harr, hts⟩ := timeProven_of hu
    have hage : (s.verdict x).ageNs = s.effectiveAge x r := by simpa [Verdict.ages, hlive] using verdict_ages hr
    have hlate : s.effectiveAge x r * 65536 < x.boundNs * x.cfg.policy.late := by simpa [State.isLate] using hlate
    rw [hage]
    exact ⟨hf, hp, hrel, hsrc, hc, hz, he, harr, ha, arrivalAge_le_effectiveAge, hlate,
      fun hev => ⟨stampAge_le_effectiveAge hev, hts hev⟩, impairedAbove_zero himp⟩

end Sys2Proof.Machine
end

section
/-! PROOF. The verdict row (spec/02 R45, R63, R69-R71): what a tile holds once its verdict, the event of its change and the audio
routes that follow it are done, and the statement about the row. -/
namespace Sys2Proof.Machine

/-! ### Tiles and their updates -/

theorem tile?_congr {s u : State} (h : u.lay = s.lay) (i k : Nat) : u.tile? i k = s.tile? i k := by
  rw [State.tile?, State.tile?, h]

theorem tile?_place {s : State} {i k : Nat} {x : Tile} (h : s.tile? i k = some x) : x.layer = i ∧ x.head = k := by
  simpa using List.find?_some h

/-- An update that leaves a tile where it is changes that tile. -/
theorem tile?_modTile {s : State} {i k : Nat} {f : Tile → Tile}
    (hf : ∀ y, y.layer = i → y.head = k → (f y).layer = i ∧ (f y).head = k) :
    (s.modTile i k f).tile? i k = (s.tile? i k).map f := by
  have hp : (fun t : Tile => decide (t.layer = i) && decide (t.head = k)) ∘ (fun t =>
      if t.layer = i && t.head = k then f t else t) = fun t => decide (t.layer = i) && decide (t.head = k) := by
    funext t
    by_cases ht : t.layer = i ∧ t.head = k
    · simp [ht, hf t ht.1 ht.2]
    · simp [ht]
  rw [State.tile?, State.modTile, List.find?_map, hp, State.tile?]
  refine Option.map_congr fun x hx => ?_
  exact if_pos (List.find?_some hx)

/-! ### The event of a change (R71, R215) and the routes that follow (R347) -/

/-- `y` is `x` but for what its events are coalesced by. -/
def Tile.SameButEvents (x y : Tile) : Prop :=
  y = { x with evtAt := y.evtAt, reported := y.reported, changes := y.changes, heldEvt := y.heldEvt }

theorem Tile.SameButEvents.trans {x y z : Tile} (h1 : x.SameButEvents y) (h2 : y.SameButEvents z) : x.SameButEvents z := by
  unfold Tile.SameButEvents at *
  rw [h2, h1]

/-- `u` holds the tile of layer `i` on head `k` as `s` does, but for what its events are coalesced by. -/
def KeepsTile (i k : Nat) (s u : State) : Prop := ∀ x, s.tile? i k = some x → ∃ y, u.tile? i k = some y ∧ x.SameButEvents y

section
variable {i k : Nat} {s u v : State}

theorem KeepsTile.of_lay (h : u.lay = s.lay) : KeepsTile i k s u := fun x hx => ⟨x, (tile?_congr h i k).trans hx, rfl⟩

theorem KeepsTile.trans (h1 : KeepsTile i k s u) (h2 : KeepsTile i k u v) : KeepsTile i k s v := by
  intro x hx
  obtain ⟨y, hy, hxy⟩ := h1 x hx
  obtain ⟨z, hz, hyz⟩ := h2 y hy
  exact ⟨z, hz, hxy.trans hyz⟩

theorem KeepsTile.ite {c : Prop} [Decidable c] (h1 : KeepsTile i k s u) (h2 : KeepsTile i k s v) :
    KeepsTile i k s (if c then u else v) := by
  split
  · exact h1
  · exact h2

theorem KeepsTile.modTile {f : Tile → Tile} (hf : ∀ x : Tile, x.SameButEvents (f x)) : KeepsTile i k s (s.modTile i k f) := by
  intro x hx
  refine ⟨f x, ?_, hf x⟩
  rw [tile?_modTile, hx]
  · rfl
  · intro y hi hk
    rw [hf y]
    exact ⟨hi, hk⟩

theorem evtTile_keepsTile {x : Tile} (hx : x.layer = i ∧ x.head = k) (b : Bool) : KeepsTile i k s (s.evtTile x b) := by
  obtain ⟨rfl, rfl⟩ := hx
  exact (KeepsTile.of_lay (raise_delivers _ _ _ _).lay_eq).trans (KeepsTile.modTile fun _ => rfl)

theorem tileChanged_keepsTile (prev : Nat) : KeepsTile i k s (s.tileChanged i k prev) := by
  unfold State.tileChanged
  split
  · exact KeepsTile.of_lay rfl
  · dsimp only
    split
    · exact KeepsTile.of_lay rfl
    · refine (KeepsTile.modTile (f := fun t => { t with changes := t.changes + 1 }) fun _ => rfl).trans ?_
      split
      · next x hx =>
        exact KeepsTile.ite (evtTile_keepsTile (tile?_place hx) false)
          (KeepsTile.modTile (f := fun t => { t with heldEvt := true }) fun _ => rfl)
      · exact KeepsTile.of_lay rfl

theorem forEach_lay {α : Type} {f : α → State → State} (h : ∀ a s, (f a s).lay = s.lay) :
    ∀ (l : List α) (s : State), (s.forEach l f).lay = s.lay
  | [], _ => rfl
  | a :: l, s => (forEach_lay h l (f a s)).trans (h a s)

theorem modAudCtr_lay (s : State) (id : Nat) (f : AudCtr → AudCtr) : (s.modAudCtr id f).lay = s.lay := by
  unfold State.modAudCtr
  split_ifs <;> rfl

theorem evtAudio_lay (s : State) (a b c d e : Nat) : (s.evtAudio a b c d e).lay = s.lay := (raiseOnce_delivers _ _ _ _ _).lay_eq

theorem audFollow_lay (s : State) (layer head : Nat) (live : Bool) : (s.audFollow layer head live).lay = s.lay := by
  unfold State.audFollow
  dsimp only
  split_ifs
  · rfl
  · refine (forEach_lay (fun r s => ?_) _ _).trans rfl
    rw [evtAudio_lay]
    split
    · rw [modAudCtr_lay, modAudCtr_lay, modAudCtr_lay]
    · rw [modAudCtr_lay, modAudCtr_lay]
  · exact forEach_lay (fun r s => evtAudio_lay _ _ _ _ _ _) _ _

/-- What a verdict puts in the place of a tile stands there after its output, its event and the routes that follow it. -/
theorem replaced_tile {x y new : Tile} {o : Output} {prev : Nat} {live : Bool} (hp : new.layer = i ∧ new.head = k)
    (hx : s.tile? i k = some x)
    (hy : ((((s.modTile i k fun _ => new).emit o).tileChanged i k prev).audFollow i k live).tile? i k = some y) :
    new.SameButEvents y := by
  have hnew : ((s.modTile i k fun _ => new).emit o).tile? i k = some new := by
    refine (tile?_modTile fun _ _ _ => hp).trans ?_
    rw [hx]
    rfl
  rw [tile?_congr (audFollow_lay _ _ _ _)] at hy
  obtain ⟨z, hz, h⟩ := tileChanged_keepsTile prev new hnew
  exact Option.some.inj (hz.symm.trans hy) ▸ h
end

/-! ### The row -/

theorem exec_tileVerdict (t h i : Nat) (o : VerdictObs) (s : State) :
    exec (.tileVerdict t h i o) s = .next (settle (tileVerdict h i o (s.tick t))) := rfl

/-- A scanned tile that has not latched in this frame, before its apply line, latches; a guarded one takes its verdict. -/
theorem tileVerdict_latches {s : State} {h i : Nat} {o : VerdictObs} {x y : Tile} (hx : s.tile? i h = some x) (hs : s.scanned x = true)
    (ha : (s.head h).applied = false) (hf : x.latchFrame ≠ some (s.head h).frame)
    (hy : (((s.sliceVerdict x).latch x).seeLatched i h).tile? i h = some y) :
    tileVerdict h i o s = if y.cfg.guarded then (((s.sliceVerdict x).latch x).seeLatched i h).takeVerdict y o
      else (((s.sliceVerdict x).latch x).seeLatched i h).modTile i h fun z => { z with shown := z.latched } := by
  simp only [tileVerdict, hx, hs, ha, hf, hy]
  rfl

/-- Settles O21: the row from its meaning on the ticked state, the tile from what the verdict puts in its place. -/
theorem tileVerdictRow : Obligations.TileVerdictRow := by
  unfold Obligations.TileVerdictRow
  refine ⟨?row, ?tile⟩
  case row =>
    rintro t h i o s0 s x y rfl hx hs ha hf hy
    rw [exec_tileVerdict, tileVerdict_latches hx hs ha hf hy]
  case tile =>
    rintro s x o v y hx rfl hy
    unfold State.takeVerdict at hy
    dsimp only at hy
    have h := replaced_tile (by constructor <;> rfl) hx hy
    rw [h]
    refine ⟨rfl, rfl, rfl, rfl, rfl, rfl, rfl, rfl, ?picot, ?lost, ?judged⟩
    case picot => simp
    case lost =>
      intro hl
      exact ⟨if_pos (by simp [hl]), if_pos hl⟩
    case judged =>
      intro l r hl hr
      refine ⟨by simp [hl], fun hn => ⟨?_, ?_⟩⟩
      · simp [hn, hr]
      · simp [hn, hr]

end Sys2Proof.Machine
end

section
/-! PROOF. Policies, treatments, pauses, freeze criteria, the provenance store and the coalesced tile event (spec/08 R209-R216): the
edits that the commands make, each command's run under its condition, and the statement that gathers them. -/
namespace Sys2Proof.Machine

section
variable {j : Job} {s : State}

/-! ### Edits of a layer (R32, R68, R211) -/

/-- The accepted settings change by the command's edit. -/
theorem editAccepted_edited {f : LayerCfg → LayerCfg} (h : ∀ c, layerEdit c.preLut j c = f c) :
    s.editAccepted j = s.edited j.layer f := by
  simp only [State.editAccepted, State.edited, h]

theorem layerEdit_setPolicy {lut : List (Nat × Nat)} {c : LayerCfg} (hc : j.cls = 0x12) (ho : j.op = 0x01) (ha : j.u8 4 = 0) :
    layerEdit lut j c = { c with guarded := true, policy := policyEdit j c.policy } := by
  simp [layerEdit, hc, ho, ha]

theorem layerEdit_unguard {lut : List (Nat × Nat)} {c : LayerCfg} (hc : j.cls = 0x12) (ho : j.op = 0x01) (ha : j.u8 4 = 1) :
    layerEdit lut j c = { c with guarded := false, policy := {}, treatments := [], paused := false } := by
  simp [layerEdit, hc, ho, ha]

theorem layerEdit_setTreatment {lut : List (Nat × Nat)} {c : LayerCfg} (hc : j.cls = 0x12) (ho : j.op = 0x04) :
    layerEdit lut j c = { c with
      treatments := if j.u8 3 = 0xFF then c.treatments.filter fun t => t.1 ≠ j.u8 2
        else (j.u8 2, j.u8 3) :: c.treatments.filter fun t => t.1 ≠ j.u8 2 } := by
  simp [layerEdit, hc, ho]

theorem layerEdit_pause {lut : List (Nat × Nat)} {c : LayerCfg} (hc : j.cls = 0x12) (ho : j.op = 0x06) :
    layerEdit lut j c = { c with paused := true } := by
  simp [layerEdit, hc, ho]

theorem layerEdit_resume {lut : List (Nat × Nat)} {c : LayerCfg} (hc : j.cls = 0x12) (ho : j.op = 0x07) :
    layerEdit lut j c = { c with paused := false } := by
  simp [layerEdit, hc, ho]

/-! ### The commands that edit (R209-R211) -/

/-- FRESH_SET_POLICY is refused only where it removes the guard of a layer that has none. -/
theorem freshSetPolicy_run (h : j.u8 4 = 1 → (s.layer j.layer).cfg.guarded = true) :
    cmdFreshSetPolicy.run j s = .ok ((s.editAccepted j).affectLayer j j.layer []) [] := by
  refine if_neg ?_
  simpa using h

theorem freshSetTreatment_run (h : (s.layer j.layer).cfg.guarded = true) :
    cmdFreshSetTreatment.run j s = .ok ((s.editAccepted j).affectLayer j j.layer []) [] :=
  if_neg (by simp [h])

theorem tilePause_run (hg : (s.layer j.layer).cfg.guarded = true) (hp : (s.layer j.layer).cfg.paused = false) :
    cmdTilePause.run j s = .ok ((s.editAccepted j).affectLayer j j.layer []) [] :=
  if_neg (by simp [hg, hp])

/-- The heads of the layer that are entering self-refresh fail its condition (R272). -/
def State.failEntries (s : State) (i : Nat) : State :=
  s.forEach ((s.layerHeads i).filter fun h => (s.head h).st = .srEntry) fun h y => y.modHead h fun x => { x with srFail := true }

theorem tileResume_run (hp : (s.layer j.layer).cfg.paused = true) :
    cmdTileResume.run j s = .ok (((s.failEntries j.layer).editAccepted j).affectLayer j j.layer []) [] :=
  if_neg (by simp [hp])

/-! ### Reports and freeze criteria (R207, R212) -/

theorem freshGetState_newest {t : Tile} (h0 : j.u16 2 = 0) (ht : s.newestTile j.layer = some t) :
    cmdFreshGetState.run j s = .ok s t.report := by
  simp only [cmdFreshGetState, h0, ht, if_true]

theorem freshGetState_onHead {t : Tile} (h0 : j.u16 2 ≠ 0) (ht : s.tile? j.layer (idIndex (j.u16 2)) = some t) :
    cmdFreshGetState.run j s = .ok s t.report := by
  simp only [cmdFreshGetState, h0, ht, if_false]

/-! ### PROV_READ (R216) -/

/-- SEQ of the record with which PROV_READ begins: the newest, or the one named. -/
def Job.provStart (j : Job) (s : State) : Option Nat :=
  if j.u32 4 = 0 then (s.quota (j.u16 0)).recs.head?.map (·.seq) else some (j.u32 4)

/-- The records that PROV_READ finds going back from SEQ `a`, up to the first that is gone. -/
def Job.provRecs (j : Job) (s : State) (a : Nat) : List GimpRec :=
  (((List.range (j.u8 2)).map fun k => s.rec? (j.u16 0) (if k < a then a - k else m32 - 1 - (k - a))).takeWhile
    Option.isSome).filterMap id

/-- The records that PROV_READ returns. -/
def Job.provFound (j : Job) (s : State) : List GimpRec := match j.provStart s with
  | none => []
  | some a => j.provRecs s a

/-- A list of records all present is what its filter leaves, each as itself. -/
theorem takeWhile_isSome {α : Type} : ∀ l : List (Option α),
    l.takeWhile Option.isSome = ((l.takeWhile Option.isSome).filterMap id).map some
  | [] => rfl
  | none :: _ => rfl
  | some a :: l => congrArg (some a :: ·) (takeWhile_isSome l)

theorem provRead_run (h : j.provFound s ≠ []) : cmdProvRead.run j s =
    if (j.provFound s).length < j.u8 2 then .part s (j.provFound s).length ((j.provFound s).flatMap GimpRec.bytes)
    else .ok s ((j.provFound s).flatMap GimpRec.bytes) := by
  cases ha : j.provStart s with
  | none => simp [Job.provFound, ha] at h
  | some a =>
    have hf : j.provFound s = j.provRecs s a := by rw [Job.provFound, ha]
    have hgot : ((List.range (j.u8 2)).map fun k => s.rec? (j.u16 0) (if k < a then a - k else m32 - 1 - (k - a))).takeWhile
        Option.isSome = (j.provRecs s a).map some := takeWhile_isSome _
    rw [hf] at h ⊢
    rw [Job.provStart] at ha
    simp only [cmdProvRead, ha, hgot, List.length_map, List.flatMap_map, List.isEmpty_map, List.isEmpty_eq_false_iff.2 h]
    rfl

/-! ### TILE_STATE_COALESCE (R215) -/

theorem tileCoalesce_ended {i h at_ : Nat} {x : Tile} (hx : s.tile? i h = some x) (he : x.evtAt = some at_)
    (ht : at_ + 250000000 ≤ s.now) (hh : x.heldEvt = true) : tileCoalesce i h s =
    if x.state ≠ x.reported then s.evtTile x true else s.modTile i h fun y => { y with heldEvt := false } := by
  simp only [tileCoalesce, hx, he]
  exact if_neg (by simp [hh, ht])

end

/-! ### The rows -/

theorem isRow_freshSetPolicy : IsRow .freshSetPolicy cmdFreshSetPolicy := fun _ _ _ => rfl
theorem isRow_freshSetTreatment : IsRow .freshSetTreatment cmdFreshSetTreatment := fun _ _ _ => rfl
theorem isRow_tilePause : IsRow .tilePause cmdTilePause := fun _ _ _ => rfl
theorem isRow_tileResume : IsRow .tileResume cmdTileResume := fun _ _ _ => rfl
theorem isRow_freshGetState : IsRow .freshGetState cmdFreshGetState := fun _ _ _ => rfl
theorem isRow_freezeSet : IsRow .freezeSet cmdFreezeSet := fun _ _ _ => rfl
theorem isRow_provRead : IsRow .provRead cmdProvRead := fun _ _ _ => rfl

theorem exec_tileStateCoalesce (t i h : Nat) (s : State) :
    exec (.tileStateCoalesce t i h) s = .next (settle (tileCoalesce i h (s.tick t))) := rfl

/-- Settles O20: the commands from their runs and their edits, the event from its meaning on the ticked state. -/
theorem freshnessCommands : Obligations.FreshnessCommands := by
  unfold Obligations.FreshnessCommands
  refine ⟨?policy, ?unguard, ?treatment, ?pause, ?resume, ?newest, ?onHead, ?freeze, ?prov, ?coalesce⟩
  case policy =>
    refine Runs.of isRow_freshSetPolicy ?_
    rintro j s hc ho - ha
    refine ⟨_, _, freshSetPolicy_run (by omega), rfl, ?_⟩
    rintro pick rfl
    rw [editAccepted_edited fun c => layerEdit_setPolicy hc ho ha]
    rfl
  case unguard =>
    refine Runs.of isRow_freshSetPolicy ?_
    rintro j s hc ho - ⟨ha, hg⟩
    refine ⟨_, _, freshSetPolicy_run fun _ => hg, rfl, ?_⟩
    rw [editAccepted_edited fun c => layerEdit_unguard hc ho ha]
  case treatment =>
    refine Runs.of isRow_freshSetTreatment ?_
    rintro j s hc ho - hg
    refine ⟨_, _, freshSetTreatment_run hg, rfl, ?_⟩
    rw [editAccepted_edited fun c => layerEdit_setTreatment hc ho]
  case pause =>
    refine Runs.of isRow_tilePause ?_
    rintro j s hc ho - ⟨hg, hp⟩
    refine ⟨_, _, tilePause_run hg hp, rfl, ?_⟩
    rw [editAccepted_edited fun c => layerEdit_pause hc ho]
  case resume =>
    refine Runs.of isRow_tileResume ?_
    rintro j s hc ho - hp
    refine ⟨_, _, tileResume_run hp, rfl, ?_⟩
    rw [editAccepted_edited fun c => layerEdit_resume hc ho]
    rfl
  case newest =>
    refine Runs.of isRow_freshGetState ?_
    rintro j s - - - ⟨h0, hn⟩
    obtain ⟨t, ht⟩ := Option.ne_none_iff_exists'.1 hn
    exact ⟨_, _, freshGetState_newest h0 ht, rfl, t, ht, rfl⟩
  case onHead =>
    refine Runs.of isRow_freshGetState ?_
    rintro j s - - - ⟨h0, hn⟩
    obtain ⟨t, ht⟩ := Option.ne_none_iff_exists'.1 hn
    exact ⟨_, _, freshGetState_onHead h0 ht, rfl, t, ht, rfl⟩
  case freeze => exact Runs.of isRow_freezeSet fun j s _ _ _ ht => ⟨_, _, if_neg ht, rfl, rfl⟩
  case prov =>
    rintro got hgot
    have hfound : got = Job.provFound := hgot
    subst hfound
    refine ⟨Runs.of isRow_provRead ?_, RunsPart.of isRow_provRead ?_⟩
    · rintro j s - - - ⟨hn, h0⟩
      refine ⟨_, _, ?_, rfl, rfl⟩
      rw [provRead_run (by rw [← List.length_pos_iff]; omega), if_neg (by omega)]
    · rintro j s - - - ⟨hn, h0⟩
      refine ⟨_, _, _, ?_, rfl, rfl, rfl⟩
      rw [provRead_run h0, if_pos hn]
  case coalesce =>
    rintro t i h s0 s x at_ rfl hx he ht hh
    rw [exec_tileStateCoalesce, tileCoalesce_ended hx he ht hh]
    refine ⟨fun hne => ?_, fun heq => ?_⟩
    · rw [if_pos hne]
      rfl
    · rw [if_neg (not_not.2 heq)]

end Sys2Proof.Machine
end

section
/-! PROOF. Flips and fences (spec/09 R237-R240, R37): what a direct flip queues, the serving of a queue at a sampling instant, each
command's run under its condition, and the statement that gathers them. -/
namespace Sys2Proof.Machine

section
variable {j : Job} {s : State}

/-! ### LAYER_FLIP (R37, R237) -/

/-- A direct command has no transaction whose commands place its layer. -/
theorem txnPlaces_direct (ht : j.req.txn = 0) (i : Nat) : s.txnPlaces j i = [] := by
  simp [State.txnPlaces, ht]

/-- The flip that a direct LAYER_FLIP queues. -/
def Job.directFlip (j : Job) (s : State) (seq : Nat) : Flip where
  seq
  accepted := s.now
  fence := j.u16 2
  target := j.u64 4
  address := j.u64 12
  pitch := j.u16 20
  w := j.u16 22
  h := j.u16 24

/-- A flip joins the queue of every tile of its layer, or while there is none the layer's own; `late` counts a capture in the
future. -/
def State.queueFlip (s : State) (i : Nat) (f : Flip) (late : Bool) : State :=
  ({ s with
    lay := { s.lay with
      tiles := s.lay.tiles.map fun t => if t.layer = i then { t with queue := t.queue ++ [f] } else t } } : State).modLayer i fun l =>
    { l with
      futureContent := l.futureContent + b2n late
      queue := if (s.tilesOf i).isEmpty then l.queue ++ [f] else l.queue }

theorem allocRec_now (s : State) (o : Nat) (r : GimpRec) : (s.allocRec o r).1.now = s.now := rfl

theorem layerFlip_run {s1 : State} {seq : Nat} (ht : j.req.txn = 0) (hb : (s.layer j.layer).everBound = true)
    (hp : j.u16 22 * formatBytes (s.layer j.layer).cfg.format ≤ j.u16 20)
    (hq : ((s.quota (graphicId j.layer)).recs.filter (·.live)).length < 8)
    (ha : s.allocRec (graphicId j.layer) (s.flipRec j j.layer) = (s1, seq)) :
    cmdLayerFlip.run j s = .later ((s1.queueFlip j.layer (j.directFlip s seq) (j.len = 40 && s.local < j.time 28)).modLayer j.layer
      fun l => { l with flipJobs := l.flipJobs ++ [{ seq, job := j }] }) := by
  have hnow : s1.now = s.now := by
    have h := allocRec_now s (graphicId j.layer) (s.flipRec j j.layer)
    rwa [ha] at h
  have hlate : (!decide (j.time 28 ≤ s.local)) = decide (s.local < j.time 28) := by rw [← decide_not, decide_eq_decide, not_le]
  refine (if_neg (by simp [hb])).trans ((if_neg (not_lt.2 hp)).trans ((if_neg (not_le.2 hq)).trans ?_))
  rw [ha]
  refine (if_neg (not_not.2 ht)).trans ?_
  simp only [ht, ne_eq, not_true_eq_false, if_false, decide_false, txnPlaces_direct ht, List.getLast?_nil, ite_self, hnow, hlate]
  rfl

/-! ### Fences (R238, R240) -/

/-- FENCE_CREATE makes the lowest fence that is free. -/
theorem fenceCreate_run {k : Nat} (hk : k < 256) (hfree : (s.lay.fences.getD k {}).made = false)
    (hlow : ∀ i < k, (s.lay.fences.getD i {}).made = true) : cmdFenceCreate.run j s =
    .ok { s with
      lay := { s.lay with
        fences := modAt s.lay.fences k fun _ => {
          made := true, value := j.u64 0, before := j.u64 0, timeout := if j.u8 8 = 0 then 3 else j.u8 8 } } }
      (leBytes 2 (0xB000 + k) ++ zeros 2) := by
  have hfind : ((List.range 256).find? fun i => !(s.lay.fences.getD i {}).made) = some k := by
    simpa [List.find?_range_eq_some, hk] using And.intro hfree hlow
  simp only [cmdFenceCreate, hfind]

theorem exists_lowest_fence (h : ∃ k < 256, (s.lay.fences.getD k {}).made = false) :
    ∃ k < 256, (s.lay.fences.getD k {}).made = false ∧ ∀ i < k, (s.lay.fences.getD i {}).made = true := by
  classical
  obtain ⟨hk, hfree⟩ := Nat.find_spec h
  exact ⟨_, hk, hfree, fun i hi => by simpa [hi.trans hk] using Nat.find_min h hi⟩

theorem fenceSignal_run (h : (s.lay.fences.getD (idIndex (j.u16 0)) {}).value ≤ j.u64 4) : cmdFenceSignal.run j s = .ok { s with
    lay := { s.lay with fences := modAt s.lay.fences (idIndex (j.u16 0)) (·.write s.now (j.u64 4)) } } [] :=
  if_neg (not_lt.2 h)

theorem fenceDestroy_run (h : s.fenceUsed (j.u16 0) = false) : cmdFenceDestroy.run j s = .ok { s with
    lay := { s.lay with fences := modAt s.lay.fences (idIndex (j.u16 0)) fun _ => {} } } [] :=
  if_neg (by simp [h])

/-! ### Serving a queue (R238) -/

/-- The flips that leave a queue are those before the first that is not ready. -/
theorem takeWhile_ready {limit : Int} {ready rest : List Flip} (hr : ∀ x ∈ ready, s.flipReady limit x = true)
    (hs : ∀ x ∈ rest.head?, s.flipReady limit x = false) : (ready ++ rest).takeWhile (s.flipReady limit) = ready := by
  rw [List.takeWhile_append_of_pos hr]
  cases rest with
  | nil => simp
  | cons x xs => simp [hs x rfl]

/-- The queue after an instant that counts `step` for the flip at its front, if that is there. -/
def countFront (limit : Int) (step : Nat) : List Flip → List Flip
  | [] => []
  | x :: later => (if x.there limit then { x with fronts := x.fronts + step } else x) :: later

/-- They are all marked, the last of them is applied, and the instant counts for the flip then at the front if it is there. -/
theorem serve_ready {limit : Int} {step : Nat} {ready rest : List Flip} {f : Flip} {applied : Option Flip}
    (hr : ∀ x ∈ ready ++ [f], s.flipReady limit x = true) (hs : ∀ x ∈ rest.head?, s.flipReady limit x = false) :
    s.serve limit step (ready ++ f :: rest) applied =
      ⟨countFront limit step rest, some f, (ready ++ [f]).map (·.seq)⟩ := by
  have hq : ready ++ f :: rest = (ready ++ [f]) ++ rest := by simp
  simp only [State.serve, hq, takeWhile_ready hr hs, List.drop_left, List.getLast?_concat]
  cases rest <;> rfl

/-! ### FLIP_ABANDON (R238) -/

/-- The front of a layer's own queue, overdue and not ready, leaves it, and the next flip is considered at the same instant. -/
theorem flipAbandon_idle {i : Nat} {f : Flip} {rest : List Flip} (hq : (s.layer i).queue = f :: rest) (ho : s.flipOverdue f = true)
    (hr : s.flipReady (s.boundaryAt * fine : Nat) f = false) :
    flipAbandon i 255 s = ((s.modLayer i fun l => { l with queue := rest }).serveLayer i).settleFlips i := by
  simp only [flipAbandon, show ¬255 < 32 by decide, if_false, hq, ho, hr]
  rfl

end

/-! ### The rows -/

theorem isRow_layerFlip : IsRow .layerFlip cmdLayerFlip := fun _ _ _ => rfl
theorem isRow_fenceCreate : IsRow .fenceCreate cmdFenceCreate := fun _ _ _ => rfl
theorem isRow_fenceSignal : IsRow .fenceSignal cmdFenceSignal := fun _ _ _ => rfl
theorem isRow_fenceDestroy : IsRow .fenceDestroy cmdFenceDestroy := fun _ _ _ => rfl

theorem exec_flipAbandon (t i h : Nat) (s : State) : exec (.flipAbandon t i h) s = .next (settle (flipAbandon i h (s.tick t))) := rfl

/-- Settles O18: the commands from their runs, the sampling instant from `serve_ready`, the event from its meaning on the ticked
state. -/
theorem flipsAndFences : Obligations.FlipsAndFences := by
  unfold Obligations.FlipsAndFences
  refine ⟨?flip, ?create, ?signal, ?destroy, ?serve, ?abandon⟩
  case flip =>
    refine RunsLater.of isRow_layerFlip ?_
    rintro j s - - hc ⟨hb, hp, hq⟩
    refine ⟨_, layerFlip_run (clear_direct hc) hb hp hq rfl, ?_⟩
    rintro f s1 seq ha rfl
    obtain ⟨rfl, rfl⟩ := Prod.mk.inj ha
    rfl
  case create =>
    refine Runs.of isRow_fenceCreate ?_
    rintro j s - - - h
    obtain ⟨k, hk, hfree, hlow⟩ := exists_lowest_fence h
    exact ⟨_, _, fenceCreate_run hk hfree hlow, k, hk, hfree, hlow, rfl, rfl⟩
  case signal => exact Runs.of isRow_fenceSignal fun j s _ _ _ h => ⟨_, _, fenceSignal_run h, rfl, rfl⟩
  case destroy => exact Runs.of isRow_fenceDestroy fun j s _ _ _ h => ⟨_, _, fenceDestroy_run h, rfl, rfl⟩
  case serve =>
    intro s limit step ready rest f applied hr hf hs
    refine (serve_ready (fun x hx => ?_) hs).trans (by cases rest <;> rfl)
    obtain hx | hx := List.mem_append.1 hx
    · exact hr x hx
    · exact List.mem_singleton.1 hx ▸ hf
  case abandon =>
    rintro t i s0 s l f rest rfl rfl - - - hq ho hr
    rw [exec_flipAbandon, flipAbandon_idle hq ho hr]

end Sys2Proof.Machine
end

section
/-! PROOF. Packets on the wire (Table 3-1, R91, R92): the fields of a byte string read back, the bytes of a packet spell its
request, and the lengths and codes that travel with it. -/
namespace Sys2Proof.Machine

/-! ### Little-endian fields (R6) -/

@[simp] theorem leBytes_length : ∀ n v : Nat, (leBytes n v).length = n
  | 0, _ => rfl
  | n + 1, v => congrArg Nat.succ (leBytes_length n (v / 256))

theorem leVal_leBytes : ∀ n v : Nat, leVal (leBytes n v) = v % 256 ^ n
  | 0, v => (Nat.mod_one v).symm
  | n + 1, v => by
    rw [leBytes, leVal, leVal_leBytes n, BitVec.toNat_ofNat, pow_succ' 256 n, Nat.mod_mul (a := 256)]

/-- A field at the front of a byte string reads back. -/
theorem uAt_leBytes (n v : Nat) (b : List Byte) : uAt (leBytes n v ++ b) 0 n = v % 256 ^ n := by
  rw [uAt, List.drop_zero, List.take_left' (leBytes_length n v), leVal_leBytes]

/-- A field whose value fits it reads back whole. -/
theorem uAt_field {n v : Nat} (h : v < 256 ^ n) (b : List Byte) : uAt (leBytes n v ++ b) 0 n = v := by
  rw [uAt_leBytes, Nat.mod_eq_of_lt h]

/-- A field further on is read behind the fields before it. -/
theorem uAt_skip {m off : Nat} (h : m ≤ off) (v n : Nat) (b : List Byte) : uAt (leBytes m v ++ b) off n = uAt b (off - m) n := by
  rw [uAt, uAt, List.drop_append, List.drop_eq_nil_of_le (by simpa using h), List.nil_append, leBytes_length]

/-- Padding to its own length leaves a string, and cuts a longer one. -/
theorem padTo_of_take {n : Nat} {b p : List Byte} (h : b.take n = p) (hn : p.length = n) : padTo n b = p := by
  have hle : n ≤ b.length := by
    rw [← hn, ← h, List.length_take]
    exact Nat.min_le_right _ _
  rw [padTo, List.take_append_of_le_length hle, h]

theorem padTo_self (b : List Byte) : padTo b.length b = b := padTo_of_take List.take_length rfl

/-! ### A packet and its request (Table 3-1) -/

/-- The command packet of a request under a class and an opcode, listed or not. -/
def packetBytes (cls op : Nat) (r : Request) : List Byte :=
  leBytes 1 cls ++ leBytes 1 op ++ leBytes 2 (16 + r.payload.length) ++ leBytes 4 r.tag ++ leBytes 2 r.txn ++
    leBytes 1 r.flags ++ leBytes 1 r.session ++ leBytes 4 r.stitch ++ r.payload

theorem packetOf_eq (c : Cmd) (r : Request) : packetOf c r = packetBytes c.spec.cls c.spec.op r := rfl

@[simp] theorem packetBytes_length (cls op : Nat) (r : Request) : (packetBytes cls op r).length = 16 + r.payload.length := by
  simp only [packetBytes, List.length_append, leBytes_length]

theorem fitsPacket.payload_le {r : Request} (h : fitsPacket r) : r.payload.length ≤ 1008 := by
  obtain ⟨-, -, -, -, -, hpay⟩ := h
  exact hpay

/-- Two requests come from the same place: the fields that a packet does not carry agree. -/
structure SameOrigin (a b : Request) : Prop where
  transport : a.transport = b.transport
  queue : a.queue = b.queue
  peer : a.peer = b.peer
  udp : a.udp = b.udp
  port : a.port = b.port
  seq : a.seq = b.seq

theorem SameOrigin.request_eq {a b : Request} (h : SameOrigin a b) : ({ a with
    tag := b.tag, txn := b.txn, flags := b.flags, session := b.session, stitch := b.stitch, payload := b.payload } : Request) = b := by
  obtain ⟨htr, hq, hp, hu, hport, hs⟩ := h
  cases b
  simp_all

/-- The bytes of a packet spell its class, its opcode, its LEN and, with where it came from, its request. -/
theorem parsePacket_packetBytes {cls op : Nat} {r src : Request} (hc : cls < 256) (ho : op < 256) (hr : fitsPacket r)
    (hsrc : SameOrigin src r) : parsePacket (packetBytes cls op r) src = (cls, op, 16 + r.payload.length, r) := by
  obtain ⟨htag, htxn, hflags, hsession, hstitch, hlen⟩ := hr
  have hpay : (packetBytes cls op r).drop 16 = r.payload := by
    rw [packetBytes, List.drop_left' (by simp)]
  unfold parsePacket
  rw [hpay]
  simp only [packetBytes, List.append_assoc, uAt_skip, uAt_leBytes, Nat.reduceLeDiff, Nat.reduceSub, Nat.reducePow]
  rw [Nat.mod_eq_of_lt hc, Nat.mod_eq_of_lt ho, Nat.mod_eq_of_lt (by omega), Nat.mod_eq_of_lt htag, Nat.mod_eq_of_lt htxn,
    Nat.mod_eq_of_lt hflags, Nat.mod_eq_of_lt hsession, Nat.mod_eq_of_lt hstitch, hsrc.request_eq]

/-! ### The CRC and the MAC (R90, R92) -/

theorem iter_lt {B : Nat} {f : Nat → Nat} (hf : ∀ a, f a < B) : ∀ (n a : Nat), iter f (n + 1) a < B
  | 0, a => hf a
  | n + 1, a => iter_lt hf n (f a)

theorem crcBitMsb_lt {w poly : Nat} (hp : poly < 2 ^ w) (c : Nat) : crcBitMsb w poly c < 2 ^ w := by
  have hmod : (c <<< 1) % 2 ^ w < 2 ^ w := Nat.mod_lt _ (Nat.two_pow_pos w)
  unfold crcBitMsb
  split
  · exact Nat.xor_lt_two_pow hmod hp
  · exact hmod

/-- A CRC of width `w` fits in `w` bits. -/
theorem crcMsb_lt {w poly : Nat} (hp : poly < 2 ^ w) : ∀ (b : List Byte) (init : Nat), init < 2 ^ w → crcMsb w poly init b < 2 ^ w
  | [], _, hi => hi
  | _ :: b, _, _ => crcMsb_lt hp b _ (iter_lt (crcBitMsb_lt hp) 7 _)

theorem crc16_lt (b : List Byte) : crc16 b < m16 := crcMsb_lt (w := 16) (by decide) b _ (by decide)

theorem shaRound_length (p : Sha) (v : List Nat) (kw : Nat × Nat) : (shaRound p v kw).length = v.length := by
  unfold shaRound
  split <;> rfl

theorem foldl_shaRound_length (p : Sha) (l : List (Nat × Nat)) (v : List Nat) : (l.foldl (shaRound p) v).length = v.length := by
  induction l generalizing v with
  | nil => rfl
  | cons kw l ih => rw [List.foldl_cons, ih, shaRound_length]

theorem shaBlock_length (p : Sha) (ks h : List Nat) (block : List Byte) : (shaBlock p ks h block).length = h.length := by
  simp [shaBlock, foldl_shaRound_length]

theorem foldl_shaBlock_length (p : Sha) (ks : List Nat) (l : List (List Byte)) (h : List Nat) :
    (l.foldl (shaBlock p ks) h).length = h.length := by
  induction l generalizing h with
  | nil => rfl
  | cons block l ih => rw [List.foldl_cons, ih, shaBlock_length]

/-- A SHA-256 digest has 32 bytes. -/
theorem sha256_length (m : List Byte) : (sha256 m).length = 32 := by
  have hinit : sha256p.init.length = 8 := by decide +kernel
  have hwords : (shaWords sha256p m).length = 8 := (foldl_shaBlock_length _ _ _ _).trans hinit
  simp [sha256, List.length_flatMap, beBytes, hwords]

/-- A MAC cut to 16 bytes has them (R91). -/
theorem mac_length (key m : List Byte) : ((hmacSha256 key m).take 16).length = 16 := by
  rw [List.length_take, hmacSha256, sha256_length]
  rfl

end Sys2Proof.Machine
end

section
/-! PROOF. The transports of commands (spec/03 R80, R82, R91-R93): a packet that arrives whole is taken from its transport and does
what its command's row does, over the SPI ports, the network and PCIe. -/
namespace Sys2Proof.Machine

/-! ### Commands of the index (R105) -/

theorem lookup_mem {cls op : Nat} {c : Cmd} (h : lookup cls op = some c) : c ∈ cmdTable := List.mem_of_find?_eq_some h

/-- Classes and opcodes of the index are bytes. -/
theorem cmdTable_bytes : ∀ c ∈ cmdTable, c.spec.cls < 256 ∧ c.spec.op < 256 := by decide +kernel

/-! ### From the intake to the row -/

/-- What becomes of a request: nothing more where its transport does not take it. -/
def afterIntake (x : State × Option Job) (f : Job → State → State) : State :=
  match x with
  | (s, none) => s
  | (s, some j) => f j s

theorem host_eq (c : Cmd) (r : Request) (s : State) :
    host c r s = afterIntake (intake c.spec.cls c.spec.op c.spec.reply true r s) fun j s1 => takeUp c j (s1.accepted_ r) := by
  rw [host]
  generalize intake c.spec.cls c.spec.op c.spec.reply true r s = x
  obtain ⟨s1, _ | j⟩ := x <;> rfl

theorem accepted_other {r : Request} (h : r.transport ≠ .network) (s : State) : s.accepted_ r = s := by
  simp [State.accepted_, h]

/-- A taken packet of the right length whose command is in the index begins as that command. -/
theorem takePacket_listed {c : Cmd} {j : Job} (h : lookup j.cls j.op = some c) (s : State) :
    takePacket true j s = takeUp c.budgeted j s := by
  simp only [takePacket, h]
  rfl

/-- A packet of a command in the index that its transport hands over does what the command's row does. -/
theorem packet_isCommand {c : Cmd} (hl : lookup c.spec.cls c.spec.op = some c) (t : Nat) (r : Request) (s : State) :
    (afterIntake (intake c.spec.cls c.spec.op c.spec.reply true r (s.tick t)) fun j s1 => takePacket true j (s1.accepted_ r)) =
      host c.budgeted r (s.tick t) := by
  rw [host_eq, budgeted_spec]
  generalize hk : intake c.spec.cls c.spec.op c.spec.reply true r (s.tick t) = x
  obtain ⟨s1, _ | j⟩ := x
  · rfl
  · have ht : taken c t r s = some (j, s1.accepted_ r) := by simp only [taken, hk]
    obtain ⟨hcls, hop, -, -⟩ := taken_job ht
    exact takePacket_listed (by rw [hcls, hop, hl]) _

/-! ### SPI (R92, R93) -/

theorem exec_spiWritePacket (t : Nat) (safety : Bool) (b : List Byte) (s : State) :
    exec (.spiWritePacket t safety b) s = .next (settle (spiWrite safety b (s.tick t))) := rfl

/-- The preamble of a packet on an SPI port gives its length and its CRC. -/
theorem spiBytes_fields {pkt : List Byte} (h : pkt.length < m16) :
    uAt (spiBytes pkt) 0 2 = pkt.length ∧ uAt (spiBytes pkt) 2 2 = crc16 ((spiBytes pkt).take 2 ++ pkt) ∧
      (spiBytes pkt).drop 4 = pkt ∧ (spiBytes pkt).length = 4 + pkt.length := by
  have htake : (spiBytes pkt).take 2 = leBytes 2 pkt.length := by
    rw [spiBytes, List.append_assoc, List.take_left' (leBytes_length 2 _)]
  refine ⟨?_, ?_, ?_, ?_⟩
  · rw [spiBytes, List.append_assoc, uAt_field h]
  · rw [htake, spiBytes, List.append_assoc, uAt_skip (le_refl 2), uAt_field (crc16_lt _)]
  · rw [spiBytes, List.drop_left' (by simp)]
  · rw [spiBytes, List.length_append, List.length_append, leBytes_length, leBytes_length]

/-- An SPI port takes no packet while its transport is down. -/
theorem takeSpi_down {cls op : Nat} {r : Request} {s : State}
    (h : (s.transportUp || (s.loader && !decide (r.transport = .safetySpi))) = false) : takeSpi cls op r s = (s, none) := by
  simp only [takeSpi, h]
  rfl

/-- The SPI port on which a packet arrives, as the origin of its request. -/
def spiOrigin (safety : Bool) : Request := { transport := if safety then .safetySpi else .spi }

/-- The packet of a request, behind its length and CRC, is taken from its SPI port. -/
theorem spiWrite_packet {cls op : Nat} {r : Request} {safety : Bool} (hc : cls < 256) (ho : op < 256) (hr : fitsPacket r)
    (hf : SameOrigin (spiOrigin safety) r) (s : State) :
    spiWrite safety (spiBytes (packetBytes cls op r)) s = afterIntake (takeSpi cls op r s) (takePacket true) := by
  have hlen : (packetBytes cls op r).length < m16 := by
    rw [packetBytes_length]
    exact lt_of_le_of_lt (Nat.add_le_add_left hr.payload_le 16) (by decide)
  obtain ⟨hn, hcrc, hpkt, hall⟩ := spiBytes_fields hlen
  have hsafe : decide (r.transport = .safetySpi) = safety := by rw [← hf.transport]; cases safety <;> rfl
  have hparse : parsePacket (packetBytes cls op r) { transport := if safety then .safetySpi else .spi } =
      (cls, op, 16 + r.payload.length, r) := parsePacket_packetBytes hc ho hr hf
  have hwhole : max 16 (packetBytes cls op r).length = (packetBytes cls op r).length := by simp
  unfold spiWrite
  cases hup : s.transportUp || (s.loader && !safety) with
  | false =>
    rw [takeSpi_down (by rwa [hsafe])]
    rfl
  | true =>
    simp only [hn, hpkt, hall, ← hcrc, List.take_length, hwhole, padTo_self, hparse]
    rw [if_neg (by simp), if_neg (by simp)]
    generalize takeSpi cls op r s = x
    obtain ⟨s1, _ | j⟩ := x
    · rfl
    · simp [afterIntake]

/-- Settles O3: the packet is taken as its request (`spiWrite_packet`), and a taken packet is its command (`packet_isCommand`). -/
theorem spiPacketIsItsCommand : Obligations.SpiPacketIsItsCommand := by
  unfold Obligations.SpiPacketIsItsCommand
  intro c row t r s hl hrow hr htr hq hp hu hport hseq
  have hf : SameOrigin (spiOrigin (decide (r.transport = .safetySpi))) r := by
    refine ⟨?_, hq.symm, hp.symm, hu.symm, hport.symm, hseq.symm⟩
    obtain h | h := htr <;> simp [spiOrigin, h]
  have hspi : ∀ s, intake c.spec.cls c.spec.op c.spec.reply true r s = takeSpi c.spec.cls c.spec.op r s := by
    intro s
    obtain h | h := htr <;> simp only [intake, h]
  have hnet : r.transport ≠ .network := by obtain h | h := htr <;> simp [h]
  obtain ⟨hc, ho⟩ := cmdTable_bytes c (lookup_mem hl)
  have hexec : spiWrite (decide (r.transport = .safetySpi)) (spiBytes (packetOf c r)) (s.tick t) = host c.budgeted r (s.tick t) := by
    rw [packetOf_eq, spiWrite_packet hc ho hr hf, ← packet_isCommand hl, hspi]
    simp only [accepted_other hnet]
  rw [hrow, exec_spiWritePacket, hexec]
  exact ⟨rfl, rfl⟩

/-! ### The network (R91) -/

theorem exec_networkDatagramReceive (t port peer udp : Nat) (b : List Byte) (s : State) :
    exec (.networkDatagramReceive t port peer udp b) s = .next (settle (datagramReceive port peer udp b (s.tick t))) := rfl

/-- Receiving a datagram changes the ports' counters alone. -/
theorem rxDatagram_ses (s : State) (port peer len : Nat) : (s.rxDatagram port peer len).1.ses = s.ses := by
  have htake : ∀ vlan n, (s.takeFrame port vlan n).1.ses = s.ses := by
    intro vlan n
    unfold State.takeFrame
    dsimp only
    split
    · rfl
    · split <;> rfl
  unfold State.rxDatagram
  split
  · rfl
  · dsimp only
    split
    · exact htake _ _
    · split
      · exact htake _ _
      · split
        · exact htake _ _
        · exact htake _ _

/-- The fields of a datagram in a session with a key (Table 3-9). -/
theorem datagramBytes_fields (key : List Byte) {seq : Nat} (hseq : seq < m64) (pkt : List Byte) :
    uAt (datagramBytes key seq pkt) 0 8 = seq ∧ (datagramBytes key seq pkt).length - 24 = pkt.length ∧
      ((datagramBytes key seq pkt).drop 8).take pkt.length = pkt ∧
      (datagramBytes key seq pkt).drop (8 + pkt.length) =
        (hmacSha256 key ((datagramBytes key seq pkt).take (8 + pkt.length))).take 16 ∧
      (datagramBytes key seq pkt).length = 24 + pkt.length := by
  have hbody : (leBytes 8 seq ++ pkt).length = 8 + pkt.length := by simp
  have hall : (datagramBytes key seq pkt).length = 24 + pkt.length := by
    rw [datagramBytes, List.length_append, hbody, mac_length]
    omega
  refine ⟨?_, by omega, ?_, ?_, hall⟩
  · rw [datagramBytes, List.append_assoc, uAt_field hseq]
  · rw [datagramBytes, List.append_assoc, List.drop_left' (leBytes_length 8 _), List.take_left' rfl]
  · rw [datagramBytes, List.drop_left' hbody, List.take_left' hbody]

/-- An authenticated datagram of an open session is taken from the network as its request. -/
theorem datagramReceive_packet {cls op : Nat} {reply : Bool} {r : Request} {s : State} {x : Session} (hc : cls < 256) (ho : op < 256)
    (hr : fitsPacket r) (hnet : r.transport = .network) (hq : r.queue = 0) (hne : r.session ≠ 0) (hseq : r.seq < m64)
    (hx : s.session? r.session = some x) :
    datagramReceive r.port r.peer r.udp (datagramBytes x.key r.seq (packetBytes cls op r)) s =
      afterIntake (intake cls op reply true r s) fun j s1 => takePacket true j (s1.accepted_ r) := by
  obtain ⟨hsq, hn, hpkt, hmac, hall⟩ := datagramBytes_fields x.key hseq (packetBytes cls op r)
  have hsize : 40 ≤ (datagramBytes x.key r.seq (packetBytes cls op r)).length ∧
      (datagramBytes x.key r.seq (packetBytes cls op r)).length ≤ 1048 := by
    have hpay := hr.payload_le
    rw [hall, packetBytes_length]
    omega
  have hparse := parsePacket_packetBytes (src := { transport := .network, peer := r.peer, udp := r.udp, port := r.port, seq := r.seq })
    hc ho hr ⟨hnet.symm, hq.symm, rfl, rfl, rfl, rfl⟩
  have hses := rxDatagram_ses s r.port r.peer (16 + r.payload.length)
  unfold datagramReceive
  simp only [hn, intake, hnet, packetBytes_length]
  generalize s.rxDatagram r.port r.peer (16 + r.payload.length) = y at hses ⊢
  obtain ⟨s1, _ | _⟩ := y
  · rfl
  · have hx1 : s1.session? r.session = some x := by rw [State.session?, hses]; exact hx
    rw [← packetBytes_length cls op r]
    simp only [hpkt, hmac, hsq, hparse, hne, if_false, hx1, hsize, decide_true, and_self, Bool.and_self]
    generalize takeNet cls op true r s1 = z
    obtain ⟨s2, _ | j⟩ := z
    · rfl
    · simp [afterIntake]

/-- Settles O4: the datagram is taken as its request (`datagramReceive_packet`), and a taken packet is its command. -/
theorem datagramIsItsCommand : Obligations.DatagramIsItsCommand := by
  unfold Obligations.DatagramIsItsCommand
  intro c row t r s x hl hrow hr hnet hq hne hseq hx
  obtain ⟨hc, ho⟩ := cmdTable_bytes c (lookup_mem hl)
  rw [hrow, exec_networkDatagramReceive, packetOf_eq, datagramReceive_packet hc ho hr hnet hq hne hseq (s := s.tick t) hx,
    packet_isCommand hl]
  exact ⟨rfl, rfl⟩

/-! ### PCIe (R80, R82) -/

theorem exec_sqEntryTake (t : Nat) (e : SqEntry) (s : State) :
    exec (.sqEntryTake t e) s = .next (settle (sqEntryTake e (s.tick t))) := rfl

/-- An entry that holds the packet `pkt`, inline or at a multiple of 64 (Table 3-3). -/
def entryHolds (e : SqEntry) (pkt : List Byte) : Prop :=
  e.length = pkt.length ∧ ((e.control = 0 ∧ e.address = 0 ∧ e.length ≤ 48 ∧ e.inline.take e.length = pkt) ∨
    (e.control = 1 ∧ e.address % 64 = 0 ∧ e.indirect = pkt))

theorem entryFault_none {e : SqEntry} {pkt : List Byte} (h : entryHolds e pkt) (hlo : 16 ≤ pkt.length) (hhi : pkt.length ≤ 1024) :
    entryFault e = none := by
  obtain ⟨hlen, ⟨hctl, haddr, h48, -⟩ | ⟨hctl, haddr, -⟩⟩ := h
  · simp [entryFault, hctl, haddr]
    omega
  · simp [entryFault, hctl, haddr]
    omega

/-- The bytes that the device reads for an entry are the packet's. -/
theorem entry_bytes {e : SqEntry} {pkt : List Byte} (h : entryHolds e pkt) (hlo : 16 ≤ pkt.length) (hhi : pkt.length ≤ 1024) :
    padTo (max 16 (min e.length 1024)) (if e.control % 2 = 1 then e.indirect else e.inline) = pkt := by
  obtain ⟨hlen, h⟩ := h
  have hn : max 16 (min e.length 1024) = e.length := by omega
  rw [hn]
  obtain ⟨hctl, -, -, hin⟩ | ⟨hctl, -, hin⟩ := h
  · rw [if_neg (by omega), padTo_of_take hin hlen.symm]
  · rw [if_pos (by omega), hin, hlen, padTo_self]

/-- A submission entry that holds a request's packet is taken from the queue whose turn it is as that request. -/
theorem sqEntryTake_packet {c : Cmd} {r : Request} {e : SqEntry} {s : State} (hl : lookup c.spec.cls c.spec.op = some c)
    (hr : fitsPacket r) (htr : r.transport = .pcie) (hp : r.peer = 0) (hu : r.udp = 0) (hport : r.port = 0) (hseq : r.seq = 0)
    (hturn : s.nextQueue = some r.queue) (he : entryHolds e (packetOf c r)) :
    sqEntryTake e s =
      afterIntake (intake c.spec.cls c.spec.op c.spec.reply true r s) fun j s1 => takePacket true j (s1.accepted_ r) := by
  obtain ⟨hc, ho⟩ := cmdTable_bytes c (lookup_mem hl)
  have hpay := hr.payload_le
  have hlen : (packetOf c r).length = 16 + r.payload.length := packetBytes_length ..
  have hlo : 16 ≤ (packetOf c r).length := by omega
  have hhi : (packetOf c r).length ≤ 1024 := by omega
  have hparse : parsePacket (padTo (max 16 (min e.length 1024)) (if e.control % 2 = 1 then e.indirect else e.inline))
      { transport := .pcie, queue := r.queue } = (c.spec.cls, c.spec.op, e.length, r) := by
    rw [entry_bytes he hlo hhi, he.1, hlen]
    exact parsePacket_packetBytes hc ho hr ⟨htr.symm, rfl, hp.symm, hu.symm, hport.symm, hseq.symm⟩
  have hother : r.transport ≠ .network := by simp [htr]
  simp only [sqEntryTake, hturn, hparse, entryFault_none he hlo hhi, hl, Option.any_some, intake, htr, accepted_other hother, if_true]
  generalize takeEntry c.spec.cls c.spec.op c.spec.reply r s = x
  obtain ⟨s1, _ | j⟩ := x <;> rfl

/-- Settles O5: the entry is taken as its request (`sqEntryTake_packet`), and a taken packet is its command. -/
theorem submissionEntryIsItsCommand : Obligations.SubmissionEntryIsItsCommand := by
  unfold Obligations.SubmissionEntryIsItsCommand
  intro c row t r s e hl hrow hr htr hp hu hport hseq hturn hlen hform
  have he : entryHolds e (packetOf c r) := ⟨hlen.trans (packetBytes_length ..).symm, hform⟩
  rw [hrow, exec_sqEntryTake, sqEntryTake_packet hl hr htr hp hu hport hseq hturn he, packet_isCommand hl]
  exact ⟨rfl, rfl⟩

end Sys2Proof.Machine
end

section
/-! PROOF. The SYS and session commands (spec/03 R94-R99, spec/04 R110, R115-R118): the run of each under its condition, and the
statement that gathers them. -/
namespace Sys2Proof.Machine

section
variable {j : Job} {s : State}

/-! ### GET_STATUS and SET_EVENT_MASK (R110, R117) -/

/-- Section 0 of GET_STATUS (Table 4-30). -/
def State.statusSummary (s : State) : List Byte :=
  leBytes 8 s.stitch ++ timeBytes s.local ++ leBytes 1 s.hif.hoopState ++ leBytes 1 s.pwr.pstate ++
    leBytes 1 s.ses.sessions.length ++ leBytes 1 s.openTxns ++ leBytes 2 s.statusFlags ++ zeros 2 ++ leBytes 4 s.domainsOn

/-- Section 1: the ECC counts of each cluster. -/
def State.eccReport (s : State) : List Byte :=
  clusterCodes.zipIdx.flatMap fun c => leBytes 1 c.1 ++ zeros 3 ++ leBytes 4 (s.pwr.eccCorr.getD c.2 0) ++
    leBytes 4 (s.pwr.eccUnc.getD c.2 0)

theorem getStatus_summary (h : j.u8 0 = 0) : cmdGetStatus.run j s = .ok s s.statusSummary := by
  simp only [cmdGetStatus, h]
  rfl

theorem getStatus_ecc (h : j.u8 0 = 1) (hl : s.loader = false) : cmdGetStatus.run j s = .ok s s.eccReport := by
  simp only [cmdGetStatus, h, hl]
  rfl

theorem getStatus_domains (h : 2 ≤ j.u8 0) (hl : s.loader = false) :
    cmdGetStatus.run j s = .ok s (s.pwr.domainOff.flatMap (leBytes 4)) := by
  obtain ⟨k, hk⟩ : ∃ k, j.u8 0 = k + 2 := ⟨j.u8 0 - 2, by omega⟩
  simp only [cmdGetStatus, hk, hl]
  rfl

theorem setEventMask_run : cmdSetEventMask.run j s = .ok (if j.req.session = 0 then
    { s with ses := { s.ses with masks0 := s.ses.masks0.set (index0 j.req.transport) (j.u32 0 ||| 0x1000) } }
    else s.modSession j.req.session fun x => { x with mask := j.u32 0 ||| 0x1000 }) [] := by
  by_cases h : j.req.session = 0
  · simp only [cmdSetEventMask, h, if_true]
    rfl
  · simp only [cmdSetEventMask, h, if_false]
    rfl

/-! ### SESSION_OPEN (R95, R96) -/

/-- What a challenge does to the sessions: it replaces the sender's old one. -/
theorem sessionOpen_challenge (h : j.u8 0 = 0) : cmdSessionOpen.run j s = .ok { s with
    free := s.free + 1
    ses := { s.ses with
      challenges := (s.ses.challenges.filter fun c => !c.of j.req) ++ [{
        transport := j.req.transport, peer := j.req.peer, udp := j.req.udp, bytes := padTo 16 (Config.freeBytes s.free 16)
        issued := s.now }] } } (padTo 16 (Config.freeBytes s.free 16) ++ zeros 4) := by
  simp only [cmdSessionOpen, h, if_true]
  rfl

/-- The challenge of the request's sender, not yet 10 s old (R96). -/
def State.liveChallenge (s : State) (r : Request) : Option Challenge :=
  s.ses.challenges.find? fun c => c.of r && s.now < c.issued + 10000000000

/-- The lowest session number that is free (R95). -/
def State.freeSession (s : State) : Option Nat :=
  ((List.range 15).map (· + 1)).find? fun n => !s.ses.sessions.any fun x => x.number = n

/-- The proof of a SESSION_OPEN over its challenge and nonce (R95). -/
def Job.proves (j : Job) (key : List Byte) (c : Challenge) : Prop :=
  (hmacSha256 key (c.bytes ++ j.bytes 4 16 ++ [BitVec.ofNat 8 (j.u8 1)])).take 16 = j.bytes 20 16

/-- A session that a request opens. -/
def State.opened (s : State) (j : Job) (n : Nat) (key : List Byte) : State :=
  { s with
    ses := { s.ses with
      challenges := s.ses.challenges.filter fun c => !c.of j.req
      sessions := s.ses.sessions ++ [{
        number := n, role := j.u8 1, transport := j.req.transport, peer := j.req.peer, udp := j.req.udp, port := j.req.port
        key, lastAccepted := s.now }] } }

/-- The conditions of R95 and R96 under which MODE 1 opens session `n`. -/
structure Opens (j : Job) (s : State) (c : Challenge) (key : List Byte) (n : Nat) : Prop where
  mode : j.u8 0 ≠ 0
  challenge : s.liveChallenge j.req = some c
  roleFits : roleOver (j.u8 1) j.req.transport = true
  keyed : s.hoop.keys.getD (j.u8 1 - 1) none = some key
  proof : j.proves key c
  safetyFree : j.u8 1 = 3 → ∀ x ∈ s.ses.sessions, x.role = 3 → x.transport ≠ .network
  number : s.freeSession = some n

theorem sessionOpen_opens {c : Challenge} {key : List Byte} {n : Nat} (h : Opens j s c key n) :
    cmdSessionOpen.run j s =
      if j.req.transport = .network then
        .done (((s.opened j n (hmacSha256 key (j.bytes 4 16 ++ c.bytes))).replyAt j 0 0 s.stitch32
          (zeros 16 ++ leBytes 1 n ++ zeros 3)).giveHeld fun s e => if (0xFFFE : Nat).testBit e.op then s.offerNet n e else s)
      else .ok (s.opened j n []) (zeros 16 ++ leBytes 1 n ++ zeros 3) := by
  obtain ⟨hmode, hchal, hover, hkey, hproof, hsafe, hnum⟩ := h
  have hfree : (decide (j.u8 1 = 3) && s.ses.sessions.any fun x => x.role = 3 && x.transport = .network) = false := by
    rw [Bool.and_eq_false_iff, decide_eq_false_iff_not, List.any_eq_false]
    by_cases h3 : j.u8 1 = 3
    · exact .inr fun x hx => by simpa using hsafe h3 x hx
    · exact .inl h3
  unfold State.liveChallenge at hchal
  unfold State.freeSession at hnum
  unfold Job.proves at hproof
  simp only [cmdSessionOpen, State.opened, hmode, hchal, hover, hkey, hproof, hfree, hnum, if_false, Bool.not_true,
    Bool.false_eq_true, ne_eq, not_true_eq_false]
  by_cases hnet : j.req.transport = .network <;> simp only [hnet, if_true, if_false]

/-! ### SESSION_CLOSE (R97) -/

theorem sessionClose_run {n : Nat} (hn : n = if j.u8 0 = 0 then j.req.session else j.u8 0) (hopen : (s.session? n).isSome)
    (hmay : n = j.req.session ∨ s.roleOf j.req = 2) : cmdSessionClose.run j s = .done ((s.reply j 0 0 []).closeSession n) := by
  subst hn
  obtain ⟨x, hx⟩ := Option.isSome_iff_exists.1 hopen
  simp only [cmdSessionClose, hx]
  apply if_neg
  simp only [Bool.and_eq_true, decide_eq_true_eq]
  tauto

/-! ### SAFETY_HEARTBEAT (R98, R99) -/

/-- The period that a heartbeat asks for; 0 keeps the one in force. -/
def Job.hbPeriod (j : Job) (s : State) : Nat := if j.u16 0 = 0 then s.ses.hbPeriodMs else j.u16 0

/-- The next window of the heartbeat (R98). -/
def State.hbNext (s : State) (p : Nat) : State :=
  { s with ses := { s.ses with supervised := true, hbPeriodMs := p, hbDeadline := s.now + p * 1000000, hbLost := false } }

/-- What a heartbeat finds: at or after its deadline the link is lost first (R99). -/
def State.hbFound (s : State) : State :=
  if s.hbOverdue then
    ({ s with ses := { s.ses with hbLost := true, hbLostAt := s.ses.hbDeadline } } : State).record 0x0502 0 [s.ses.hbPeriodMs]
  else s

/-- The end of a loss is recorded (R99). -/
def State.hbBack (s : State) : State :=
  if s.ses.hbLost then s.record 0x0503 0 [(s.now - s.ses.hbLostAt) / 1000000] else s

theorem record_now (s : State) (c o : Nat) (a : List Nat) : (s.record c o a).now = s.now :=
  congrArg Clk.elapsed (record_delivers s c o a).clk_eq

theorem record_ses (s : State) (c o : Nat) (a : List Nat) : (s.record c o a).ses = s.ses := by
  unfold State.record State.logOnly
  rfl

/-- A new window changes the sessions alone. -/
theorem hbNext_ses {v : State} (h : v.ses = s.ses) (p : Nat) : { v.hbNext p with ses := s.ses } = v := by
  rw [← h]
  rfl

theorem hbBack_now (s : State) : s.hbBack.now = s.now := by
  unfold State.hbBack
  split
  · rw [record_now]
  · rfl

theorem hbFound_now (s : State) : s.hbFound.now = s.now := by
  unfold State.hbFound
  split
  · rw [record_now]
    rfl
  · rfl

theorem heartbeat_run : cmdSafetyHeartbeat.run j s = .ok (s.hbFound.hbBack.hbNext (j.hbPeriod s)) (leBytes 4 (j.u32 4)) := by
  rw [State.hbNext, hbBack_now]
  rfl

theorem hbFound_of_intime (h : s.hbOverdue = false) : s.hbFound = s := by simp [State.hbFound, h]

/-- No loss is found where one is known already. -/
theorem hbOverdue_of_lost (h : s.ses.hbLost = true) : s.hbOverdue = false := by simp [State.hbOverdue, h]

/-- A heartbeat in its window, or while nothing supervises it, is in time. -/
theorem hbOverdue_intime (h : s.ses.supervised = false ∨ s.hbPaused = true ∨ s.now < s.ses.hbDeadline) : s.hbOverdue = false := by
  obtain h | h | h := h <;> simp [State.hbOverdue, h]

/-! ### RESET_BLOCK (R118) -/

/-- The engine named is not under test, nor part of what is (R118). -/
def State.resetUntested (s : State) (o : Nat) : Prop :=
  ¬(s.hoop.bist.st = 1 ∧ (originCovers s.hoop.bist.origin o ∨ originCovers o s.hoop.bist.origin))

/-- The domain whose power RESET_BLOCK asks for: of one port of the DisplayPort cluster that port's, else the cluster's. -/
def resetDomain (o d : Nat) : Nat := if o / 256 = 0x50 && o % 256 ≠ 0xFF then 13 + o % 256 / 4 else d

/-- That domain is reachable; for the whole DisplayPort cluster one of its four is enough. -/
def State.resetReachable (s : State) (o d : Nat) : Prop :=
  s.reachable (resetDomain o d) = true ∨ o = 0x50FF ∧ ∃ m < 4, s.reachable (13 + m) = true

theorem resetBlock_run {d : Nat} (he : engineExists (j.u16 0) = true) (hd : clusterDomain (j.u16 0 / 256) = some d)
    (hon : s.resetReachable (j.u16 0) d) (hp : resetProtected (j.u16 0) = false) (ht : s.resetUntested (j.u16 0)) :
    cmdResetBlock.run j s = .later (s.resetEngine (j.u16 0) (some j)) := by
  have hreach : (s.reachable (resetDomain (j.u16 0) d) || decide (j.u16 0 / 256 = 0x58) ||
      (decide (j.u16 0 = 0x50FF) && (List.range 4).any fun m => s.reachable (13 + m))) = true := by
    obtain h | ⟨h, m, hm, hr⟩ := hon
    · simp [h]
    · have : ((List.range 4).any fun m => s.reachable (13 + m)) = true := List.any_eq_true.2 ⟨m, List.mem_range.2 hm, hr⟩
      simp [h, this]
  have htest : (decide (s.hoop.bist.st = 1) && (originCovers s.hoop.bist.origin (j.u16 0) ||
      originCovers (j.u16 0) s.hoop.bist.origin)) = false := by
    simpa [State.resetUntested] using ht
  unfold resetDomain at hreach
  simp only [cmdResetBlock, he, hd, hreach, hp, htest]
  rfl

/-- No engine of the DisplayPort cluster is protected. -/
theorem resetProtected_dp {o : Nat} (h : o / 256 = 0x50) : resetProtected o = false := by
  have hne : ∀ k, k / 256 ≠ 0x50 → o ≠ k := fun k hk hok => hk (hok ▸ h)
  simp [resetProtected, h, hne 0x02FF (by decide), hne 0x020B (by decide), hne 0x0210 (by decide), hne 0x0211 (by decide)]

end

/-! ### The rows -/

theorem isRow_nop : IsRow .nop cmdNop := fun _ _ _ => rfl
theorem isRow_identify : IsRow .identify cmdIdentify := fun _ _ _ => rfl
theorem isRow_getStatus : IsRow .getStatus cmdGetStatus := fun _ _ _ => rfl
theorem isRow_setEventMask : IsRow .setEventMask cmdSetEventMask := fun _ _ _ => rfl
theorem isRow_sessionOpen : IsRow .sessionOpen cmdSessionOpen := fun _ _ _ => rfl
theorem isRow_sessionClose : IsRow .sessionClose cmdSessionClose := fun _ _ _ => rfl
theorem isRow_safetyHeartbeat : IsRow .safetyHeartbeat cmdSafetyHeartbeat := fun _ _ _ => rfl
theorem isRow_resetBlock : IsRow .resetBlock cmdResetBlock := fun _ _ _ => rfl

/-- Settles O6: each command from its run. -/
theorem hostCommands : Obligations.HostCommands := by
  unfold Obligations.HostCommands
  refine ⟨?nop, ?identify, ?getStatus, ?mask, ?challenge, ?opens, ?opensNet, ?close, ?heartbeat, ?reset, ?resetDp⟩
  case nop => exact Runs.of isRow_nop fun j s _ _ _ _ => ⟨_, _, rfl, rfl, rfl⟩
  case identify => exact Runs.of isRow_identify fun j s _ _ _ _ => ⟨_, _, rfl, rfl, rfl⟩
  case getStatus =>
    refine Runs.of isRow_getStatus ?_
    rintro j s - - - hserved
    have hloader : j.u8 0 ≠ 0 → s.loader = false := hserved.resolve_left
    obtain h | h | h : j.u8 0 = 0 ∨ j.u8 0 = 1 ∨ 2 ≤ j.u8 0 := by omega
    · exact ⟨s, _, getStatus_summary h, rfl, fun _ => rfl, by omega, by omega⟩
    · exact ⟨s, _, getStatus_ecc h (hloader (by omega)), rfl, by omega, fun _ => rfl, by omega⟩
    · exact ⟨s, _, getStatus_domains h (hloader (by omega)), rfl, by omega, by omega, fun _ => rfl⟩
  case mask => exact Runs.of isRow_setEventMask fun j s _ _ _ _ => ⟨_, _, setEventMask_run, rfl, rfl⟩
  case challenge => exact Runs.of isRow_sessionOpen fun j s _ _ _ h => ⟨_, _, sessionOpen_challenge h, rfl, rfl⟩
  case opens =>
    intro c key n
    refine Runs.of isRow_sessionOpen ?_
    rintro j s - - - ⟨hmode, htr, hchal, hover, hkey, hproof, hrole, hnum⟩
    have ho : Opens j s c key n := ⟨hmode, hchal, hover, hkey, hproof, fun h => absurd h hrole, hnum⟩
    exact ⟨_, _, (sessionOpen_opens ho).trans (if_neg htr), rfl, rfl⟩
  case opensNet =>
    intro c key n
    refine RunsDone.of isRow_sessionOpen ?_
    rintro j s - - - ⟨hmode, htr, hchal, hkey, hproof, hsafe, hnum⟩
    have ho : Opens j s c key n := ⟨hmode, hchal, by rw [htr]; rfl, hkey, hproof, hsafe, hnum⟩
    refine ⟨_, (sessionOpen_opens ho).trans (if_pos htr), ?_⟩
    simp only [State.opened, htr]
  case close =>
    refine RunsDone.of isRow_sessionClose ?_
    rintro j s - - - ⟨hopen, hmay⟩
    exact ⟨_, sessionClose_run rfl hopen hmay, rfl⟩
  case heartbeat =>
    refine Runs.of isRow_safetyHeartbeat ?_
    rintro j s - - - -
    refine ⟨_, _, heartbeat_run, rfl, rfl, rfl, rfl, ?_, fun hl hin => ?_, fun hl => ?_⟩
    · simp only [State.hbNext, hbBack_now, hbFound_now]
    · rw [hbFound_of_intime (hbOverdue_intime hin), State.hbBack, if_neg (by simp [hl])]
      rfl
    · rw [hbFound_of_intime (hbOverdue_of_lost hl), State.hbBack, if_pos hl]
      exact hbNext_ses (record_ses _ _ _ _) _
  case reset =>
    refine RunsLater.of isRow_resetBlock ?_
    rintro j s - - - ⟨he, hp, ht, ⟨d, hd⟩, hdp, hon⟩
    have hdom : resetDomain (j.u16 0) d = d := by simp [resetDomain, hdp]
    exact ⟨_, resetBlock_run he hd (.inl (by rw [hdom]; exact hon d hd)) hp ht, rfl⟩
  case resetDp =>
    refine RunsLater.of isRow_resetBlock ?_
    rintro j s - - - ⟨he, ht, hdp, hon⟩
    obtain ⟨d, hd⟩ : ∃ d, clusterDomain (j.u16 0 / 256) = some d := by rw [hdp]; exact ⟨_, rfl⟩
    refine ⟨_, resetBlock_run he hd ?_ (resetProtected_dp hdp) ht, rfl⟩
    by_cases hall : j.u16 0 % 256 = 0xFF
    · rw [if_pos hall] at hon
      exact .inr ⟨by omega, hon⟩
    · rw [if_neg hall] at hon
      exact .inl (by simpa [resetDomain, hdp, hall] using hon)

end Sys2Proof.Machine
end

section
/-! PROOF. Pricking transactions and deferred commands (spec/05 R120-R136, R76): the run of each command and the meaning of each event
under its condition, and the statement that gathers them. -/
namespace Sys2Proof.Machine

section
variable {j : Job} {s : State} {x : Txn}

/-! ### The commands (R120, R125, R136) -/

/-- The transaction that TXN_BEGIN opens (R120). -/
def Job.newTxn (j : Job) (s : State) : Txn :=
  { handle := s.nextHandle, session := j.req.session, transport := j.req.transport, peer := j.req.peer
    idleNs := (if j.u16 0 = 0 then 10 else j.u16 0) * nsPerSec, idleSince := s.now }

theorem txnBegin_run (h : s.txn.live.length < 4) : cmdTxnBegin.run j s =
    .ok { s with txn := { s.txn with lastHandle := s.nextHandle, live := s.txn.live ++ [j.newTxn s] } }
      (leBytes 2 s.nextHandle ++ zeros 2) := if_neg (Nat.not_le.2 h)

/-- An open transaction as its commit leaves it (R125). -/
def Txn.committed (x : Txn) (j : Job) (now : Nat) : Txn :=
  { x with
    st := .committing, fences := (commitFences j).map (·.2), sc := j.u64 4, acceptedAt := now, lateApply := j.u8 2 = 1
    timeoutNs := (if j.u32 12 = 0 then 100000 else j.u32 12) * 1000, commit := some j }

theorem txnCommit_run (hx : s.txn? (j.u16 0) = some x) (ho : x.st = .open_) (hown : x.owned j.req = true)
    (hsc : j.u64 4 = 0 ∨ s.stitch < j.u64 4) (hf : ∀ f ∈ commitFences j, idInRange f.2.1 = true ∧ s.objExists f.2.1 = true) :
    cmdTxnCommit.run j s = .later (s.modTxn (j.u16 0) fun x => x.committed j s.now) := by
  have hahead : (decide (j.u64 4 ≠ 0) && decide (j.u64 4 ≤ s.stitch)) = false := by
    simp only [Bool.and_eq_false_iff, decide_eq_false_iff_not]
    omega
  have hfences : (commitFences j).find? (fun f => !(idInRange f.2.1 && s.objExists f.2.1)) = none := by
    rw [List.find?_eq_none]
    intro f hmem
    obtain ⟨hr, he⟩ := hf f hmem
    simp [hr, he]
  simp only [cmdTxnCommit, hx, ho, hown, hahead, hfences]
  rfl

theorem txnRollback_run (hx : s.txn? (j.u16 0) = some x) (hown : x.owned j.req = true) (ho : x.st = .open_ ∨ x.st = .committing) :
    cmdTxnRollback.run j s = .ok (s.rollback x 1 eTxnUnknown (j.u16 0) 0) [] := by
  have hlive : (decide (x.st = .open_) || decide (x.st = .committing)) = true := by simpa using ho
  simp only [cmdTxnRollback, hx, hown, hlive]
  rfl

theorem txnQuery_run (hx : (s.txn.live ++ s.txn.finished).find? (fun x => x.handle = j.u16 0) = some x) : cmdTxnQuery.run j s =
    .ok s (leBytes 1 x.st.code ++ leBytes 1 x.reason ++ leBytes 2 x.staged.length ++ leBytes 2 x.failIndex ++
      leBytes 2 x.failStatus ++ leBytes 8 x.sa) := by
  simp only [cmdTxnQuery, hx]

/-! ### The events (R122, R126, R129, R130) -/

theorem txnIdleExpiry_due {h : Nat} (hx : s.txn? h = some x) (ho : x.st = .open_) (hidle : x.idleSince + x.idleNs ≤ s.now) :
    txnIdleExpiry h s = s.rollback x 2 0 0 0 := by
  simp [txnIdleExpiry, hx, ho, hidle]

theorem txnFenceTimeout_due {h : Nat} (hx : s.txn? h = some x) (hc : x.st = .committing) (hf : x.fences ≠ [])
    (hdue : x.acceptedAt + x.timeoutNs ≤ s.boundaryAt) : txnFenceTimeout h s = if x.lateApply then s.fixTxn x true
      else s.rollback x 3 eFenceTimeout ((s.fenceShort x).getD (x.fences.headD (0, 0)).1) 0 := by
  have hnot : ¬s.boundaryAt < x.acceptedAt + x.timeoutNs := Nat.not_lt.2 hdue
  simp [txnFenceTimeout, hx, hc, hf, hnot]

/-- The heads that take a transaction's changes at S_a (R133). -/
def State.headsAtOnce (s : State) : List Nat := (List.range 32).filter fun n => (s.head n).immediate

/-- The staged commands of a transaction take effect (R130). -/
def State.applyStaged (s : State) (x : Txn) : State :=
  (s.modTxn x.handle fun x => { x with atOnce := s.headsAtOnce }).forEach x.staged fun j s => (runJob false j s).state s

theorem txn?_handle {h : Nat} (hx : s.txn? h = some x) : x.handle = h := by simpa using List.find?_some hx

theorem txnApplyGlobal_due {h : Nat} (hx : s.txn? h = some x) (hfix : x.st = .fixed) (hsa : x.sa ≤ s.stitch) :
    txnApplyGlobal h s = ((((s.applyStaged x).forEach s.headsAtOnce fun n s => s.serveStaged x n).modTxn h fun x =>
      { x with st := .applying, commit := none }).finish? x.commit 0 0 (leBytes 8 x.sa)).settleTxns := by
  have hdue : (decide (x.st ≠ .fixed) || decide (s.stitch < x.sa)) = false := by simp [hfix, hsa]
  simp only [txnApplyGlobal, hx, hdue, State.applyStaged, txn?_handle hx]
  rfl

end

/-! ### The rows -/

theorem isRow_txnBegin : IsRow .txnBegin cmdTxnBegin := fun _ _ _ => rfl
theorem isRow_txnCommit : IsRow .txnCommit cmdTxnCommit := fun _ _ _ => rfl
theorem isRow_txnRollback : IsRow .txnRollback cmdTxnRollback := fun _ _ _ => rfl
theorem isRow_txnQuery : IsRow .txnQuery cmdTxnQuery := fun _ _ _ => rfl

theorem exec_txnIdleExpiry (t h : Nat) (s : State) : exec (.txnIdleExpiry t h) s = .next (settle (txnIdleExpiry h (s.tick t))) := rfl
theorem exec_txnFenceTimeout (t h : Nat) (s : State) :
    exec (.txnFenceTimeout t h) s = .next (settle (txnFenceTimeout h (s.tick t))) := rfl
theorem exec_txnApplyGlobal (t h : Nat) (s : State) :
    exec (.txnApplyGlobal t h) s = .next (settle (txnApplyGlobal h (s.tick t))) := rfl
theorem exec_deferredCommandExecute (t : Nat) (s : State) :
    exec (.deferredCommandExecute t) s = .next (settle (s.tick t).runDeferred) := rfl

/-- Settles O8: the commands from their runs, the events from their meanings on the ticked state. -/
theorem transactionRows : Obligations.TransactionRows := by
  unfold Obligations.TransactionRows
  refine ⟨?begin_, ?commit, ?rollback, ?query, ?idle, ?timeout, ?apply_, ?deferred⟩
  case begin_ => exact Runs.of isRow_txnBegin fun j s _ _ _ h => ⟨_, _, txnBegin_run h, rfl, rfl⟩
  case commit =>
    intro x
    refine RunsLater.of isRow_txnCommit ?_
    rintro j s - - - ⟨hx, ho, hown, hsc, hf⟩
    exact ⟨_, txnCommit_run hx ho hown hsc hf, rfl⟩
  case rollback =>
    intro x
    refine Runs.of isRow_txnRollback ?_
    rintro j s - - - ⟨hx, hown, ho⟩
    exact ⟨_, _, txnRollback_run hx hown ho, rfl, rfl⟩
  case query => exact fun x => Runs.of isRow_txnQuery fun j s _ _ _ hx => ⟨_, _, txnQuery_run hx, rfl, rfl⟩
  case idle =>
    rintro t h s0 s x rfl hx ho hidle
    rw [exec_txnIdleExpiry, txnIdleExpiry_due hx ho hidle]
  case timeout =>
    rintro t h s0 s x rfl hx hc hf hdue
    rw [exec_txnFenceTimeout, txnFenceTimeout_due hx hc hf hdue]
  case apply_ =>
    rintro t h s0 s x now s1 s2 rfl hx hfix hsa rfl rfl rfl
    rw [exec_txnApplyGlobal, txnApplyGlobal_due hx hfix hsa, State.applyStaged, txn?_handle hx]
    rfl
  case deferred =>
    rintro t s0 s rfl
    exact exec_deferredCommandExecute t s0

end Sys2Proof.Machine
end

section
/-! PROOF. Host registers, doorbells and interrupts (spec/03 R79-R89, R92): what each row does with PCIe up, what a 32-bit write to
each offset of BAR0 does, and the two statements that gather them. -/
namespace Sys2Proof.Machine

section
variable {s : State}

/-! ### ENABLE and the latched Stitch (R79, R86) -/

theorem hifEnable_illegal (hp : s.pcieOn = true) (he : s.hif.enable = false) (hr : ringsOk s.hif = false) :
    hifEnable s = { s with hif := { s.hif with cfgErr := true } } := by
  simp only [hifEnable, hp, he, hr]
  rfl

/-- The rings at ENABLE, all empty, and the event stream that opens (R79, R81). -/
def State.ringsEmptied (s : State) : State :=
  { s with
    hif := { s.hif with
      enable := true, cfgErr := false, eqLost := 0
      sqs := s.hif.sqs.map fun q => { q with head := 0, tail := 0 }
      cqs := s.hif.cqs.map fun q => { q with head := 0, tail := 0, phase := true, posted := 0 }
      eq := { s.hif.eq with head := 0, tail := 0, phase := true, posted := 0, reserved := 0 }
      rbuf := { s.hif.rbuf with cons := 0, prod := s.hif.rbuf.count } }
    ses := { s.ses with pcieStream := { opened := true }, heldGivenPcie := true } }

theorem hifEnable_legal (hp : s.pcieOn = true) (he : s.hif.enable = false) (hr : ringsOk s.hif = true) :
    hifEnable s = if s.ses.heldGivenPcie = false ∧ s.now < s.ses.heldUntil then
      s.ses.heldEvents.foldl (fun s e => if s.wants .pcie e.op then s.offerPcie e else s) s.ringsEmptied else s.ringsEmptied := by
  simp only [hifEnable, hp, he, hr, Bool.not_true, Bool.or_self, Bool.false_eq_true, if_false, Bool.and_eq_true, Bool.not_eq_true',
    decide_eq_true_eq]
  rfl

theorem hifDisable_up (hp : s.pcieOn = true) : hifDisable s = { s with hif := { s.hif with enable := false } } := if_pos hp

theorem hifStitchRead_up (hp : s.pcieOn = true) : hifStitchRead s = ({ s with
    hif := { s.hif with
      latchStitch := s.stitch / m32 % m32, latchTimeS := s.local / nsPerSec % m32, latchTimeNs := s.local % nsPerSec } } : State).emit
    (.readValue s.stitch32) := by
  simp only [hifStitchRead, hp]
  rfl

/-! ### Doorbells (R81-R84) -/

variable {q v : Nat}

theorem sqTail_inside (hp : s.pcieOn = true) (hq : q < 4) (hv : v % 4096 < (s.hif.sqs.getD q {}).size) :
    sqTail q v s = { s with hif := { s.hif with sqs := modAt s.hif.sqs q fun x => { x with tail := v % 4096 } } } := by
  simp only [sqTail, hp, hq, Nat.not_le.2 hv]
  rfl

theorem sqTail_outside (hp : s.pcieOn = true) (hq : q < 4) (hv : (s.hif.sqs.getD q {}).size ≤ v % 4096) :
    sqTail q v s = s.raiseIrq 6 := by
  simp only [sqTail, hp, hq, hv]
  rfl

theorem tailRow_up (hp : s.pcieOn = true) (hq : q < 4) : tailRow q v s = (sqTail q v s).wakeBy 7 := by
  simp only [tailRow, hp, hq]
  rfl

theorem cqHead_inside (hp : s.pcieOn = true) (hq : q < 4) (hv : v % 4096 < (s.hif.cqs.getD q {}).size) :
    cqHead q v s = { s with hif := { s.hif with cqs := modAt s.hif.cqs q fun x => x.consume (v % 4096) } } := by
  simp only [cqHead, hp, hq, Nat.not_le.2 hv]
  rfl

theorem cqHead_outside (hp : s.pcieOn = true) (hq : q < 4) (hv : (s.hif.cqs.getD q {}).size ≤ v % 4096) :
    cqHead q v s = s.raiseIrq 6 := by
  simp only [cqHead, hp, hq, hv]
  rfl

theorem eqHead_inside (hp : s.pcieOn = true) (hv : v % 4096 < s.hif.eq.size) :
    eqHead v s = { s with hif := { s.hif with eq := s.hif.eq.consume (v % 4096) } } := by
  simp only [eqHead, hp, Nat.not_le.2 hv]
  rfl

theorem eqHead_outside (hp : s.pcieOn = true) (hv : s.hif.eq.size ≤ v % 4096) : eqHead v s = s.raiseIrq 6 := by
  simp only [eqHead, hp, hv]
  rfl

theorem rbufProd_inside (hp : s.pcieOn = true) (hv : (v % m16 + m16 - s.hif.rbuf.cons) % m16 ≤ s.hif.rbuf.count) :
    rbufProd v s = { s with hif := { s.hif with rbuf := { s.hif.rbuf with prod := v % m16 } } } := by
  simp only [rbufProd, hp, Nat.not_lt.2 hv]
  rfl

theorem rbufProd_outside (hp : s.pcieOn = true) (hv : s.hif.rbuf.count < (v % m16 + m16 - s.hif.rbuf.cons) % m16) :
    rbufProd v s = s.raiseIrq 6 := by
  simp only [rbufProd, hp, hv]
  rfl

/-! ### Interrupts and the aperture (R87, R89) -/

theorem irqClear_up (hp : s.pcieOn = true) :
    irqClear v s = { s with hif := { s.hif with irqStatus := s.hif.irqStatus &&& (0x7FF ^^^ (v % 2048)) } } := by
  simp only [irqClear, hp]
  rfl

theorem apertureBase_low (hp : s.pcieOn = true) : apertureBase false v s = { s with
    hif := { s.hif with apertureBase := s.hif.apertureBase / m32 * m32 + v % m32 / 2 ^ 28 * 2 ^ 28 } } := by
  simp only [apertureBase, hp]
  rfl

theorem apertureBase_high (hp : s.pcieOn = true) : apertureBase true v s = { s with
    hif := { s.hif with apertureBase := s.hif.apertureBase % m32 + v % 256 * m32 } } := by
  simp only [apertureBase, hp]
  rfl

/-! ### Fence signals (R88, R240) -/

/-- The low word that a fence signal carries: the upper half of a wide write, else HIF_FENCE_VALUE. -/
def State.signalWord (s : State) (v : Nat) (wide : Bool) : Nat := if wide then v / m32 % m32 else s.hif.fenceValue

/-- A wide write leaves its word in HIF_FENCE_VALUE. -/
def State.signalKept (s : State) (v : Nat) (wide : Bool) : State :=
  if wide then { s with hif := { s.hif with fenceValue := s.signalWord v wide } } else s

/-- The value that keeps the upper half of the fence. -/
def State.signalValue (s : State) (v : Nat) (wide : Bool) : Nat :=
  (s.lay.fences.getD (v % 256) {}).value / m32 * m32 + s.signalWord v wide

variable {wide : Bool}

theorem takeFree_now (s : State) : s.takeFree.2.now = s.now := rfl

theorem signalKept_now : (s.signalKept v wide).now = s.now := by
  unfold State.signalKept
  split <;> rfl

theorem signal_unmade (hp : s.pcieOn = true) (hm : (s.lay.fences.getD (v % 256) {}).made = false) :
    fenceSignalWrite v wide s = (s.signalKept v wide).raiseIrq 8 := by
  simp only [fenceSignalWrite, hp, hm]
  rfl

theorem signal_kept (hp : s.pcieOn = true) (hm : (s.lay.fences.getD (v % 256) {}).made = true)
    (hv : (s.lay.fences.getD (v % 256) {}).value ≤ s.signalValue v wide) :
    fenceSignalWrite v wide s = (s.signalKept v wide).setFence (v % 256) (s.signalValue v wide) := by
  unfold State.signalValue State.signalWord at hv
  simp only [fenceSignalWrite, hp, hm, hv]
  rfl

theorem signal_carried (hp : s.pcieOn = true) (hm : (s.lay.fences.getD (v % 256) {}).made = true)
    (hv : s.signalValue v wide < (s.lay.fences.getD (v % 256) {}).value) (hfit : s.signalValue v wide + m32 < m64) :
    fenceSignalWrite v wide s = (s.signalKept v wide).setFence (v % 256) (s.signalValue v wide + m32) := by
  unfold State.signalValue State.signalWord at hv hfit
  simp only [fenceSignalWrite, hp, hm, Nat.not_le.2 hv, hfit]
  rfl

/-- Where the sum does not fit, the value is free and no lower (log entry 97). -/
theorem signal_free (hp : s.pcieOn = true) (hm : (s.lay.fences.getD (v % 256) {}).made = true)
    (hv : s.signalValue v wide < (s.lay.fences.getD (v % 256) {}).value) (hf : (s.lay.fences.getD (v % 256) {}).value < m64)
    (hfit : m64 ≤ s.signalValue v wide + m32) : ∃ x, (s.lay.fences.getD (v % 256) {}).value ≤ x ∧ x < m64 ∧
      fenceSignalWrite v wide s = (s.signalKept v wide).takeFree.2.setFence (v % 256) x := by
  have hmod := Nat.mod_lt (s.signalKept v wide).takeFree.1 (Nat.sub_pos_of_lt hf)
  refine ⟨_, Nat.le_add_right _ ((s.signalKept v wide).takeFree.1 % (m64 - (s.lay.fences.getD (v % 256) {}).value)), by omega, ?_⟩
  unfold State.signalValue State.signalWord at hv hfit
  simp only [fenceSignalWrite, hp, hm, Nat.not_le.2 hv, Nat.not_lt.2 hfit]
  rfl

/-! ### Reading replies over SPI (R92) -/

theorem spiRead_waiting {safety : Bool} {pkt : List Byte} {rest : List (List Byte)}
    (hup : s.transportUp = true ∨ (s.loader = true ∧ safety = false)) (hw : (s.spiPort safety).waiting = pkt :: rest) :
    spiRead safety s = (s.setSpiPort safety { s.spiPort safety with waiting := rest }).emit
      (.spiPacket safety (s.spiStatus safety) (leBytes 2 pkt.length ++ leBytes 2 (crc16 (leBytes 2 pkt.length ++ pkt)) ++ pkt)) := by
  have hon : (s.transportUp || (s.loader && !safety)) = true := by simpa using hup
  simp only [spiRead, hon, hw]
  rfl

/-! ### Writes by offset (Table 3-5) -/

/-- A submission queue changes while ENABLE is 0 (R79). -/
def State.sqEdit (s : State) (i : Nat) (f : Sq → Sq) : State :=
  if s.hif.enable then s else { s with hif := { s.hif with sqs := modAt s.hif.sqs i f } }

/-- A completion queue changes while ENABLE is 0 (R79). -/
def State.cqEdit (s : State) (i : Nat) (f : Cq → Cq) : State :=
  if s.hif.enable then s else { s with hif := { s.hif with cqs := modAt s.hif.cqs i f } }

theorem sqEdit_disabled (h : s.hif.enable = false) (i : Nat) (f : Sq → Sq) :
    s.sqEdit i f = { s with hif := { s.hif with sqs := modAt s.hif.sqs i f } } := if_neg (by simp [h])

theorem sqEdit_enabled (h : s.hif.enable = true) (i : Nat) (f : Sq → Sq) : s.sqEdit i f = s := if_pos h

theorem cqEdit_disabled (h : s.hif.enable = false) (i : Nat) (f : Cq → Cq) :
    s.cqEdit i f = { s with hif := { s.hif with cqs := modAt s.hif.cqs i f } } := if_neg (by simp [h])

/-- A write to register `k` of submission queue `i`. -/
def State.sqWrite (s : State) (k i v : Nat) : State :=
  match k with
  | 0x0 => s.sqEdit i fun q => { q with base := baseWrite q.base false v }
  | 0x4 => s.sqEdit i fun q => { q with base := baseWrite q.base true v }
  | 0x8 => s.sqEdit i fun q => { q with size := v % 8192 }
  | 0xC => sqTail i v s
  | _ => s

/-- A write to register `k` of completion queue `i`. -/
def State.cqWrite (s : State) (k i v : Nat) : State :=
  match k with
  | 0x0 => s.cqEdit i fun q => { q with base := baseWrite q.base false v }
  | 0x4 => s.cqEdit i fun q => { q with base := baseWrite q.base true v }
  | 0x8 => s.cqEdit i fun q => { q with size := v % 8192 }
  | 0xC => cqHead i v s
  | _ => s

variable {i k o : Nat}

theorem registerWrite_sq (hp : s.pcieOn = true) (hi : i < 4) (hk : k < 0x20) (ho : o = 0x100 + k + 0x20 * i) :
    registerWrite o v s = s.sqWrite k i v := by
  have hreg : o % 0x20 = k := by omega
  have hring : (o - 0x100) / 0x20 = i := by omega
  have hsq : (decide (0x100 ≤ o) && decide (o < 0x180)) = true := by simp; omega
  simp only [registerWrite, hp, hsq, hreg, hring]
  rfl

theorem registerWrite_cq (hp : s.pcieOn = true) (hi : i < 4) (hk : k < 0x20) (ho : o = 0x180 + k + 0x20 * i) :
    registerWrite o v s = s.cqWrite k i v := by
  have hreg : o % 0x20 = k := by omega
  have hring : (o - 0x180) / 0x20 = i := by omega
  have hsq : (decide (0x100 ≤ o) && decide (o < 0x180)) = false := by simp; omega
  have hcq : (decide (0x180 ≤ o) && decide (o < 0x200)) = true := by simp; omega
  simp only [registerWrite, hp, hsq, hcq, hreg, hring]
  rfl

/-- A write outside the submission queues' doorbells is no wake source. -/
theorem registerRow_plain (h : ¬(0x100 ≤ o ∧ o < 0x180 ∧ o % 0x20 = 0xC)) : registerRow o v s = registerWrite o v s := by
  apply if_neg
  simp only [Bool.and_eq_true, decide_eq_true_eq]
  tauto

/-- A write to a submission queue's doorbell is what SQ_TAIL_DOORBELL does. -/
theorem registerRow_tail (hp : s.pcieOn = true) (hi : i < 4) (ho : o = 0x10C + 0x20 * i) : registerRow o v s = tailRow i v s := by
  have htail : (s.pcieOn && decide (0x100 ≤ o) && decide (o < 0x180) && decide (o % 0x20 = 0xC)) = true := by
    simp only [hp, Bool.true_and, Bool.and_eq_true, decide_eq_true_eq]
    omega
  rw [registerRow, if_pos htail, registerWrite_sq hp hi (by decide : 0xC < 0x20) ho, tailRow_up hp hi]
  rfl

theorem registerRow_sq (hp : s.pcieOn = true) (hi : i < 4) (hk : k < 0xC) (ho : o = 0x100 + k + 0x20 * i) :
    registerRow o v s = s.sqWrite k i v := by
  rw [registerRow_plain (by omega), registerWrite_sq hp hi (by omega) ho]

theorem registerRow_cq (hp : s.pcieOn = true) (hi : i < 4) (hk : k < 0x20) (ho : o = 0x180 + k + 0x20 * i) :
    registerRow o v s = s.cqWrite k i v := by
  rw [registerRow_plain (by omega), registerWrite_cq hp hi hk ho]

/-- At the other offsets, with PCIe up, a write does what Table 3-5 says of its register. -/
theorem registerRow_single (hp : s.pcieOn = true) :
    registerRow 0x00C v s = (if v % 2 = 1 then hifEnable s else hifDisable s) ∧ registerRow 0x20C v s = eqHead v s ∧
    registerRow 0x24C v s = rbufProd v s ∧ registerRow 0x300 v s = irqClear v s ∧
    registerRow 0x304 v s = { s with hif := { s.hif with irqMask := v % 2048 } } ∧
    registerRow 0x340 v s = fenceSignalWrite (v % m32) false s ∧
    registerRow 0x344 v s = { s with hif := { s.hif with fenceValue := v % m32 } } ∧
    registerRow 0x380 v s = apertureBase false v s ∧ registerRow 0x384 v s = apertureBase true v s ∧
    registerRow 0x3F0 v s = { s with hif := { s.hif with scratch := v % m32 } } := by
  refine ⟨?_, ?_, ?_, ?_, ?_, ?_, ?_, ?_, ?_, ?_⟩ <;>
  · rw [registerRow_plain (by decide)]
    simp [registerWrite, hp]

end

/-! ### The rows -/

theorem exec_hifCtrlEnableSet (t : Nat) (s : State) : exec (.hifCtrlEnableSet t) s = .next (settle (hifEnable (s.tick t))) := rfl
theorem exec_hifCtrlEnableClear (t : Nat) (s : State) : exec (.hifCtrlEnableClear t) s = .next (settle (hifDisable (s.tick t))) := rfl
theorem exec_hifStitchLoRead (t : Nat) (s : State) : exec (.hifStitchLoRead t) s = .next (settle (hifStitchRead (s.tick t))) := rfl
theorem exec_sqTailDoorbell (t q v : Nat) (s : State) : exec (.sqTailDoorbell t q v) s = .next (settle (tailRow q v (s.tick t))) := rfl
theorem exec_cqHeadDoorbell (t q v : Nat) (s : State) : exec (.cqHeadDoorbell t q v) s = .next (settle (cqHead q v (s.tick t))) := rfl
theorem exec_eqHeadDoorbell (t v : Nat) (s : State) : exec (.eqHeadDoorbell t v) s = .next (settle (eqHead v (s.tick t))) := rfl
theorem exec_rbufProdWrite (t v : Nat) (s : State) : exec (.rbufProdWrite t v) s = .next (settle (rbufProd v (s.tick t))) := rfl
theorem exec_hifFenceSignalWrite (t v : Nat) (wide : Bool) (s : State) :
    exec (.hifFenceSignalWrite t v wide) s = .next (settle (fenceSignalWrite v wide (s.tick t))) := rfl
theorem exec_irqStatusClear (t v : Nat) (s : State) : exec (.irqStatusClear t v) s = .next (settle (irqClear v (s.tick t))) := rfl
theorem exec_apertureBaseWrite (t v : Nat) (high : Bool) (s : State) :
    exec (.apertureBaseWrite t high v) s = .next (settle (apertureBase high v (s.tick t))) := rfl
theorem exec_registerWrite (t o v : Nat) (s : State) : exec (.registerWrite t o v) s = .next (settle (registerRow o v (s.tick t))) := rfl
theorem exec_spiReadReply (t : Nat) (safety : Bool) (s : State) :
    exec (.spiReadReply t safety) s = .next (settle (spiRead safety (s.tick t))) := rfl

/-- Settles O9: each row is its meaning on the ticked state, with PCIe up. -/
theorem hostRegisterRows : Obligations.HostRegisterRows := by
  unfold Obligations.HostRegisterRows
  refine ⟨?illegal, ?legal, ?clear_, ?latch, ?rings, ?registers, ?signal, ?reply⟩
  case illegal =>
    rintro t s0 s rfl hp he hr
    rw [exec_hifCtrlEnableSet, hifEnable_illegal hp he hr]
  case legal =>
    rintro t s0 s s1 rfl hp he hr rfl
    rw [exec_hifCtrlEnableSet, hifEnable_legal hp he hr]
    rfl
  case clear_ =>
    rintro t s0 s rfl hp
    rw [exec_hifCtrlEnableClear, hifDisable_up hp]
  case latch =>
    rintro t s0 s rfl hp
    rw [exec_hifStitchLoRead, hifStitchRead_up hp]
  case rings =>
    rintro t q v s0 s rfl hp hq
    refine ⟨fun hv => ?_, fun hv => ?_, fun hv => ?_, fun hv => ?_⟩
    · rw [exec_sqTailDoorbell, tailRow_up hp hq, sqTail_inside hp hq hv]
    · rw [exec_sqTailDoorbell, tailRow_up hp hq, sqTail_outside hp hq hv]
    · rw [exec_cqHeadDoorbell, cqHead_inside hp hq hv]
    · rw [exec_cqHeadDoorbell, cqHead_outside hp hq hv]
  case registers =>
    rintro t v s0 s rfl hp
    refine ⟨fun hv => ?_, fun hv => ?_, fun hv => ?_, fun hv => ?_, ?_, ?_, ?_⟩
    · rw [exec_eqHeadDoorbell, eqHead_inside hp hv]
    · rw [exec_eqHeadDoorbell, eqHead_outside hp hv]
    · rw [exec_rbufProdWrite, rbufProd_inside hp hv]
    · rw [exec_rbufProdWrite, rbufProd_outside hp hv]
    · rw [exec_irqStatusClear, irqClear_up hp]
    · rw [exec_apertureBaseWrite, apertureBase_low hp]
    · rw [exec_apertureBaseWrite, apertureBase_high hp]
  case signal =>
    rintro t v wide s0 s s1 f w n rfl hp rfl rfl rfl rfl
    refine ⟨fun hm => ?_, fun hm hv => ?_, fun hm hv hfit => ?_, fun hm hv hf hfit => ?_⟩
    · rw [exec_hifFenceSignalWrite, signal_unmade hp hm]
      rfl
    · rw [exec_hifFenceSignalWrite, signal_kept hp hm hv, State.setFence, signalKept_now]
      rfl
    · rw [exec_hifFenceSignalWrite, signal_carried hp hm hv hfit, State.setFence, signalKept_now]
      rfl
    · obtain ⟨x, hlo, hhi, hx⟩ := signal_free hp hm hv hf hfit
      refine ⟨x, hlo, hhi, ?_⟩
      rw [exec_hifFenceSignalWrite, hx, State.setFence, takeFree_now, signalKept_now]
      rfl
  case reply =>
    rintro t safety s0 s pkt rest rfl hup hw
    rw [exec_spiReadReply, spiRead_waiting hup hw]

/-- Settles O10: the registers of the rings by queue and register, the others by offset. -/
theorem registerWriteRows : Obligations.RegisterWriteRows := by
  unfold Obligations.RegisterWriteRows
  rintro t v s0 s rfl hp
  obtain ⟨hctrl, heq, hrbuf, hclear, hmask, hfence, hvalue, hlow, hhigh, hscratch⟩ := registerRow_single (v := v) hp
  refine ⟨fun i hi he => ?_, fun i hi he => ?_, fun i hi => ?_, ?_, ?_, ?_, ?_, ?_, ?_, ?_, ?_, ?_, ?_⟩
  · refine ⟨?_, ?_, ?_, ?_⟩
    · rw [exec_registerWrite, registerRow_sq (k := 0x0) hp hi (by decide) rfl, State.sqWrite, sqEdit_disabled he]
      rfl
    · rw [exec_registerWrite, registerRow_sq (k := 0x4) hp hi (by decide) rfl, State.sqWrite, sqEdit_disabled he]
      rfl
    · rw [exec_registerWrite, registerRow_sq (k := 0x8) hp hi (by decide) rfl, State.sqWrite, sqEdit_disabled he]
    · rw [exec_registerWrite, registerRow_cq (k := 0x8) hp hi (by decide) rfl, State.cqWrite, cqEdit_disabled he]
  · refine ⟨?_, ?_⟩
    · rw [exec_registerWrite, registerRow_sq (k := 0x0) hp hi (by decide) rfl, State.sqWrite, sqEdit_enabled he]
    · rw [exec_registerWrite, registerRow_sq (k := 0x8) hp hi (by decide) rfl, State.sqWrite, sqEdit_enabled he]
  · refine ⟨?_, ?_⟩
    · rw [exec_registerWrite, registerRow_tail hp hi rfl, exec_sqTailDoorbell]
    · rw [exec_registerWrite, registerRow_cq (k := 0xC) hp hi (by decide) rfl, exec_cqHeadDoorbell]
      rfl
  · rw [exec_registerWrite, hctrl, exec_hifCtrlEnableSet, exec_hifCtrlEnableClear]
    split <;> rfl
  · rw [exec_registerWrite, heq, exec_eqHeadDoorbell]
  · rw [exec_registerWrite, hrbuf, exec_rbufProdWrite]
  · rw [exec_registerWrite, hclear, exec_irqStatusClear]
  · rw [exec_registerWrite, hmask]
  · rw [exec_registerWrite, hfence, exec_hifFenceSignalWrite]
  · rw [exec_registerWrite, hvalue]
  · rw [exec_registerWrite, hlow, exec_apertureBaseWrite]
  · rw [exec_registerWrite, hhigh, exec_apertureBaseWrite]
  · rw [exec_registerWrite, hscratch]

end Sys2Proof.Machine
end

section
/-! PROOF. How a command begins (spec/03 R74-R78, R92, spec/05 R123, R124): the order of the checks, staging, deferral and ordering,
and the statements that gather them. -/
namespace Sys2Proof.Machine

section
variable {c : Cmd} {row : Nat → Request → Instr} {t : Nat} {r : Request} {s s1 : State} {j : Job}

/-! ### From a taken command to its beginning -/

theorem host_taken (h : taken c t r s = some (j, s1)) : host c.budgeted r (s.tick t) = takeUp c.budgeted j s1 := by
  rw [host_eq, budgeted_spec]
  unfold taken at h
  generalize intake c.spec.cls c.spec.op c.spec.reply true r (s.tick t) = x at h ⊢
  obtain ⟨s2, _ | k⟩ := x
  · cases h
  · obtain ⟨rfl, rfl⟩ := Prod.mk.inj (Option.some.inj h)
    rfl

theorem takeUp_begins (h : mustWait j s = false) : takeUp c j s = begin_ c j s := by simp [takeUp, h]

theorem takeUp_holds (h : mustWait j s = true) :
    takeUp c j s = { s with hif := { s.hif with held := s.hif.held ++ [j] } } := if_pos h

/-- A taken command that waits for nothing begins. -/
theorem exec_begins (hrow : IsRow row c) (h : taken c t r s = some (j, s1)) (hw : mustWait j s1 = false) :
    exec (row t r) s = .next (settle (begin_ c.budgeted j s1)) := by
  rw [hrow, host_taken h, takeUp_begins hw]

theorem begin_refused {e : Err} (h : check c j s = some e) : begin_ c.budgeted j s = s.reply j e.status e.detail [] := by
  rw [begin_, check_budgeted, h]

/-- A command that passes R74 and no narrower role refuses. -/
structure Passes (c : Cmd) (j : Job) (s : State) : Prop where
  check : check c j s = none
  denied : c.denied j s = none

theorem Passes.begin_txn (h : Passes c j s) (ht : j.req.txn ≠ 0) :
    begin_ c.budgeted j s = if c.spec.staged then stage c j s else s.reply j eParam 8 [] := by
  have hd : c.budgeted.denied j s = none := h.denied
  simp only [begin_, check_budgeted, h.check, hd, ne_eq, ht, not_false_eq_true, if_true]
  rfl

/-- A command whose Stitch is still ahead is checked now, and deferred. -/
theorem Passes.begin_ahead (h : Passes c j s) (ht : j.req.txn = 0) (ha : atStitch j.req = true) (hd : 0 < s.stitchDist j.req.stitch) :
    (∀ e, deferCheck c.budgeted j s = some e → begin_ c.budgeted j s = s.reply j e.status e.detail []) ∧
    (deferCheck c.budgeted j s = none → begin_ c.budgeted j s = defer j s) := by
  have hden : c.budgeted.denied j s = none := h.denied
  refine ⟨fun e he => ?_, fun he => ?_⟩
  · simp only [begin_, check_budgeted, h.check, hden, ht, ha, gt_iff_lt, hd, he]
    rfl
  · simp only [begin_, check_budgeted, h.check, hden, ht, ha, gt_iff_lt, hd, he]
    rfl

/-! ### The order of R74 -/

/-- A command that the loader does not judge and whose length, session and role are accepted (R74 steps 3-5). -/
structure Admitted (c : Cmd) (j : Job) (s : State) : Prop where
  short : j.len ≤ 1008
  noLoader : s.loader = false
  sessionOpen : s.sessionOpen j.req = true
  role : s.roleOk c.spec j.req = true

theorem roleOk_iff (h : s.loader = false) (x : CmdSpec) :
    s.roleOk x r = true ↔ s.roleOf r ∈ x.roles ∨ x.roles.length = 4 := by
  simp only [State.roleOk, h, Bool.false_and, Bool.or_false, Bool.or_eq_true, decide_eq_true_eq, List.contains_iff_mem]
  exact or_comm

theorem check_tooLong (h : 1008 < j.len) : check c j s = some ⟨eLength, c.spec.len.nearest j.len⟩ := if_pos h

theorem check_noSession (hl : j.len ≤ 1008) (hload : s.loader = false) (h : s.sessionOpen j.req = false) :
    check c j s = some ⟨eSession, j.req.session⟩ := by
  simp only [check, Nat.not_lt.2 hl, hload, h]
  rfl

theorem check_noRole (hl : j.len ≤ 1008) (hload : s.loader = false) (hs : s.sessionOpen j.req = true)
    (h : s.roleOk c.spec j.req = false) : check c j s = some ⟨eDenied, c.spec.roleBits⟩ := by
  simp only [check, Nat.not_lt.2 hl, hload, hs, h]
  rfl

/-- The rest of R74 of an admitted command: its FLAGS, its Stitch, its length and its fields. -/
theorem Admitted.check_eq (h : Admitted c j s) : check c j s =
    if 8 ≤ j.req.flags ∨ j.req.txn ≠ 0 ∧ atStitch j.req = true then some ⟨eParam, 10⟩
    else if s.deadlinePassed j.req then some ⟨eDeadline, 0⟩
    else if c.spec.len.ok j.len = false then some ⟨eLength, c.spec.len.nearest j.len⟩
    else (c.param j s).min?.map fun o => ⟨eParam, o⟩ := by
  obtain ⟨hl, hload, hs, hr⟩ := h
  simp only [check, firstOffset, Nat.not_lt.2 hl, ge_iff_le, hload, hs, hr, if_false, Bool.false_and, Bool.false_eq_true, Bool.not_true,
    Bool.or_eq_true, Bool.and_eq_true, decide_eq_true_eq, Bool.not_eq_true']

/-! ### Staging (R123, R124) -/

theorem stage_unknown (h : ∀ x, s.txn? j.req.txn = some x → ¬(x.st = .open_ ∧ x.owned j.req = true)) :
    stage c j s = s.reply j eTxnUnknown j.req.txn [] := by
  cases hx : s.txn? j.req.txn with
  | none => simp only [stage, hx]
  | some x =>
    have hno : (decide (x.st = .open_) && x.owned j.req) = false := by simpa using h x hx
    simp only [stage, hx, hno]
    rfl

/-- The other transaction that holds an object the command names (R124). -/
def State.holder (s : State) (c : Cmd) (j : Job) : Option Txn :=
  s.txn.live.find? fun y => y.handle ≠ j.req.txn && (c.names j).any fun n => y.objects.contains n.2

/-- Into an open transaction of its session a command is staged, unless its identifiers, their protection, their holders or the
number staged refuse it. -/
theorem stage_open {x : Txn} (hx : s.txn? j.req.txn = some x) (ho : x.st = .open_) (hown : x.owned j.req = true) :
    stage c j s = match (c.names j).find? fun n => !idInRange n.2 with
      | some n => s.reply j eNoObject n.1 []
      | none => match c.protect j s with
        | some o => s.reply j eProtected o []
        | none => match s.holder c j with
          | some y => s.reply j eTxnConflict y.handle []
          | none => if 512 ≤ x.staged.length then s.reply j eTxnFull 2 [] else
            (s.modTxn j.req.txn fun x => { x with
              staged := x.staged ++ [j], idleSince := s.now, objects := x.objects ++ (c.names j).map (·.2) }).reply
                j 1 (x.staged.length + 1) [] := by
  simp only [stage, hx, ho, hown]
  rfl

theorem holder_none (h : ∀ y ∈ s.txn.live, y.handle ≠ j.req.txn → ∀ n ∈ c.names j, n.2 ∉ y.objects) : s.holder c j = none := by
  rw [State.holder, List.find?_eq_none]
  intro y hy hheld
  rw [Bool.and_eq_true, decide_eq_true_eq, List.any_eq_true] at hheld
  obtain ⟨hne, n, hn, hobj⟩ := hheld
  exact h y hy hne n hn (List.contains_iff_mem.1 hobj)

/-! ### Deferral (R76) -/

/-- The signed distance names the nearest Stitch. -/
theorem stitchDist_nearest (s : State) {f : Nat} (hf : f < m32) : -2147483648 ≤ s.stitchDist f ∧ s.stitchDist f < 2147483648 ∧
    ((s.stitch : Int) + s.stitchDist f - f) % 4294967296 = 0 := by
  have hs : s.stitch32 = s.stitch % m32 := rfl
  unfold State.stitchDist signed
  simp only [Nat.reducePow, Nat.reduceSub, Int.ofNat_eq_natCast]
  unfold m32 at *
  split <;> omega

theorem deadlinePassed_eq (s : State) (r : Request) :
    s.deadlinePassed r = decide (s.stitchDist r.stitch < 0 ∧ (r.flags.testBit 2 ∨ r.stitch ≠ 0)) := by
  unfold State.deadlinePassed atStitch
  cases r.flags.testBit 2 with
  | true => simp
  | false => simp [and_comm]

/-- What R104 refuses is among the failures that a command to be deferred meets at once. -/
theorem checkObjects_status {e : Err} (h : checkObjects c j s = some e) : e.status ∈ checkStatuses := by
  unfold checkObjects at h
  split at h
  · cases h; exact List.contains_iff_mem.1 rfl
  · split at h
    · cases h; exact List.contains_iff_mem.1 rfl
    · split at h
      · cases h; exact List.contains_iff_mem.1 rfl
      · split at h
        · cases h; exact List.contains_iff_mem.1 rfl
        · cases h

theorem deferCheck_fails {st d : Nat} (h : execCmd c j s = .fail st d) (hst : st ∈ checkStatuses) :
    deferCheck c j s = some ⟨st, d⟩ := by
  have hc : checkStatuses.contains st = true := List.contains_iff_mem.2 hst
  simp only [deferCheck, h, hc, if_true]

theorem deferCheck_passes (hf : ∀ st d, execCmd c j s ≠ .fail st d) (hw : ∀ u st d, execCmd c j s ≠ .failWith u st d) :
    deferCheck c j s = none := by
  unfold deferCheck
  split
  · exact absurd ‹_› (hf _ _)
  · exact absurd ‹_› (hw _ _ _)
  all_goals rfl

theorem execCmd_objects {e : Err} (h : checkObjects c j s = some e) : execCmd c.budgeted j s = .fail e.status e.detail := by
  simp only [execCmd, checkObjects_budgeted, h]

/-! ### Ordering (R78) -/

/-- A command waits while one of its source is in progress and it or one of those has ORDERED. -/
theorem mustWait_inflight {k : Job} (hk : k ∈ s.hif.inflight) (hs : sameSource j k = true) (hd : k.deferred = false)
    (ho : j.ordered = true ∨ ∃ k2 ∈ s.hif.inflight, sameSource j k2 = true ∧ k2.deferred = false ∧ k2.ordered = true) :
    mustWait j s = true := by
  have hsome : (s.hif.inflight.filter fun k => sameSource j k && !k.deferred).isEmpty = false :=
    List.isEmpty_eq_false_iff_exists_mem.2 ⟨k, List.mem_filter.2 ⟨hk, by simp [hs, hd]⟩⟩
  have hord : (j.ordered || (s.hif.inflight.filter fun k => sameSource j k && !k.deferred).any Job.ordered) = true := by
    obtain h | ⟨k2, hk2, hs2, hd2, ho2⟩ := ho
    · rw [h, Bool.true_or]
    · rw [List.any_eq_true.2 ⟨k2, List.mem_filter.2 ⟨hk2, by simp [hs2, hd2]⟩, ho2⟩, Bool.or_true]
  simp only [mustWait, hsome, hord]
  rfl

/-- A command waits while an earlier one of its source is held. -/
theorem mustWait_held {k : Job} (hk : k ∈ s.hif.held) (hs : sameSource j k = true) : mustWait j s = true := by
  rw [mustWait, List.any_eq_true.2 ⟨k, hk, hs⟩, Bool.or_true]

theorem sameSource_fields {a b : Job} (h : sameSource a b = true) : a.req.transport = b.req.transport ∧
    (a.req.transport = .pcie → a.req.queue = b.req.queue) ∧ (a.req.transport = .network → a.req.session = b.req.session) := by
  unfold sameSource at h
  simp only [Bool.and_eq_true, decide_eq_true_eq] at h
  obtain ⟨htr, h⟩ := h
  refine ⟨htr, fun ha => ?_, fun ha => ?_⟩
  · simpa [ha] using h
  · simp only [ha, Bool.and_eq_true, decide_eq_true_eq] at h
    exact h.1

/-- The one command held begins once none of its source is in progress. -/
theorem beginHeld_one (hh : s.hif.held = [j]) (hf : ∀ k ∈ s.hif.inflight, sameSource j k = true → k.deferred = true) :
    s.beginHeld = beginAny j { s with hif := { s.hif with held := [] } } := by
  have hnone : (s.hif.inflight.filter fun k => sameSource j k && !k.deferred) = [] := by
    rw [List.filter_eq_nil_iff]
    intro k hk hsame
    rw [Bool.and_eq_true, Bool.not_eq_true'] at hsame
    exact absurd (hf k hk hsame.1) (by simp [hsame.2])
  have hbegin : (!s.hif.held.contains j || (s.hif.held.takeWhile fun k => k ≠ j).any (sameSource j) ||
      (!(s.hif.inflight.filter fun k => sameSource j k && !k.deferred).isEmpty && (j.ordered ||
        (s.hif.inflight.filter fun k => sameSource j k && !k.deferred).any Job.ordered))) = false := by
    simp [hh, hnone]
  have herase : s.hif.held.erase j = [] := by simp [hh]
  rw [State.beginHeld]
  conv_lhs => rw [hh]
  rw [State.forEach_cons, State.forEach_nil]
  simp only [hbegin, herase]
  rfl

end

/-! ### Packets of commands that the index does not list (R74) -/

/-- The classes of the index (R105). -/
def indexClasses : List Nat :=
  [0x01, 0x02, 0x10, 0x11, 0x12, 0x20, 0x21, 0x22, 0x23, 0x24, 0x25, 0x30, 0x31, 0x32, 0x33, 0x34, 0x40, 0x41, 0x50, 0x51, 0x52]

theorem cmdTable_classes : (∀ c ∈ cmdTable, c.spec.cls ∈ indexClasses) ∧ ∀ n ∈ indexClasses, classKnown n = true := by
  decide +kernel

theorem classKnown_iff (cls : Nat) : classKnown cls = true ↔ cls ∈ indexClasses := by
  obtain ⟨hall, hlist⟩ := cmdTable_classes
  refine ⟨fun h => ?_, hlist cls⟩
  obtain ⟨c, hc, heq⟩ := List.any_eq_true.1 h
  exact of_decide_eq_true heq ▸ hall c hc

theorem takeSpi_job {cls op : Nat} {r : Request} {s s1 : State} {j : Job} (h : takeSpi cls op r s = (s1, some j)) :
    j.cls = cls ∧ j.op = op := by
  unfold takeSpi at h
  dsimp only at h
  split at h
  · cases h
  · split at h
    · cases h
    · cases h
      exact ⟨rfl, rfl⟩

/-- A packet that no command of the index answers is refused by its class, or else by its opcode. -/
theorem takePacket_unlisted {j : Job} {s : State} (hl : lookup j.cls j.op = none) (hw : mustWait j s = false)
    (hload : s.loader = false) : takePacket true j s = s.reply j (if j.cls ∈ indexClasses then eOpcode else eClass) 0 [] := by
  simp only [takePacket, beginAny, hl, hw, hload, classKnown_iff]
  rfl

/-! ### The statements -/

/-- Settles O51: R74 in its order (`check_tooLong` to `Admitted.check_eq`), then R103, and the two refusals of a packet that no command
of the index answers. -/
theorem orderOfChecks : Obligations.OrderOfChecks := by
  unfold Obligations.OrderOfChecks
  refine ⟨?order, classKnown_iff, ?unlisted⟩
  case order =>
    intro c row t r s j s1 hrow ht hw hload
    obtain ⟨-, -, hreq, -⟩ := taken_job ht
    subst hreq
    have refused : ∀ st d, check c j s1 = some ⟨st, d⟩ → exec (row t j.req) s = .next (settle (s1.reply j st d [])) := by
      intro st d h
      rw [exec_begins hrow ht hw, begin_refused h]
    refine ⟨fun hlen => refused _ _ (check_tooLong hlen), fun hlen => ⟨fun hs => ?_, fun hs hr hall => ?_, fun hs hr => ?_⟩⟩
    · exact refused _ _ (check_noSession hlen hload hs)
    · refine refused _ _ (check_noRole hlen hload hs (Bool.eq_false_iff.2 fun h => ?_))
      obtain h | h := (roleOk_iff hload _).1 h
      · exact hr h
      · exact hall h
    · have heq := (Admitted.mk hlen hload hs ((roleOk_iff hload _).2 hr)).check_eq (c := c)
      refine ⟨fun hflags => refused _ _ (heq.trans (if_pos hflags)), fun hflags htxn => ?_⟩
      have hflagsOk : ¬(8 ≤ j.req.flags ∨ j.req.txn ≠ 0 ∧ atStitch j.req = true) := by
        rintro (h8 | ⟨h0, hat⟩)
        · exact absurd hflags (Nat.not_lt.2 h8)
        · exact htxn.elim h0 fun h => Bool.eq_false_iff.1 h hat
      rw [if_neg hflagsOk] at heq
      refine ⟨fun hd => refused _ _ (heq.trans (if_pos hd)), fun hd => ?_⟩
      rw [if_neg (Bool.eq_false_iff.1 hd)] at heq
      refine ⟨fun hl => refused _ _ (heq.trans (if_pos hl)), fun off hl hoff => ?_, fun hck hden ht0 hst => ?_⟩
      · rw [if_neg (Bool.not_eq_false _ ▸ hl), hoff] at heq
        exact refused _ _ heq
      · rw [exec_begins hrow ht hw, (Passes.mk hck hden).begin_txn ht0, if_neg (by simp [hst])]
  case unlisted =>
    rintro t cls op r s s1 j pkt hl hc ho hr rfl htr hq hp hu hport hseq ht hw hload
    obtain ⟨hcls, hop⟩ := takeSpi_job ht
    have hf : SameOrigin (spiOrigin false) r := ⟨htr.symm, hq.symm, hp.symm, hu.symm, hport.symm, hseq.symm⟩
    have hspi := spiWrite_packet hc ho hr hf (s.tick t)
    rw [ht] at hspi
    have hreply := takePacket_unlisted (by rw [hcls, hop]; exact hl) hw hload
    rw [hcls] at hreply
    rw [exec_spiWritePacket]
    exact congrArg (fun u => Host.Outcome.next (settle u)) (hspi.trans hreply)

/-- Settles O53: R74 passes the command to `stage`, which checks in the order of R123. -/
theorem stagedCommands : Obligations.StagedCommands := by
  unfold Obligations.StagedCommands
  intro c row t r s j s1 hrow ht hw hck hden htxn hst
  obtain ⟨-, -, hreq, -⟩ := taken_job ht
  subst hreq
  have hexec : exec (row t j.req) s = .next (settle (stage c j s1)) := by
    rw [exec_begins hrow ht hw, (Passes.mk hck hden).begin_txn htxn, if_pos hst]
  rw [hexec]
  refine ⟨fun hno => ?_, fun x hx ho horph hses htr => ?_⟩
  · rw [stage_unknown]
    rintro x hx ⟨ho, hown⟩
    simp only [Txn.owned, Bool.and_eq_true, Bool.not_eq_true', decide_eq_true_eq] at hown
    exact hno x hx ⟨ho, hown.1.1, hown.1.2, hown.2⟩
  · rw [stage_open hx ho (by simp [Txn.owned, horph, hses, htr])]
    refine ⟨fun n hn => by simp only [hn], fun hin => ?_⟩
    have hnone : (c.names j).find? (fun n => !idInRange n.2) = none := by
      rw [List.find?_eq_none]
      intro n hn
      simp [hin n hn]
    simp only [hnone]
    refine ⟨fun o hp => by simp only [hp], fun hp => ?_⟩
    simp only [hp]
    refine ⟨fun y hy => ?_, fun hfree => ⟨fun hfull => ?_, fun hroom => ?_⟩⟩
    · have hholder : s1.holder c j = some y := hy
      simp only [hholder]
    · simp only [holder_none hfree, if_pos hfull]
    · simp only [holder_none hfree, if_neg (Nat.not_le.2 hroom)]

/-- Settles O54: the field's reading (`stitchDist_nearest`, `deadlinePassed_eq`), and a command whose Stitch is ahead is checked now
and deferred (`Passes.begin_ahead`). -/
theorem deferredCommands : Obligations.DeferredCommands := by
  unfold Obligations.DeferredCommands
  refine ⟨stitchDist_nearest, deadlinePassed_eq, ?_⟩
  intro c row t r s j s1 hrow ht hw hck hden htxn hat hd
  obtain ⟨-, -, hreq, -⟩ := taken_job ht
  subst hreq
  obtain ⟨hrefused, hdefers⟩ := (Passes.mk hck hden).begin_ahead htxn hat hd
  rw [exec_begins hrow ht hw]
  refine ⟨fun e he => ?_, fun st d hfail hst => ?_, fun hf hfw => ?_⟩
  · rw [hrefused _ (deferCheck_fails (execCmd_objects he) (checkObjects_status he))]
  · rw [hrefused _ (deferCheck_fails hfail hst)]
  · rw [hdefers (deferCheck_passes hf hfw)]
    refine ⟨fun hfull => ?_, fun hroom => ?_⟩
    · rw [defer, if_pos hfull]
    · rw [defer, if_neg (Nat.not_le.2 hroom)]

/-- Settles O55: a command that must wait is held; the one command held begins when its source has nothing in progress. -/
theorem orderedCommands : Obligations.OrderedCommands := by
  unfold Obligations.OrderedCommands
  refine ⟨?_, fun a b => sameSource_fields, fun s j => beginHeld_one⟩
  intro c row t r s j s1 hrow ht hwait
  have hw : mustWait j s1 = true := by
    obtain ⟨k, hk, hs, hd, ho⟩ | ⟨k, hk, hs⟩ := hwait
    · exact mustWait_inflight hk hs hd ho
    · exact mustWait_held hk hs
  rw [hrow, host_taken ht, takeUp_holds hw]

end Sys2Proof.Machine
end

section
/-! PROOF. Replies (spec/03 R73, R75, R76, R81): what a reply does on each transport, and the statement that gathers them. -/
namespace Sys2Proof.Machine

section
variable {s : State} {j : Job} {st detail at_ : Nat} {p body hdr : List Byte}

/-- The Sampler's record of a reply (Table 18-9). -/
def State.sampleReply (s : State) (j : Job) (st : Nat) : State :=
  s.sample 0x1001 0 [j.cls + 256 * j.op + 65536 * st, j.req.tag, j.req.session, j.firstId]

/-- A reply's payload: none of a failure, and none where none is wanted (R75). -/
def Job.replyBody (j : Job) (st : Nat) (p : List Byte) : List Byte :=
  if st.testBit 15 = true ∨ j.req.flags.testBit 0 = false then [] else p

/-- Something is answered: a failure always, a success where it is wanted (R75). -/
abbrev Job.answers (j : Job) (st : Nat) : Prop := st.testBit 15 = true ∨ j.req.flags.testBit 0 = true

theorem replyBody_eq : (if (st.testBit 15 || !j.wanted) = true then [] else p) = j.replyBody st p := by
  simp only [Job.replyBody, Job.wanted, Bool.or_eq_true, Bool.not_eq_true']

theorem silent_iff : (!st.testBit 15 && !j.wanted) = true ↔ ¬j.answers st := by
  simp only [Job.answers, Job.wanted, Bool.and_eq_true, Bool.not_eq_true', not_or, Bool.not_eq_true]

/-- The reply packet of a command (Table 3-2). -/
def Job.replyPacket (j : Job) (st detail at_ : Nat) (p : List Byte) : List Byte :=
  replyHeader j (16 + (j.replyBody st p).length) st detail at_ ++ j.replyBody st p

/-! ### SPI, the network and deferred commands -/

/-- An SPI port after a reply (R93). -/
def Spi.replied (x : Spi) (answers : Prop) [Decidable answers] (packet : List Byte) : Spi :=
  { x with held := x.held - 1, waiting := if answers then x.waiting ++ [packet] else x.waiting }

theorem replyAt_spi {safety : Bool} (hd : j.deferred = false) (htr : j.req.transport = if safety then .safetySpi else .spi) :
    s.replyAt j st detail at_ p = (s.sampleReply j st).setSpiPort safety
      (((s.sampleReply j st).spiPort safety).replied (j.answers st) (j.replyPacket st detail at_ p)) := by
  cases safety <;>
  · simp only [reduceIte, Bool.false_eq_true] at htr
    simp only [State.replyAt, hd, htr, replyBody_eq, silent_iff, Spi.replied]
    by_cases h : j.answers st <;> simp only [h, not_true_eq_false, not_false_eq_true, if_true, if_false] <;> rfl

theorem replyAt_session (hd : j.deferred = false) (htr : j.req.transport = .network) (hs : j.req.session ≠ 0) :
    s.replyAt j st detail at_ p = if j.answers st then
      (s.sampleReply j st).sendDatagram j.req.session (j.replyPacket st detail at_ p) else s.sampleReply j st := by
  simp only [State.replyAt, hd, htr, replyBody_eq, silent_iff, hs, if_false]
  rw [ite_not]
  rfl

/-- A deferred command has no reply, and its failure raises EVT_TXN (R76). -/
theorem replyAt_deferred (hd : j.deferred = true) :
    s.replyAt j st detail at_ p = (s.sampleReply j st).when (st.testBit 15) (·.evtTxn 0 4 0 st 0 j.req.tag) := by
  simp only [State.replyAt, hd, if_true]
  rfl

/-! ### PCIe (R81, R83) -/

theorem replyAt_pcie (hd : j.deferred = false) (htr : j.req.transport = .pcie) :
    s.replyAt j st detail at_ p = (s.sampleReply j st).complete j st detail at_ (j.replyBody st p) := by
  simp only [State.replyAt, hd, htr, replyBody_eq]
  rfl

/-- The completion queue of a command. -/
def State.cqOf (s : State) (j : Job) : Cq := s.hif.cqs.getD j.req.queue {}

/-- A completion entry that names reply buffer `buf` (Table 3-4). -/
def State.completionEntry (s : State) (j : Job) (hdr : List Byte) (buf : Nat) : Output :=
  .completion j.req.queue (slotAt (s.cqOf j).base 32 (s.cqOf j).tail)
    (hdr ++ leBytes 4 buf ++ leBytes 2 j.sqHead ++ leBytes 2 (b2n (s.cqOf j).phase) ++ zeros 8)

/-- Without payload and buffer a reply posts one entry on the paired queue, and no more. -/
theorem complete_plain (hup : s.hif.pcieUp = true) (hb : j.buf = false) : s.complete j st detail at_ [] = (({ s with
    hif := { s.hif with cqs := s.hif.cqs.set j.req.queue (s.cqOf j).post } } : State).emit
      (s.completionEntry j (replyHeader j 16 st detail at_) 0xFFFFFFFF)).raiseIrq j.req.queue := by
  unfold State.complete
  dsimp only
  rw [if_neg (by simp [hup]), hb]
  rfl

/-- What an interrupt leaves: the reply buffers, and the outputs that were. -/
def KeepsReplies (s u : State) : Prop := u.hif.rbuf = s.hif.rbuf ∧ ∀ o ∈ s.out, o ∈ u.out

theorem raiseIrq_keepsReplies (s : State) (c : Nat) : KeepsReplies s (s.raiseIrq c) := by
  unfold State.raiseIrq
  split
  · exact ⟨rfl, fun _ ho => ho⟩
  · dsimp only
    split
    · exact ⟨rfl, fun _ ho => List.mem_cons_of_mem _ ho⟩
    · exact ⟨rfl, fun _ ho => ho⟩

theorem when_raiseIrq_keepsReplies (s : State) (b : Bool) (c : Nat) : KeepsReplies s (s.when b (·.raiseIrq c)) := by
  cases b
  · exact ⟨rfl, fun _ ho => ho⟩
  · exact raiseIrq_keepsReplies s c

theorem KeepsReplies.trans {s u v : State} (h1 : KeepsReplies s u) (h2 : KeepsReplies u v) : KeepsReplies s v :=
  ⟨h2.1.trans h1.1, fun o ho => h2.2 o (h1.2 o ho)⟩

/-- A payload goes whole into the next reply buffer, which the entry names, and the buffer is used up. -/
def State.buffered (s : State) (j : Job) (hdr body : List Byte) : State :=
  (({ s with hif := { s.hif with
        rbuf := { s.hif.rbuf with reserved := s.hif.rbuf.reserved - 1, cons := (s.hif.rbuf.cons + 1) % m16 }
        cqs := s.hif.cqs.set j.req.queue (s.cqOf j).post } } : State).emit
    (.replyBuffer (s.hif.rbuf.cons % s.hif.rbuf.count) (slotAt s.hif.rbuf.base 1024 (s.hif.rbuf.cons % s.hif.rbuf.count))
      (hdr ++ body))).emit (s.completionEntry j hdr (s.hif.rbuf.cons % s.hif.rbuf.count))

/-- Beyond that a reply with a payload raises interrupts alone. -/
theorem complete_buffered (hup : s.hif.pcieUp = true) (hb : j.buf = true) (hp : body ≠ []) :
    KeepsReplies (s.buffered j (replyHeader j (16 + body.length) st detail at_) body) (s.complete j st detail at_ body) := by
  have hbody : body.isEmpty = false := List.isEmpty_eq_false_iff.2 hp
  unfold State.complete
  dsimp only
  rw [if_neg (by simp [hup]), hb, hbody]
  exact (raiseIrq_keepsReplies (s.buffered j (replyHeader j (16 + body.length) st detail at_) body) j.req.queue).trans
    (when_raiseIrq_keepsReplies _ _ 7)

end

/-- Settles O56: SPI ports, network sessions and deferred commands by the reply itself, PCIe by its completion entry. -/
theorem replyPackets : Obligations.ReplyPackets := by
  unfold Obligations.ReplyPackets
  rintro s s0 j st detail at_ p body hdr rfl rfl rfl
  refine ⟨fun hd safety htr => ?spi, fun hd htr hs => ?network, fun hd htr hup hbody hb _ => ?plain,
    fun hd htr hup hbody hb _ hcons => ?buffered, fun hd => ?deferred⟩
  case spi => exact replyAt_spi hd htr
  case network => exact replyAt_session hd htr hs
  case plain =>
    rw [hbody, replyAt_pcie hd htr, show j.replyBody st p = [] from hbody, complete_plain (s := s.sampleReply j st) hup hb]
    rfl
  case buffered =>
    have hkeeps := complete_buffered (s := s.sampleReply j st) (st := st) (detail := detail) (at_ := at_) hup hb hbody
    refine ⟨_, replyAt_pcie hd htr, ?_, ?_, ?_⟩
    · exact (congrArg Rbuf.cons hkeeps.1).trans (Nat.mod_eq_of_lt hcons)
    · exact hkeeps.2 _ (List.mem_cons_of_mem _ List.mem_cons_self)
    · exact hkeeps.2 _ List.mem_cons_self
  case deferred => exact replyAt_deferred hd

end Sys2Proof.Machine
end

section
/-! PROOF. What every row ends with when nothing waits, and the state at reset. -/
namespace Sys2Proof.Machine

/-- Settles O60: no held command begins, nothing was stepped over, and no transaction is done. -/
theorem quietSettle : Obligations.QuietSettle := by
  unfold Obligations.QuietSettle
  intro s hheld hstep hwaits
  have hlive : s.txn.live.filter (fun x => x.st = .applying && !s.txn.changes.any fun c => c.txn = x.handle) = [] := by
    rw [List.filter_eq_nil_iff]
    intro x hx hdone
    rw [Bool.and_eq_true, decide_eq_true_eq, Bool.not_eq_true', List.any_eq_false] at hdone
    obtain ⟨happ, hnone⟩ := hdone
    obtain ⟨c, hc, htxn⟩ := hwaits x hx happ
    exact hnone c hc (decide_eq_true htxn)
  simp only [settle, beginHeld_quiet s hheld, if_neg hstep, settleTxns_quiet s hlive]

/-- Settles O58: the reset state holds the values its fields start with. -/
theorem resetState : Obligations.ResetState := by
  unfold Obligations.ResetState
  refine ⟨rfl, rfl, rfl, rfl, rfl, rfl, rfl, rfl, rfl, rfl, rfl, rfl, ?heads, rfl, ?fences, ?srcs, ?ports, ?mem, ?applying⟩
  case heads =>
    intro h hh
    rw [List.eq_of_mem_replicate hh]
    exact ⟨rfl, rfl⟩
  case fences =>
    intro f hf
    rw [List.eq_of_mem_replicate hf]
  case srcs =>
    intro c hc
    rw [List.eq_of_mem_replicate hc]
  case ports =>
    intro p hp
    rw [List.eq_of_mem_replicate hp]
  case mem => decide
  case applying => exact fun x hx => absurd hx List.not_mem_nil

end Sys2Proof.Machine
end

section
/-! PROOF. SYS commands without effect (spec/04 R115, R116): NOP and IDENTIFY, whose reply is Table 4-29 field by field. -/
namespace Sys2Proof.Machine

/-- The payload of IDENTIFY (Table 4-29). -/
def State.identity (s : State) : List Byte :=
  leBytes 4 0x4A587264 ++ leBytes 4 s.hoop.otp.rev ++ leBytes 8 s.hoop.otp.serial ++ leBytes 4 s.hoop.fwHoop ++
    leBytes 4 s.hoop.fwBobbin ++ leBytes 2 0x0100 ++ leBytes 1 s.hoop.otp.lifecycle ++ leBytes 1 s.hoop.running ++
    leBytes 2 s.hoop.otp.dramGib ++ zeros 2 ++ leBytes 4 s.hoop.otp.arb ++ zeros 28

theorem nop_run (j : Job) (s : State) : cmdNop.run j s = .ok s j.req.payload := rfl

theorem identify_run (j : Job) (s : State) : cmdIdentify.run j s = .ok s s.identity := rfl

/-- Reserved bytes read as a field of value zero. -/
theorem zeros_eq_leBytes : ∀ n, zeros n = leBytes n 0
  | 0 => rfl
  | n + 1 => congrArg (0 :: ·) (zeros_eq_leBytes n)

@[simp] theorem zeros_length (n : Nat) : (zeros n).length = n := List.length_replicate

theorem identity_length (s : State) : s.identity.length = 64 := by
  simp only [State.identity, List.length_append, leBytes_length, zeros_length]

/-- The fields of Table 4-29 before its reserved tail. -/
theorem identity_fields (s : State) :
    uAt s.identity 0 4 = 0x4A587264 ∧ uAt s.identity 4 4 = s.hoop.otp.rev % m32 ∧ uAt s.identity 8 8 = s.hoop.otp.serial % m64 ∧
    uAt s.identity 16 4 = s.hoop.fwHoop % m32 ∧ uAt s.identity 20 4 = s.hoop.fwBobbin % m32 ∧ uAt s.identity 24 2 = 0x0100 ∧
    uAt s.identity 26 1 = s.hoop.otp.lifecycle % 256 ∧ uAt s.identity 27 1 = s.hoop.running % 256 ∧
    uAt s.identity 28 2 = s.hoop.otp.dramGib % m16 ∧ uAt s.identity 30 2 = 0 ∧ uAt s.identity 32 4 = s.hoop.otp.arb % m32 := by
  simp only [State.identity, zeros_eq_leBytes 2, List.append_assoc, uAt_skip, uAt_leBytes, Nat.reduceLeDiff, Nat.reduceSub,
    Nat.reducePow, Nat.reduceMod, Nat.zero_mod, m16, m32, m64, and_self]

theorem identity_tail (s : State) : s.identity.drop 36 = zeros 28 := by
  rw [State.identity, List.drop_left' (by simp only [List.length_append, leBytes_length, zeros_length])]

/-- Settles O47: both commands from their runs, and the payload of IDENTIFY by its fields. -/
theorem nopAndIdentify : Obligations.NopAndIdentify := by
  unfold Obligations.NopAndIdentify
  refine ⟨?nop, ?identify⟩
  case nop => exact Runs.of isRow_nop fun j s _ _ _ _ => ⟨s, _, nop_run j s, rfl, rfl⟩
  case identify =>
    refine Runs.of isRow_identify ?_
    rintro j s - - - -
    obtain ⟨hid, hrev, hserial, hhoop, hbobbin, hif, hlife, hslot, hdram, hrsv, harb⟩ := identity_fields s
    exact ⟨s, _, identify_run j s, rfl, identity_length s, hid, hrev, hserial, hhoop, hbobbin, hif, hlife, hslot, hdram, hrsv, harb,
      identity_tail s⟩

end Sys2Proof.Machine
end

section
/-! PROOF. The objects a command names (spec/04 R104): where their block does not answer, the order of the checks, and that a check
that fails is all the command does, at once or to be deferred. -/
namespace Sys2Proof.Machine

/-! ### Blocks that do not answer (R28, R29, Table 16-2) -/

section
variable {s : State} {id d : Nat}

theorem objOff_domain (h : s.objOff id = some d) : idDomain id = some d := (Option.filter_eq_some_iff.1 h).1

/-- An object answers where its domain is on with an open fabric port and, for a network port, the port has power. -/
theorem objOff_none_iff : s.objOff id = none ↔ ∀ d, idDomain id = some d → s.domainOn d ∧ s.pwr.portOpen.getD d true ∧
    (idType id = 0xD → s.portPowered (idIndex id)) := by
  rw [State.objOff, Option.filter_eq_none_iff]
  refine forall_congr' fun d => imp_congr_right fun _ => ?_
  by_cases ht : idType id = 0xD <;> simp [State.reachable, ht, and_assoc]

end

/-! ### The order of R104 -/

section
variable {c : Cmd} {j : Job} {s : State} {n : Nat × Nat} {d o : Nat}

/-- The first identifier out of range or not created. -/
def State.missing (s : State) (c : Cmd) (j : Job) : Option (Nat × Nat) :=
  (c.names j).find? fun n => !(idInRange n.2 && (c.creates || s.objExists n.2))

/-- The domain of the first object whose block does not answer. -/
def State.firstOff (s : State) (c : Cmd) (j : Job) : Option Nat := (c.names j).findSome? fun n => s.objOff n.2

theorem checkObjects_eq (c : Cmd) (j : Job) (s : State) : checkObjects c j s =
    match s.missing c j with
    | some n => some ⟨eNoObject, n.1⟩
    | none => match s.firstOff c j with
      | some d => some ⟨eDomainOff, 0xF200 + d⟩
      | none => match c.protect j s with
        | some o => some ⟨eProtected, o⟩
        | none => match (c.names j).find? fun n => s.underTest n.2 with
          | some n => some ⟨eBusy, n.2⟩
          | none => none := rfl

theorem missing_none (h : ∀ n ∈ c.names j, idInRange n.2 ∧ (c.creates ∨ s.objExists n.2)) : s.missing c j = none := by
  rw [State.missing, List.find?_eq_none]
  intro n hn
  simpa only [Bool.not_eq_true', Bool.not_eq_false, Bool.and_eq_true, Bool.or_eq_true] using h n hn

theorem firstOff_none (h : ∀ n ∈ c.names j, s.objOff n.2 = none) : s.firstOff c j = none := List.findSome?_eq_none_iff.2 h

/-- The first object whose block is off gives its domain. -/
theorem firstOff_some (hn : (c.names j).find? (fun n => (s.objOff n.2).isSome) = some n) (hd : s.objOff n.2 = some d) :
    s.firstOff c j = some d := by
  obtain ⟨-, before, after, hsplit, hon⟩ := List.find?_eq_some_iff_append.1 hn
  exact List.findSome?_eq_some_iff.2 ⟨before, n, after, hsplit, hd, fun x hx => by simpa using hon x hx⟩

theorem checkObjects_missing (h : s.missing c j = some n) : checkObjects c j s = some ⟨eNoObject, n.1⟩ := by
  rw [checkObjects_eq, h]

theorem checkObjects_off (hm : s.missing c j = none) (h : s.firstOff c j = some d) :
    checkObjects c j s = some ⟨eDomainOff, 0xF200 + d⟩ := by
  rw [checkObjects_eq, hm, h]

theorem checkObjects_protected (hm : s.missing c j = none) (hf : s.firstOff c j = none) (h : c.protect j s = some o) :
    checkObjects c j s = some ⟨eProtected, o⟩ := by
  rw [checkObjects_eq, hm, hf, h]

theorem checkObjects_underTest (hm : s.missing c j = none) (hf : s.firstOff c j = none) (hp : c.protect j s = none)
    (h : (c.names j).find? (fun n => s.underTest n.2) = some n) : checkObjects c j s = some ⟨eBusy, n.2⟩ := by
  rw [checkObjects_eq, hm, hf, hp, h]

/-! ### The reply is all the command does -/

/-- A command whose Stitch is not ahead executes now. -/
theorem Passes.begin_now (h : Passes c j s) (ht : j.req.txn = 0) (ha : ¬(atStitch j.req = true ∧ 0 < s.stitchDist j.req.stitch)) :
    begin_ c.budgeted j s = conclude j s (execCmd c.budgeted j s) := by
  have hden : c.budgeted.denied j s = none := h.denied
  have hnow : (atStitch j.req && decide (s.stitchDist j.req.stitch > 0)) = false := by
    simpa only [Bool.and_eq_false_iff, decide_eq_false_iff_not, not_and_or, Bool.not_eq_true] using ha
  simp only [begin_, check_budgeted, h.check, hden, ht, hnow]
  rfl

/-- A command that R104 refuses is answered at once, whether it is to execute now or to be deferred. -/
theorem Passes.begin_objects (h : Passes c j s) (ht : j.req.txn = 0) {e : Err} (he : checkObjects c j s = some e) :
    begin_ c.budgeted j s = s.reply j e.status e.detail [] := by
  have hfail : execCmd c.budgeted j s = .fail e.status e.detail := execCmd_objects he
  by_cases ha : atStitch j.req = true ∧ 0 < s.stitchDist j.req.stitch
  · obtain ⟨hat, hd⟩ := ha
    obtain ⟨hrefused, -⟩ := h.begin_ahead ht hat hd
    exact hrefused e (deferCheck_fails hfail (checkObjects_status he))
  · rw [h.begin_now ht ha, hfail, conclude]

end

/-- Settles O52: the domains by `objOff_none_iff`, the four checks in their order, each the whole of the command by
`Passes.begin_objects`. -/
theorem orderOfObjectChecks : Obligations.OrderOfObjectChecks := by
  unfold Obligations.OrderOfObjectChecks
  refine ⟨fun s id => objOff_none_iff, fun s id d => objOff_domain, ?order⟩
  case order =>
    intro c row t r s j s1 hrow ht hw hck hden htxn
    obtain ⟨-, -, hreq, -⟩ := taken_job ht
    subst hreq
    have refused : ∀ st d, checkObjects c j s1 = some ⟨st, d⟩ → exec (row t j.req) s = .next (settle (s1.reply j st d [])) := by
      intro st d h
      rw [exec_begins hrow ht hw, (Passes.mk hck hden).begin_objects htxn h]
    refine ⟨fun n hn => refused _ _ (checkObjects_missing hn), fun hexist => ?_⟩
    have hm : s1.missing c j = none := missing_none hexist
    refine ⟨fun n d hn hd => refused _ _ (checkObjects_off hm (firstOff_some hn hd)), fun hon => ?_⟩
    have hf : s1.firstOff c j = none := firstOff_none hon
    exact ⟨fun o ho => refused _ _ (checkObjects_protected hm hf ho),
      fun n hp hn => refused _ _ (checkObjects_underTest hm hf hp hn)⟩

end Sys2Proof.Machine
end

section
/-! PROOF. Transactions (spec/05): the handle of a new one (R120), what keeps a fence of a committing one (R128), and that no step
leaves one in APPLYING with nothing left to apply (R121). -/
namespace Sys2Proof.Machine

/-! ### Handles (R120) -/

/-- The handle `k` places after the next one in turn. -/
def State.handleAfter (s : State) (k : Nat) : Nat := (s.txn.lastHandle + k) % 65535 + 1

/-- The handles that live or recently finished transactions have. -/
def State.usedHandles (s : State) : List Nat := s.txn.live.map (·.handle) ++ s.txn.finished.map (·.handle)

theorem nextHandle_eq (s : State) : s.nextHandle =
    (((List.range 32).map s.handleAfter).find? fun h => !s.usedHandles.contains h).getD 0 := rfl

theorem handleAfter_range (s : State) (k : Nat) : 1 ≤ s.handleAfter k ∧ s.handleAfter k ≤ 65535 := by
  unfold State.handleAfter
  omega

/-- The handle in turn follows the previous one, and is 1 after 65,535. -/
theorem handleAfter_zero {s : State} (h : s.txn.lastHandle ≤ 65535) :
    s.handleAfter 0 = if s.txn.lastHandle = 65535 then 1 else s.txn.lastHandle + 1 := by
  unfold State.handleAfter
  split <;> omega

/-- The 32 handles considered are distinct. -/
theorem handlesAfter_nodup (s : State) : ((List.range 32).map s.handleAfter).Nodup := by
  refine List.Nodup.map_on (fun a ha b hb heq => ?_) List.nodup_range
  rw [List.mem_range] at ha hb
  unfold State.handleAfter at heq
  omega

/-- With fewer than 32 in use, one of them is free. -/
theorem exists_free_handle {s : State} (h : s.usedHandles.length < 32) :
    ∃ n ∈ (List.range 32).map s.handleAfter, n ∉ s.usedHandles := by
  by_contra hall
  push Not at hall
  have hle := ((handlesAfter_nodup s).subperm hall).length_le
  simp only [List.length_map, List.length_range] at hle
  omega

/-- The next handle is the first free one of those considered. -/
theorem nextHandle_free {s : State} (h : s.usedHandles.length < 32) :
    s.nextHandle ∈ (List.range 32).map s.handleAfter ∧ s.nextHandle ∉ s.usedHandles := by
  obtain ⟨n, hn, hfree⟩ := exists_free_handle h
  have hsome : (((List.range 32).map s.handleAfter).find? fun h => !s.usedHandles.contains h).isSome :=
    List.find?_isSome.2 ⟨n, hn, by simpa using hfree⟩
  obtain ⟨m, hm⟩ := Option.isSome_iff_exists.1 hsome
  rw [nextHandle_eq, hm]
  exact ⟨List.mem_of_find?_eq_some hm, by simpa using List.find?_some hm⟩

theorem nextHandle_inTurn {s : State} (h : s.handleAfter 0 ∉ s.usedHandles) : s.nextHandle = s.handleAfter 0 := by
  rw [nextHandle_eq, List.range_succ_eq_map, List.map_cons, List.find?_cons_of_pos (by simpa using h), Option.getD_some]

/-- Settles O57: at most 20 handles are in use, so one of the 32 considered is free, and the one in turn is the first of them. -/
theorem nextHandleIsFree : Obligations.NextHandleIsFree := by
  unfold Obligations.NextHandleIsFree
  rintro s used rfl hlive hfin
  have hfew : s.usedHandles.length < 32 := by
    simp only [State.usedHandles, List.length_append, List.length_map]
    omega
  obtain ⟨hmem, hfree⟩ := nextHandle_free hfew
  obtain ⟨k, -, hk⟩ := List.mem_map.1 hmem
  obtain ⟨hlo, hhi⟩ := handleAfter_range s k
  refine ⟨hk ▸ hlo, hk ▸ hhi, hfree, fun hlast hturn => ?_⟩
  rw [← handleAfter_zero hlast] at hturn ⊢
  exact nextHandle_inTurn hturn

/-! ### A fence that a committing transaction lists (R128) -/

theorem Fails.of {row : Nat → Request → Instr} {c : Cmd} {pre : Job → State → Prop} {err : Job → State → Nat × Nat} (hr : IsRow row c)
    (h : ∀ j s, clear c j s = true → pre j s → c.run j s = .fail (err j s).1 (err j s).2) : Fails row c pre err := by
  intro t r s j s1 ht hc hp
  rw [hr, host_clear ht hc, h j s1 hc hp, conclude]

theorem fenceUsed_committing {s : State} {id : Nat} {x : Txn} {f : Nat × Nat} (hx : x ∈ s.txn.live) (hc : x.st = .committing)
    (hf : f ∈ x.fences) (hid : f.1 = id) : s.fenceUsed id = true := by
  have hlists : (s.txn.live.any fun x => x.st = .committing && x.fences.any fun f => f.1 = id) = true := by
    rw [List.any_eq_true]
    exact ⟨x, hx, by simpa [hc] using ⟨f.2, hid ▸ hf⟩⟩
  simp [State.fenceUsed, hlists]

theorem fenceDestroy_busy {s : State} {j : Job} (h : s.fenceUsed (j.u16 0) = true) :
    cmdFenceDestroy.run j s = .fail eBusy (j.u16 0) := if_pos h

/-- Settles O50: a fence that a transaction in COMMITTING lists counts as used, and the run refuses those. -/
theorem fenceOfACommitStays : Obligations.FenceOfACommitStays := by
  unfold Obligations.FenceOfACommitStays
  refine Fails.of isRow_fenceDestroy ?_
  rintro j s - ⟨x, hx, hc, f, hf, hid⟩
  exact fenceDestroy_busy (fenceUsed_committing hx hc hf hid)

/-! ### APPLYING (R121, R137) -/

/-- A transaction in APPLYING whose changes have all been made. -/
def State.appliedNow (s : State) (x : Txn) : Bool := x.st = .applying && !s.txn.changes.any fun c => c.txn = x.handle

/-- What ends such a transaction: it is retired as APPLIED, with its event. -/
def State.endApplied (x : Txn) (s : State) : State :=
  (s.retireTxn { x with st := .applied, objects := [] }).evtTxn x.handle 1 0 0 0 0

theorem settleTxns_eq (s : State) : s.settleTxns = s.forEach (s.txn.live.filter s.appliedNow) State.endApplied := rfl

theorem endApplied_txn (x : Txn) (s : State) :
    (s.endApplied x).txn = (s.retireTxn { x with st := .applied, objects := [] }).txn := (evtTxn_delivers _ _ _ _ _ _ _).txn_eq

theorem appliedNow_eq_false {s : State} {x : Txn} :
    s.appliedNow x = false ↔ (x.st = .applying → ∃ c ∈ s.txn.changes, c.txn = x.handle) := by
  simp [State.appliedNow]

theorem applyingWaits_iff {s : State} : s.applyingWaits ↔ ∀ x ∈ s.txn.live, s.appliedNow x = false := by
  simp only [State.applyingWaits, appliedNow_eq_false]

theorem endApplied_changes (x : Txn) (s : State) : (s.endApplied x).txn.changes = s.txn.changes := by
  rw [endApplied_txn]
  rfl

theorem mem_endApplied_live {x y : Txn} {s : State} :
    y ∈ (s.endApplied x).txn.live ↔ y ∈ s.txn.live ∧ y.handle ≠ x.handle := by
  simp [endApplied_txn, State.retireTxn]

/-- Ending transactions makes no change and leaves live only those of other handles. -/
theorem forEach_endApplied : ∀ (l : List Txn) (s : State), (s.forEach l State.endApplied).txn.changes = s.txn.changes ∧
    ∀ y ∈ (s.forEach l State.endApplied).txn.live, y ∈ s.txn.live ∧ ∀ x ∈ l, y.handle ≠ x.handle
  | [], s => ⟨rfl, fun y hy => ⟨hy, fun x hx => absurd hx List.not_mem_nil⟩⟩
  | x :: l, s => by
    obtain ⟨hchanges, hlive⟩ := forEach_endApplied l (s.endApplied x)
    refine ⟨hchanges.trans (endApplied_changes x s), fun y hy => ?_⟩
    obtain ⟨hmem, hrest⟩ := hlive y hy
    obtain ⟨hs, hx⟩ := mem_endApplied_live.1 hmem
    exact ⟨hs, List.forall_mem_cons.2 ⟨hx, hrest⟩⟩

/-- Once those with nothing left to apply have ended, each transaction in APPLYING has a change that waits. -/
theorem settleTxns_applyingWaits (s : State) : s.settleTxns.applyingWaits := by
  rw [applyingWaits_iff, settleTxns_eq]
  intro x hx
  obtain ⟨hchanges, hlive⟩ := forEach_endApplied (s.txn.live.filter s.appliedNow) s
  obtain ⟨hs, hothers⟩ := hlive x hx
  have hsame : State.appliedNow (s.forEach (s.txn.live.filter s.appliedNow) State.endApplied) x = s.appliedNow x := by
    simp only [State.appliedNow, hchanges]
  rw [hsame, Bool.eq_false_iff]
  exact fun happ => hothers x (List.mem_filter.2 ⟨hs, happ⟩) rfl

/-- What every row ends with ends with the transactions. -/
theorem settle_applyingWaits (s : State) : (settle s).applyingWaits := settleTxns_applyingWaits _

/-- Every row of the table ends with `settle`. -/
theorem exec_settles (c : Instr) (s : State) : ∃ v, exec c s = .next (settle v) := by
  cases c <;> exact ⟨_, rfl⟩

/-- Settles O59: a step of a queue that is not empty ends with `settle`; on the empty queue the state stays. -/
theorem applyingWaitsIsKept : Obligations.ApplyingWaitsIsKept := by
  unfold Obligations.ApplyingWaitsIsKept
  have hbusy : ∀ s u : State, s.pending ≠ [] → step s = .next u → u.applyingWaits := by
    intro s u hp hstep
    obtain ⟨c, rest, hq⟩ := List.exists_cons_of_ne_nil hp
    obtain ⟨v, hv⟩ := exec_settles c { s with pending := rest }
    simp only [step, hq, hv, Host.Outcome.next.injEq] at hstep
    exact hstep ▸ settle_applyingWaits v
  refine ⟨fun s u hs hstep => ?_, hbusy⟩
  cases hq : s.pending with
  | nil =>
    simp only [step, hq, Host.Outcome.next.injEq] at hstep
    exact hstep ▸ hs
  | cons c rest => exact hbusy s u (by simp [hq]) hstep

end Sys2Proof.Machine
end

section
/-! PROOF. The layer commands (spec/09 R217-R236): the edit of each, its run where the ratios and the limits hold, and the statement
that gathers them. -/
namespace Sys2Proof.Machine

section
variable {j : Job} {s : State} {lut : List (Nat × Nat)} {c : LayerCfg}

/-! ### The edit of each command (Tables 9-1 to 9-4) -/

theorem layerEdit_bind (hc : j.cls = 0x20) (ho : j.op = 0x01) : layerEdit lut j c =
    if idType (j.u16 0) = 3 then { c with
      source := if j.u16 2 = 0 then none else some (idIndex (j.u16 2)), rowLatch := j.u8 5 = 1
      paused := c.paused && j.u16 2 ≠ 0 }
    else { c with format := j.u8 4 } := by
  simp only [layerEdit, hc, ho]

theorem layerEdit_place (hc : j.cls = 0x20) (ho : j.op = 0x02) (h : j.u16 2 ≠ 0) :
    layerEdit lut j c = { c with dest := j.rect 4, z := j.u8 12 } := by
  simp only [layerEdit, hc, ho, if_neg h]

theorem layerEdit_remove (hc : j.cls = 0x20) (ho : j.op = 0x02) (h : j.u16 2 = 0) :
    layerEdit lut j c = { c with dest := {}, z := 0, paused := false } := by
  simp only [layerEdit, hc, ho, if_pos h]

theorem layerEdit_scale (hc : j.cls = 0x20) (ho : j.op = 0x03) : layerEdit lut j c = { c with
    coef := idIndex (j.u16 2) - 0xC0, crop := j.rect 4, phaseH := j.s16 12, phaseV := j.s16 14, nearest := j.u8 16 = 1 } := by
  simp only [layerEdit, hc, ho]

theorem layerEdit_enable (hc : j.cls = 0x20) (ho : j.op = 0x05) : layerEdit lut j c = { c with enable := true } := by
  simp only [layerEdit, hc, ho]

theorem layerEdit_disable (hc : j.cls = 0x20) (ho : j.op = 0x06) : layerEdit lut j c = { c with enable := false } := by
  simp only [layerEdit, hc, ho]

theorem layerEdit_alpha (hc : j.cls = 0x20) (ho : j.op = 0x08) : layerEdit lut j c = { c with alpha := j.u8 2 } := by
  simp only [layerEdit, hc, ho]

/-! ### Acceptance (R227, R252) -/

/-- Only what an edit makes of the layer as it is matters. -/
theorem modLayer_congr {i : Nat} {f g : Layer → Layer} (h : f (s.layer i) = g (s.layer i)) : s.modLayer i f = s.modLayer i g := by
  simp only [State.modLayer, modAt_congr s.lay.layers i f g {} h]

theorem limitErr_none {i : Nat} (h : s.withinLimits i) : s.limitErr (s.layer i).head.toList = none := by
  refine if_pos (List.all_eq_true.2 fun k hk => ?_)
  rw [Bool.or_eq_true, Bool.not_eq_true']
  cases hen : (s.head k).accEnable with
  | false => exact Or.inl rfl
  | true => exact Or.inr (h k (by simpa using hk) hen)

/-- An edit within the limits goes to the heads of the layer. -/
theorem acceptEdit_ok {s1 : State} {extra : List Nat} (h : s1.withinLimits j.layer) :
    s.acceptEdit j extra s1 = .ok (s1.affectLayer j j.layer (s.layerHeads j.layer ++ extra)) [] := by
  simp only [State.acceptEdit, limitErr_none h, ite_self]

theorem acceptEdit_heads {s1 : State} (h : s1.withinLimits j.layer) :
    s.acceptEdit j [] s1 = .ok (s1.affectLayer j j.layer (s.layerHeads j.layer)) [] := by
  rw [acceptEdit_ok h, List.append_nil]

/-! ### The runs (R220-R222, R232) -/

theorem layerBind_run {f : LayerCfg → LayerCfg} (he : ∀ c, layerEdit c.preLut j c = f c)
    (htyp : j.u16 2 ≠ 0 → (s.src (idIndex (j.u16 2))).typ ≠ 4) (hlock : s.lockedLayer j j.layer = false)
    (hq : s.queuedFlips j.layer = [])
    (hlim : ((s.edited j.layer f).modLayer j.layer fun l => { l with everBound := true }).withinLimits j.layer) :
    cmdLayerBind.run j s = .ok (((s.edited j.layer f).modLayer j.layer fun l => { l with everBound := true }).affectLayer j j.layer
      (s.layerHeads j.layer)) [] := by
  refine (if_neg (by simpa using htyp)).trans ((if_neg (by simp [hlock])).trans ((if_neg (by simp [hq])).trans ?_))
  rw [editAccepted_edited he, acceptEdit_heads hlim]

theorem layerPlace_removes (hc : j.cls = 0x20) (ho : j.op = 0x02) (h0 : j.u16 2 = 0) (hlock : s.lockedLayer j j.layer = false) :
    cmdLayerPlace.run j s = .ok ((s.modLayer j.layer fun l => { l with
      head := none, cfg := { l.cfg with dest := {}, z := 0, paused := false } }).affectLayer j j.layer (s.layerHeads j.layer)) [] := by
  refine (if_pos h0).trans ((if_neg (by simp [hlock])).trans ?_)
  rw [layerEdit_remove hc ho h0, modLayer_congr (g := fun l => { l with
    head := none, cfg := { l.cfg with dest := {}, z := 0, paused := false } }) rfl]

/-- The layer as LAYER_PLACE accepts it on a head. A layer that comes there starts from its settings in force, without a pause. -/
def State.placed (s : State) (j : Job) : State :=
  s.modLayer j.layer fun l => { l with
    head := some (idIndex (j.u16 2)), cfg := { l.cfg with dest := j.rect 4, z := j.u8 12, paused := false }
    snap := { (if (s.layerHeads j.layer).isEmpty then l.base else l.cfg) with paused := false } }

/-- The layer as LAYER_PLACE accepts it at a new place on its head. -/
def State.replaced (s : State) (j : Job) : State := s.edited j.layer fun c => { c with dest := j.rect 4, z := j.u8 12 }

/-- The ratios that LAYER_PLACE asks for (R227). -/
def State.placeRatios (s : State) (j : Job) : Prop :=
  isVideo j.layer → s.ratiosOk j j.layer { s.ratioBase j with dest := j.rect 4, z := j.u8 12 }

theorem placeRatios_none (hr : s.placeRatios j) : (if (isVideo j.layer && !s.fixedJob j) = true then
    s.ratioErr { s.ratioBase j with dest := j.rect 4, z := j.u8 12 } (s.lockedLayer j j.layer) else none) = none := by
  split
  · next h => exact hr (Bool.and_eq_true_iff.1 h).1
  · rfl

theorem layerPlace_replaces (hc : j.cls = 0x20) (ho : j.op = 0x02) (h0 : j.u16 2 ≠ 0)
    (hh : (s.layer j.layer).head = some (idIndex (j.u16 2))) (hr : s.placeRatios j) (hlim : (s.replaced j).withinLimits j.layer) :
    cmdLayerPlace.run j s =
      .ok ((s.replaced j).affectLayer j j.layer (s.layerHeads j.layer ++ [idIndex (j.u16 2)])) [] := by
  refine (if_neg h0).trans ?_
  simp only [layerEdit_place hc ho h0, placeRatios_none hr, hh, ne_eq, not_true_eq_false, decide_false, Bool.false_and,
    Bool.false_eq_true, if_false]
  rw [← acceptEdit_ok hlim, State.replaced, State.edited]
  congr 1
  refine modLayer_congr ?_
  simp only [← hh]
  rfl

theorem layerPlace_moves (hc : j.cls = 0x20) (ho : j.op = 0x02) (h0 : j.u16 2 ≠ 0)
    (hh : (s.layer j.layer).head ≠ some (idIndex (j.u16 2))) (hr : s.placeRatios j) (hlock : s.lockedLayer j j.layer = false)
    (hroom : (s.placedOn (idIndex (j.u16 2))).length < 16) (hlim : (s.placed j).withinLimits j.layer) :
    cmdLayerPlace.run j s =
      .ok ((s.placed j).affectLayer j j.layer (s.layerHeads j.layer ++ [idIndex (j.u16 2)])) [] := by
  refine (if_neg h0).trans ?_
  simp only [layerEdit_place hc ho h0, placeRatios_none hr]
  simp only [hlock, Bool.and_false, Bool.false_eq_true, if_false, ge_iff_le, not_le.2 hroom, decide_false, hh, ne_eq,
    not_false_eq_true]
  rw [← acceptEdit_ok hlim, State.placed]
  congr 1
  refine modLayer_congr ?_
  cases (s.layerHeads j.layer).isEmpty <;> rfl

theorem layerScale_run {f : LayerCfg → LayerCfg} (he : ∀ lut c, layerEdit lut j c = f c) (hdest : ∀ c, (f c).dest = c.dest)
    (hr : (s.ratioBase j).dest.w ≠ 0 → s.ratiosOk j j.layer (f (s.ratioBase j)))
    (hlim : (s.edited j.layer f).withinLimits j.layer) :
    cmdLayerScale.run j s = .ok ((s.edited j.layer f).affectLayer j j.layer (s.layerHeads j.layer)) [] := by
  have hnone : (if (decide ((s.ratioBase j).dest.w ≠ 0) && !s.fixedJob j) = true then
      s.ratioErr (f (s.ratioBase j)) (s.lockedLayer j j.layer) else none) = none := by
    split
    · next h => exact hr (of_decide_eq_true (Bool.and_eq_true_iff.1 h).1)
    · rfl
  simp only [cmdLayerScale, he, hdest, hnone]
  rw [editAccepted_edited fun c => he _ c, acceptEdit_heads hlim]

theorem layerEnable_run {f : LayerCfg → LayerCfg} (he : ∀ c, layerEdit c.preLut j c = f c)
    (hoff : (s.layer j.layer).cfg.enable = false) (hlim : (s.edited j.layer f).withinLimits j.layer) :
    cmdLayerEnable.run j s = .ok ((s.edited j.layer f).affectLayer j j.layer (s.layerHeads j.layer)) [] := by
  refine (if_neg (by simp [hoff])).trans ?_
  rw [editAccepted_edited he, acceptEdit_heads hlim]

/-! ### BLEND_ORDER (R232) -/

/-- The layers that BLEND_ORDER lists. -/
def Job.blendIds (j : Job) : List Nat := (List.range (j.u8 3)).map fun i => layerIndex (j.u16 (4 + 2 * i))

/-- An entry of a list without repeats does not stand before itself. -/
theorem getD_not_mem_take {l : List Nat} (h : l.Nodup) {i : Nat} (hi : i < l.length) : l.getD i 0 ∉ l.take i := by
  rw [List.getD_eq_getElem l 0 hi]
  intro hmem
  obtain ⟨k, hk, heq⟩ := List.mem_take_iff_getElem.1 hmem
  have := (h.getElem_inj_iff).1 heq
  omega

theorem blendOrder_run (hn : j.blendIds.Nodup) (hon : ∀ i ∈ j.blendIds, (s.layer i).head = some (idIndex (j.u16 0)))
    (hall : j.u8 2 = 1 → ∀ x ∈ s.placedOn (idIndex (j.u16 0)), x.1 ∈ j.blendIds) :
    cmdBlendOrder.run j s = .ok (s.affect j [idIndex (j.u16 0)]) [] := by
  have hgood : (List.range (j.u8 3)).find? (fun i => (s.layer (j.blendIds.getD i 0)).head ≠ some (idIndex (j.u16 0)) ||
      (j.blendIds.take i).contains (j.blendIds.getD i 0)) = none := by
    rw [List.find?_eq_none]
    intro i hi
    have hlt : i < j.blendIds.length := by simpa [Job.blendIds] using hi
    have hmem : j.blendIds.getD i 0 ∈ j.blendIds := by
      rw [List.getD_eq_getElem _ 0 hlt]
      exact List.getElem_mem hlt
    rw [Bool.or_eq_true, decide_eq_true_eq, List.contains_iff_mem]
    exact not_or.2 ⟨not_not.2 (hon _ hmem), getD_not_mem_take hn hlt⟩
  have hlisted : (decide (j.u8 2 = 1) && !s.fixedJob j &&
      (s.placedOn (idIndex (j.u16 0))).any fun x => !j.blendIds.contains x.1) = false := by
    by_cases h1 : j.u8 2 = 1
    · have hany : ((s.placedOn (idIndex (j.u16 0))).any fun x => !j.blendIds.contains x.1) = false := by
        rw [List.any_eq_false]
        intro x hx
        simpa using hall h1 x hx
      rw [hany, Bool.and_false]
    · simp [h1]
  rw [Job.blendIds] at hgood hlisted
  simp only [cmdBlendOrder, hgood, hlisted, ite_self]
  rfl

end

/-! ### The rows -/

theorem isRow_layerBind : IsRow .layerBind cmdLayerBind := fun _ _ _ => rfl
theorem isRow_layerPlace : IsRow .layerPlace cmdLayerPlace := fun _ _ _ => rfl
theorem isRow_layerScale : IsRow .layerScale cmdLayerScale := fun _ _ _ => rfl
theorem isRow_layerEnable : IsRow .layerEnable cmdLayerEnable := fun _ _ _ => rfl
theorem isRow_layerDisable : IsRow .layerDisable cmdLayerDisable := fun _ _ _ => rfl
theorem isRow_layerAlpha : IsRow .layerAlpha cmdLayerAlpha := fun _ _ _ => rfl
theorem isRow_blendOrder : IsRow .blendOrder cmdBlendOrder := fun _ _ _ => rfl

/-- Settles O15: each command from its run and its edit. -/
theorem layerCommands : Obligations.LayerCommands := by
  unfold Obligations.LayerCommands
  refine ⟨?bind, ?remove, ?replace, ?move, ?scale, ?enable, ?enabled, ?disable, ?disabled, ?alpha, ?blend⟩
  case bind =>
    rintro e rfl
    refine Runs.of isRow_layerBind ?_
    rintro j s hc ho - ⟨htyp, hlock, hq, hlim⟩
    exact ⟨_, _, layerBind_run (fun c => layerEdit_bind hc ho) htyp hlock hq hlim, rfl, rfl⟩
  case remove =>
    refine Runs.of isRow_layerPlace ?_
    rintro j s hc ho - ⟨h0, hlock⟩
    exact ⟨_, _, layerPlace_removes hc ho h0 hlock, rfl, rfl⟩
  case replace =>
    refine Runs.of isRow_layerPlace ?_
    rintro j s hc ho - ⟨h0, hh, hr, hlim⟩
    exact ⟨_, _, layerPlace_replaces hc ho h0 hh hr hlim, rfl, rfl⟩
  case move =>
    rintro m rfl
    refine Runs.of isRow_layerPlace ?_
    rintro j s hc ho - ⟨h0, hh, hr, hlock, hroom, hlim⟩
    exact ⟨_, _, layerPlace_moves hc ho h0 hh hr hlock hroom hlim, rfl, rfl⟩
  case scale =>
    rintro e rfl
    refine Runs.of isRow_layerScale ?_
    rintro j s hc ho - ⟨hr, hlim⟩
    exact ⟨_, _, layerScale_run (fun lut c => layerEdit_scale hc ho) (fun _ => rfl) hr hlim, rfl, rfl⟩
  case enable =>
    refine Runs.of isRow_layerEnable ?_
    rintro j s hc ho - ⟨hoff, hlim⟩
    exact ⟨_, _, layerEnable_run (fun c => layerEdit_enable hc ho) hoff hlim, rfl, rfl⟩
  case enabled => exact Runs.of isRow_layerEnable fun j s _ _ _ hon => ⟨_, _, if_pos hon, rfl, rfl⟩
  case disable =>
    refine Runs.of isRow_layerDisable ?_
    rintro j s hc ho - hon
    refine ⟨_, _, if_pos hon, rfl, ?_⟩
    rw [editAccepted_edited fun c => layerEdit_disable hc ho]
  case disabled => exact Runs.of isRow_layerDisable fun j s _ _ _ hoff => ⟨_, _, if_neg (by simp [hoff]), rfl, rfl⟩
  case alpha =>
    refine Runs.of isRow_layerAlpha ?_
    rintro j s hc ho - -
    refine ⟨_, _, rfl, rfl, ?_⟩
    rw [editAccepted_edited fun c => layerEdit_alpha hc ho]
  case blend =>
    rintro ids rfl
    refine Runs.of isRow_blendOrder ?_
    rintro j s - - - ⟨hn, hon, hall⟩
    exact ⟨_, _, blendOrder_run hn hon hall, rfl, rfl⟩

end Sys2Proof.Machine
end

section
/-! PROOF. Where an accepted change goes (spec/05 R130-R133, R517): to the heads it affects, at once or at their apply lines, or to the
next Stitch boundary. -/
namespace Sys2Proof.Machine

theorem eraseDups_of_nodup : ∀ {l : List Nat}, l.Nodup → l.eraseDups = l
  | [], _ => List.eraseDups_nil
  | a :: l, h => by
    obtain ⟨ha, hl⟩ := List.nodup_cons.1 h
    have hkeep : l.filter (fun b => !b == a) = l :=
      List.filter_eq_self.2 fun b hb => by simpa using fun hba : b = a => ha (hba ▸ hb)
    rw [List.eraseDups_cons, hkeep, eraseDups_of_nodup hl]

section
variable {j : Job} {s : State}

theorem atOnce_immediate {h : Nat} (hi : (s.head h).immediate = true) : s.atOnce j h = true := by
  simp [State.atOnce, hi]

theorem atOnce_direct (ht : j.req.txn = 0) (h : Nat) : s.atOnce j h = (s.head h).immediate := by
  simp [State.atOnce, ht]

theorem waits_cons (h : Nat) (hs : List Nat) : s.waits j (h :: hs) = (s.waits j [h]).waits j hs := by
  simp [State.waits]

/-- On heads that take no change at once, what `affect` does is wait for each. -/
theorem forEach_waits (ht : j.req.txn = 0) : ∀ (heads : List Nat) (s : State), (∀ h ∈ heads, (s.head h).immediate = false) →
    (s.forEach heads fun h s => if s.atOnce j h then applyJob j h s else s.waits j [h]) = s.waits j heads
  | [], s, _ => by simp [State.waits]
  | h :: hs, s, hi => by
    obtain ⟨hh, hrest⟩ := List.forall_mem_cons.1 hi
    have hwait : ¬s.atOnce j h = true := by simp [atOnce_direct ht, hh]
    rw [State.forEach_cons, if_neg hwait, forEach_waits ht hs (s.waits j [h]) hrest, ← waits_cons]

theorem affect_eq (heads : List Nat) : s.affect j heads =
    s.forEach heads.eraseDups fun h s => if s.atOnce j h then applyJob j h s else s.waits j [h] := rfl

theorem affect_waits {heads : List Nat} (ht : j.req.txn = 0) (hn : heads.Nodup) (hi : ∀ h ∈ heads, (s.head h).immediate = false) :
    s.affect j heads = s.waits j heads := by
  rw [affect_eq, eraseDups_of_nodup hn, forEach_waits ht heads s hi]

theorem affect_immediate {h : Nat} (hi : (s.head h).immediate = true) : s.affect j [h] = applyJob j h s :=
  if_pos (atOnce_immediate hi)

theorem affectLayer_nowhere {i : Nat} (ht : j.req.txn = 0) (hl : s.layerHeads i = []) : s.affectLayer j i [] = s.atBoundary j := by
  simp [State.affectLayer, hl, txnPlaces_direct ht, ht]

theorem affectLayer_heads {i : Nat} {extra heads : List Nat} (hh : heads = s.layerHeads i ++ extra ++ s.txnPlaces j i)
    (hne : heads ≠ []) : s.affectLayer j i extra = s.affect j heads.eraseDups := by
  have hnonempty : heads.eraseDups.isEmpty = false := by
    obtain ⟨h, hs, rfl⟩ := List.exists_cons_of_ne_nil hne
    rw [List.eraseDups_cons, List.isEmpty_cons]
  rw [State.affectLayer, ← hh, hnonempty]
  rfl

end

/-- Settles O16: `affect` on heads that wait and on one that does not, `affectLayer` with heads and with none. -/
theorem changesWaitForTheApplyLine : Obligations.ChangesWaitForTheApplyLine := by
  unfold Obligations.ChangesWaitForTheApplyLine
  exact ⟨fun s j heads ht hn hi => affect_waits ht hn hi, fun s j h hi => affect_immediate hi,
    fun s j i ht hl => affectLayer_nowhere ht hl, fun s j i extra heads hh hne => affectLayer_heads hh hne,
    fun s h => ⟨_, rfl, rfl⟩⟩

end Sys2Proof.Machine
end

section
/-! PROOF. What a layer change does when it comes into force (spec/05 R131, R134, spec/09 R217-R237): an edit of a tile, a layer that
joins a head, one that leaves its last head. -/
namespace Sys2Proof.Machine

section
variable {j : Job} {h i : Nat} {s : State} {t : Tile}

/-! ### A job that edits a layer -/

/-- An edit that neither places nor removes its layer, on a tile that the layer has. -/
theorem applyJob_edits (hl : isLayerEdit j = true) (hp : ¬(j.cls = 0x20 ∧ j.op = 0x02)) :
    applyJob j h s = s.editTile j (layerIndex (j.u16 0)) h := by
  have hother : (decide (j.cls = 0x20) && decide (j.op = 0x02)) = false := by
    simpa only [Bool.and_eq_false_iff, decide_eq_false_iff_not, not_and_or] using hp
  simp only [applyJob, hl, hother, Bool.false_and, Bool.false_eq_true, if_false, if_true]

theorem isLayerEdit_place (hc : j.cls = 0x20) (ho : j.op = 0x02) : isLayerEdit j = true := by
  simp [isLayerEdit, hc, ho]

theorem applyJob_moves (hc : j.cls = 0x20) (ho : j.op = 0x02) (hh : j.u16 2 = headId h)
    (ht : s.tile? (layerIndex (j.u16 0)) h = some t) : applyJob j h s = s.editTile j (layerIndex (j.u16 0)) h := by
  simp [applyJob, isLayerEdit_place hc ho, hc, ho, hh, ht]

theorem applyJob_joins (hc : j.cls = 0x20) (ho : j.op = 0x02) (hh : j.u16 2 = headId h)
    (ht : s.tile? (layerIndex (j.u16 0)) h = none) : applyJob j h s = s.joinHead (layerIndex (j.u16 0)) h
      (layerEdit (s.layer (layerIndex (j.u16 0))).cfg.preLut j (s.layer (layerIndex (j.u16 0))).snap) := by
  simp [applyJob, isLayerEdit_place hc ho, hc, ho, hh, ht]

theorem applyJob_leaves (hc : j.cls = 0x20) (ho : j.op = 0x02) (hh : j.u16 2 ≠ headId h) :
    applyJob j h s = s.leaveHead (layerIndex (j.u16 0)) h := by
  simp [applyJob, isLayerEdit_place hc ho, hc, ho, hh]

/-! ### An edit of a tile (R211, R221, R222) -/

/-- An edit of a tile's settings that ends neither a hold nor a pause and changes no guard. -/
structure PlainEdit (c e : LayerCfg) : Prop where
  source : e.source = c.source
  guarded : e.guarded = c.guarded
  enable : c.enable = true → e.enable = true
  paused : c.paused = true → e.paused = true

/-- Such an edit changes the settings of the tile, and releases what a new place hides. -/
theorem editTile_plain {e : LayerCfg} (ht : s.tile? i h = some t) (hb : ¬(j.cls = 0x20 ∧ j.op = 0x01))
    (he : layerEdit (s.layer i).cfg.preLut j t.cfg = e) (hp : PlainEdit t.cfg e) :
    s.editTile j i h = (s.modTile i h fun t => { t with cfg := e }).when (e.dest ≠ t.cfg.dest) (·.releaseHidden h) := by
  obtain ⟨hsource, hguarded, henable, hpaused⟩ := hp
  have hunbound : (t.cfg.source.isSome && decide (e.source = none)) = false := by
    rw [hsource]
    cases t.cfg.source <;> rfl
  have hresumed : (t.cfg.paused && !e.paused) = false := by
    cases hc : t.cfg.paused <;> simp [hpaused, hc]
  have hoff : (t.cfg.enable && !e.enable && !e.paused) = false := by
    cases hc : t.cfg.enable <;> simp [henable, hc]
  have hbind : (!isVideo i && decide (j.cls = 0x20) && decide (j.op = 0x01)) = false := by
    rw [Bool.and_assoc]
    simp only [Bool.and_eq_false_iff, decide_eq_false_iff_not]
    exact Or.inr (not_and_or.1 hb)
  simp only [State.editTile, ht, he, hunbound, hresumed, hoff, hbind, hguarded, Bool.not_and_self, Bool.and_not_self, Bool.or_self,
    Bool.false_and, Bool.false_eq_true, if_false, State.when]

theorem editTile_settings {e : LayerCfg} (ht : s.tile? i h = some t) (hb : ¬(j.cls = 0x20 ∧ j.op = 0x01))
    (he : layerEdit (s.layer i).cfg.preLut j t.cfg = e) (hp : PlainEdit t.cfg e) (hd : e.dest = t.cfg.dest) :
    s.editTile j i h = s.modTile i h fun t => { t with cfg := e } := by
  rw [editTile_plain ht hb he hp]
  exact if_neg (by simp [hd])

/-- A policy for a layer that is guarded already changes its policy alone. -/
theorem layerEdit_policy {lut : List (Nat × Nat)} {c : LayerCfg} (hc : j.cls = 0x12) (ho : j.op = 0x01) (ha : j.u8 4 = 0)
    (hg : c.guarded = true) : layerEdit lut j c = { c with policy := policyEdit j c.policy } := by
  rw [layerEdit_setPolicy hc ho ha, ← hg]

/-- A direct edit of other settings than place and binding changes those of the tile in force, and nothing else. -/
theorem applyJob_settings {e : LayerCfg} (hl : isLayerEdit j = true) (hm : ¬(j.cls = 0x20 ∧ j.op = 0x02))
    (hb : ¬(j.cls = 0x20 ∧ j.op = 0x01)) (ht : s.tile? (layerIndex (j.u16 0)) h = some t)
    (he : layerEdit (s.layer (layerIndex (j.u16 0))).cfg.preLut j t.cfg = e) (hp : PlainEdit t.cfg e) (hd : e.dest = t.cfg.dest) :
    applyJob j h s = s.modTile (layerIndex (j.u16 0)) h fun t => { t with cfg := e } := by
  rw [applyJob_edits hl hm, editTile_settings ht hb he hp hd]

/-- A new place on the head that the layer is on. -/
theorem applyJob_newPlace {e : LayerCfg} (ht : s.tile? (layerIndex (j.u16 0)) h = some t) (hc : j.cls = 0x20) (ho : j.op = 0x02)
    (hh : j.u16 2 = headId h) (he : e = { t.cfg with dest := j.rect 4, z := j.u8 12 }) :
    applyJob j h s = (s.modTile (layerIndex (j.u16 0)) h fun t => { t with cfg := e }).when (j.rect 4 ≠ t.cfg.dest)
      (·.releaseHidden h) := by
  have hid : j.u16 2 ≠ 0 := by
    rw [hh, headId]
    omega
  rw [applyJob_moves hc ho hh ht, editTile_plain (e := e) ht (by omega) (by rw [layerEdit_place hc ho hid, he])
    (by subst he; exact ⟨rfl, rfl, id, id⟩), he]

/-! ### A layer joins a head (R134, R237) -/

theorem tile?_eq_find (s : State) (i h : Nat) : s.tile? i h = (s.tilesOf i).find? fun t => t.head = h := by
  rw [State.tile?, State.tilesOf, List.find?_filter]
  simp only [Bool.decide_and, decide_eq_true_eq]

theorem newestTile_none (h : s.tilesOf i = []) : s.newestTile i = none := by
  rw [State.tilesOf] at h
  rw [State.newestTile, h, List.foldl_nil]

/-- The tile of a layer that was on no head. -/
def State.firstTile (s : State) (i h : Nat) (c : LayerCfg) : Tile where
  layer := i
  head := h
  placed := s.lay.placeCount + 1
  cfg := c
  queue := (s.layer i).queue.map fun f => { f with onHead := none }
  applied := (s.layer i).applied
  picot := (s.layer i).picot

theorem newTile_first (hn : s.tilesOf i = []) (c : LayerCfg) : s.newTile i h c = s.firstTile i h c := by
  simp only [State.newTile, newestTile_none hn]
  rfl

theorem joinHead_tiles (hn : s.tilesOf i = []) (c : LayerCfg) : (s.joinHead i h c).lay.tiles = s.lay.tiles ++ [s.firstTile i h c] := by
  rw [← newTile_first hn]
  rfl

theorem joinHead_heads (c : LayerCfg) : (s.joinHead i h c).heads =
    modAt s.heads h fun x => { x with order := if x.programmable && !x.order.contains i then x.order ++ [i] else x.order } := rfl

/-! ### A layer leaves its last head (R134, R224) -/

theorem releaseTile_free (ht : s.tile? i h = some t) (hhold : t.hold = false) (hprev : t.prevHeld = none) :
    s.releaseTile i h = s.modTile i h fun t => { t with prevHeld := none } := by
  simp only [State.releaseTile, ht, hhold, hprev]
  cases t.latched <;> rfl

/-- The tile of a layer that is on one head. -/
structure OnlyTile (s : State) (i h : Nat) (t : Tile) : Prop where
  tiles : s.tilesOf i = [t]
  head : t.head = h

theorem OnlyTile.tile? (ho : OnlyTile s i h t) : s.tile? i h = some t := by
  rw [tile?_eq_find, ho.tiles, List.find?_cons_of_pos (by simp [ho.head])]

/-- The state without a tile of a layer, once nothing is held there. -/
def State.dropTile (s : State) (i h : Nat) : State :=
  let u := s.modTile i h fun t => { t with prevHeld := none }
  ({ u with lay := { u.lay with tiles := u.lay.tiles.filter fun x => !(x.layer = i && x.head = h) } } : State).modHead h fun x =>
    { x with order := x.order.filter (· ≠ i) }

theorem OnlyTile.head_of_mem (ho : OnlyTile s i h t) {x : Tile} (hx : x ∈ s.lay.tiles) (hi : x.layer = i) : x.head = h := by
  have hmem : x ∈ s.tilesOf i := List.mem_filter.2 ⟨hx, by simpa using hi⟩
  rw [ho.tiles, List.mem_singleton] at hmem
  rw [hmem, ho.head]

theorem OnlyTile.dropTile (ho : OnlyTile s i h t) : (s.dropTile i h).tilesOf i = [] := by
  refine List.filter_eq_nil_iff.2 fun y hy hi => ?_
  obtain ⟨hy, hkept⟩ := List.mem_filter.1 hy
  obtain ⟨x, hx, rfl⟩ := List.mem_map.1 hy
  have hplace : ∀ x : Tile, (if x.layer = i && x.head = h then { x with prevHeld := none } else x).layer = x.layer ∧
      (if x.layer = i && x.head = h then { x with prevHeld := none } else x).head = x.head := by
    intro x
    split <;> exact ⟨rfl, rfl⟩
  obtain ⟨hlayer, hhead⟩ := hplace x
  rw [hlayer] at hi
  rw [hlayer, hhead, ho.head_of_mem hx (of_decide_eq_true hi), hi] at hkept
  simp at hkept

/-- A layer's own settings, queue and buffer when it leaves its last head. -/
def Layer.takenBack (l : Layer) (t : Tile) : Layer :=
  { l with base := { t.cfg with dest := {}, z := 0, paused := false }, queue := t.queue, applied := t.applied, picot := t.picot }

theorem leaveHead_last (ho : OnlyTile s i h t) (hv : isVideo i = true) (hhold : t.hold = false) (hprev : t.prevHeld = none) :
    s.leaveHead i h = (s.dropTile i h).modLayer i (·.takenBack t) := by
  simp only [State.leaveHead, ho.tile?, releaseTile_free ho.tile? hhold hprev, hv, if_true]
  exact if_pos (by rw [List.isEmpty_iff]; exact ho.dropTile)

end

/-- Settles O17: the edits by `applyJob_settings`, a new place by `applyJob_newPlace`, a layer that comes or goes by the tile it gets or
loses. -/
theorem layerChangesInForce : Obligations.LayerChangesInForce := by
  unfold Obligations.LayerChangesInForce
  refine ⟨?settings, ?place, ?join, ?leave⟩
  case settings =>
    rintro j h s t e ht (⟨hc, ho, rfl⟩ | ⟨hc, ho, rfl⟩ | ⟨hc, ho, rfl⟩ | ⟨hc, ho, ha, hg, rfl⟩ | ⟨hc, ho, rfl⟩)
    · exact applyJob_settings (by simp [isLayerEdit, hc, ho]) (by omega) (by omega) ht (layerEdit_alpha hc ho) ⟨rfl, rfl, id, id⟩ rfl
    · exact applyJob_settings (by simp [isLayerEdit, hc, ho]) (by omega) (by omega) ht (layerEdit_enable hc ho)
        ⟨rfl, rfl, fun _ => rfl, id⟩ rfl
    · exact applyJob_settings (by simp [isLayerEdit, hc, ho]) (by omega) (by omega) ht (layerEdit_scale hc ho) ⟨rfl, rfl, id, id⟩ rfl
    · exact applyJob_settings (by simp [isLayerEdit, hc]) (by omega) (by omega) ht (layerEdit_policy hc ho ha hg) ⟨rfl, rfl, id, id⟩ rfl
    · exact applyJob_settings (by simp [isLayerEdit, hc]) (by omega) (by omega) ht (layerEdit_pause hc ho)
        ⟨rfl, rfl, id, fun _ => rfl⟩ rfl
  case place =>
    rintro j h s t e s1 ht hc ho hh he rfl
    rw [applyJob_newPlace ht hc ho hh he]
    exact ⟨fun heq => if_neg (by simp [heq]), fun hne => if_pos (by simp [hne])⟩
  case join =>
    rintro j h s i l rfl rfl hc ho hh hid hn
    have hnone : s.tile? (layerIndex (j.u16 0)) h = none := by rw [tile?_eq_find, hn, List.find?_nil]
    refine ⟨_, applyJob_joins hc ho hh hnone, ?_, joinHead_heads _⟩
    rw [joinHead_tiles hn, layerEdit_place hc ho (hh ▸ hid)]
    rfl
  case leave =>
    rintro j h s i t rfl hc ho h0 hi hv htiles hhead - hhold hprev
    have honly : OnlyTile s (layerIndex (j.u16 0)) h t := ⟨htiles, hhead⟩
    have hother : j.u16 2 ≠ headId h := by
      rw [h0, headId]
      omega
    have hself : ((s.dropTile (layerIndex (j.u16 0)) h).modLayer (layerIndex (j.u16 0)) (·.takenBack t)).layer
        (layerIndex (j.u16 0)) = (s.layer (layerIndex (j.u16 0))).takenBack t := modAt_getD_self _ _ _ _ hi
    refine ⟨_, (applyJob_leaves hc ho hother).trans (leaveHead_last honly hv hhold hprev), honly.dropTile, ?_, ?_, ?_, rfl⟩
    · rw [hself, Layer.takenBack]
    · rw [hself, Layer.takenBack]
    · rw [hself, Layer.takenBack]

end Sys2Proof.Machine
end

section
/-! PROOF. Frames of the display work: what releasing pictures, latching, serving flips and bringing changes into force leave of a state. -/
namespace Sys2Proof.Machine

/-! ### Three frames -/

/-- `u` has the heads, the memory, the clock and the transactions of `s`. -/
structure KeepsHeads (s u : State) : Prop where
  heads : u.heads = s.heads
  mem : u.mem = s.mem
  clk : u.clk = s.clk
  txn : u.txn = s.txn

/-- `u` differs from `s` in no head but `h`, and in neither memory, clock nor transactions. -/
structure OnlyHead (h : Nat) (s u : State) : Prop where
  others : ∀ k, k ≠ h → u.head k = s.head k
  length : u.heads.length = s.heads.length
  mem : u.mem = s.mem
  clk : u.clk = s.clk
  txn : u.txn = s.txn

/-- Bringing a change into force makes or loses no head, makes no change that waits, and touches neither memory nor clock. -/
structure Applies (s u : State) : Prop where
  length : u.heads.length = s.heads.length
  mem : u.mem = s.mem
  clk : u.clk = s.clk
  changes : u.txn.changes ⊆ s.txn.changes

section
variable {s u v : State} {h : Nat}

theorem KeepsHeads.refl (s : State) : KeepsHeads s s := ⟨rfl, rfl, rfl, rfl⟩

theorem KeepsHeads.trans (h1 : KeepsHeads s u) (h2 : KeepsHeads u v) : KeepsHeads s v :=
  ⟨h2.heads.trans h1.heads, h2.mem.trans h1.mem, h2.clk.trans h1.clk, h2.txn.trans h1.txn⟩

theorem KeepsHeads.after (h2 : KeepsHeads u v) (h1 : KeepsHeads s u) : KeepsHeads s v := h1.trans h2

theorem OnlyHead.refl (h : Nat) (s : State) : OnlyHead h s s := ⟨fun _ _ => rfl, rfl, rfl, rfl, rfl⟩

theorem OnlyHead.trans (h1 : OnlyHead h s u) (h2 : OnlyHead h u v) : OnlyHead h s v :=
  ⟨fun k hk => (h2.others k hk).trans (h1.others k hk), h2.length.trans h1.length, h2.mem.trans h1.mem, h2.clk.trans h1.clk,
    h2.txn.trans h1.txn⟩

theorem Applies.refl (s : State) : Applies s s := ⟨rfl, rfl, rfl, fun _ hc => hc⟩

theorem Applies.trans (h1 : Applies s u) (h2 : Applies u v) : Applies s v :=
  ⟨h2.length.trans h1.length, h2.mem.trans h1.mem, h2.clk.trans h1.clk, fun _ hc => h1.changes (h2.changes hc)⟩

theorem Applies.after (h2 : Applies u v) (h1 : Applies s u) : Applies s v := h1.trans h2

theorem KeepsHeads.head_eq (hk : KeepsHeads s u) (k : Nat) : u.head k = s.head k := by
  rw [State.head, hk.heads, State.head]

theorem KeepsHeads.onlyHead (hk : KeepsHeads s u) (h : Nat) : OnlyHead h s u :=
  ⟨fun _ _ => hk.head_eq _, congrArg List.length hk.heads, hk.mem, hk.clk, hk.txn⟩

theorem OnlyHead.applies (ho : OnlyHead h s u) : Applies s u :=
  ⟨ho.length, ho.mem, ho.clk, by rw [ho.txn]; exact fun _ hc => hc⟩

theorem KeepsHeads.applies (hk : KeepsHeads s u) : Applies s u := (hk.onlyHead 0).applies

theorem Delivers.keepsHeads (hd : Delivers s u) : KeepsHeads s u := ⟨hd.heads_eq, hd.mem_eq, hd.clk_eq, hd.txn_eq⟩

theorem KeepsHeads.ite {c : Prop} [Decidable c] (h1 : KeepsHeads s u) (h2 : KeepsHeads s v) : KeepsHeads s (if c then u else v) := by
  split
  · exact h1
  · exact h2

theorem KeepsHeads.when {b : Bool} {f : State → State} (hf : KeepsHeads s (f s)) : KeepsHeads s (s.when b f) :=
  KeepsHeads.ite hf (KeepsHeads.refl s)

theorem KeepsHeads.forEach {α : Type} {f : α → State → State} (hf : ∀ a s, KeepsHeads s (f a s)) (l : List α) (s : State) :
    KeepsHeads s (s.forEach l f) :=
  State.forEach_keeps (p := KeepsHeads s) (fun a u hu => hu.trans (hf a u)) l s (KeepsHeads.refl s)

theorem Applies.ite {c : Prop} [Decidable c] (h1 : Applies s u) (h2 : Applies s v) : Applies s (if c then u else v) := by
  split
  · exact h1
  · exact h2

theorem Applies.when {b : Bool} {f : State → State} (hf : Applies s (f s)) : Applies s (s.when b f) := Applies.ite hf (Applies.refl s)

theorem Applies.forEach {α : Type} {f : α → State → State} (hf : ∀ a s, Applies s (f a s)) (l : List α) (s : State) :
    Applies s (s.forEach l f) :=
  State.forEach_keeps (p := Applies s) (fun a u hu => hu.trans (hf a u)) l s (Applies.refl s)

end

theorem modHead_onlyHead (s : State) (h : Nat) (f : Head → Head) : OnlyHead h s (s.modHead h f) :=
  ⟨fun _ hk => modAt_getD_other _ _ _ _ _ hk, modAt_length _ _ _, rfl, rfl, rfl⟩

theorem head_modHead {s : State} {h : Nat} (hh : h < s.heads.length) (f : Head → Head) : (s.modHead h f).head h = f (s.head h) :=
  modAt_getD_self _ _ _ _ hh

theorem modHead_applies (s : State) (h : Nat) (f : Head → Head) : Applies s (s.modHead h f) := (modHead_onlyHead s h f).applies

theorem modTile_keepsHeads (s : State) (i h : Nat) (f : Tile → Tile) : KeepsHeads s (s.modTile i h f) := ⟨rfl, rfl, rfl, rfl⟩
theorem modLayer_keepsHeads (s : State) (i : Nat) (f : Layer → Layer) : KeepsHeads s (s.modLayer i f) := ⟨rfl, rfl, rfl, rfl⟩
theorem modSlk_keepsHeads (s : State) (ch : Nat) (f : Slk → Slk) : KeepsHeads s (s.modSlk ch f) := ⟨rfl, rfl, rfl, rfl⟩
theorem modCtx_keepsHeads (s : State) (ch : Nat) (f : Ctx → Ctx) : KeepsHeads s (s.modCtx ch f) := ⟨rfl, rfl, rfl, rfl⟩
theorem modEnc_keepsHeads (s : State) (ec : Nat) (f : Enc → Enc) : KeepsHeads s (s.modEnc ec f) := ⟨rfl, rfl, rfl, rfl⟩
theorem modDp_keepsHeads (s : State) (p : Nat) (f : DpPort → DpPort) : KeepsHeads s (s.modDp p f) := ⟨rfl, rfl, rfl, rfl⟩
theorem modAud_keepsHeads (s : State) (f : Aud → Aud) : KeepsHeads s (s.modAud f) := ⟨rfl, rfl, rfl, rfl⟩
theorem modRec_keepsHeads (s : State) (o n : Nat) (f : GimpRec → GimpRec) : KeepsHeads s (s.modRec o n f) := ⟨rfl, rfl, rfl, rfl⟩

theorem finish_keepsHeads (s : State) (j : Job) (a b : Nat) (p : List Byte) : KeepsHeads s (s.finish j a b p) :=
  (finish_delivers s j a b p).keepsHeads
theorem finish?_keepsHeads (s : State) (j : Option Job) (a b : Nat) (p : List Byte) : KeepsHeads s (s.finish? j a b p) :=
  (finish?_delivers s j a b p).keepsHeads
theorem record_keepsHeads (s : State) (c o : Nat) (a : List Nat) : KeepsHeads s (s.record c o a) := (record_delivers s c o a).keepsHeads
theorem emit_keepsHeads (s : State) (o : Output) : KeepsHeads s (s.emit o) := (emit_delivers s o).keepsHeads

/-! ### Releasing pictures (R218, R224) -/

/-- `u` differs from `s` at most in what decoding and the layers hold. -/
def Releases (s u : State) : Prop := u = { s with dec := u.dec, lay := u.lay }

section
variable {s u v : State}

theorem Releases.refl (s : State) : Releases s s := rfl

theorem Releases.trans (h1 : Releases s u) (h2 : Releases u v) : Releases s v := by
  unfold Releases at *
  rw [h2, h1]

theorem Releases.after (h2 : Releases u v) (h1 : Releases s u) : Releases s v := h1.trans h2

theorem Releases.ite {c : Prop} [Decidable c] (h1 : Releases s u) (h2 : Releases s v) : Releases s (if c then u else v) := by
  split
  · exact h1
  · exact h2

theorem Releases.forEach {α : Type} {f : α → State → State} (hf : ∀ a s, Releases s (f a s)) (l : List α) (s : State) :
    Releases s (s.forEach l f) :=
  State.forEach_keeps (p := Releases s) (fun a u hu => hu.trans (hf a u)) l s (Releases.refl s)

theorem Releases.keepsHeads (hr : Releases s u) : KeepsHeads s u := by
  rw [hr]
  exact ⟨rfl, rfl, rfl, rfl⟩

theorem Releases.io_eq (hr : Releases s u) : u.io = s.io := by rw [hr]
theorem Releases.ses_eq (hr : Releases s u) : u.ses = s.ses := by rw [hr]

end

theorem modTile_releases (s : State) (i h : Nat) (f : Tile → Tile) : Releases s (s.modTile i h f) := rfl
theorem modCtx_releases (s : State) (ch : Nat) (f : Ctx → Ctx) : Releases s (s.modCtx ch f) := rfl
theorem modRec_releases (s : State) (o n : Nat) (f : GimpRec → GimpRec) : Releases s (s.modRec o n f) := rfl

theorem sweep_releases (s : State) (ch : Nat) : Releases s (s.sweep ch) :=
  Releases.forEach (fun _ s => (modRec_releases s _ _ _).trans (modCtx_releases _ _ _)) _ s

theorem modHeld_releases (s : State) (l : Nat × Nat) (f : Buf → Buf) : Releases s (s.modHeld l f) :=
  Releases.ite (modCtx_releases s _ _) (Releases.refl s)

theorem placeHold_releases (s : State) (i h : Nat) (l : Nat × Nat) : Releases s (s.placeHold i h l) := modHeld_releases s l _

theorem dropHold_releases (s : State) (i h : Nat) (l : Nat × Nat) : Releases s (s.dropHold i h l) := by
  unfold State.dropHold
  dsimp only
  refine Releases.ite ?swept ?kept
  case swept => exact (sweep_releases _ _).after (modHeld_releases s l _)
  case kept => exact modHeld_releases s l _

/-- A tile's release lets go of the previous picture that it holds. -/
def State.dropPrevious (s : State) (t : Tile) (i h : Nat) : State := match t.prevHeld with
  | some l => if t.hold && t.latched = some l then s else s.dropHold i h l
  | none => s

/-- And of the one it has latched. -/
def State.dropLatched (s : State) (t : Tile) (i h : Nat) : State := match t.latched, t.hold with
  | some l, true => (s.dropHold i h l).modTile i h fun t => { t with hold := false, prevHeld := none }
  | _, _ => s.modTile i h fun t => { t with prevHeld := none }

theorem releaseTile_some {s : State} {i h : Nat} {t : Tile} (ht : s.tile? i h = some t) :
    s.releaseTile i h = (s.dropPrevious t i h).dropLatched t i h := by
  simp only [State.releaseTile, ht]
  rfl

theorem dropPrevious_releases (s : State) (t : Tile) (i h : Nat) : Releases s (s.dropPrevious t i h) := by
  unfold State.dropPrevious
  split
  · exact Releases.ite (Releases.refl s) (dropHold_releases s i h _)
  · exact Releases.refl s

theorem dropLatched_releases (s : State) (t : Tile) (i h : Nat) : Releases s (s.dropLatched t i h) := by
  unfold State.dropLatched
  split
  · exact (modTile_releases _ i h _).after (dropHold_releases s i h _)
  · exact modTile_releases s i h _

theorem releaseTile_releases (s : State) (i h : Nat) : Releases s (s.releaseTile i h) := by
  cases ht : s.tile? i h with
  | none =>
    simp only [State.releaseTile, ht]
    exact Releases.refl s
  | some t =>
    rw [releaseTile_some ht]
    exact (dropLatched_releases _ t i h).after (dropPrevious_releases s t i h)

theorem releaseHidden_releases (s : State) (h : Nat) : Releases s (s.releaseHidden h) :=
  Releases.forEach (f := fun (t : Tile) s => s.releaseTile t.layer h) (fun t s => releaseTile_releases s t.layer h) _ s

/-! ### Flips (R237-R239) -/

theorem settleFlips_keepsHeads (s : State) (i : Nat) : KeepsHeads s (s.settleFlips i) := by
  unfold State.settleFlips
  dsimp only
  refine (KeepsHeads.forEach (fun f s => ?_) _ _).after ((modLayer_keepsHeads _ i _).after ?_)
  · exact KeepsHeads.ite (finish_keepsHeads s _ _ _ _) (finish_keepsHeads s _ _ _ _)
  · exact KeepsHeads.forEach (fun n s => modRec_keepsHeads s (graphicId i) n _) _ s

theorem serveTile_keepsHeads (s : State) (t : Tile) (limit : Int) (step : Nat) : KeepsHeads s (s.serveTile t limit step) := by
  unfold State.serveTile
  refine KeepsHeads.ite (KeepsHeads.refl s) ((settleFlips_keepsHeads _ _).after ((modLayer_keepsHeads _ _ _).after ?_))
  exact modTile_keepsHeads s _ _ _

/-! ### Latching and the fetch of a frame (R223, R288) -/

theorem lateSlice_keepsHeads (s : State) (ch at_ : Nat) : KeepsHeads s (s.lateSlice ch at_) := modSlk_keepsHeads s ch _

theorem sliceVerdict_keepsHeads (s : State) (t : Tile) : KeepsHeads s (s.sliceVerdict t) := by
  unfold State.sliceVerdict
  split
  · exact KeepsHeads.refl s
  · exact (KeepsHeads.when (lateSlice_keepsHeads s _ _)).trans (modSlk_keepsHeads _ _ _)

/-- A tile places its hold on a picture, where there is one. -/
def State.tryHold (s : State) (t : Tile) : Option (Nat × Nat) → State
  | some l => s.placeHold t.layer t.head l
  | none => s

/-- A tile drops its hold on a picture that is stale. -/
def State.tryDrop (s : State) (t : Tile) (stale : Nat × Nat → Bool) : Option (Nat × Nat) → State
  | some l => if stale l then s.dropHold t.layer t.head l else s
  | none => s

/-- The previous output picture, where its buffer is there (R287). -/
def State.beside (s : State) (t : Tile) (new : Option (Nat × Nat)) : Option (Nat × Nat) := match s.sliceTile t with
  | some ch => (new.bind fun l => (s.ctx ch).before l.2).bind fun b =>
      if (s.ctx ch).bufs.any fun x => x.seq = b.seq then some (0x1000 + ch, b.seq) else none
  | none => none

/-- A paused tile keeps the picture that it holds (R68). -/
def State.keepPicture (s : State) (t : Tile) : State := match t.latched with
  | some l => (if t.hold then s else s.placeHold t.layer t.head l).modTile t.layer t.head fun t =>
      { t with hold := true, latchFrame := some (s.head t.head).frame, frameCells := [], frameLines := [] }
  | none => s

/-- The holds of a tile that takes the picture `new`, with `prev` beside it. -/
def State.moveHolds (s : State) (t : Tile) (new prev : Option (Nat × Nat)) : State :=
  (s.tryHold t prev).tryDrop t (fun l => some l ≠ new && some l ≠ prev) t.prevHeld

/-- A tile takes a picture: it holds the new one, and the previous one beside it (R224, R287). -/
def State.takePicture (s : State) (t : Tile) (new : Option (Nat × Nat)) : State :=
  let u := (s.tryHold t new).tryDrop t (fun l => t.hold && new ≠ some l) t.latched
  (u.moveHolds t new (u.beside t new)).modTile t.layer t.head fun x => { x with
    latched := new, hold := new.isSome, prevHeld := u.beside t new
    latchFrame := some ((u.moveHolds t new (u.beside t new)).head t.head).frame, frameCells := [], frameLines := [] }

theorem latch_eq (s : State) (t : Tile) : s.latch t =
    if t.cfg.guarded && t.cfg.paused && t.latched.isSome && t.freshFrom.isNone then s.keepPicture t
    else s.takePicture t (s.content t) := rfl

theorem tryHold_keepsHeads (s : State) (t : Tile) (o : Option (Nat × Nat)) : KeepsHeads s (s.tryHold t o) := by
  cases o with
  | none => exact KeepsHeads.refl s
  | some l => exact (placeHold_releases s _ _ l).keepsHeads

theorem tryDrop_keepsHeads (s : State) (t : Tile) (stale : Nat × Nat → Bool) (o : Option (Nat × Nat)) :
    KeepsHeads s (s.tryDrop t stale o) := by
  cases o with
  | none => exact KeepsHeads.refl s
  | some l => exact KeepsHeads.ite (dropHold_releases s _ _ l).keepsHeads (KeepsHeads.refl s)

theorem keepPicture_keepsHeads (s : State) (t : Tile) : KeepsHeads s (s.keepPicture t) := by
  unfold State.keepPicture
  split
  · exact (modTile_keepsHeads _ _ _ _).after (KeepsHeads.ite (KeepsHeads.refl s) (placeHold_releases s _ _ _).keepsHeads)
  · exact KeepsHeads.refl s

theorem moveHolds_keepsHeads (s : State) (t : Tile) (new prev : Option (Nat × Nat)) : KeepsHeads s (s.moveHolds t new prev) :=
  (tryHold_keepsHeads s t prev).trans (tryDrop_keepsHeads _ t _ _)

theorem takePicture_keepsHeads (s : State) (t : Tile) (new : Option (Nat × Nat)) : KeepsHeads s (s.takePicture t new) :=
  ((tryHold_keepsHeads s t new).trans (tryDrop_keepsHeads _ t _ _)).trans
    ((moveHolds_keepsHeads _ t _ _).trans (modTile_keepsHeads _ _ _ _))

theorem latch_keepsHeads (s : State) (t : Tile) : KeepsHeads s (s.latch t) := by
  rw [latch_eq]
  exact KeepsHeads.ite (keepPicture_keepsHeads s t) (takePicture_keepsHeads s t _)

theorem evtDecode_keepsHeads (s : State) (a b c d e f : Nat) : KeepsHeads s (s.evtDecode a b c d e f) :=
  KeepsHeads.ite (modCtx_keepsHeads s _ _) (raiseOnce_delivers s _ _ _ _).keepsHeads

theorem taintRead_keepsHeads (s : State) (e : EccPixel) : KeepsHeads s (s.taintRead e) := by
  unfold State.taintRead
  refine (modRec_keepsHeads s e.object e.seq _).trans (KeepsHeads.ite (KeepsHeads.refl _) ?_)
  refine (modCtx_keepsHeads _ _ _).trans (KeepsHeads.ite ?_ (KeepsHeads.refl _))
  exact (modCtx_keepsHeads _ _ _).trans (evtDecode_keepsHeads _ _ _ _ _ _ _)

theorem readPixels_keepsHeads (s : State) (o n : Nat) (hit : List Nat → Bool) : KeepsHeads s (s.readPixels o n hit) :=
  (KeepsHeads.forEach (f := fun e s => State.taintRead s e) (fun e s => taintRead_keepsHeads s e) _ _).after ⟨rfl, rfl, rfl, rfl⟩

theorem seeLatched_keepsHeads (s : State) (i h : Nat) : KeepsHeads s (s.seeLatched i h) := by
  unfold State.seeLatched
  split
  · dsimp only
    split
    · exact (readPixels_keepsHeads _ _ _ _).after (modTile_keepsHeads s i h _)
    · exact modTile_keepsHeads s i h _
  · exact modTile_keepsHeads s i h _

theorem latchUnguarded_keepsHeads (s : State) (h : Nat) : KeepsHeads s (s.latchUnguarded h) :=
  KeepsHeads.forEach (fun t s => ((sliceVerdict_keepsHeads s t).trans (latch_keepsHeads _ t)).trans
    ((seeLatched_keepsHeads _ _ _).trans (modTile_keepsHeads _ _ _ _))) _ s

theorem rowLatchCells_keepsHeads (s : State) (h : Nat) : KeepsHeads s (s.rowLatchCells h) :=
  KeepsHeads.forEach (fun _ s => KeepsHeads.ite (KeepsHeads.refl s) (modTile_keepsHeads s _ _ _)) _ s

theorem markNotScanned_keepsHeads (s : State) (h : Nat) : KeepsHeads s (s.markNotScanned h) := ⟨rfl, rfl, rfl, rfl⟩

end Sys2Proof.Machine
end

section
/-! PROOF. Changes come into force (spec/05 R130-R135): whatever an accepted command changes on a head, no head is made or lost, no
change that waits is made, and memory and clock stay. -/
namespace Sys2Proof.Machine

/-! ### Layers and tiles -/

theorem evtAudio_keepsHeads (s : State) (a b c d e : Nat) : KeepsHeads s (s.evtAudio a b c d e) :=
  (raiseOnce_delivers s _ _ _ _).keepsHeads

theorem audUnguard_keepsHeads (s : State) (i : Nat) : KeepsHeads s (s.audUnguard i) := by
  unfold State.audUnguard
  dsimp only
  exact (KeepsHeads.forEach (fun r s => evtAudio_keepsHeads s _ _ _ _ _) _ _).after (modAud_keepsHeads s _)

theorem editIdle_keepsHeads (s : State) (j : Job) (i : Nat) : KeepsHeads s (s.editIdle j i) := by
  unfold State.editIdle
  dsimp only
  refine (KeepsHeads.when (modLayer_keepsHeads _ _ _)).after ((KeepsHeads.when (audUnguard_keepsHeads _ _)).after ?_)
  refine KeepsHeads.ite ?_ (modLayer_keepsHeads s i _)
  exact (settleFlips_keepsHeads _ _).after ((modLayer_keepsHeads _ i _).after (modLayer_keepsHeads s i _))

theorem releaseTile_keepsHeads (s : State) (i h : Nat) : KeepsHeads s (s.releaseTile i h) := (releaseTile_releases s i h).keepsHeads
theorem releaseHidden_keepsHeads (s : State) (h : Nat) : KeepsHeads s (s.releaseHidden h) := (releaseHidden_releases s h).keepsHeads

theorem editTile_applies (s : State) (j : Job) (i h : Nat) : Applies s (s.editTile j i h) := by
  unfold State.editTile
  split
  · exact Applies.when (editIdle_keepsHeads s j i).applies
  · dsimp only
    refine (Applies.ite ?rebound (Applies.refl _)).after ?_
    case rebound => exact ((modTile_keepsHeads _ _ _ _).trans (settleFlips_keepsHeads _ _)).applies
    refine (Applies.when (releaseHidden_keepsHeads _ h).applies).after ((Applies.when (modHead_applies _ h _)).after ?_)
    refine (Applies.ite ?unguarded (Applies.refl _)).after ?_
    case unguarded => exact ((KeepsHeads.when (audUnguard_keepsHeads _ _)).after (modTile_keepsHeads _ _ _ _)).applies
    refine (Applies.when (modTile_keepsHeads _ _ _ _).applies).after ((modTile_keepsHeads _ _ _ _).applies.after ?_)
    exact Applies.ite (releaseTile_keepsHeads s i h).applies (Applies.refl s)

theorem joinHead_applies (s : State) (i h : Nat) (c : LayerCfg) : Applies s (s.joinHead i h c) :=
  (modHead_applies _ h _).after ((modLayer_keepsHeads _ i _).applies.after ⟨rfl, rfl, rfl, fun _ hc => hc⟩)

theorem leaveHead_applies (s : State) (i h : Nat) : Applies s (s.leaveHead i h) := by
  unfold State.leaveHead
  split
  · exact Applies.refl s
  · dsimp only
    have hleft : ∀ u : State, Applies s u → Applies s (if isVideo i then u else u.settleFlips i) := fun u hu =>
      Applies.ite hu ((settleFlips_keepsHeads u i).applies.after hu)
    refine hleft _ ((Applies.ite (modLayer_keepsHeads _ i _).applies (Applies.refl _)).after ((modHead_applies _ h _).after ?_))
    exact Applies.trans (releaseTile_keepsHeads s i h).applies ⟨rfl, rfl, rfl, fun _ hc => hc⟩

/-! ### Slices (R280, R290) -/

theorem sliceMode_keepsHeads (s : State) (ch : Nat) (m : SlkMode) (n : Nat) : KeepsHeads s (s.sliceMode ch m n) :=
  (modSlk_keepsHeads s ch _).trans (record_keepsHeads _ _ _ _)

theorem sliceOff_keepsHeads (s : State) (ch : Nat) : KeepsHeads s (s.sliceOff ch) :=
  (KeepsHeads.when (sliceMode_keepsHeads s ch _ _)).trans (modSlk_keepsHeads _ ch _)

theorem setSlice_keepsHeads (s : State) (j : Job) (h : Nat) : KeepsHeads s (s.setSlice j h) :=
  KeepsHeads.ite ((modSlk_keepsHeads s _ _).trans (sliceMode_keepsHeads _ _ _ _)) (sliceOff_keepsHeads s _)

theorem sliceApply_keepsHeads (s : State) (h : Nat) : KeepsHeads s (s.sliceApply h) := by
  refine KeepsHeads.forEach (fun ch s => ?_) _ s
  split
  · exact (sliceMode_keepsHeads s ch _ _).trans (modSlk_keepsHeads _ ch _)
  · exact KeepsHeads.refl s

/-! ### Encode channels (Table 12-2) -/

theorem evtEncode_keepsHeads (s : State) (a b c d e f : Nat) : KeepsHeads s (s.evtEncode a b c d e f) :=
  KeepsHeads.ite ((modEnc_keepsHeads s _ _).trans (logOnly_delivers _ _ _ _).keepsHeads) (raiseOnce_delivers s _ _ _ _).keepsHeads

theorem sendRtp_keepsHeads (s : State) (ec port udp : Nat) (o : Output) (n dest : Nat) : KeepsHeads s (s.sendRtp ec port udp o n dest) :=
  KeepsHeads.ite ⟨rfl, rfl, rfl, rfl⟩
    (KeepsHeads.ite ((txFrame_delivers s _ _).trans (emit_delivers _ _)).keepsHeads (KeepsHeads.refl s))

theorem encEnd_keepsHeads (s : State) (ec n : Nat) : KeepsHeads s (s.encEnd ec n) :=
  (sendRtp_keepsHeads s _ _ _ _ _ _).trans ((modEnc_keepsHeads _ ec _).trans (evtEncode_keepsHeads _ _ _ _ _ _ _))

theorem encHalt_keepsHeads (s : State) (ec n : Nat) : KeepsHeads s (s.encHalt ec n) :=
  KeepsHeads.ite (KeepsHeads.ite (modEnc_keepsHeads s ec _) (encEnd_keepsHeads s ec n)) (KeepsHeads.refl s)

theorem encTiming_keepsHeads (s : State) (h : Nat) (a b : Timing) : KeepsHeads s (s.encTiming h a b) :=
  KeepsHeads.ite (KeepsHeads.refl s) (KeepsHeads.ite (modEnc_keepsHeads s _ _) (KeepsHeads.refl s))

/-! ### Heads (Tables 10-1 to 10-7) -/

theorem setTiming_applies (s : State) (h : Nat) (t : Timing) : Applies s (s.setTiming h t) :=
  Applies.ite ((modHead_applies s h _).trans ((encTiming_keepsHeads _ h _ _).trans (releaseHidden_keepsHeads _ h)).applies)
    (modHead_applies s h _)

theorem setBinding_applies (s : State) (h target stream : Nat) : Applies s (s.setBinding h target stream) :=
  (Applies.ite (encHalt_keepsHeads s _ _).applies (Applies.refl s)).trans (modHead_applies _ h _)

theorem setEnable_applies (s : State) (h : Nat) : Applies s (s.setEnable h) := Applies.ite (modHead_applies s h _) (Applies.refl s)

theorem setDisable_applies (s : State) (h : Nat) : Applies s (s.setDisable h) := by
  unfold State.setDisable
  dsimp only
  split
  · exact modHead_applies s h _
  · exact modHead_applies s h _
  · exact (finish?_keepsHeads s _ _ _ _).applies.trans (modHead_applies _ h _)
  · exact Applies.refl s

/-! ### DisplayPort ports (R267, R482) -/

theorem setDpState_keepsHeads (s : State) (p st : Nat) : KeepsHeads s (s.setDpState p st) :=
  KeepsHeads.ite (KeepsHeads.refl s) ((modDp_keepsHeads s p _).trans (record_keepsHeads _ _ _ _))

theorem releasePort_keepsHeads (s : State) (p : Nat) : KeepsHeads s (s.releasePort p) :=
  (setDpState_keepsHeads s p 4).trans (emit_keepsHeads _ _)

theorem trainNow_keepsHeads (s : State) (j : Job) : KeepsHeads s (s.trainNow j) := by
  unfold State.trainNow
  dsimp only
  refine KeepsHeads.ite (finish_keepsHeads s j _ _ _) (KeepsHeads.ite ?release (KeepsHeads.ite ?noSink (modDp_keepsHeads s _ _)))
  case release =>
    exact KeepsHeads.ite (finish_keepsHeads s j _ _ _) ((releasePort_keepsHeads s _).trans (finish_keepsHeads _ j _ _ _))
  case noSink => exact (setDpState_keepsHeads s _ _).trans (finish_keepsHeads _ j _ _ _)

theorem drivePattern_keepsHeads (s : State) (p a b : Nat) : KeepsHeads s (s.drivePattern p a b) :=
  (modDp_keepsHeads s p _).trans (emit_keepsHeads _ _)

theorem setPattern_keepsHeads (s : State) (j : Job) : KeepsHeads s (s.setPattern j) :=
  (drivePattern_keepsHeads s _ _ _).trans (KeepsHeads.ite (setDpState_keepsHeads _ _ _) (KeepsHeads.refl _))

/-! ### A change -/

theorem dropChanges_applies (s : State) (j : Job) : Applies s (s.dropChanges j) :=
  ⟨rfl, rfl, rfl, (dropChanges_sub s j).subset⟩

/-- An edit of a layer comes into force on a head. -/
theorem layerJob_applies (j : Job) (h : Nat) (s : State) (hl : isLayerEdit j = true) : Applies s (applyJob j h s) := by
  simp only [applyJob, hl, if_true]
  exact Applies.ite (leaveHead_applies s _ h) (Applies.ite (joinHead_applies s _ h _) (editTile_applies s j _ h))

theorem applyJob_applies (j : Job) (h : Nat) (s : State) : Applies s (applyJob j h s) := by
  by_cases hl : isLayerEdit j = true
  · exact layerJob_applies j h s hl
  unfold applyJob
  rw [if_neg hl]
  dsimp only
  split
  case h_1 => exact modHead_applies s h _
  case h_2 => exact setTiming_applies s h _
  case h_3 => exact Applies.ite (setBinding_applies s h _ _) (Applies.refl s)
  case h_4 => exact (dropChanges_applies s j).trans (trainNow_keepsHeads _ j).applies
  case h_5 => exact (dropChanges_applies s j).trans (setPattern_keepsHeads _ j).applies
  case h_6 => exact modHead_applies s h _
  case h_7 => exact modHead_applies s h _
  case h_8 => exact setEnable_applies s h
  case h_9 => exact setDisable_applies s h
  case h_10 => exact (setSlice_keepsHeads s j h).applies
  case h_11 => exact (sliceOff_keepsHeads s _).applies
  case h_12 => exact (sliceOff_keepsHeads s _).applies
  case h_13 => exact (sliceOff_keepsHeads s _).applies
  case h_14 => exact modHead_applies s h _
  case h_15 => exact modHead_applies s h _
  case h_16 => exact modHead_applies s h _
  case h_17 => exact (modHead_applies s h _).trans (modHead_applies _ h _)
  case h_18 => exact modHead_applies s h _
  case h_19 => exact Applies.refl s

/-- The state from which what waits for a head is applied: those changes wait no more. -/
def State.takeWaiting (s : State) (h : Nat) : State :=
  { s with txn := { s.txn with changes := s.txn.changes.filter fun c => c.head ≠ some h } }

theorem applyWaiting_eq (s : State) (h : Nat) : s.applyWaiting (some h) =
    (s.takeWaiting h).forEach (s.txn.changes.filter fun c => c.head = some h) fun c u => applyJob c.job h u := by
  refine List.foldl_ext _ _ _ fun u c hc => ?_
  have hhead : c.head = some h := of_decide_eq_true (List.mem_filter.1 hc).2
  simp only [applyChange, hhead]

theorem takeWaiting_applies (s : State) (h : Nat) : Applies s (s.takeWaiting h) := ⟨rfl, rfl, rfl, List.filter_sublist.subset⟩

theorem takeWaiting_applyWaiting (s : State) (h : Nat) : Applies (s.takeWaiting h) (s.applyWaiting (some h)) := by
  rw [applyWaiting_eq]
  exact Applies.forEach (fun (c : Change) u => applyJob_applies c.job h u) _ _

theorem applyWaiting_applies (s : State) (h : Nat) : Applies s (s.applyWaiting (some h)) :=
  (takeWaiting_applies s h).trans (takeWaiting_applyWaiting s h)

/-- Applying what waits for a head leaves nothing that waits for it (R131). -/
theorem applyWaiting_head {s : State} {h : Nat} {c : Change} (hc : c ∈ (s.applyWaiting (some h)).txn.changes) : c.head ≠ some h :=
  of_decide_eq_true (List.mem_filter.1 ((takeWaiting_applyWaiting s h).changes hc)).2

theorem applyWaiting_none {s : State} {h : Nat} (hn : ∀ c ∈ s.txn.changes, c.head ≠ some h) : s.applyWaiting (some h) = s := by
  have hmine : s.txn.changes.filter (fun c => c.head = some h) = [] :=
    List.filter_eq_nil_iff.2 fun c hc => by simpa using hn c hc
  have hrest : s.txn.changes.filter (fun c => c.head ≠ some h) = s.txn.changes :=
    List.filter_eq_self.2 fun c hc => by simpa using hn c hc
  rw [applyWaiting_eq, hmine, State.forEach_nil, State.takeWaiting, hrest]

theorem sliceApply_none {s : State} {h : Nat} (hn : ∀ k ∈ s.slk, k.head ≠ h ∨ k.mode ≠ .locked) : s.sliceApply h = s := by
  have hno : (List.range 64).filter (fun ch => (s.slice ch).mode = .locked && (s.slice ch).head = h) = [] := by
    refine List.filter_eq_nil_iff.2 fun ch _ hsel => ?_
    obtain ⟨hmode, hhead⟩ := by simpa using hsel
    have hin : s.slice ch ∈ s.slk := by
      rw [State.slice, List.getD_eq_getElem?_getD] at hmode ⊢
      cases hk : s.slk[ch]? with
      | none => simp [hk] at hmode
      | some k => exact List.mem_of_getElem? hk
    exact (hn _ hin).elim (· hhead) (· hmode)
  rw [State.sliceApply, hno, State.forEach_nil]

end Sys2Proof.Machine
end

section
/-! PROOF. A head's apply line (spec/05 R131, spec/10 R257-R261): the lines fetched so far are charged and the picture is taken, what
waits for the head comes into force, and the next frame start is fixed. -/
namespace Sys2Proof.Machine

/-! ### What is kept of a head -/

/-- `u` differs from `s` in no head but `h`, and there not in the part `π`. -/
structure PartKept {α : Type} (π : Head → α) (h : Nat) (s u : State) : Prop extends OnlyHead h s u where
  part : π (u.head h) = π (s.head h)

section
variable {α : Type} {π : Head → α} {h : Nat} {s u v : State}

theorem PartKept.refl (π : Head → α) (h : Nat) (s : State) : PartKept π h s s := ⟨OnlyHead.refl h s, rfl⟩

theorem PartKept.trans (h1 : PartKept π h s u) (h2 : PartKept π h u v) : PartKept π h s v :=
  ⟨h1.toOnlyHead.trans h2.toOnlyHead, h2.part.trans h1.part⟩

theorem PartKept.after (h2 : PartKept π h u v) (h1 : PartKept π h s u) : PartKept π h s v := h1.trans h2

theorem PartKept.ite {c : Prop} [Decidable c] (h1 : PartKept π h s u) (h2 : PartKept π h s v) :
    PartKept π h s (if c then u else v) := by
  split
  · exact h1
  · exact h2

theorem KeepsHeads.partKept (hk : KeepsHeads s u) : PartKept π h s u := ⟨hk.onlyHead h, congrArg π (hk.head_eq h)⟩

/-- A change of a head that a part does not see keeps it. -/
theorem modHead_partKept {f : Head → Head} (hf : ∀ x, π (f x) = π x) : PartKept π h s (s.modHead h f) := by
  refine ⟨modHead_onlyHead s h f, ?_⟩
  by_cases hh : h < s.heads.length
  · rw [head_modHead hh, hf]
  · have hnone : ∀ u : State, u.heads.length = s.heads.length → u.head h = {} := fun u hu => by
      rw [State.head, List.getD_eq_getElem?_getD, List.getElem?_eq_none (by omega), Option.getD_none]
    rw [hnone _ (modHead_onlyHead s h f).length, hnone s rfl]

/-! ### Charging and the picture (R250, R358) -/

theorem chargeHead_partKept (hπ : ∀ x n, π { x with charged := n } = π x) : PartKept π h s (s.chargeHead h) :=
  PartKept.ite (PartKept.refl π h s) ((modHead_partKept fun x => hπ x _).after (KeepsHeads.partKept ⟨rfl, rfl, rfl, rfl⟩))

theorem shoot_partKept (hπ : ∀ x p, π { x with shot := p } = π x) : PartKept π h s (s.shoot h) := by
  unfold State.shoot
  dsimp only
  refine PartKept.ite (PartKept.refl π h s) ?_
  refine PartKept.after (KeepsHeads.partKept (KeepsHeads.forEach (fun m s => modTile_keepsHeads s _ _ _) _ _)) ?_
  refine (modHead_partKept fun x => hπ x _).after ?_
  exact ((latchUnguarded_keepsHeads s h).trans (rowLatchCells_keepsHeads _ h)).partKept

end

theorem chargeHead_onlyHead (s : State) (h : Nat) : OnlyHead h s (s.chargeHead h) :=
  (chargeHead_partKept (π := fun _ => ()) fun _ _ => rfl).toOnlyHead

theorem shoot_onlyHead (s : State) (h : Nat) : OnlyHead h s (s.shoot h) :=
  (shoot_partKept (π := fun _ => ()) fun _ _ => rfl).toOnlyHead

/-! ### The apply line -/

/-- A head at its apply line (R131). -/
def Head.lineReached (s : State) (x : Head) : Head :=
  { x with applied := true, linkNext := s.ses.hbLost, half := x.halfWanted && x.timing.flags.testBit 2, ladder := s.nrg.inForce }

/-- A head has reached its apply line: the lines fetched are charged, and a picture not yet taken is taken. -/
def State.reachLine (s : State) (h : Nat) : State :=
  (((s.chargeHead h).shoot h).latchUnguarded h).modHead h (Head.lineReached s)

/-- What waits for a head comes into force, and its flips are served. -/
def State.changeHead (s : State) (h : Nat) (limit : Int) : State :=
  let u := (s.applyWaiting (some h)).sliceApply h
  u.forEach (u.tilesOn h) fun t s => s.serveTile t limit 33

/-- A head reaches its apply line now: it is timed, has not applied yet in this frame, and the line's instant has come. -/
structure LineDue (s : State) (h : Nat) : Prop where
  timed : (s.head h).st ≠ .untimed
  fresh : (s.head h).applied = false
  come : (s.head h).tF + (s.head h).timing.lines (s.head h).line ≤ s.localFine

section
variable {s : State} {h : Nat}

theorem applyLineReached_due (hd : LineDue s h) : applyLineReached h s =
    (((s.reachLine h).changeHead h (s.sampleAt h)).modHead h Head.fixNext).settleTxns :=
  if_neg (by simp [hd.timed, hd.fresh, hd.come])

theorem reachLine_onlyHead (s : State) (h : Nat) : OnlyHead h s (s.reachLine h) :=
  (((chargeHead_onlyHead s h).trans (shoot_onlyHead _ h)).trans ((latchUnguarded_keepsHeads _ h).onlyHead h)).trans
    (modHead_onlyHead _ h _)

theorem serveTiles_keepsHeads (s : State) (l : List Tile) (limit : Int) :
    KeepsHeads (s.sliceApply h) ((s.sliceApply h).forEach l fun t s => s.serveTile t limit 33) :=
  KeepsHeads.forEach (fun (t : Tile) s => serveTile_keepsHeads s t limit 33) l _

/-- What follows the changes changes no head. -/
theorem changeHead_serves (s : State) (h : Nat) (limit : Int) : KeepsHeads (s.applyWaiting (some h)) (s.changeHead h limit) :=
  (sliceApply_keepsHeads _ h).trans (serveTiles_keepsHeads _ _ limit)

theorem changeHead_applies (s : State) (h : Nat) (limit : Int) : Applies s (s.changeHead h limit) :=
  (applyWaiting_applies s h).trans (changeHead_serves s h limit).applies

theorem changeHead_head {c : Change} {limit : Int} (hc : c ∈ (s.changeHead h limit).txn.changes) : c.head ≠ some h := by
  rw [(changeHead_serves s h limit).txn] at hc
  exact applyWaiting_head hc

/-- The apply line of a head, up to the transactions that it ends. -/
def State.passLine (s : State) (h : Nat) : State := ((s.reachLine h).changeHead h (s.sampleAt h)).modHead h Head.fixNext

theorem applyLineReached_passes (hd : LineDue s h) : applyLineReached h s = (s.passLine h).settleTxns := applyLineReached_due hd

theorem passLine_applies (s : State) (h : Nat) : Applies s (s.passLine h) :=
  ((reachLine_onlyHead s h).applies.trans (changeHead_applies _ h _)).trans (modHead_applies _ h _)

/-- After the apply line no change waits for the head. -/
theorem passLine_head {c : Change} (hc : c ∈ (s.passLine h).txn.changes) : c.head ≠ some h := by
  rw [State.passLine, (modHead_onlyHead _ h _).txn] at hc
  exact changeHead_head hc

theorem fixNext_isSome (x : Head) : x.fixNext.nextTF.isSome = true := rfl

/-- The apply line fixes the next frame start. -/
theorem passLine_nextTF (hh : h < s.heads.length) : ((s.passLine h).head h).nextTF.isSome = true := by
  have hlen := ((reachLine_onlyHead s h).applies.trans (changeHead_applies _ h (s.sampleAt h))).length
  rw [State.passLine, head_modHead (hlen.symm ▸ hh)]
  exact fixNext_isSome _

/-! ### An apply line with nothing to do -/

theorem blend_empty (hn : s.tilesOn h = []) : s.blend h = [] := by
  rw [State.blend, hn]
  split
  · exact List.filterMap_eq_nil_iff.2 fun _ _ => rfl
  · rfl

theorem latchUnguarded_empty (hn : s.tilesOn h = []) : s.latchUnguarded h = s := by
  rw [State.latchUnguarded, hn]
  rfl

theorem rowLatchCells_empty (hn : s.tilesOn h = []) : s.rowLatchCells h = s := by
  rw [State.rowLatchCells, hn]
  rfl

/-- On a head without layers taking the picture changes that head alone. -/
theorem shoot_empty (hn : s.tilesOn h = []) : s.shoot h =
    if !(s.head h).composing || (s.head h).shot.isSome then s
    else s.modHead h fun x => { x with shot := some (s.composePicture h) } := by
  have hdraw : s.drawings h = [] := by rw [State.drawings, State.drawnTiles, blend_empty hn]; rfl
  simp only [State.shoot, latchUnguarded_empty hn, rowLatchCells_empty hn, hdraw, List.zipIdx_nil, List.map_nil, State.forEach_nil]

/-- `u` has the tiles, transactions and slices of `s`. -/
structure SameDisplay (s u : State) : Prop where
  tiles : u.lay.tiles = s.lay.tiles
  txn : u.txn = s.txn
  slk : u.slk = s.slk

theorem SameDisplay.trans {u v : State} (h1 : SameDisplay s u) (h2 : SameDisplay u v) : SameDisplay s v :=
  ⟨h2.tiles.trans h1.tiles, h2.txn.trans h1.txn, h2.slk.trans h1.slk⟩

theorem chargeHead_sameDisplay (s : State) (h : Nat) : SameDisplay s (s.chargeHead h) := by
  unfold State.chargeHead
  dsimp only
  split <;> exact ⟨rfl, rfl, rfl⟩

theorem shoot_sameDisplay (hn : s.tilesOn h = []) : SameDisplay s (s.shoot h) := by
  rw [shoot_empty hn]
  split <;> exact ⟨rfl, rfl, rfl⟩

theorem tilesOn_congr {u : State} (hu : SameDisplay s u) (h : Nat) : u.tilesOn h = s.tilesOn h := by
  rw [State.tilesOn, hu.tiles, State.tilesOn]

theorem modHead_modHead (s : State) (h : Nat) (f g : Head → Head) : (s.modHead h f).modHead h g = s.modHead h (g ∘ f) := by
  simp only [State.modHead, modAt_modAt]

theorem changeHead_none {limit : Int} (hn : s.tilesOn h = []) (hc : ∀ c ∈ s.txn.changes, c.head ≠ some h)
    (hk : ∀ k ∈ s.slk, k.head ≠ h ∨ k.mode ≠ .locked) : s.changeHead h limit = s := by
  simp only [State.changeHead, applyWaiting_none hc, sliceApply_none hk, hn, State.forEach_nil]

theorem reachLine_empty (hn : s.tilesOn h = []) : SameDisplay s (s.reachLine h) ∧
    s.reachLine h = ((s.chargeHead h).shoot h).modHead h (Head.lineReached s) := by
  have hcharge := chargeHead_sameDisplay s h
  have hn1 : (s.chargeHead h).tilesOn h = [] := (tilesOn_congr hcharge h).trans hn
  have hshoot := hcharge.trans (shoot_sameDisplay hn1)
  have hn2 : ((s.chargeHead h).shoot h).tilesOn h = [] := (tilesOn_congr hshoot h).trans hn
  rw [State.reachLine, latchUnguarded_empty hn2]
  exact ⟨hshoot.trans ⟨rfl, rfl, rfl⟩, rfl⟩

/-- With no layer, no change and no locked slice on the head, the apply line does the rest alone. -/
theorem applyLineReached_none (hd : LineDue s h) (hn : s.tilesOn h = []) (hc : ∀ c ∈ s.txn.changes, c.head ≠ some h)
    (hk : ∀ k ∈ s.slk, k.head ≠ h ∨ k.mode ≠ .locked) : applyLineReached h s =
    (((s.chargeHead h).shoot h).modHead h (Head.fixNext ∘ Head.lineReached s)).settleTxns := by
  obtain ⟨hsame, hreach⟩ := reachLine_empty hn
  have hquiet : (s.reachLine h).changeHead h (s.sampleAt h) = s.reachLine h :=
    changeHead_none ((tilesOn_congr hsame h).trans hn) (by rwa [hsame.txn]) (by rwa [hsame.slk])
  rw [applyLineReached_due hd, hquiet, hreach, modHead_modHead]

/-- A free-running head starts its next frame one frame of lines after this one (R257). -/
theorem fixNext_free {x : Head} (hg : x.genlock.st = .free) (hp : x.placeNext = false) (hh : x.half = false) :
    x.fixNext = { x with nextTF := some (x.startAfter x.timing.vTotal) } := by
  simp [Head.fixNext, Head.acquireLines, hg, hp, hh]

end

end Sys2Proof.Machine
end

section
/-! PROOF. A head's frame starts (spec/10 R257-R263, R272, R298, R312): what the frame begins with, the exit of self-refresh, and
what the rest of the start leaves of the frame's schedule. -/
namespace Sys2Proof.Machine

/-! ### The steps of a frame start -/

/-- A head at the start of a frame (R257). -/
def Head.begun (n : Nat) (x : Head) : Head :=
  { x with tF := n, charged := 0, nextTF := none, frame := x.frame + 1, applied := false, ended := false, composed := false, shot := none }

/-- An accepted timing begins with the frame (R256). -/
def Head.retimed (t : Timing) (x : Head) : Head :=
  { x with timing := t, nextTiming := none, accTiming := if x.accTiming = some t then none else x.accTiming
           applyLine := keepLine t x.applyLine }

/-- The genlock state and the steering ratio of the frame (R263, Table 10-3). -/
def Head.genlocked (x : Head) : Head := (if x.nextTiming.isSome then x else x.lockFrame).steerFrame

/-- The head's state in the frame (R272, Table 10-7). -/
def Head.woken (wake : Bool) (x : Head) : Head :=
  { x with st := if wake then .scanning else x.st, exitSr := false, closingFrame := x.st = .closing
           attest := x.attestPending.getD x.attest, attestPending := none }

/-- What the head shows in the frame, and whether it owes a record (R249, R298, R312). -/
def Head.entered (on wake fault lost : Bool) (x : Head) : Head :=
  { x with clockFault := on && fault, linkLost := on && (if wake then lost else x.linkNext)
           composed := on && !x.virtual, recDue := on || x.st = .selfRefresh }

/-- The head scans in its state. -/
def Head.scans (x : Head) : Bool := x.st = .scanning || x.st = .closing || x.st = .srEntry

/-- A timing that was accepted comes into force. -/
def State.retime (s : State) (h : Nat) (old : Timing) : Option Timing → State
  | some t => ((s.modHead h (Head.retimed t)).encTiming h old t).releaseHidden h
  | none => s

/-- The frame has begun, with its timing and its genlock. -/
def State.beginFrame (s : State) (h n : Nat) : State :=
  (((s.chargeHead h).modHead h (Head.begun n)).retime h (s.head h).timing (s.head h).nextTiming).modHead h Head.genlocked

/-- A head in self-refresh meets an exit trigger (R272). -/
def State.exits (s : State) (h : Nat) (x : Head) : Bool :=
  x.st = .selfRefresh && (x.exitSr || s.anyBanner h || s.clk.clockFault)

/-- The head enters the frame in its state. -/
def State.enterFrame (s : State) (h : Nat) (wake : Bool) : State :=
  let u := s.modHead h (Head.woken wake)
  u.modHead h (Head.entered (u.head h).scans wake u.clk.clockFault u.ses.hbLost)

/-- A selection of CRC regions comes into force (R275). -/
def State.selectCrcs (s : State) (h : Nat) : State := match (s.head h).crcPending with
  | some (sel, js) =>
    (s.modHead h fun x => { x with crcSel := some sel, crcPending := none, crcWaiting := js, crcOut := [] }).forEach
      (s.head h).crcWaiting fun j s => s.finish j eBusy (headId h) []
  | none => s

/-- The frame is shown, or its tiles are not scanned. -/
def State.showFrame (s : State) (h : Nat) : State :=
  if (s.head h).composing then (s.emit (.frame h (s.head h).frame (s.head h).closingFrame)).drawBanners h else s.markNotScanned h

theorem frameStart_idle {s : State} {h : Nat} (hi : (s.head h).nextTF = none ∨ (s.head h).st = .untimed) : frameStart h s = s := by
  unfold frameStart
  dsimp only
  split
  · rfl
  · next n hn =>
    have hst : (s.head h).st = .untimed := hi.resolve_left (by simp [hn])
    exact if_pos (by simp [hst])

/-- The whole start of a frame whose instant `n` has come. -/
def State.openFrame (s : State) (h n : Nat) : State :=
  ((((s.beginFrame h n).enterFrame h ((s.beginFrame h n).exits h (s.head h))).encFrame h).selectCrcs h).showFrame h

/-- A frame starts where its instant is fixed and has come. -/
theorem frameStart_of_next (h : Nat) (s : State) : frameStart h s = match (s.head h).nextTF with
    | none => s
    | some n => if (s.head h).st = .untimed || s.localFine < n then s else s.openFrame h n := rfl

theorem frameStart_due {s : State} {h n : Nat} (hn : (s.head h).nextTF = some n) (hst : (s.head h).st ≠ .untimed)
    (hcome : n ≤ s.localFine) : frameStart h s = s.openFrame h n := by
  have hdue : ¬(decide ((s.head h).st = .untimed) || decide (s.localFine < n)) = true := by
    simp [hst, hcome]
  rw [frameStart_of_next, hn]
  exact if_neg hdue

/-! ### The schedule of a frame -/

/-- The schedule of a head's frame and the head's state in it. -/
def Head.schedule (x : Head) : Nat × Option Nat × Nat × Bool × Bool × Timing × Bool × HeadState :=
  (x.tF, x.nextTF, x.frame, x.applied, x.ended, x.timing, x.closingFrame, x.st)

/-- What decoding holds and the layers' own settings stay. -/
structure SamePictures (s u : State) : Prop where
  dec : u.dec = s.dec
  layers : u.lay.layers = s.lay.layers

/-- The schedule of the frame of `h` stays, and what decoding holds and the layers' own settings. -/
structure InFrame (h : Nat) (s u : State) : Prop extends PartKept Head.schedule h s u, SamePictures s u

section
variable {s u v : State} {h : Nat}

theorem SamePictures.trans (h1 : SamePictures s u) (h2 : SamePictures u v) : SamePictures s v :=
  ⟨h2.dec.trans h1.dec, h2.layers.trans h1.layers⟩

theorem InFrame.refl (h : Nat) (s : State) : InFrame h s s := ⟨PartKept.refl _ h s, rfl, rfl⟩

theorem InFrame.trans (h1 : InFrame h s u) (h2 : InFrame h u v) : InFrame h s v :=
  ⟨h1.toPartKept.trans h2.toPartKept, h1.toSamePictures.trans h2.toSamePictures⟩

theorem InFrame.after (h2 : InFrame h u v) (h1 : InFrame h s u) : InFrame h s v := h1.trans h2

theorem InFrame.ite {c : Prop} [Decidable c] (h1 : InFrame h s u) (h2 : InFrame h s v) : InFrame h s (if c then u else v) := by
  split
  · exact h1
  · exact h2

theorem InFrame.when {b : Bool} {f : State → State} (hf : InFrame h s (f s)) : InFrame h s (s.when b f) :=
  InFrame.ite hf (InFrame.refl h s)

theorem InFrame.forEach {α : Type} {f : α → State → State} (hf : ∀ a s, InFrame h s (f a s)) (l : List α) (s : State) :
    InFrame h s (s.forEach l f) :=
  State.forEach_keeps (p := InFrame h s) (fun a u hu => hu.trans (hf a u)) l s (InFrame.refl h s)

theorem Delivers.inFrame (hd : Delivers s u) : InFrame h s u :=
  ⟨hd.keepsHeads.partKept, hd.dec_eq, by rw [hd.lay_eq]⟩

theorem modHead_inFrame {f : Head → Head} (hf : ∀ x, (f x).schedule = x.schedule) : InFrame h s (s.modHead h f) :=
  ⟨modHead_partKept hf, rfl, rfl⟩

theorem modEnc_inFrame (s : State) (ec : Nat) (f : Enc → Enc) : InFrame h s (s.modEnc ec f) :=
  ⟨(modEnc_keepsHeads s ec f).partKept, rfl, rfl⟩

theorem emit_inFrame (s : State) (o : Output) : InFrame h s (s.emit o) := (emit_delivers s o).inFrame

theorem encFrame_inFrame (s : State) (h : Nat) : InFrame h s (s.encFrame h) := by
  unfold State.encFrame
  dsimp only
  refine InFrame.ite (InFrame.refl h s) (InFrame.ite ?taken ?passed)
  case taken =>
    refine InFrame.after (modHead_inFrame (f := fun x => { x with composed := true }) fun _ => rfl) ((modEnc_inFrame _ _ _).after ?_)
    exact InFrame.when (f := fun u => u.modEnc _ _) (modEnc_inFrame s _ _)
  case passed => exact InFrame.when (f := fun u => u.modEnc _ _) (modEnc_inFrame s _ _)

theorem selectCrcs_inFrame (s : State) (h : Nat) : InFrame h s (s.selectCrcs h) := by
  unfold State.selectCrcs
  split
  · exact (InFrame.forEach (fun j s => (finish_delivers s j _ _ _).inFrame) _ _).after (modHead_inFrame fun _ => rfl)
  · exact InFrame.refl h s

theorem drawBanners_inFrame (s : State) (h : Nat) : InFrame h s (s.drawBanners h) := by
  unfold State.drawBanners
  dsimp only
  refine (InFrame.when (emit_inFrame _ _)).after ((InFrame.when (emit_inFrame _ _)).after ?_)
  exact (InFrame.forEach (fun b s => InFrame.when (emit_inFrame s _)) _ _).after (modHead_inFrame fun _ => rfl)

theorem showFrame_inFrame (s : State) (h : Nat) : InFrame h s (s.showFrame h) :=
  InFrame.ite ((emit_inFrame s _).trans (drawBanners_inFrame _ h)) ⟨(markNotScanned_keepsHeads s h).partKept, rfl, rfl⟩

/-- What follows the head's entry into the frame keeps the schedule. -/
theorem rest_inFrame (s : State) (h : Nat) : InFrame h s (((s.encFrame h).selectCrcs h).showFrame h) :=
  ((encFrame_inFrame s h).trans (selectCrcs_inFrame _ h)).trans (showFrame_inFrame _ h)

/-! ### The beginning -/

section
variable {α : Type} {π : Head → α}

theorem lockFrame_part (hπ : ∀ x g, π { x with genlock := g } = π x) (x : Head) : π x.lockFrame = π x := by
  unfold Head.lockFrame
  dsimp only
  split
  · rfl
  · exact hπ x _
  · exact hπ x _

theorem genlocked_part (hg : ∀ x g, π { x with genlock := g } = π x) (hs : ∀ x n, π { x with steerPpb := n } = π x) (x : Head) :
    π x.genlocked = π x := by
  refine (hs _ _).trans ?_
  split
  · rfl
  · exact lockFrame_part hg x

/-- A part of the head that no step of the beginning sees is kept. -/
theorem retime_partKept (hπ : ∀ t x, π (Head.retimed t x) = π x) (old : Timing) (o : Option Timing) : PartKept π h s (s.retime h old o) := by
  cases o with
  | none => exact PartKept.refl π h s
  | some t =>
    refine PartKept.after ?_ (modHead_partKept (hπ t))
    exact ((encTiming_keepsHeads _ h old t).trans (releaseHidden_keepsHeads _ h)).partKept

end

theorem head_retime (hh : h < s.heads.length) (old : Timing) (o : Option Timing) :
    (s.retime h old o).head h = match o with
      | some t => Head.retimed t (s.head h)
      | none => s.head h := by
  cases o with
  | none => rfl
  | some t =>
    have hkeeps := (encTiming_keepsHeads (s.modHead h (Head.retimed t)) h old t).trans (releaseHidden_keepsHeads _ h)
    exact (hkeeps.head_eq h).trans (head_modHead hh _)

theorem beginFrame_onlyHead (s : State) (h n : Nat) : OnlyHead h s (s.beginFrame h n) := by
  have hretime := (retime_partKept (π := fun _ => ()) (s := (s.chargeHead h).modHead h (Head.begun n)) (h := h) (fun _ _ => rfl)
    (s.head h).timing (s.head h).nextTiming).toOnlyHead
  exact (((chargeHead_onlyHead s h).trans (modHead_onlyHead _ h _)).trans hretime).trans (modHead_onlyHead _ h _)

/-- The schedule with which a frame begins. -/
theorem beginFrame_schedule (hh : h < s.heads.length) (n : Nat) : ((s.beginFrame h n).head h).schedule =
    (n, none, (s.head h).frame + 1, false, false, (s.head h).nextTiming.getD (s.head h).timing, (s.head h).closingFrame,
      (s.head h).st) := by
  have hcharge := chargeHead_partKept (s := s) (h := h) (π := fun x => (x.frame, x.timing, x.closingFrame, x.st)) fun _ _ => rfl
  obtain ⟨hframe, htiming, hclosing, hst⟩ : ((s.chargeHead h).head h).frame = (s.head h).frame ∧
      ((s.chargeHead h).head h).timing = (s.head h).timing ∧ ((s.chargeHead h).head h).closingFrame = (s.head h).closingFrame ∧
      ((s.chargeHead h).head h).st = (s.head h).st := by
    simpa using hcharge.part
  have hlen : h < (s.chargeHead h).heads.length := by rwa [hcharge.length]
  have hlen1 : h < ((s.chargeHead h).modHead h (Head.begun n)).heads.length := by rwa [(modHead_onlyHead _ h _).length]
  rw [State.beginFrame, (modHead_partKept (π := Head.schedule) (genlocked_part (fun _ _ => rfl) fun _ _ => rfl)).part, head_retime hlen1,
    head_modHead hlen]
  cases (s.head h).nextTiming <;>
    simp only [Head.schedule, Head.begun, Head.retimed, hframe, htiming, hclosing, hst, Option.getD_none, Option.getD_some]

/-! ### The exit of self-refresh (R272) -/

/-- The inputs that banners go by. -/
structure SameInputs (s u : State) : Prop where
  io : u.io = s.io
  ses : u.ses = s.ses

theorem SameInputs.trans (h1 : SameInputs s u) (h2 : SameInputs u v) : SameInputs s v := ⟨h2.io.trans h1.io, h2.ses.trans h1.ses⟩

theorem modHead_sameInputs (s : State) (h : Nat) (f : Head → Head) : SameInputs s (s.modHead h f) := ⟨rfl, rfl⟩

theorem chargeHead_sameInputs (s : State) (h : Nat) : SameInputs s (s.chargeHead h) := by
  unfold State.chargeHead
  dsimp only
  split <;> exact ⟨rfl, rfl⟩

theorem encTiming_sameInputs (s : State) (h : Nat) (a b : Timing) : SameInputs s (s.encTiming h a b) := by
  unfold State.encTiming
  dsimp only
  split_ifs <;> exact ⟨rfl, rfl⟩

theorem retime_sameInputs (s : State) (h : Nat) (old : Timing) (o : Option Timing) : SameInputs s (s.retime h old o) := by
  cases o with
  | none => exact ⟨rfl, rfl⟩
  | some t =>
    have henc := encTiming_sameInputs (s.modHead h (Head.retimed t)) h old t
    have hrel := releaseHidden_releases ((s.modHead h (Head.retimed t)).encTiming h old t) h
    exact (modHead_sameInputs s h _).trans (henc.trans ⟨hrel.io_eq, hrel.ses_eq⟩)

theorem beginFrame_sameInputs (s : State) (h n : Nat) : SameInputs s (s.beginFrame h n) :=
  have hretime := retime_sameInputs ((s.chargeHead h).modHead h (Head.begun n)) h (s.head h).timing (s.head h).nextTiming
  (chargeHead_sameInputs s h).trans ((modHead_sameInputs _ h _).trans (hretime.trans (modHead_sameInputs _ h _)))

/-- What the banners of a head go by. -/
def Head.bannerPart (x : Head) : List Banner × List (Option (Nat × Bool)) × Bool := (x.banners, x.safeMap, x.clockFault)

theorem beginFrame_bannerPart (s : State) (h n : Nat) : PartKept Head.bannerPart h s (s.beginFrame h n) := by
  refine (modHead_partKept (genlocked_part (fun _ _ => rfl) fun _ _ => rfl)).after ?_
  refine (retime_partKept (fun _ _ => rfl) _ _).after ((modHead_partKept (f := Head.begun n) fun _ => rfl).after ?_)
  exact chargeHead_partKept fun _ _ => rfl

theorem safeReading_congr (hi : SameInputs s u) (n : Nat) : u.safeReading n = s.safeReading n := by
  simp only [State.safeReading, State.paired, State.pairLevel, State.pairSide, State.inp, hi.io]

theorem anyBanner_congr (hi : SameInputs s u) (hp : PartKept Head.bannerPart h s u) : u.anyBanner h = s.anyBanner h := by
  obtain ⟨hbanners, hmap, hfault⟩ : (u.head h).banners = (s.head h).banners ∧ (u.head h).safeMap = (s.head h).safeMap ∧
      (u.head h).clockFault = (s.head h).clockFault := by simpa [Head.bannerPart] using hp.part
  simp only [State.anyBanner, State.bannersShown, State.safeDriven, State.safeHolds, safeReading_congr hi, hbanners, hmap, hfault,
    hi.ses]
  rfl

theorem beginFrame_exits (s : State) (h n : Nat) (x : Head) : (s.beginFrame h n).exits h x = s.exits h x := by
  rw [State.exits, anyBanner_congr (beginFrame_sameInputs s h n) (beginFrame_bannerPart s h n), (beginFrame_onlyHead s h n).clk,
    State.exits]

/-! ### The whole start -/

theorem enterFrame_onlyHead (s : State) (h : Nat) (wake : Bool) : OnlyHead h s (s.enterFrame h wake) :=
  (modHead_onlyHead s h _).trans (modHead_onlyHead _ h _)

/-- The schedule of a head that enters the frame: its state is decided, and whether the frame closes it. -/
theorem enterFrame_schedule (hh : h < s.heads.length) (wake : Bool) :
    ((s.enterFrame h wake).head h).schedule = (Head.woken wake (s.head h)).schedule := by
  rw [← head_modHead hh (Head.woken wake)]
  exact (modHead_inFrame (f := Head.entered _ _ _ _) fun _ => rfl).part

theorem openFrame_onlyHead (s : State) (h n : Nat) : OnlyHead h s (s.openFrame h n) :=
  ((beginFrame_onlyHead s h n).trans (enterFrame_onlyHead _ h _)).trans (rest_inFrame _ h).toOnlyHead

/-- The schedule of a head whose frame has started (R257, R272). -/
theorem openFrame_schedule (hh : h < s.heads.length) (n : Nat) : ((s.openFrame h n).head h).schedule =
    (n, none, (s.head h).frame + 1, false, false, (s.head h).nextTiming.getD (s.head h).timing, decide ((s.head h).st = .closing),
      if s.exits h (s.head h) then .scanning else (s.head h).st) := by
  have hbegun := beginFrame_schedule hh n
  have hlen : h < (s.beginFrame h n).heads.length := by rwa [(beginFrame_onlyHead s h n).length]
  rw [State.openFrame, (rest_inFrame _ h).part, enterFrame_schedule hlen, beginFrame_exits]
  simp only [Head.schedule, Prod.mk.injEq] at hbegun
  obtain ⟨htF, hnext, hframe, happlied, hended, htiming, -, hst⟩ := hbegun
  simp only [Head.schedule, Head.woken, htF, hnext, hframe, happlied, hended, htiming, hst]

theorem chargeHead_samePictures (s : State) (h : Nat) : SamePictures s (s.chargeHead h) := by
  unfold State.chargeHead
  dsimp only
  split <;> exact ⟨rfl, rfl⟩

theorem modHead_samePictures (s : State) (h : Nat) (f : Head → Head) : SamePictures s (s.modHead h f) := ⟨rfl, rfl⟩

theorem enterFrame_samePictures (s : State) (h : Nat) (wake : Bool) : SamePictures s (s.enterFrame h wake) := ⟨rfl, rfl⟩

/-- A start without a new timing changes no picture of decoding and no layer's own settings. -/
theorem openFrame_samePictures (hnone : (s.head h).nextTiming = none) (n : Nat) : SamePictures s (s.openFrame h n) := by
  have hbegin : SamePictures s (s.beginFrame h n) := by
    rw [State.beginFrame, hnone]
    exact ((chargeHead_samePictures s h).trans (modHead_samePictures _ h _)).trans (modHead_samePictures _ h _)
  exact (hbegin.trans (enterFrame_samePictures _ h _)).trans (rest_inFrame _ h).toSamePictures

end

end Sys2Proof.Machine
end

section
/-! PROOF. The end of a head's last active line (spec/10 R250, R251, R270, R272, R275, spec/12 R312) and the finished attestation record
(R313, R314). -/
namespace Sys2Proof.Machine

/-! ### The steps of the last active line -/

/-- The frame is ended: its last lines are charged and its picture taken. -/
def State.endLine (s : State) (h : Nat) : State :=
  (((s.chargeHead h).modHead h fun x => { x with ended := true }).markNotScanned h).shoot h

/-- The pixels rendered in the frame. -/
def State.rendered (s : State) (h : Nat) : List (Nat × Nat) := ((s.head h).shot).getD []

/-- All guarded layers that the frame judged are PAUSED (R272). -/
def State.allPaused (s : State) (h : Nat) (x : Head) : Bool :=
  ((s.tilesOn h).filter fun t => t.cfg.guarded && x.composing && t.latchFrame = some x.frame).all fun t => t.state % 16 = 8

/-- A composed frame notes whether all it judged are PAUSED. -/
def State.notePaused (s : State) (h : Nat) (x : Head) (paused : Bool) : State :=
  if x.composing then s.modHead h fun x => { x with lastAllPaused := paused } else s

/-- A composed frame of a scanning head is compared (R251). -/
def State.compareFrame (s : State) (h : Nat) (x : Head) (render output : Nat) : State :=
  if x.composing && (x.st = .scanning || x.st = .closing) then s.compareAppl h render output else s

/-- A head whose selected regions are read. -/
def Head.regionsRead (sent : List Nat) (sel : Nat) (x : Head) : Head :=
  { x with crcOut := regionCrcs x.timing sent sel, crcOutFrame := x.frame, crcWaiting := [] }

/-- The regions selected are read and reported (R275). -/
def State.readRegions (s : State) (h : Nat) (x : Head) (sent : List Nat) : State := match x.composing, x.crcSel with
  | true, some sel =>
    (s.modHead h (Head.regionsRead sent sel)).forEach x.crcWaiting fun j s => s.finish j 0 0 ((s.head h).crcReply h sel)
  | _, _ => s

/-- A record that is due is appended (R312). -/
def State.appendRecord (s : State) (h : Nat) (x : Head) (out sent : List Nat) : State :=
  if x.recDue then s.modHead h fun x => { x with recs := x.recs ++ [(x.frame, s.attestBytes h out sent)], recDue := false } else s

/-- The picture leaves the head. -/
def State.passPicture (s : State) (h : Nat) (x : Head) (sent : List Nat) : State :=
  (s.finishPicture h sent).when (x.composing && (s.finishPicture h sent).sends x) (·.emit (.picture h x.frame sent))

/-- What the frame's end decides of the head's state (Table 10-7). -/
def State.decideEnd (s : State) (h : Nat) (x : Head) (paused : Bool) : State :=
  if x.st = .closing && x.closingFrame then s.closeHead h
  else if x.st = .srEntry then s.decideSr h paused
  else s

/-- The frame ended is compared with the words sent, and its regions are read. -/
def State.readFrame (s : State) (h : Nat) (x : Head) (sent : List Nat) : State :=
  ((s.notePaused h x (s.allPaused h x)).compareFrame h x (wordsCrc (renderWords (s.rendered h)))
    (wordsCrc (outputWords (s.rendered h) sent))).readRegions h x sent

/-- The frame ended is read and reported. -/
def State.reportFrame (s : State) (h : Nat) (x : Head) (sent : List Nat) : State :=
  ((s.readFrame h x sent).appendRecord h x (outputWords (s.rendered h) sent) sent).passPicture h x sent

/-- What follows the end of the frame of the head `x`. -/
def State.closeFrame (s : State) (h : Nat) (x : Head) (sent : List Nat) : State :=
  (s.reportFrame h x sent).decideEnd h x (s.allPaused h x)

/-- The whole end of a frame whose last active line is over. -/
def State.endFrame (s : State) (h : Nat) (obs : ScanObs) : State :=
  (s.endLine h).closeFrame h (s.head h) (sentPixels obs ((s.endLine h).rendered h))

theorem lastLineEnd_eq (h : Nat) (obs : ScanObs) (s : State) : lastLineEnd h obs s =
    if (s.head h).st = .untimed || (s.head h).ended || s.localFine < (s.head h).tF + (s.head h).timing.lines (s.head h).timing.vAct then s
    else s.endFrame h obs := rfl

/-- The last active line of a timed head is over now, in a frame that has not ended. -/
structure LastLineDue (s : State) (h : Nat) : Prop where
  timed : (s.head h).st ≠ .untimed
  running : (s.head h).ended = false
  come : (s.head h).tF + (s.head h).timing.lines (s.head h).timing.vAct ≤ s.localFine

theorem lastLineEnd_due {s : State} {h : Nat} (hd : LastLineDue s h) (obs : ScanObs) : lastLineEnd h obs s = s.endFrame h obs := by
  rw [lastLineEnd_eq, if_neg (by simp [hd.timed, hd.running, hd.come])]

/-! ### What each step keeps of the head -/

section
variable {α : Type} {π : Head → α} {h : Nat} {s : State}

theorem endLine_partKept (hcharge : ∀ x n, π { x with charged := n } = π x) (hended : ∀ x b, π { x with ended := b } = π x)
    (hshot : ∀ x p, π { x with shot := p } = π x) : PartKept π h s (s.endLine h) := by
  refine (shoot_partKept hshot).after ((markNotScanned_keepsHeads _ h).partKept.after ?_)
  exact (chargeHead_partKept hcharge).trans (modHead_partKept (f := fun x => { x with ended := true }) fun x => hended x true)

theorem notePaused_partKept (hπ : ∀ x b, π { x with lastAllPaused := b } = π x) (x : Head) (b : Bool) :
    PartKept π h s (s.notePaused h x b) :=
  PartKept.ite (modHead_partKept fun x => hπ x b) (PartKept.refl π h s)

theorem readRegions_partKept {sent : List Nat} (hπ : ∀ sel x, π (Head.regionsRead sent sel x) = π x) (x : Head) :
    PartKept π h s (s.readRegions h x sent) := by
  unfold State.readRegions
  split
  · next sel _ _ =>
    refine (modHead_partKept (hπ sel)).trans (KeepsHeads.partKept ?_)
    exact KeepsHeads.forEach (f := fun j s => s.finish j 0 0 ((s.head h).crcReply h sel)) (fun j s => finish_keepsHeads s j _ _ _) _ _
  · exact PartKept.refl π h s

theorem finishPicture_keepsHeads (s : State) (h : Nat) (sent : List Nat) : KeepsHeads s (s.finishPicture h sent) :=
  KeepsHeads.ite (KeepsHeads.refl s) (modEnc_keepsHeads s _ _)

theorem passPicture_keepsHeads (s : State) (h : Nat) (x : Head) (sent : List Nat) : KeepsHeads s (s.passPicture h x sent) :=
  (finishPicture_keepsHeads s h sent).trans (KeepsHeads.when (f := fun u => u.emit _) (emit_keepsHeads _ _))

end

/-! ### The comparison (R251) -/

/-- A head whose frame was compared, with `run` frames matching in a row; `sets`: the comparison sets the fault. -/
def Head.compared (render output run : Nat) (sets : Bool) (x : Head) : Head :=
  let bad := render ≠ output
  { x with crcFrame := x.frame, crcRender := render, crcOutput := output, matchRun := run
           mismatchRun := if bad then min 255 (x.mismatchRun + 1) else 0
           mismatches := if bad then satAdd32 x.mismatches 1 else x.mismatches
           faults := if sets then satAdd32 x.faults 1 else x.faults
           appliqueFault := sets || (x.appliqueFault && run < 120) }

/-- The CRCs of a head's last compared frame. -/
def Head.crcs (x : Head) : Nat × Nat × Nat × Nat := (x.crcRender, x.crcOutput, x.crcFrame, x.mismatchRun)

/-- What the end of a frame reads of a head, and whether the frame is ended. -/
def Head.told (x : Head) : Bool × Nat × List (Nat × List Byte) × Bool × HeadState × Bool :=
  (x.ended, x.frame, x.recs, x.recDue, x.st, x.srFail)

section
variable {h : Nat} {s : State}

/-- A comparison changes the head and, where it sets the fault, leaves a record. -/
theorem compareAppl_compared (s : State) (h render output : Nat) : ∃ run sets,
    KeepsHeads (s.modHead h (Head.compared render output run sets)) (s.compareAppl h render output) :=
  ⟨_, _, KeepsHeads.when (f := fun u => u.record _ _ _) (record_keepsHeads _ _ _ _)⟩

theorem compareAppl_told (s : State) (h render output : Nat) : PartKept Head.told h s (s.compareAppl h render output) := by
  obtain ⟨run, sets, hkeeps⟩ := compareAppl_compared s h render output
  exact hkeeps.partKept.after (modHead_partKept fun _ => rfl)

theorem compareAppl_crcs (hh : h < s.heads.length) (render output : Nat) : ((s.compareAppl h render output).head h).crcs =
    (render, output, (s.head h).frame, if render = output then 0 else min 255 ((s.head h).mismatchRun + 1)) := by
  obtain ⟨run, sets, hkeeps⟩ := compareAppl_compared s h render output
  rw [hkeeps.head_eq, head_modHead hh]
  simp [Head.crcs, Head.compared]

/-! ### The frame read and reported -/

/-- The end of the line ends the frame, and changes nothing else that the end of the frame reads. -/
theorem endLine_told (hh : h < s.heads.length) : ((s.endLine h).head h).told = Head.told { s.head h with ended := true } := by
  have hcharge := chargeHead_partKept (s := s) (h := h) (π := Head.told) fun _ _ => rfl
  have hlen : h < (s.chargeHead h).heads.length := by rwa [hcharge.length]
  rw [State.endLine, (shoot_partKept (π := Head.told) fun _ _ => rfl).part, (markNotScanned_keepsHeads _ h).head_eq, head_modHead hlen]
  have hpart := hcharge.part
  simp only [Head.told, Prod.mk.injEq] at hpart ⊢
  exact ⟨trivial, hpart.2⟩

theorem endLine_onlyHead (s : State) (h : Nat) : OnlyHead h s (s.endLine h) :=
  (endLine_partKept (π := fun _ => ()) (fun _ _ => rfl) (fun _ _ => rfl) fun _ _ => rfl).toOnlyHead

theorem compareFrame_told (x : Head) (render output : Nat) : PartKept Head.told h s (s.compareFrame h x render output) :=
  PartKept.ite (compareAppl_told s h render output) (PartKept.refl _ h s)

theorem readFrame_told (x : Head) (sent : List Nat) : PartKept Head.told h s (s.readFrame h x sent) :=
  (readRegions_partKept (fun _ _ => rfl) x).after ((compareFrame_told x _ _).after (notePaused_partKept (fun _ _ => rfl) x _))

/-- A composed frame of a scanning head has its CRCs (R250, R251). -/
theorem readFrame_crcs {x : Head} (hh : h < s.heads.length) (hc : x.composing = true) (hst : x.st = .scanning) (sent : List Nat) :
    ((s.readFrame h x sent).head h).crcs = (wordsCrc (renderWords (s.rendered h)), wordsCrc (outputWords (s.rendered h) sent),
      (s.head h).frame, if wordsCrc (renderWords (s.rendered h)) = wordsCrc (outputWords (s.rendered h) sent) then 0
        else min 255 ((s.head h).mismatchRun + 1)) := by
  have hnote := notePaused_partKept (π := fun x => (x.frame, x.mismatchRun)) (s := s) (h := h) (fun _ _ => rfl) x (s.allPaused h x)
  obtain ⟨hframe, hrun⟩ := Prod.mk.inj hnote.part
  have hlen : h < (s.notePaused h x (s.allPaused h x)).heads.length := by rwa [hnote.length]
  rw [State.readFrame, (readRegions_partKept (π := Head.crcs) (fun _ _ => rfl) x).part, State.compareFrame,
    if_pos (by simp [hc, hst]), compareAppl_crcs hlen, hframe, hrun]

theorem appendRecord_partKept {α : Type} {π : Head → α} (hπ : ∀ x r, π { x with recs := r, recDue := false } = π x) (x : Head)
    (out sent : List Nat) : PartKept π h s (s.appendRecord h x out sent) :=
  PartKept.ite (modHead_partKept fun y => hπ y _) (PartKept.refl π h s)

/-- The report of a frame that the head `x` has ended: its records, with the frame's own where one was due. -/
structure Reported (h : Nat) (x : Head) (s : State) : Prop where
  ended : (s.head h).ended = true
  frame : (s.head h).frame = x.frame
  due : x.recDue = true → ∃ bytes, (s.head h).recs = x.recs ++ [(x.frame, bytes)] ∧ (s.head h).recDue = false
  free : x.recDue = false → (s.head h).recs = x.recs

theorem reportFrame_onlyHead (x : Head) (sent : List Nat) : OnlyHead h s (s.reportFrame h x sent) :=
  ((readFrame_told x sent).toOnlyHead.trans (appendRecord_partKept (π := fun _ => ()) (fun _ _ => rfl) x _ _).toOnlyHead).trans
    ((passPicture_keepsHeads _ h x sent).onlyHead h)

theorem reportFrame_reported {x : Head} (hh : h < s.heads.length) (ht : (s.head h).told = Head.told { x with ended := true })
    (sent : List Nat) : Reported h x (s.reportFrame h x sent) := by
  have hread := readFrame_told (s := s) (h := h) x sent
  have hlen : h < (s.readFrame h x sent).heads.length := by rwa [hread.length]
  have htold := hread.part.trans ht
  simp only [Head.told, Prod.mk.injEq] at htold
  obtain ⟨hended, hframe, hrecs, -, -, -⟩ := htold
  have hhead : (s.reportFrame h x sent).head h =
      ((s.readFrame h x sent).appendRecord h x (outputWords (s.rendered h) sent) sent).head h := (passPicture_keepsHeads _ h x sent).head_eq h
  cases hdue : x.recDue with
  | true =>
    rw [State.appendRecord, if_pos hdue, head_modHead hlen] at hhead
    constructor <;> simp [hhead, hended, hframe, hrecs, hdue]
  | false =>
    rw [State.appendRecord, if_neg (by simp [hdue])] at hhead
    constructor <;> simp [hhead, hended, hframe, hrecs, hdue]

/-- The report leaves the head in its state. -/
theorem reportFrame_standing (x : Head) (sent : List Nat) :
    ((s.reportFrame h x sent).head h).st = (s.head h).st ∧ ((s.reportFrame h x sent).head h).srFail = (s.head h).srFail := by
  have hread := (readFrame_told (s := s) (h := h) x sent).part
  simp only [Head.told, Prod.mk.injEq] at hread
  obtain ⟨-, -, -, -, hst, hfail⟩ := hread
  have happend := appendRecord_partKept (s := s.readFrame h x sent) (h := h) (π := fun x => (x.st, x.srFail)) (fun _ _ => rfl) x
    (outputWords (s.rendered h) sent) sent
  obtain ⟨hst1, hfail1⟩ := Prod.mk.inj happend.part
  rw [State.reportFrame, (passPicture_keepsHeads _ h x sent).head_eq]
  exact ⟨hst1.trans hst, hfail1.trans hfail⟩

/-- The report keeps the CRCs of the frame. -/
theorem reportFrame_crcs (x : Head) (sent : List Nat) : ((s.reportFrame h x sent).head h).crcs = ((s.readFrame h x sent).head h).crcs := by
  rw [State.reportFrame, (passPicture_keepsHeads _ h x sent).head_eq, (appendRecord_partKept (π := Head.crcs) (fun _ _ => rfl) x _ _).part]

/-! ### The decision on the head's state (Table 10-7) -/

/-- What the frame leaves on the head: the records and the CRCs. -/
def Head.result (x : Head) : Bool × Nat × List (Nat × List Byte) × Bool × Nat × Nat × Nat × Nat :=
  (x.ended, x.frame, x.recs, x.recDue, x.crcs)

/-- A head that is off after its closing frame. -/
def Head.closed (x : Head) : Head :=
  { x with st := .disabled, closingFrame := false, composed := false, crcSel := none, crcPending := none, crcWaiting := [], crcOut := [] }

theorem closeHead_closed (s : State) (h : Nat) : KeepsHeads (s.modHead h Head.closed) (s.closeHead h) := by
  unfold State.closeHead
  dsimp only
  have hrelease := KeepsHeads.forEach (f := fun (t : Tile) s => if t.cfg.guarded && t.cfg.paused then s else s.releaseTile t.layer h)
    (fun t s => KeepsHeads.ite (KeepsHeads.refl s) (releaseTile_keepsHeads s _ _)) ((s.modHead h Head.closed).tilesOn h)
    (s.modHead h Head.closed)
  have hfinish := fun l u => KeepsHeads.forEach (f := fun (j : Job) s => s.finish j eState (headId h) [])
    (fun j s => finish_keepsHeads s j _ _ _) l u
  have hquiet := (hrelease.trans (markNotScanned_keepsHeads _ h)).trans
    (hfinish ((s.head h).crcWaiting ++ ((s.head h).crcPending.map (·.2)).getD []) _)
  exact hquiet.trans (KeepsHeads.ite ((modEnc_keepsHeads _ _ _).trans (evtEncode_keepsHeads _ _ _ _ _ _ _)) (KeepsHeads.refl _))

theorem countRefusal_keepsHeads (s : State) (i : Nat) : KeepsHeads s (s.countRefusal i) := ⟨rfl, rfl, rfl, rfl⟩

/-- A head that has entered self-refresh. -/
def Head.asleep (x : Head) : Head := { x with st := .selfRefresh, srJob := none, exitSr := false }

/-- A head whose entry to self-refresh failed. -/
def Head.awake (x : Head) : Head := { x with st := .scanning, srJob := none, srFail := false }

theorem decideSr_decided (s : State) (h : Nat) (paused : Bool) : KeepsHeads
    (s.modHead h (if paused && !(s.head h).srFail then Head.asleep else Head.awake)) (s.decideSr h paused) := by
  unfold State.decideSr
  dsimp only
  split
  · exact ((markNotScanned_keepsHeads _ h).trans (emit_keepsHeads _ _)).trans (finish?_keepsHeads _ _ _ _ _)
  · exact (countRefusal_keepsHeads _ 1).trans (finish?_keepsHeads _ _ _ _ _)

theorem decideEnd_result (x : Head) (paused : Bool) : PartKept Head.result h s (s.decideEnd h x paused) := by
  refine PartKept.ite ?close (PartKept.ite ?sleep (PartKept.refl _ h s))
  case close => exact (closeHead_closed s h).partKept.after (modHead_partKept fun _ => rfl)
  case sleep =>
    refine (decideSr_decided s h paused).partKept.after (modHead_partKept fun x => ?_)
    split <;> rfl

/-- The closing frame turns the head off. -/
theorem decideEnd_closed {x : Head} (hh : h < s.heads.length) (hst : x.st = .closing) (hc : x.closingFrame = true) (paused : Bool) :
    ((s.decideEnd h x paused).head h).st = .disabled := by
  rw [State.decideEnd, if_pos (by simp [hst, hc]), (closeHead_closed s h).head_eq, head_modHead hh]
  rfl

theorem decideEnd_scanning {x : Head} (hst : x.st = .scanning) (paused : Bool) : s.decideEnd h x paused = s := by
  simp [State.decideEnd, hst]

/-- An entry to self-refresh that something spoiled leaves the head scanning (R272). -/
theorem decideEnd_srFail {x : Head} (hh : h < s.heads.length) (hst : x.st = .srEntry) (hf : (s.head h).srFail = true) (paused : Bool) :
    ((s.decideEnd h x paused).head h).st = .scanning := by
  have hdecide : s.decideEnd h x paused = s.decideSr h paused := by simp [State.decideEnd, hst]
  rw [hdecide, (decideSr_decided s h paused).head_eq, head_modHead hh, if_neg (by simp [hf])]
  rfl

theorem Reported.of_result {u : State} {x : Head} (hr : Reported h x s) (hu : (u.head h).result = (s.head h).result) : Reported h x u := by
  simp only [Head.result, Prod.mk.injEq] at hu
  obtain ⟨hended, hframe, hrecs, hdue, -⟩ := hu
  exact ⟨hended.trans hr.ended, hframe.trans hr.frame, by rw [hrecs, hdue]; exact hr.due, by rw [hrecs]; exact hr.free⟩

/-! ### The whole end of the frame -/

theorem endFrame_onlyHead (s : State) (h : Nat) (obs : ScanObs) : OnlyHead h s (s.endFrame h obs) :=
  ((endLine_onlyHead s h).trans (reportFrame_onlyHead _ _)).trans (decideEnd_result _ _).toOnlyHead

theorem endFrame_reported (hh : h < s.heads.length) (obs : ScanObs) : Reported h (s.head h) (s.endFrame h obs) :=
  (reportFrame_reported ((endLine_onlyHead s h).length.symm ▸ hh) (endLine_told hh) _).of_result (decideEnd_result _ _).part

/-- A composed frame of a scanning head leaves its CRCs, and clears the count of mismatches when they agree. -/
theorem endFrame_crcs (hh : h < s.heads.length) (obs : ScanObs) (hc : (s.head h).composing = true) (hst : (s.head h).st = .scanning) :
    ∃ run, ((s.endFrame h obs).head h).crcs = (wordsCrc (renderWords ((s.endLine h).rendered h)),
      wordsCrc (outputWords ((s.endLine h).rendered h) (sentPixels obs ((s.endLine h).rendered h))), (s.head h).frame,
      if wordsCrc (renderWords ((s.endLine h).rendered h)) =
        wordsCrc (outputWords ((s.endLine h).rendered h) (sentPixels obs ((s.endLine h).rendered h))) then 0 else run) := by
  have htold := endLine_told hh
  simp only [Head.told, Prod.mk.injEq] at htold
  have hlen : h < (s.endLine h).heads.length := by rwa [(endLine_onlyHead s h).length]
  rw [State.endFrame, State.closeFrame, decideEnd_scanning hst, reportFrame_crcs, readFrame_crcs hlen hc hst, htold.2.1]
  exact ⟨_, rfl⟩

theorem endFrame_length (s : State) (h : Nat) (sent : List Nat) :
    ((s.endLine h).reportFrame h (s.head h) sent).heads.length = s.heads.length :=
  ((endLine_onlyHead s h).trans (reportFrame_onlyHead _ _)).length

/-- The head's state when it is decided is that of the frame. -/
theorem endLine_standing (hh : h < s.heads.length) (sent : List Nat) :
    (((s.endLine h).reportFrame h (s.head h) sent).head h).st = (s.head h).st ∧
      (((s.endLine h).reportFrame h (s.head h) sent).head h).srFail = (s.head h).srFail := by
  have htold := endLine_told hh
  simp only [Head.told, Prod.mk.injEq] at htold
  obtain ⟨-, -, -, -, hst, hfail⟩ := htold
  obtain ⟨hst1, hfail1⟩ := reportFrame_standing (s := s.endLine h) (h := h) (s.head h) sent
  exact ⟨hst1.trans hst, hfail1.trans hfail⟩

end

/-! ### The finished record (R313, R314) -/

/-- A record with its MAC, or marked as without a key (Table 12-4). -/
def State.sealRecord (s : State) (bytes : List Byte) : List Byte := match s.hoop.keys.getD 4 none with
  | some k => bytes ++ (hmacSha256 k bytes).take 16
  | none => putAt bytes 7 [bytes.getD 7 0 ||| 2] ++ zeros 16

/-- The oldest record of a head goes to its ring, where recording is on and nothing is sent. -/
theorem attestComplete_ring {s : State} {h frame : Nat} {bytes : List Byte} {rest : List (Nat × List Byte)}
    (hrecs : (s.head h).recs = (frame, bytes) :: rest) (hup : s.hoop.bobbinDown.contains (egressBobbin (h / 16)) = false)
    (hpics : ∀ e ∈ s.enc, ∀ p ∈ e.pics, ¬(p.head = h ∧ p.frame = frame)) (hsend : (s.head h).attest.send = false) :
    attestComplete h s = s.modHead h fun x => { x with
      recs := rest, ring := if x.attest.record then keepNewest 1024 (x.ring ++ [(frame, s.sealRecord bytes)]) else x.ring } := by
  have hfree : ¬(s.enc.any fun e => e.pics.any fun p => p.head = h && p.frame = frame) = true := by
    simpa using hpics
  have hquiet : (!((s.head h).attest.send && (s.head h).attest.record)) = true := by simp [hsend]
  unfold attestComplete
  dsimp only
  rw [hrecs]
  dsimp only
  rw [if_neg (by simp only [hup, Bool.false_eq_true, not_false_eq_true]), if_neg hfree, if_pos hquiet]
  rfl

/-! ### The rows -/

theorem exec_headFrameStart (t h : Nat) (s : State) : exec (.headFrameStart t h) s = .next (settle (frameStart h (s.tick t))) := rfl

theorem exec_applyLineReached (t h : Nat) (s : State) :
    exec (.applyLineReached t h) s = .next (settle (applyLineReached h (s.tick t))) := rfl

theorem exec_lastActiveLineEnd (t h : Nat) (obs : ScanObs) (s : State) :
    exec (.lastActiveLineEnd t h obs) s = .next (settle (lastLineEnd h obs (s.tick t))) := rfl

theorem exec_attestRecordComplete (t h : Nat) (s : State) :
    exec (.attestRecordComplete t h) s = .next (settle (attestComplete h (s.tick t))) := rfl

/-- Settles O25: each row is cut into its named steps, and each step keeps the part of the head that the later ones and the
statement read. -/
theorem frameRows : Obligations.FrameRows := by
  unfold Obligations.FrameRows
  refine ⟨?start, ?idle, ?quietLine, ?line, ?free, ?last, ?record⟩
  case start =>
    rintro t h s0 s x n rfl hh rfl hn hst hcome
    have honly := openFrame_onlyHead (s0.tick t) h n
    have hsched := openFrame_schedule hh n
    simp only [Head.schedule, Prod.mk.injEq] at hsched
    obtain ⟨htF, hnext, hframe, happlied, hended, htiming, hclosing, hstate⟩ := hsched
    refine ⟨(s0.tick t).openFrame h n, ?_, htF, hnext, hframe, happlied, hended, htiming, hclosing, ?_, honly.others, honly.mem,
      honly.clk, fun hnone => ?_⟩
    · rw [exec_headFrameStart, frameStart_due hn hst hcome]
    · rw [hstate]
      simp [State.exits, or_assoc]
    · exact ⟨(openFrame_samePictures hnone n).dec, (openFrame_samePictures hnone n).layers⟩
  case idle =>
    rintro t h s0 s x rfl rfl hidle
    rw [exec_headFrameStart, frameStart_idle hidle]
  case quietLine =>
    rintro t h s0 s x rfl hh rfl hst hfresh hcome htiles hchanges hslk
    rw [exec_applyLineReached, applyLineReached_none ⟨hst, hfresh, hcome⟩ htiles hchanges hslk]
    rfl
  case line =>
    rintro t h s0 s x rfl hh rfl hst hfresh hcome
    have hpass := passLine_applies (s0.tick t) h
    refine ⟨(s0.tick t).passLine h, ?_, fun c hc => ⟨hpass.changes hc, passLine_head hc⟩, passLine_nextTF hh, hpass.mem, hpass.clk⟩
    rw [exec_applyLineReached, applyLineReached_passes ⟨hst, hfresh, hcome⟩]
  case free => exact fun x hg hp hh => fixNext_free hg hp hh
  case last =>
    rintro t h obs s0 s x shot rfl hh rfl hst hrun rfl hcome
    have honly := endFrame_onlyHead (s0.tick t) h obs
    have hreport := endFrame_reported hh obs
    have hlen := (endFrame_length (s0.tick t) h (sentPixels obs (((s0.tick t).endLine h).rendered h))).symm ▸ hh
    refine ⟨(s0.tick t).endFrame h obs, ?_, hreport.ended, hreport.frame, hreport.due, hreport.free, fun hc hscan => ?_,
      fun hclosing hframe => decideEnd_closed hlen hclosing hframe _, fun hscan => ?_, fun hentry hfail => ?_, fun k hk => ?_,
      honly.mem, honly.clk⟩
    · rw [exec_lastActiveLineEnd, lastLineEnd_due ⟨hst, hrun, hcome⟩]
    · obtain ⟨run, hcrcs⟩ := endFrame_crcs hh obs hc hscan
      simp only [Head.crcs, Prod.mk.injEq] at hcrcs
      obtain ⟨hrender, houtput, hframe, hmismatch⟩ := hcrcs
      exact ⟨hrender, houtput, hframe, fun heq => hmismatch.trans (if_pos heq)⟩
    · rw [State.endFrame, State.closeFrame, decideEnd_scanning hscan, (endLine_standing hh _).1, hscan]
    · exact decideEnd_srFail hlen hentry ((endLine_standing hh _).2.trans hfail) _
    · rw [honly.others k hk]
      exact ⟨rfl, rfl⟩
  case record =>
    rintro t h s0 s x frame bytes rest rfl rfl hrecs hpics hsend hup
    rw [exec_attestRecordComplete, attestComplete_ring hrecs hup hpics hsend]
    rfl

end Sys2Proof.Machine
end

section
/-! PROOF. The commands of ingest channels (spec/06 R143-R146, R156, R160-R163): the run of each under its condition, and the
statement that gathers them. -/
namespace Sys2Proof.Machine

section
variable {j : Job} {s : State}

/-! ### SRC_OPEN (R143) -/

/-- The channel that SRC_OPEN gives (Table 6-3): WAITING, with the second path only where DUAL asks for it. -/
def Job.openedSrc (j : Job) (now : Nat) : Src :=
  let a : PathState := { port := idIndex (j.u16 4), dst := beVal (j.bytes 8 16), udp := j.u16 40, since := now }
  let b : PathState := { port := idIndex (j.u16 6), dst := beVal (j.bytes 24 16), udp := j.u16 42, since := now }
  { st := .waiting, typ := j.u8 2, dual := j.u8 3 % 2 = 1, rtcpMux := (j.u8 3).testBit 1
    paths := [a, if j.u8 3 % 2 = 1 then b else {}]
    pt := j.u8 44, p1 := j.u16 46, p2 := j.u16 48, p3 := j.u16 50, p4 := j.u16 52, lastAccepted := now }

/-- What comes with a new channel `n`: an ingest channel's decode context and frame numbers, or an audio stream's play-out. -/
def State.withFreshContext (s : State) (n typ : Nat) : State :=
  if n < 64 then { s with
    dec := { s.dec with
      ctxs := modAt s.dec.ctxs n fun _ => { bufs := if typ = 3 || typ = 5 then List.replicate 3 {} else [] }
      gimpCh := modAt s.dec.gimpCh n fun q => { q with nextSeq := 1, backSeq := 0, lost := [] } } }
  else { s with aud := { s.aud with streams := modAt s.aud.streams (n - 64) fun _ => {} } }

theorem srcOpen_run (hclosed : (s.src (srcIndex (j.u16 0))).st = .closed)
    (hraw : ¬(j.u8 2 = 3 ∧ 32 ≤ (s.net.srcs.filter fun c => c.st ≠ .closed && c.typ = 3).length))
    (hheap : ¬(j.u8 2 = 5 ∧ s.heapFree < 3 * footprint (j.u16 46) (j.u16 48) 10)) :
    cmdSrcOpen.run j s = .ok ((s.modSrc (srcIndex (j.u16 0)) fun _ => j.openedSrc s.now).withFreshContext (srcIndex (j.u16 0))
      (j.u8 2)) [] :=
  (if_neg (not_not.2 hclosed)).trans ((if_neg (by simpa using hraw)).trans (if_neg (by simpa using hheap)))

/-! ### SRC_CLOSE (R144) -/

/-- What SRC_CLOSE leaves: no membership and an empty channel; of an ingest channel no slice-lock, frame or decode context. -/
def State.withClosedSrc (s : State) (j : Job) : State :=
  let n := srcIndex (j.u16 0)
  let s1 := (s.leaveAll n).modSrc n fun _ => {}
  if n < 64 then
    let s2 := (s1.sliceRelease j n).releaseFrames (j.u16 0)
    { s2 with dec := { s2.dec with ctxs := modAt s2.dec.ctxs n fun _ => {} } }
  else s1

theorem srcClose_run : cmdSrcClose.run j s = .ok (s.withClosedSrc j) [] := by
  simp only [cmdSrcClose, State.withClosedSrc]
  split <;> rfl

/-! ### SRC_JOIN and SRC_LEAVE (R161) -/

theorem srcJoin_repeated (h : (s.src (srcIndex (j.u16 0))).joins.contains (joinOf j) = true) : cmdSrcJoin.run j s = .ok s [] :=
  if_pos h

theorem srcJoin_adds (hnew : (s.src (srcIndex (j.u16 0))).joins.contains (joinOf j) = false)
    (hroom : ((s.src (srcIndex (j.u16 0))).joins.filter fun y => y.path = j.u8 2).length < 16) :
    cmdSrcJoin.run j s = .ok (s.setJoins (srcIndex (j.u16 0)) (joinOf j) (· ++ [joinOf j])) [] :=
  (if_neg (ne_true_of_eq_false hnew)).trans (if_neg (Nat.not_le.2 hroom))

theorem srcLeave_removes (h : (s.src (srcIndex (j.u16 0))).joins.contains (joinOf j) = true) :
    cmdSrcLeave.run j s = .ok (s.setJoins (srcIndex (j.u16 0)) (joinOf j) (·.erase (joinOf j))) [] :=
  if_pos h

/-! ### SRC_GET_STATS (R163, Table 6-9) -/

/-- The counters of Table 6-9, in its order. -/
def Src.statCounters (c : Src) : List Nat :=
  [(c.paths.getD 0 {}).accepted, (c.paths.getD 1 {}).accepted, c.ctr.delivered, c.ctr.duplicates, c.ctr.lost, c.ctr.late,
    c.ctr.reordered, c.ctr.strangers, c.ctr.contention, c.ctr.frames, c.ctr.incomplete]

/-- FLAGS, two zero bytes and the owned SSRC: path A's, or path B's while A owns none. -/
def State.statHead (s : State) (c : Src) : List Byte :=
  let a := c.paths.getD 0 {}
  let b := c.paths.getD 1 {}
  leBytes 1 (b2n (c.contested && s.now < c.contestedUntil) + 2 * b2n (s.receiving a) + 4 * b2n (c.dual && s.receiving b) +
    8 * b2n (a.filter.ssrcFixed || (c.dual && b.filter.ssrcFixed))) ++ zeros 2 ++ leBytes 4 (a.owned.getD (b.owned.getD 0))

/-- What follows the counters: the last arrival, jitter, skew and the peak wait. -/
def State.statTail (s : State) (c : Src) : List Byte :=
  timeBytes c.lastArrival ++ leBytes 4 (sat32 (c.jitterNs / 1000)) ++ leBytes 4 (unsigned 32 (satS 32 (s.skewUs c))) ++
    leBytes 4 (sat32 (c.waitPeakNs / 1000)) ++ zeros 8

theorem statHead_length (c : Src) : (s.statHead c).length = 7 := rfl

theorem srcGetStats_run {c : Src} (hc : c = s.src (srcIndex (j.u16 0))) : cmdSrcGetStats.run j s =
    .ok (s.modSrc (srcIndex (j.u16 0)) fun c => { c with waitPeakNs := 0 })
      (leBytes 1 c.st.code ++ s.statHead c ++ c.statCounters.flatMap (leBytes 8) ++ s.statTail c) := by
  subst hc
  refine congrArg (CmdResult.ok _) ?_
  simp only [State.statHead, State.statTail, Src.statCounters, List.append_assoc]
  cases ((s.src (srcIndex (j.u16 0))).paths.getD 0 {}).owned <;> rfl

end

/-! ### The rows -/

theorem isRow_srcOpen : IsRow .srcOpen cmdSrcOpen := fun _ _ _ => rfl
theorem isRow_srcClose : IsRow .srcClose cmdSrcClose := fun _ _ _ => rfl
theorem isRow_srcSetFilter : IsRow .srcSetFilter cmdSrcSetFilter := fun _ _ _ => rfl
theorem isRow_srcJoin : IsRow .srcJoin cmdSrcJoin := fun _ _ _ => rfl
theorem isRow_srcLeave : IsRow .srcLeave cmdSrcLeave := fun _ _ _ => rfl
theorem isRow_srcGetStats : IsRow .srcGetStats cmdSrcGetStats := fun _ _ _ => rfl
theorem isRow_srcSetJitter : IsRow .srcSetJitter cmdSrcSetJitter := fun _ _ _ => rfl
theorem isRow_srcSetCredit : IsRow .srcSetCredit cmdSrcSetCredit := fun _ _ _ => rfl

/-- Settles O12: each command from its run. -/
theorem channelCommands : Obligations.ChannelCommands := by
  unfold Obligations.ChannelCommands
  refine ⟨?open_, ?close, ?filter, ?joined, ?join, ?leave, ?stats, ?jitter, ?credit⟩
  case open_ =>
    refine Runs.of isRow_srcOpen ?_
    rintro j s - - - ⟨hclosed, hraw, hheap⟩
    exact ⟨_, _, srcOpen_run hclosed hraw hheap, rfl, rfl⟩
  case close => exact Runs.of isRow_srcClose fun j s _ _ _ _ => ⟨_, _, srcClose_run, rfl, rfl⟩
  case filter => exact Runs.of isRow_srcSetFilter fun j s _ _ _ _ => ⟨_, _, rfl, rfl, rfl⟩
  case joined => exact Runs.of isRow_srcJoin fun j s _ _ _ h => ⟨_, _, srcJoin_repeated h, rfl, rfl⟩
  case join =>
    refine Runs.of isRow_srcJoin ?_
    rintro j s - - - ⟨hnew, hroom⟩
    exact ⟨_, _, srcJoin_adds hnew hroom, rfl, rfl⟩
  case leave => exact Runs.of isRow_srcLeave fun j s _ _ _ h => ⟨_, _, srcLeave_removes h, rfl, rfl⟩
  case stats =>
    refine Runs.of isRow_srcGetStats ?_
    rintro j s - - - -
    refine ⟨_, _, srcGetStats_run rfl, rfl, ?_⟩
    rintro c k rfl rfl
    exact ⟨_, _, statHead_length _, rfl⟩
  case jitter => exact Runs.of isRow_srcSetJitter fun j s _ _ _ _ => ⟨_, _, rfl, rfl, rfl⟩
  case credit => exact Runs.of isRow_srcSetCredit fun j s _ _ _ _ => ⟨_, _, rfl, rfl, rfl⟩

end Sys2Proof.Machine
end

section
/-! PROOF. A frame is taken on a network port (spec/06 R138, R142): counted, and dropped for its length or its tag. -/
namespace Sys2Proof.Machine

section
variable {s : State} {port vlan len : Nat}

theorem goodLength_iff : s.goodLength port vlan len = true ↔
    64 ≤ len ∧ len ≤ (s.port port).mtu + 18 + (if vlan = 0 then 0 else 4) := by
  rw [State.goodLength, Bool.and_eq_true, decide_eq_true_eq, decide_eq_true_eq]
  rfl

theorem takeFrame_badLength (h : s.goodLength port vlan len = false) : s.takeFrame port vlan len =
    ((s.rxFrame port len).modPortCtr port fun c => { c with rxLengthErr := c.rxLengthErr + 1 }, false) :=
  if_pos (by simp [h])

theorem takeFrame_otherTag (h : s.goodLength port vlan len = true) (hv : vlan ≠ (s.port port).vlan) : s.takeFrame port vlan len =
    ((s.rxFrame port len).modPortCtr port fun c => { c with rxVlanDrop := c.rxVlanDrop + 1 }, false) :=
  (if_neg (by simp [h])).trans (if_pos hv)

theorem takeFrame_good (h : s.goodLength port vlan len = true) (hv : vlan = (s.port port).vlan) :
    s.takeFrame port vlan len = (s.rxFrame port len, true) :=
  (if_neg (by simp [h])).trans (if_neg (not_not.2 hv))

theorem ownTag_vlan : s.ownTag port = (s.port port).vlan := rfl

/-- Only what a change makes of the port as it is matters. -/
theorem modPort_congr {f g : NetPort → NetPort} (h : f (s.port port) = g (s.port port)) : s.modPort port f = s.modPort port g := by
  simp only [State.modPort, modAt_congr s.net.ports port f g {} h]

/-- A change of a port that leaves SPEED leaves it on every port. -/
theorem modPort_speed {n : Nat} {f : NetPort → NetPort} (h : ∀ x, (f x).speed = x.speed) :
    ((s.modPort port f).port n).speed = (s.port n).speed := by
  simp only [State.port, State.modPort, List.getD_eq_getElem?_getD, modAt_getElem?]
  cases s.net.ports[n]? with
  | none => rfl
  | some x =>
    rw [Option.map_some, Option.getD_some, Option.getD_some]
    split
    · exact h x
    · rfl

end

end Sys2Proof.Machine
end

section
/-! PROOF. The network ports (spec/06 R138-R142, R162, R164, R165): the run of each command and the meaning of each event under its
condition, and the statement that gathers them. -/
namespace Sys2Proof.Machine

section
variable {j : Job} {s : State} {k : Nat} {x : NetPort}

/-! ### The commands (R141, R164, R165) -/

/-- NET_PORT_CONFIG restarts a port that it disables or enables, or whose SPEED or FEC it changes. -/
def State.restartsPort (s : State) (j : Job) : Bool :=
  j.u8 2 ≠ 1 || !(s.port (idIndex (j.u16 0))).enable || (s.port (idIndex (j.u16 0))).speed ≠ j.u8 3 ||
    (s.port (idIndex (j.u16 0))).fec ≠ decide (j.u8 4 = 1)

/-- The port as NET_PORT_CONFIG leaves it; a restart begins a new search at `now`. -/
def Job.configuredPort (j : Job) (restart : Bool) (now : Nat) (x : NetPort) : NetPort :=
  { x with
    enable := j.u8 2 = 1, speed := j.u8 3, fec := j.u8 4 = 1, command := j.u8 5 = 1, mtu := j.u16 6, vlan := j.u16 8
    searchRate := if restart then 1 else x.searchRate
    searchSince := if restart then now else x.searchSince
    lockSince := if restart then none else x.lockSince }

theorem netPortConfig_run : cmdNetPortConfig.run j s =
    .ok ((s.when (s.restartsPort j) (·.portDown (idIndex (j.u16 0)))).modPort (idIndex (j.u16 0))
      (j.configuredPort (s.restartsPort j) (s.when (s.restartsPort j) (·.portDown (idIndex (j.u16 0)))).now)) [] := by
  have hfec (b : Bool) : ((b = true) = (j.u8 4 = 1)) = (b = decide (j.u8 4 = 1)) := by cases b <;> simp
  simp only [cmdNetPortConfig, State.restartsPort, decide_not, hfec]
  rfl

/-- The counters of Table 6-10 that every kind of port keeps, in its order. -/
def NetCounters.frameCounters (c : NetCounters) : List Nat :=
  [c.rxFrames, c.rxOctets, c.rxFcsErr, c.rxLengthErr, c.rxVlanDrop, c.rxUnmatched, c.rxStranger, c.rxContention, c.txFrames,
    c.txOctets]

theorem netStats_run : ∃ tail : List Byte, cmdNetStats.run j s =
    .ok s ((s.port (idIndex (j.u16 0))).ctr.frameCounters.flatMap (leBytes 8) ++ tail) := by
  simp only [cmdNetStats, NetCounters.frameCounters, List.flatMap_cons, List.append_assoc]
  exact ⟨_, rfl⟩

theorem netLoop_run (h : ¬(j.req.transport = .network ∧ j.req.port = idIndex (j.u16 0))) : cmdNetLoop.run j s =
    .ok (s.modPort (idIndex (j.u16 0)) fun x => { x with
      loop := j.u8 2
      loopUntil := if j.u8 2 = 0 || j.u32 4 = 0 then none else some (s.now + j.u32 4 * 1000000) }) [] :=
  if_neg (by simpa using h)

theorem netLoopExpiry_due {until_ : Nat} (h : (s.port k).loopUntil = some until_) (hdue : until_ ≤ s.now) :
    netLoopExpiry k s = s.modPort k fun x => { x with loop := 0, loopUntil := none } := by
  simp only [netLoopExpiry, h, if_pos hdue]

/-! ### The search for a rate (R140) -/

/-- An ETH port that searches for its rate, at the end of a window. -/
structure SearchEnds (s : State) (k : Nat) (x : NetPort) : Prop where
  port : x = s.port k
  eth : k < 4
  enabled : x.enable = true
  auto : x.speed = 0
  noLink : x.link = false
  noLock : x.lockSince = none
  ended : x.searchSince + 500000000 ≤ s.now

theorem inWindow_iff {a : Nat} : x.inWindow a = true ↔ x.searchSince ≤ a ∧ a < x.searchSince + 500000000 := by
  simp [NetPort.inWindow]

theorem ethWindow_ends {lock : Option Nat} (h : SearchEnds s k x) : ethWindow k lock s = s.modPort k fun y =>
    if lock.any y.inWindow then { y with lockSince := lock } else { y with searchRate := 3 - y.searchRate, searchSince := s.now } := by
  obtain ⟨rfl, heth, hen, hauto, hlink, hlock, hend⟩ := h
  simp only [ethWindow, heth, hen, hauto, hlink, hlock, hend]
  rfl

theorem ethWindow_noLock {lock : Option Nat} (h : SearchEnds s k x)
    (hlock : ∀ a, lock = some a → a < x.searchSince ∨ x.searchSince + 500000000 ≤ a) :
    ethWindow k lock s = s.modPort k fun y => { y with searchRate := 3 - y.searchRate, searchSince := s.now } := by
  have hany : lock.any x.inWindow = false := by
    cases lock with
    | none => rfl
    | some a =>
      have := hlock a rfl
      rw [Option.any_some, ← Bool.not_eq_true, inWindow_iff]
      omega
  rw [ethWindow_ends h]
  exact modPort_congr (by rw [← h.port, hany]; rfl)

theorem ethWindow_lock {a : Nat} (h : SearchEnds s k x) (ha : x.searchSince ≤ a ∧ a < x.searchSince + 500000000) :
    ethWindow k (some a) s = s.modPort k fun y => { y with lockSince := some a } := by
  rw [ethWindow_ends h]
  exact modPort_congr (by rw [← h.port, Option.any_some, inWindow_iff.2 ha]; rfl)

/-! ### Links (R140, R142) -/

/-- Block lock of an ETH port has held for 100 ms: at the rate that the search seeks, reached in its window, or at the fixed rate. -/
structure LockHeld (s : State) (k : Nat) (x : NetPort) (rate since : Nat) : Prop where
  port : x = s.port k
  eth : k < 4
  enabled : x.enable = true
  noLink : x.link = false
  held : since + 100000000 ≤ s.now
  after : x.searchSince ≤ since
  wanted : (x.speed = 0 ∧ rate = x.searchRate ∧ since < x.searchSince + 500000000 ∧
    (x.lockSince = none ∨ x.lockSince = some since)) ∨ (x.speed ≠ 0 ∧ rate = x.speed)

/-- A port that comes up, and its event. -/
def State.portUp (s : State) (k rate : Nat) (fec : Bool) : State :=
  (s.modPort k fun y => { y with link := true, curSpeed := rate, fecActive := fec, lockSince := none }).evtNet (0xD000 + k) 1 0xFF
    rate (b2n fec)

theorem ethUp_locked {rate since : Nat} (h : LockHeld s k x rate since) :
    ethUp k rate since s = (s.portUp k rate (x.fec && rate = 1)).when (x.speed = 0 && rate = 2) fun s =>
      (s.modPortCtr k fun c => { c with fallback := c.fallback + 1 }).evtNet (0xD000 + k) 3 0xFF 2 0 := by
  obtain ⟨rfl, heth, hen, hlink, hheld, hafter, hwant⟩ := h
  have hne : k ≠ 4 := by omega
  have h5 : k < 5 := by omega
  obtain ⟨hauto, hrate, hwin, hlock⟩ | ⟨hfix, hrate⟩ := hwant
  · have hin := inWindow_iff.2 ⟨hafter, hwin⟩
    have hall : ((s.port k).lockSince.all (· = since)) = true := by
      obtain hnone | hsome := hlock <;> simp [*]
    simp only [ethUp, hne, h5, heth, hen, hlink, hheld, hauto, hrate, hin, hall]
    rfl
  · simp only [ethUp, hne, h5, heth, hen, hlink, hheld, hfix, hrate, hafter]
    rfl

theorem linkUpRow_powered {rate since : Nat} (hp : s.pwr.pstate < 2) (hclk : k < 4 → s.clk.refLost = false) :
    linkUpRow k rate since s = ethUp k rate since s :=
  if_neg (by simpa [Nat.not_le.2 hp] using hclk)

theorem ethUp_rgmii {rate since : Nat} (hx : x = s.port 4) (hen : x.enable = true) (hlink : x.link = false)
    (hlo : 3 ≤ rate) (hhi : rate ≤ 5) (hspeed : x.speed = 0 ∨ x.speed = rate) : ethUp 4 rate since s = s.portUp 4 rate false := by
  subst hx
  have hwant : ((decide (3 ≤ rate) && decide (rate ≤ 5)) && (decide ((s.port 4).speed = 0) || decide ((s.port 4).speed = rate))) =
      true := by simpa [hlo, hhi] using hspeed
  simp only [ethUp, hen, hlink, if_true, hwant]
  rfl

/-- A lost block lock is counted on an ETH port. -/
def State.lockLost (s : State) (k : Nat) : State :=
  s.when (k < 4) (·.modPortCtr k fun c => { c with blockLockLoss := c.blockLockLoss + 1 })

theorem lockLost_speed : ((s.lockLost k).port k).speed = (s.port k).speed := by
  unfold State.lockLost State.when
  split
  · exact modPort_speed fun _ => rfl
  · rfl

theorem lockLost_now : (s.lockLost k).now = s.now := by
  unfold State.lockLost State.when
  split <;> rfl

/-- Taking a link down takes no time. -/
theorem portDown_now : (s.portDown k).now = s.now := by
  unfold State.portDown
  split
  · rfl
  · exact congrArg Clk.elapsed (raiseOnce_delivers _ _ _ _ _).clk_eq

/-- A link that is up goes down, and the search begins anew. -/
theorem ethDown_linked (hk : k < 5) (hen : (s.port k).enable = true) (hup : (s.port k).link = true) :
    ethDown k s = ((s.lockLost k).portDown k).modPort k fun y => { y with
      searchRate := 1, searchSince := ((s.lockLost k).portDown k).now } := by
  rw [portDown_now]
  simp only [ethDown, hk, hen, hup]
  rfl

/-- A search that loses its lock moves to the other rate. -/
theorem ethDown_searching (hk : k < 5) (hen : (s.port k).enable = true) (hdown : (s.port k).link = false) :
    ethDown k s = (s.lockLost k).modPort k fun y => { y with
      searchRate := if (s.port k).speed = 0 then 3 - y.searchRate else y.searchRate, searchSince := s.now, lockSince := none } := by
  rw [← lockLost_now (k := k), ← lockLost_speed]
  simp only [ethDown, hk, hen, hdown]
  exact modPort_congr rfl

/-! ### Neighbours (R138) -/

theorem neighbourAnswer_badLength {q : NeighbourQuery} (hrx : s.portRx q.port = true)
    (hlen : s.goodLength q.port (s.port q.port).vlan q.frameLen = false) : neighbourAnswer q s =
      (s.rxFrame q.port q.frameLen).modPortCtr q.port fun c => { c with rxLengthErr := c.rxLengthErr + 1 } := by
  simp only [neighbourAnswer, hrx, takeFrame_badLength hlen]
  rfl

/-- The request is for an address of its port: an IPv6 one of NDP and ICMPv6, else an IPv4 one. -/
def State.ownsTarget (s : State) (q : NeighbourQuery) : Bool :=
  if q.kind = 1 || q.kind = 3 then (s.port q.port).addrFlags.testBit 1 && q.target = (s.port q.port).ipv6
  else (s.port q.port).addrFlags.testBit 0 && q.target = (s.port q.port).ipv4

theorem neighbourAnswer_taken {q : NeighbourQuery} {own : Bool} (hrx : s.portRx q.port = true)
    (hlen : s.goodLength q.port (s.port q.port).vlan q.frameLen = true) (hown : own = s.ownsTarget q) : neighbourAnswer q s =
      if own ∧ q.kind ≤ 3 then
        ((s.rxFrame q.port q.frameLen).txFrame q.port (q.frameLen - (if (s.port q.port).vlan = 0 then 18 else 22))).emit
          (.linkAnswer q.port q.kind q.target (if 2 ≤ q.kind then q.bytes else []))
      else s.rxFrame q.port q.frameLen := by
  rw [hown, State.ownsTarget]
  simp only [neighbourAnswer, hrx, takeFrame_good hlen rfl, Bool.and_eq_true, decide_eq_true_eq]
  rfl

/-! ### Membership (R162) -/

theorem membershipQuery_badLength {q : MemberQuery} (hrx : s.portRx q.port = true)
    (hlen : s.goodLength q.port (s.port q.port).vlan q.frameLen = false) : membershipQuery q s =
      (s.rxFrame q.port q.frameLen).modPortCtr q.port fun c => { c with rxLengthErr := c.rxLengthErr + 1 } := by
  simp only [membershipQuery, hrx, ownTag_vlan, takeFrame_badLength hlen]
  rfl

/-- A query that is taken is counted, and an older version remembered for 260 s. -/
def State.queryHeard (s : State) (q : MemberQuery) : State :=
  ((s.rxFrame q.port q.frameLen).modPortCtr q.port fun c => { c with queriesRx := c.queriesRx + 1 }).when
    (q.version < (if q.v6 then 2 else 3)) (·.modPort q.port fun x => { x with
      olderQuerier := x.olderQuerier.filter (fun o => !(o.1 = q.v6 && o.2.1 = q.version)) ++
        [(q.v6, q.version, s.now + 260 * nsPerSec)] })

/-- The groups joined on the port that the query covers. -/
def State.queriedGroups (s : State) (q : MemberQuery) : List Nat :=
  (((s.portJoins q.port).map (·.group)).eraseDups).filter fun g => isV4 g = !q.v6 && (q.group = 0 || q.group = g)

/-- The report of a group's membership as it is. -/
def State.reportCurrent (s : State) (port group : Nat) : State :=
  match s.membership port group with
  | some l => s.sendReport port group
      [if (s.compat port group).isSome then (4, []) else if l.isEmpty then (2, []) else (1, l)] (s.compat port group)
  | none => s

theorem membershipQuery_taken {q : MemberQuery} (hrx : s.portRx q.port = true)
    (hlen : s.goodLength q.port (s.port q.port).vlan q.frameLen = true) : membershipQuery q s =
      (s.queryHeard q).forEach ((s.queryHeard q).queriedGroups q) fun g s => s.reportCurrent q.port g := by
  simp only [membershipQuery, hrx, ownTag_vlan, takeFrame_good hlen rfl]
  rfl

end

/-! ### The rows -/

theorem isRow_netPortConfig : IsRow .netPortConfig cmdNetPortConfig := fun _ _ _ => rfl
theorem isRow_netAddr : IsRow .netAddr cmdNetAddr := fun _ _ _ => rfl
theorem isRow_netStats : IsRow .netStats cmdNetStats := fun _ _ _ => rfl
theorem isRow_netLoop : IsRow .netLoop cmdNetLoop := fun _ _ _ => rfl

theorem exec_netLoopExpiry (t k : Nat) (s : State) : exec (.netLoopExpiry t k) s = .next (settle (netLoopExpiry k (s.tick t))) := rfl
theorem exec_ethSpeedWindowExpiry (t : Nat) (o : LockWindow) (s : State) :
    exec (.ethSpeedWindowExpiry t o) s = .next (settle (ethWindow o.port o.lock (s.tick t))) := rfl
theorem exec_ethLinkUp (t k : Nat) (o : BlockLock) (s : State) :
    exec (.ethLinkUp t k o) s = .next (settle (linkUpRow k o.rate o.since (s.tick t))) := rfl
theorem exec_ethLinkDown (t k : Nat) (s : State) : exec (.ethLinkDown t k) s = .next (settle (ethDown k (s.tick t))) := rfl
theorem exec_arpNdpIcmpRequest (t : Nat) (q : NeighbourQuery) (s : State) :
    exec (.arpNdpIcmpRequest t q) s = .next (settle (neighbourAnswer q (s.tick t))) := rfl
theorem exec_membershipQuery (t : Nat) (q : MemberQuery) (s : State) :
    exec (.membershipQuery t q) s = .next (settle (membershipQuery q (s.tick t))) := rfl
theorem exec_membershipReportRetransmit (t k : Nat) (s : State) :
    exec (.membershipReportRetransmit t k) s = .next (settle (reportRetransmit k (s.tick t))) := rfl

/-- Settles O13: the commands from their runs, the events from their meanings on the ticked state. -/
theorem networkPortRows : Obligations.NetworkPortRows := by
  unfold Obligations.NetworkPortRows
  refine ⟨?config, ?addr, ?stats, ?loop, ?loopEnds, ?window, ?up, ?upRgmii, ?down, ?neighbour, ?query, ?badLength, ?repeats⟩
  case config => exact Runs.of isRow_netPortConfig fun j s _ _ _ _ => ⟨_, _, netPortConfig_run, rfl, rfl⟩
  case addr => exact Runs.of isRow_netAddr fun j s _ _ _ _ => ⟨_, _, rfl, rfl, rfl⟩
  case stats =>
    refine Runs.of isRow_netStats ?_
    rintro j s - - - -
    obtain ⟨tail, hrun⟩ := netStats_run (j := j) (s := s)
    exact ⟨_, _, hrun, rfl, fun c hc => ⟨tail, by rw [hc]; rfl⟩⟩
  case loop => exact Runs.of isRow_netLoop fun j s _ _ _ h => ⟨_, _, netLoop_run h, rfl, rfl⟩
  case loopEnds =>
    rintro t k s0 s until_ rfl huntil hdue
    rw [exec_netLoopExpiry, netLoopExpiry_due huntil hdue]
  case window =>
    rintro t k lock s0 s x rfl hx hk hen hauto hlink hlock hend
    have hends : SearchEnds (s0.tick t) k x := ⟨hx, hk, hen, hauto, hlink, hlock, hend⟩
    refine ⟨fun hout => ?_, ?_⟩
    · rw [exec_ethSpeedWindowExpiry, ethWindow_noLock hends hout]
    · rintro a rfl hlo hhi
      rw [exec_ethSpeedWindowExpiry, ethWindow_lock hends ⟨hlo, hhi⟩]
  case up =>
    rintro t k rate since s0 s x rfl hx hen hlink hp hk hclk hheld hafter hwant
    rw [exec_ethLinkUp, linkUpRow_powered hp fun _ => hclk, ethUp_locked ⟨hx, hk, hen, hlink, hheld, hafter, hwant⟩]
    rfl
  case upRgmii =>
    rintro t rate since s0 s x rfl hx hen hlink hp hlo hhi hspeed
    rw [exec_ethLinkUp, linkUpRow_powered hp fun h => absurd h (by omega), ethUp_rgmii hx hen hlink hlo hhi hspeed]
    rfl
  case down =>
    rintro t k s0 s x rfl rfl hk hen
    rw [exec_ethLinkDown]
    cases hlink : ((s0.tick t).port k).link with
    | true => rw [ethDown_linked hk hen hlink]; rfl
    | false => rw [ethDown_searching hk hen hlink]; rfl
  case neighbour =>
    rintro t q s0 s own rfl hrx hlen hown
    rw [exec_arpNdpIcmpRequest, neighbourAnswer_taken hrx hlen hown]
  case query =>
    rintro t q s0 s s1 rfl hrx hlen rfl
    rw [exec_membershipQuery, membershipQuery_taken hrx hlen]
    rfl
  case badLength =>
    rintro t q m s0 s rfl
    refine ⟨fun hrx hlen => ?_, fun hrx hlen => ?_⟩
    · rw [exec_arpNdpIcmpRequest, neighbourAnswer_badLength hrx hlen]
    · rw [exec_membershipQuery, membershipQuery_badLength hrx hlen]
  case repeats =>
    rintro t k s0 s rfl
    exact exec_membershipReportRetransmit t k s0

end Sys2Proof.Machine
end
section
/-! PROOF. Packets and the time limits of ingest channels (spec/06 R138, R142, R145, R149, R151, R154): each meaning under its
condition, and the statement that gathers them. -/
namespace Sys2Proof.Machine

section
variable {s : State} {k : Packet} {n : Nat}

/-! ### A frame on a port (R138, R142, R145) -/

/-- A frame arrives on a running port on which FEC counts nothing. -/
structure FrameArrives (s : State) (k : Packet) : Prop where
  running : s.portRx k.port = true
  noFec : (s.port k.port).fecActive = false

theorem packetReceive_badFcs (h : FrameArrives s k) (hf : k.fcsOk = false) :
    packetReceive k s = s.modPortCtr k.port fun c => { c with rxFcsErr := c.rxFcsErr + 1 } := by
  simp only [packetReceive, h.running, h.noFec, hf, Bool.and_false]
  rfl

/-- A frame that its port drops is no more than counted. -/
theorem packetReceive_dropped {u : State} (h : FrameArrives s k) (hf : k.fcsOk = true)
    (hd : s.takeFrame k.port k.vlan k.frameLen = (u, false)) : packetReceive k s = u := by
  simp only [packetReceive, h.running, h.noFec, hf, hd, Bool.and_false, Bool.not_true, Bool.false_eq_true, if_false]
  rfl

/-- A frame that its port takes: a good FCS, a length of the port and its tag. -/
structure FrameTaken (s : State) (k : Packet) : Prop extends FrameArrives s k where
  fcs : k.fcsOk = true
  length : s.goodLength k.port k.vlan k.frameLen = true
  tag : k.vlan = (s.port k.port).vlan

/-- The paths that a packet's destination matches, channel by channel (R145). -/
def State.pathHits (s : State) (k : Packet) : List (Nat × Nat) :=
  (List.range 96).flatMap fun n => ([0, 1].filter fun i => (s.src n).matches_ i k).map fun i => (n, i)

/-- An RTP or RTCP packet on an ETH port is offered to every path it matches. -/
theorem packetReceive_media {hits : List (Nat × Nat)} (h : FrameTaken s k) (hport : k.port ≠ 4) (hother : ∀ b, k.body ≠ .other b)
    (hpdelay : ∀ n v q, k.body ≠ .pdelayReq n v q) (hhits : hits = (s.rxFrame k.port k.frameLen).pathHits k) : packetReceive k s =
      if hits.isEmpty then
        (s.rxFrame k.port k.frameLen).modPortCtr k.port fun c => { c with rxUnmatched := c.rxUnmatched + 1 }
      else (s.rxFrame k.port k.frameLen).forEach hits fun h s => s.offerPath h.1 h.2 k := by
  subst hhits
  simp only [packetReceive, h.running, h.noFec, h.fcs, takeFrame_good h.length h.tag, Bool.and_false, Bool.not_true,
    Bool.false_eq_true, if_false]
  cases hb : k.body with
  | other known => exact absurd hb (hother known)
  | pdelayReq number transport requester => exact absurd hb (hpdelay number transport requester)
  | rtp p => exact if_neg hport
  | rtcp ssrc sr => exact if_neg hport

theorem packetReceive_pdelay {number transport requester : Nat} (h : FrameTaken s k) (hb : k.body = .pdelayReq number transport requester)
    (ha : (s.rxFrame k.port k.frameLen).answersPdelay k.port number transport = true) : packetReceive k s =
      ((s.rxFrame k.port k.frameLen).txFrame k.port (54 + ptpHeaders transport)).emit (.ptpResponse k.port transport requester) := by
  simp only [packetReceive, h.running, h.noFec, h.fcs, takeFrame_good h.length h.tag, hb, ha, Bool.and_false,
    Bool.not_true, Bool.false_eq_true, if_false, if_true]

/-! ### The end of a window (R154) -/

/-- Where a unit is at the front, a packet waits. -/
theorem wait_pos {wait : List PktRec} {run : List PktRec} {rest : List (List PktRec)} (h : unitRuns wait = run :: rest) :
    0 < wait.length := by
  cases wait with
  | nil => exact absurd h (List.cons_ne_nil _ _).symm
  | cons k ks => exact Nat.succ_pos _

theorem reorderExpiry_open (ho : (s.src n).st ≠ .closed) : reorderExpiry n s = s.flush n := if_neg ho

/-- The unit at the front is delivered, and then what is due behind it. -/
theorem flush_front {run : List PktRec} {rest : List (List PktRec)} {early : Bool} (hs : s.bySlice n = false)
    (hrun : unitRuns (s.src n).wait = run :: rest) (hdue : s.unitDue (s.src n) run (rest.head?.bind List.head?) = some early) :
    s.flush n = flushUnits n ((s.src n).wait.length - 1)
      (s.deliverRun n run rest.flatten (rest.head?.bind List.head?) early) := by
  obtain ⟨m, hm⟩ := Nat.exists_eq_add_one.2 (wait_pos hrun)
  rw [State.flush, hs, if_neg Bool.false_ne_true, hm, Nat.add_sub_cancel]
  simp only [flushUnits, hrun, hdue]

theorem flush_slices (hs : s.bySlice n = true) : s.flush n = flushSlices n (2 * (s.src n).wait.length + 4) s := if_pos hs

/-! ### Time limits (R149, R151, R166) -/

theorem candidateTimeout_due {d : Candidate} (hd : (s.src n).cand = some d) (hi : d.inter = false)
    (hdue : d.lastAt + 100000000 ≤ s.now) : candidateTimeout n s = s.stray n := by
  simp only [candidateTimeout, hd, hi, hdue]
  rfl

theorem channelSilent_due (hst : (s.src n).st = .active) (hdue : (s.src n).lastAccepted + nsPerSec ≤ s.now) :
    channelSilent n s = (s.modSrc n fun c => { c with st := .silent }).evtNet (srcId n) 11 0xFF 0 0 :=
  if_pos (by simp [hst, hdue])

theorem contestClear_due (hc : (s.src n).contested = true) (hdue : (s.src n).contestedUntil ≤ s.now) : contestClear n s =
    (s.modSrc n fun c => { c with contested := false }).evtNet (srcId n) 8 0xFF (sat32 (s.src n).contestCount) 0 :=
  if_pos (by simp [hc, hdue])

theorem pathDown_due {path : Nat} {p : PathState} (hp : p = (s.src n).paths.getD path {}) (ho : (s.src n).st ≠ .closed)
    (hdual : (s.src n).dual = true) (hpath : path < 2) (hup : p.down = false)
    (hdue : p.lastAccepted.getD p.since + 100000000 ≤ s.now) : pathDown n path s =
      (s.modSrc n fun c => { c with paths := modAt c.paths path fun p => { p with down := true } }).evtNet (srcId n) 5 path 0 0 := by
  simp only [pathDown, ← hp, ho, ne_eq, not_false_eq_true, hdual, hpath, hup, hdue]
  rfl

end

/-! ### The rows -/

theorem exec_packetReceive (t : Nat) (k : Packet) (s : State) :
    exec (.packetReceive t k) s = .next (settle (packetReceive k (s.tick t))) := rfl
theorem exec_reorderWindowExpiry (t n : Nat) (s : State) :
    exec (.reorderWindowExpiry t n) s = .next (settle (reorderExpiry n (s.tick t))) := rfl
theorem exec_candidateTimeout (t n : Nat) (s : State) :
    exec (.candidateTimeout t n) s = .next (settle (candidateTimeout n (s.tick t))) := rfl
theorem exec_channelSilent (t n : Nat) (s : State) : exec (.channelSilent t n) s = .next (settle (channelSilent n (s.tick t))) := rfl
theorem exec_contestClear (t n : Nat) (s : State) : exec (.contestClear t n) s = .next (settle (contestClear n (s.tick t))) := rfl
theorem exec_pathDown (t n path : Nat) (s : State) :
    exec (.pathDown t n path) s = .next (settle (pathDown n path (s.tick t))) := rfl

/-- Settles O14: each row from its meaning on the ticked state. -/
theorem ingestEvents : Obligations.IngestEvents := by
  unfold Obligations.IngestEvents
  refine ⟨?packet, ?pdelay, ?unit, ?slice, ?candidate, ?silent, ?contest, ?down⟩
  case packet =>
    rintro t k s0 s rfl hrx hfec
    have harr : FrameArrives (s0.tick t) k := ⟨hrx, hfec⟩
    refine ⟨fun hfcs => ?_, ?_⟩
    · rw [exec_packetReceive, packetReceive_badFcs harr hfcs]
    rintro s1 big hfcs rfl rfl
    refine ⟨fun hbad => ?_, fun hlo hhi htag => ?_, ?_⟩
    · have hlen : (s0.tick t).goodLength k.port k.vlan k.frameLen = false := by
        rw [← Bool.not_eq_true, goodLength_iff]
        omega
      rw [exec_packetReceive, packetReceive_dropped harr hfcs (takeFrame_badLength hlen)]
    · rw [exec_packetReceive, packetReceive_dropped harr hfcs (takeFrame_otherTag (goodLength_iff.2 ⟨hlo, hhi⟩) htag)]
    · rintro hits hlo hhi htag hport hother hpdelay hhits
      have hmedia := packetReceive_media ⟨harr, hfcs, goodLength_iff.2 ⟨hlo, hhi⟩, htag⟩ hport hother hpdelay hhits
      refine ⟨fun hnone => ?_, fun hsome => ?_⟩
      · rw [exec_packetReceive, hmedia, if_pos (List.isEmpty_iff.2 hnone)]
      · rw [exec_packetReceive, hmedia, if_neg (mt List.isEmpty_iff.1 hsome)]
  case pdelay =>
    rintro t k number transport requester s0 s rfl hrx hfec hfcs hlen htag hb ha
    rw [exec_packetReceive, packetReceive_pdelay ⟨⟨hrx, hfec⟩, hfcs, hlen, htag⟩ hb ha]
  case unit =>
    rintro t n s0 s c run rest early rfl rfl ho hs hrun hdue
    rw [exec_reorderWindowExpiry, reorderExpiry_open ho, flush_front hs hrun hdue]
  case slice =>
    rintro t n s0 s rfl ho hs
    rw [exec_reorderWindowExpiry, reorderExpiry_open ho, flush_slices hs]
  case candidate =>
    rintro t n s0 s d rfl hd hi hdue
    rw [exec_candidateTimeout, candidateTimeout_due hd hi hdue]
  case silent =>
    rintro t n s0 s rfl hst hdue
    rw [exec_channelSilent, channelSilent_due hst hdue]
  case contest =>
    rintro t n s0 s rfl hc hdue
    rw [exec_contestClear, contestClear_due hc hdue]
  case down =>
    rintro t n path s0 s c p rfl rfl hp ho hdual hpath hup hdue
    rw [exec_pathDown, pathDown_due hp ho hdual hpath hup hdue]

end Sys2Proof.Machine
end

section
/-! PROOF. Decode contexts (spec/07 R168-R186): the run of each command, the row that is published, the picture that is done, and the
statement that gathers them. -/
namespace Sys2Proof.Machine

/-! ### Decode contexts (R170) -/

section
variable {s : State} {ch k : Nat}

theorem ctx_modCtx_self (h : ch < s.dec.ctxs.length) (f : Ctx → Ctx) : (s.modCtx ch f).ctx ch = f (s.ctx ch) :=
  modAt_getD_self _ _ _ _ h

theorem ctx_modCtx_other (h : k ≠ ch) (f : Ctx → Ctx) : (s.modCtx ch f).ctx k = s.ctx k := modAt_getD_other _ _ _ _ _ h

/-- What a change of a context leaves of every context, it leaves of the one that it is made to, in the table or not. -/
theorem ctx_modCtx_part {α : Type} {π : Ctx → α} {f : Ctx → Ctx} (h : ∀ c, π (f c) = π c) : π ((s.modCtx ch f).ctx k) = π (s.ctx k) := by
  simp only [State.ctx, State.modCtx, List.getD_eq_getElem?_getD, modAt_getElem?]
  cases s.dec.ctxs[k]? with
  | none => rfl
  | some c =>
    rw [Option.map_some, Option.getD_some, Option.getD_some]
    split
    · exact h c
    · rfl

theorem ctxs_modRec (s : State) (o n : Nat) (f : GimpRec → GimpRec) : (s.modRec o n f).dec.ctxs = s.dec.ctxs := by
  unfold State.modRec State.modQuota
  split <;> rfl

theorem ctxs_discardRec (s : State) (o n : Nat) : (s.discardRec o n).dec.ctxs = s.dec.ctxs :=
  (ctxs_modRec _ _ _ _).trans (ctxs_modRec s _ _ _)

theorem ctxs_releaseFrames (s : State) (o : Nat) : (s.releaseFrames o).dec.ctxs = s.dec.ctxs := by
  unfold State.releaseFrames
  dsimp only
  split <;> rfl

end

/-! ### Flushing a context (Table 7-3) -/

/-- A context whose picture under reconstruction, `p`, is dropped with its buffer. -/
def Ctx.dropping (c : Ctx) (p : CurPic) : Ctx := { c.modBuf p.buf fun _ => {} with cur := none }

/-- A context without the picture under reconstruction. -/
def Ctx.withoutCur (c : Ctx) : Ctx := match c.cur with
  | none => c
  | some p => c.dropping p

/-- A context in the state `st` whose references are gone and whose pool is free. -/
def Ctx.emptied (st : DecState) (c : Ctx) : Ctx :=
  { c.clearRefs with st, bufs := List.replicate c.bufs.length {}, latest := none, prevOut := none, waiting := 0, craStart := none }

/-- A context that holds nothing any more: neither CPB nor picture nor reference. -/
def Ctx.flushed (st : DecState) (c : Ctx) : Ctx := { c.emptied st with cpb := [], cur := none }

theorem ctxs_dropCpb (s : State) (ch : Nat) : (s.dropCpb ch).dec.ctxs = modAt s.dec.ctxs ch fun c => { c with cpb := [] } := by
  have h : (s.forEach (s.ctx ch).cpb fun x s => s.discardRec (0x1000 + ch) x.seq).dec.ctxs = s.dec.ctxs :=
    State.forEach_keeps (p := fun u => u.dec.ctxs = s.dec.ctxs) (fun _ _ hu => (ctxs_discardRec _ _ _).trans hu) _ s rfl
  exact congrArg (fun l => modAt l ch fun c => { c with cpb := [] }) h

theorem modAt_id {α : Type} (l : List α) (i : Nat) : modAt l i id = l :=
  List.ext_getElem? fun k => by simp [modAt_getElem?]

theorem ctxs_dropCur (s : State) (ch : Nat) : (s.dropCur ch).dec.ctxs = modAt s.dec.ctxs ch Ctx.withoutCur := by
  cases h : (s.ctx ch).cur with
  | none =>
    have hid : (s.ctx ch).withoutCur = id (s.ctx ch) := by
      rw [Ctx.withoutCur, h]
      rfl
    rw [State.dropCur, h, modAt_congr s.dec.ctxs ch Ctx.withoutCur id {} hid, modAt_id]
  | some p =>
    have hcur : (s.ctx ch).withoutCur = (s.ctx ch).dropping p := by
      rw [Ctx.withoutCur, h]
    rw [State.dropCur, h, modAt_congr s.dec.ctxs ch Ctx.withoutCur (fun c => c.dropping p) {} hcur]
    exact congrArg (fun l => modAt l ch fun c => c.dropping p) (ctxs_discardRec s _ _)

theorem flushed_of_steps (st : DecState) (c : Ctx) : Ctx.emptied st (Ctx.withoutCur { c with cpb := [] }) = c.flushed st := by
  cases hc : c.cur with
  | none => simp [Ctx.withoutCur, Ctx.emptied, Ctx.flushed, Ctx.clearRefs, hc]
  | some p => simp [Ctx.withoutCur, Ctx.dropping, Ctx.emptied, Ctx.flushed, Ctx.clearRefs, Ctx.modBuf, hc]

/-- Of the decode contexts, a flush changes the one that it is made to. -/
theorem ctxs_flushCtx (s : State) (ch : Nat) (st : DecState) : (s.flushCtx ch st).dec.ctxs = modAt s.dec.ctxs ch (Ctx.flushed st) :=
  calc (s.flushCtx ch st).dec.ctxs
    _ = modAt (((s.dropCpb ch).dropCur ch).releaseFrames (0x1000 + ch)).dec.ctxs ch (Ctx.emptied st) := rfl
    _ = modAt (modAt (modAt s.dec.ctxs ch fun c => { c with cpb := [] }) ch Ctx.withoutCur) ch (Ctx.emptied st) := by
      rw [ctxs_releaseFrames, ctxs_dropCur, ctxs_dropCpb]
    _ = modAt s.dec.ctxs ch (Ctx.flushed st) := by
      rw [modAt_modAt, modAt_modAt]
      exact congrArg (modAt s.dec.ctxs ch) (funext fun c => flushed_of_steps st c)

theorem ctx_flushCtx_self {s : State} {ch : Nat} (h : ch < s.dec.ctxs.length) (st : DecState) :
    (s.flushCtx ch st).ctx ch = (s.ctx ch).flushed st := by
  rw [State.ctx, ctxs_flushCtx]
  exact modAt_getD_self _ _ _ _ h

theorem ctx_flushCtx_other {s : State} {ch k : Nat} (h : k ≠ ch) (st : DecState) : (s.flushCtx ch st).ctx k = s.ctx k := by
  rw [State.ctx, ctxs_flushCtx]
  exact modAt_getD_other _ _ _ _ _ h

/-! ### The commands (R168-R172, R177) -/

section
variable {j : Job} {s : State}

/-- The settings that DEC_CONFIG stores in a context (Table 7-2), with its pool free. -/
def Job.configuredCtx (j : Job) (c : Ctx) : Ctx :=
  { c with
    st := .configured, codec := j.u8 2, profile := j.u8 3, level := j.u8 4, bufs := List.replicate (j.u8 5) {}
    conceal := j.u8 6, joinAny := j.u8 7 = 1, maxW := j.u16 8, maxH := j.u16 10, cpbKib := j.u32 12, bitDepth := j.u8 16
    latest := none, prevOut := none, lastPic := none, dpbNeeded := 0 }

/-- The coding that a channel's type carries (R170); a forwarded one carries either. -/
theorem codec_of_type {ty codec : Nat} (h : ty = 1 ∧ codec = 1 ∨ ty = 2 ∧ codec = 2 ∨ ty = 6) :
    (ty = 1 ∨ ty = 2 ∨ ty = 6) ∧ ¬(ty = 1 ∧ codec ≠ 1) ∧ ¬(ty = 2 ∧ codec ≠ 2) := by omega

theorem decConfig_run
    (hcodec : (s.src (idIndex (j.u16 0))).typ = 1 ∧ j.u8 2 = 1 ∨ (s.src (idIndex (j.u16 0))).typ = 2 ∧ j.u8 2 = 2 ∨
      (s.src (idIndex (j.u16 0))).typ = 6)
    (hcpb : leastCpb (j.u8 2) (j.u8 3) (j.u8 4) ≤ j.u32 12) (hstopped : (s.ctx (idIndex (j.u16 0))).running = false)
    (hheap : j.u8 5 * footprint (j.u16 8) (j.u16 10) (j.u8 16) + j.u32 12 * 1024 ≤ s.heapFree + (s.ctx (idIndex (j.u16 0))).heap) :
    cmdDecConfig.run j s = .ok (s.modCtx (idIndex (j.u16 0)) j.configuredCtx) [] := by
  obtain ⟨htype, havc, hhevc⟩ := codec_of_type hcodec
  refine (if_neg ?type).trans ((if_neg ?codec).trans ((if_neg (Nat.not_lt.2 hcpb)).trans
    ((if_neg (ne_true_of_eq_false hstopped)).trans (if_neg (Nat.not_lt.2 hheap)))))
  case type => simpa only [Bool.not_eq_true, Bool.not_eq_false', Bool.or_eq_true, decide_eq_true_eq, or_assoc] using htype
  case codec => simpa only [Bool.or_eq_true, Bool.and_eq_true, decide_eq_true_eq, not_or] using ⟨havc, hhevc⟩

theorem decStart_run (h : (s.ctx (idIndex (j.u16 0))).st = .configured) :
    cmdDecStart.run j s = .ok (s.modCtx (idIndex (j.u16 0)) fun c => { c with st := .seeking }) [] := if_pos h

theorem decStop_run (h : (s.ctx (idIndex (j.u16 0))).running = true) :
    cmdDecStop.run j s = .ok ((s.sliceRelease j (idIndex (j.u16 0))).flushCtx (idIndex (j.u16 0)) .configured) [] := if_pos h

theorem decFlush_run (h : (s.ctx (idIndex (j.u16 0))).running = true) :
    cmdDecFlush.run j s = .ok ((s.sliceRelease j (idIndex (j.u16 0))).flushCtx (idIndex (j.u16 0)) .seeking) [] := if_pos h

/-- A buffer of the pool as DEC_GET_POOL reports it (Table 7-6). -/
def Ctx.poolEntry (c : Ctx) (b : Buf × Nat) : List Byte :=
  leBytes 1 b.2 ++ leBytes 1 (c.marks b.2 + 64 * b2n (!b.1.taintedCells.isEmpty && c.marks b.2 ≠ 0)) ++ leBytes 1 (Ctx.holds b.1) ++
    zeros 1 ++ leBytes 4 (if c.marks b.2 = 0 then 0 else unsigned 32 b.1.poc)

/-- The pool of the channel with this ID (Table 7-6). -/
def Ctx.poolBytes (c : Ctx) (id : Nat) : List Byte :=
  leBytes 2 id ++ leBytes 1 c.bufs.length ++ leBytes 1 c.st.code ++ leBytes 1 c.dpbNeeded ++ leBytes 1 c.conceal ++
    leBytes 2 c.stalls ++ c.bufs.zipIdx.flatMap c.poolEntry

theorem decGetPool_run (h : (s.ctx (idIndex (j.u16 0))).st ≠ .unconfigured) :
    cmdDecGetPool.run j s = .ok (s.modCtx (idIndex (j.u16 0)) fun c => { c with stalls := 0 })
      ((s.ctx (idIndex (j.u16 0))).poolBytes (j.u16 0)) := if_neg h

theorem decSetConceal_run (h : (s.ctx (idIndex (j.u16 0))).st ≠ .unconfigured) :
    cmdDecSetConceal.run j s = .ok (s.modCtx (idIndex (j.u16 0)) fun c => { c with conceal := j.u8 2 }) [] := if_neg h

end

/-! ### A row is published (R179, R183, R185) -/

/-- The luma samples of a row that are concealed. -/
def rowConceals (i : RowInfo) (x y : Nat) : Bool :=
  i.blocks.any fun k => k.pred = .concealed && k.x ≤ x && x < k.x + k.w && k.y ≤ y && y < k.y + k.h

/-- Damage is met in a row. -/
def rowDamages (i : RowInfo) : Bool := i.blocks.any fun k => k.pred = .concealed

/-- Where a luma sample of a row is copied from, if a substitute predicts it (R182). -/
def CurPic.rowSource (p : CurPic) (i : RowInfo) (x y : Nat) : Option (Buf × Int × Int) :=
  (i.blocks.find? fun k => k.x ≤ x && x < k.x + k.w && k.y ≤ y && y < k.y + k.h).bind p.copyOf

/-- The samples that a row brings; without chroma in the stream they are mid-grey (R167). -/
def CurPic.rowSamples (p : CurPic) (cur : Buf) (i : RowInfo) : Samples :=
  let grey := List.replicate (chromaCols cur.width * chromaLines 1 (min cur.ctu (cur.height - i.row * cur.ctu))) (midGrey cur.bitDepth)
  if p.unit.sps.any fun q => q.chroma = 0 then { i.samples with cb := grey, cr := grey } else i.samples

/-- The context after the taint of a row's blocks (R186). -/
def Ctx.taintRow (c : Ctx) (p : CurPic) (i : RowInfo) : Ctx :=
  i.blocks.foldl (fun c k => c.modBuf p.buf fun b => b.setUnits k (c.blockTaint p k)) c

/-- The context after a row, written at the local time `now`. -/
def Ctx.withRow (c : Ctx) (p : CurPic) (i : RowInfo) (now : Nat) : Ctx :=
  let cur := c.bufs.getD p.buf {}
  (c.taintRow p i).modBuf p.buf fun b => { b with
    rows := b.rows ++ [(i.row, now)]
    rowPix := b.rowPix ++ [(i.row, cur.fillRow (if p.conceal = 1 then none else c.lastPic) i.row (rowConceals i)
      (cur.copyRow i.row (p.rowSource i) (p.rowSamples cur i)))] }

/-- The current picture after its row `r`. -/
def CurPic.afterRow (p : CurPic) (i : RowInfo) (r : RowLeft) : CurPic :=
  { p with
    rowsLeft := p.rowsLeft.erase r
    damaged := if rowDamages i then p.damaged ++ (p.sliceOf i.row).toList else p.damaged }

/-- What a row that is published leaves, once its references have been read. -/
def State.publishRow (s : State) (ch : Nat) (p : CurPic) (i : RowInfo) (r : RowLeft) : State :=
  let c := s.ctx ch
  let c1 := c.withRow p i s.local
  ((((s.modCtx ch fun _ => { c1 with cur := some (p.afterRow i r) }).addWork (3 + r.core / 2)
    ((r.samples - r.charged) * s.hoop.otp.costs.getD (if c.codec = 1 then 0 else 1) 0)).modRec (0x1000 + ch) p.unit.seq fun g =>
      { g with cells := g.cells ++ (c1.bufs.getD p.buf {}).taintedCells.filter fun k => !g.cells.contains k }).seeRows ch p.unit.seq)

theorem taintRow_codec (c : Ctx) (p : CurPic) (i : RowInfo) : (c.taintRow p i).codec = c.codec := by
  unfold Ctx.taintRow
  induction i.blocks generalizing c with
  | nil => rfl
  | cons k l ih => exact ih _

theorem withRow_codec (c : Ctx) (p : CurPic) (i : RowInfo) (now : Nat) : (c.withRow p i now).codec = c.codec := taintRow_codec c p i

/-- A row that is due, with its slice's data there and no damage that its blocks do not show, is published. -/
theorem decodeRow_due {s : State} {ch : Nat} {i : RowInfo} {p : CurPic} {r : RowLeft} (hcur : (s.ctx ch).cur = some p)
    (hdue : p.rowsLeft.find? (fun x => x.row = i.row && x.due ≠ 0 && x.due ≤ s.now) = some r) (hthere : p.rowGone i.row = false)
    (hshown : i.concealed = none)
    (hforced : p.forced (((s.readRefs ch p i.blocks).ctx ch).bufs.getD p.buf {}) i = []) :
    decodeRow ch i s = (s.readRefs ch p i.blocks).publishRow ch p i r := by
  have hcodec := withRow_codec ((s.readRefs ch p i.blocks).ctx ch) p i (s.readRefs ch p i.blocks).local
  rw [State.publishRow, ← hcodec]
  simp only [decodeRow, hcur, hdue, hthere, hshown, hforced, List.append_nil, Bool.not_false, Bool.and_true]
  rfl

/-! ### What the end of a picture leaves of its context (R177, R186, R195) -/

/-- The CPB of a context, its current picture and the one decoded last. -/
def Ctx.pictures (c : Ctx) : List CpbUnit × Option CurPic × Option Buf := (c.cpb, c.cur, c.lastPic)

/-- Among the decode contexts `u` differs from `s` in that of `ch` alone, which keeps its CPB, its current picture and the one decoded
last; heads, memory, clock and transactions stay. -/
structure KeepsPictures (ch : Nat) (s u : State) : Prop extends KeepsHeads s u where
  others : ∀ k, k ≠ ch → u.ctx k = s.ctx k
  pictures : (u.ctx ch).pictures = (s.ctx ch).pictures

section
variable {s u v : State} {ch : Nat}

theorem KeepsHeads.keepsPictures (h : KeepsHeads s u) (hd : u.dec.ctxs = s.dec.ctxs) : KeepsPictures ch s u := by
  have hc : ∀ k, u.ctx k = s.ctx k := fun k => by rw [State.ctx, hd, State.ctx]
  exact ⟨h, fun k _ => hc k, by rw [hc]⟩

theorem KeepsPictures.refl (ch : Nat) (s : State) : KeepsPictures ch s s := (KeepsHeads.refl s).keepsPictures rfl

theorem KeepsPictures.trans (h1 : KeepsPictures ch s u) (h2 : KeepsPictures ch u v) : KeepsPictures ch s v :=
  ⟨h1.toKeepsHeads.trans h2.toKeepsHeads, fun k hk => (h2.others k hk).trans (h1.others k hk),
    h2.pictures.trans h1.pictures⟩

theorem KeepsPictures.after (h2 : KeepsPictures ch u v) (h1 : KeepsPictures ch s u) : KeepsPictures ch s v := h1.trans h2

theorem KeepsPictures.ite {c : Prop} [Decidable c] (h1 : KeepsPictures ch s u) (h2 : KeepsPictures ch s v) :
    KeepsPictures ch s (if c then u else v) := by
  split
  · exact h1
  · exact h2

theorem KeepsPictures.when {b : Bool} {f : State → State} (hf : KeepsPictures ch s (f s)) : KeepsPictures ch s (s.when b f) :=
  KeepsPictures.ite hf (KeepsPictures.refl ch s)

theorem KeepsPictures.forEach {α : Type} {f : α → State → State} (hf : ∀ a s, KeepsPictures ch s (f a s)) (l : List α) (s : State) :
    KeepsPictures ch s (s.forEach l f) :=
  State.forEach_keeps (p := KeepsPictures ch s) (fun a u hu => hu.trans (hf a u)) l s (KeepsPictures.refl ch s)

theorem Delivers.keepsPictures (h : Delivers s u) : KeepsPictures ch s u := h.keepsHeads.keepsPictures (congrArg Dec.ctxs h.dec_eq)

theorem modCtx_keepsPictures {f : Ctx → Ctx} (hf : ∀ c, (f c).pictures = c.pictures) : KeepsPictures ch s (s.modCtx ch f) :=
  ⟨modCtx_keepsHeads s ch f, fun _ hk => ctx_modCtx_other hk f, ctx_modCtx_part hf⟩

end

theorem modRec_keepsPictures (s : State) (ch o n : Nat) (f : GimpRec → GimpRec) : KeepsPictures ch s (s.modRec o n f) :=
  (modRec_keepsHeads s o n f).keepsPictures (ctxs_modRec s o n f)

theorem modSrc_keepsPictures (s : State) (ch n : Nat) (f : Src → Src) : KeepsPictures ch s (s.modSrc n f) :=
  KeepsHeads.keepsPictures ⟨rfl, rfl, rfl, rfl⟩ rfl

theorem evtDecode_keepsPictures (s : State) (ch a b c d e : Nat) : KeepsPictures ch s (s.evtDecode ch a b c d e) :=
  KeepsPictures.ite (modCtx_keepsPictures fun _ => rfl) (raiseOnce_delivers s _ _ _ _).keepsPictures

theorem sweep_keepsPictures (s : State) (ch : Nat) : KeepsPictures ch s (s.sweep ch) := by
  unfold State.sweep
  refine KeepsPictures.forEach (fun _ s => ?_) _ s
  exact KeepsPictures.after (modCtx_keepsPictures fun _ => rfl) (modRec_keepsPictures s ch _ _ _)

theorem rejudge_keepsPictures (s : State) (ch n : Nat) : KeepsPictures ch s (s.rejudge ch n) := by
  unfold State.rejudge
  dsimp only
  split
  · exact KeepsPictures.refl ch s
  · exact KeepsPictures.ite (KeepsPictures.refl ch s) ((modSrc_keepsPictures _ ch _ _).after (modRec_keepsPictures s ch _ _ _))

theorem freezeUpdate_keepsPictures (s : State) (ch n : Nat) (z : Freeze) (luma : List Nat) (w h depth : Nat) :
    KeepsPictures ch s (s.freezeUpdate ch n z luma w h depth) := by
  unfold State.freezeUpdate
  extract_lets
  split
  · exact KeepsPictures.refl ch s
  · exact KeepsPictures.after (modCtx_keepsPictures fun _ => rfl) (modRec_keepsPictures s ch _ _ _)

theorem outputPicture_keepsPictures (s : State) (ch : Nat) (poc : Int) : KeepsPictures ch s (s.outputPicture ch poc) := by
  unfold State.outputPicture
  split
  · exact KeepsPictures.refl ch s
  · refine (sweep_keepsPictures _ ch).after ?_
    exact KeepsPictures.after (modCtx_keepsPictures fun _ => rfl) (freezeUpdate_keepsPictures s ch _ _ _ _ _ _)

theorem bumpWhile_keepsPictures (ch : Nat) (more : Ctx → Bool) : ∀ (n : Nat) (s : State), KeepsPictures ch s (bumpWhile ch more n s)
  | 0, s => KeepsPictures.refl ch s
  | n + 1, s => by
    unfold bumpWhile
    split
    · exact KeepsPictures.ite ((outputPicture_keepsPictures s ch _).trans (bumpWhile_keepsPictures ch more n _))
        (KeepsPictures.refl ch s)
    · exact KeepsPictures.refl ch s

theorem taintEvents_keepsPictures (s : State) (ch n q : Nat) : KeepsPictures ch s (s.taintEvents ch n q) := by
  refine KeepsPictures.trans (modCtx_keepsPictures (f := fun c =>
    { c with lastTainted := n, sinceTainted := if c.lastTainted = 0 then 0 else c.sinceTainted + 1 }) fun _ => rfl) ?_
  exact KeepsPictures.ite (evtDecode_keepsPictures _ ch _ _ _ _ _)
    (KeepsPictures.ite (evtDecode_keepsPictures _ ch _ _ _ _ _) (KeepsPictures.refl ch _))

theorem frameDone_keepsPictures (s : State) (ch n b : Nat) (allSkip : Bool) (cells : List Nat) :
    KeepsPictures ch s (s.frameDone ch n b allSkip cells) := by
  unfold State.frameDone
  refine (taintEvents_keepsPictures _ ch _ _).after ?_
  refine KeepsPictures.after (modCtx_keepsPictures fun _ => rfl) ?_
  exact (modRec_keepsPictures _ ch _ _ _).after (rejudge_keepsPictures s ch n)

theorem seeRows_keepsPictures (s : State) (ch n : Nat) : KeepsPictures ch s (s.seeRows ch n) := by
  unfold State.seeRows
  split
  · exact KeepsPictures.refl ch s
  · exact KeepsHeads.keepsPictures ⟨rfl, rfl, rfl, rfl⟩ rfl

/-! ### A picture is done (R177, R186, R188) -/

/-- The buffer `b` holds the picture that ends the recovery window. -/
def Ctx.endsWindow (c : Ctx) (b : Buf) : Bool := match c.window with
  | some w => (if c.codec = 1 then b.frameNum else b.poc) = w.target
  | none => false

/-- REC taint is dropped in a picture at or after the end of a recovery window. -/
def Ctx.dropsRec (c : Ctx) (b : Buf) : Bool := c.endsWindow b || (match c.recDrop with
  | some r => decide (r ≤ b.poc)
  | none => false)

/-- The buffer of a picture that is done: filtered, without REC taint past a recovery window, and marked as its unit says. -/
def Ctx.doneBuf (c : Ctx) (p : CurPic) (i : DoneInfo) : Buf :=
  let b := (c.bufs.getD p.buf {}).filterTaint i
  let b := if c.dropsRec b then { b with taint := (b.taint.map fun t => { t with rec_ := false }).filter (·.firm) } else b
  { b with
    decoding := false, shortRef := p.unit.info.refKind = 1, longRef := p.unit.info.refKind = 2, awaitOutput := p.unit.info.output }

/-- The picture ends its context's recovery window. -/
def Ctx.recovers (c : Ctx) (p : CurPic) (i : DoneInfo) : Bool := c.endsWindow ((c.bufs.getD p.buf {}).filterTaint i)

/-- The context whose picture is done. -/
def Ctx.withDone (c : Ctx) (p : CurPic) (i : DoneInfo) : Ctx :=
  let b := c.doneBuf p i
  let d := { (c.modBuf p.buf fun _ => b).dropRefs i.dropRefs with cur := none, lastPic := some b }
  if c.recovers p i then { d with
    window := none, recDrop := some b.poc, st := if d.st = .recovering then .decoding else d.st } else d

/-- Pictures are output as the sequence parameter set of a unit asks. -/
def State.bumpAfter (s : State) (ch : Nat) (p : CurPic) : State := match p.unit.sps with
  | some q => bumpWhile ch (Ctx.mustOutput q) 20 s
  | none => s

/-- What follows once the context has its picture `b` done: its record, the tiles that show it, its events, and the output. -/
def State.afterDone (s : State) (ch : Nat) (p : CurPic) (i : DoneInfo) (b : Buf) (recovered : Bool) : State :=
  let s := (s.frameDone ch p.unit.seq p.buf i.allSkip b.taintedCells).seeRows ch p.unit.seq
  let s := s.when (!p.unit.info.output) (·.finishRec ch p.unit.seq)
  let s := s.when recovered (·.evtDecode ch 8 0 b.taintedCells.length (unsigned 32 b.poc) p.unit.seq)
  (s.bumpAfter ch p).sweep ch

theorem decodeDone_idle {s : State} {ch : Nat} {i : DoneInfo} (h : (s.ctx ch).cur = none) : decodeDone ch i s = s := by
  simp only [decodeDone, h]

theorem decodeDone_whole {s : State} {ch : Nat} {i : DoneInfo} {p : CurPic} (hcur : (s.ctx ch).cur = some p) (h3 : (s.src ch).typ ≠ 3)
    (h5 : (s.src ch).typ ≠ 5) (hrows : p.rowsLeft = []) (hwhole : p.unit.whole = true) (hby : p.unit.info.byRows = false) :
    decodeDone ch i s = (s.modCtx ch fun _ => (s.ctx ch).withDone p i).afterDone ch p i ((s.ctx ch).doneBuf p i)
      ((s.ctx ch).recovers p i) := by
  simp only [decodeDone, hcur, h3, h5, hrows, hwhole, hby, if_false]
  rfl

theorem bumpAfter_keepsPictures (s : State) (ch : Nat) (p : CurPic) : KeepsPictures ch s (s.bumpAfter ch p) := by
  unfold State.bumpAfter
  split
  · exact bumpWhile_keepsPictures ch _ 20 s
  · exact KeepsPictures.refl ch s

theorem afterDone_keepsPictures (s : State) (ch : Nat) (p : CurPic) (i : DoneInfo) (b : Buf) (recovered : Bool) :
    KeepsPictures ch s (s.afterDone ch p i b recovered) := by
  unfold State.afterDone
  refine (sweep_keepsPictures _ ch).after ((bumpAfter_keepsPictures _ ch p).after ?_)
  refine KeepsPictures.after (KeepsPictures.when (evtDecode_keepsPictures _ ch _ _ _ _ _)) ?_
  refine KeepsPictures.after (KeepsPictures.when (modRec_keepsPictures _ ch _ _ _)) ?_
  exact (frameDone_keepsPictures s ch _ _ _ _).trans (seeRows_keepsPictures _ ch _)

/-- A picture that is done leaves the context and is its last decoded one; the CPB stays. -/
theorem withDone_pictures (c : Ctx) (p : CurPic) (i : DoneInfo) :
    (c.withDone p i).pictures = (c.cpb, none, some (c.doneBuf p i)) := by
  unfold Ctx.withDone
  dsimp only
  split <;> rfl

/-- The state after DECODE_DONE: the picture is no longer the current one but the last decoded. -/
theorem pictures_afterDone {s : State} {ch : Nat} (hch : ch < s.dec.ctxs.length) (p : CurPic) (i : DoneInfo) (b : Buf) (recovered : Bool) :
    (((s.modCtx ch fun _ => (s.ctx ch).withDone p i).afterDone ch p i b recovered).ctx ch).pictures =
      ((s.ctx ch).cpb, none, some ((s.ctx ch).doneBuf p i)) := by
  rw [(afterDone_keepsPictures _ ch p i b recovered).pictures, ctx_modCtx_self hch, withDone_pictures]

/-! ### The rows -/

theorem isRow_decConfig : IsRow .decConfig cmdDecConfig := fun _ _ _ => rfl
theorem isRow_decStart : IsRow .decStart cmdDecStart := fun _ _ _ => rfl
theorem isRow_decStop : IsRow .decStop cmdDecStop := fun _ _ _ => rfl
theorem isRow_decFlush : IsRow .decFlush cmdDecFlush := fun _ _ _ => rfl
theorem isRow_decGetPool : IsRow .decGetPool cmdDecGetPool := fun _ _ _ => rfl
theorem isRow_decSetConceal : IsRow .decSetConceal cmdDecSetConceal := fun _ _ _ => rfl

theorem exec_decodeRowComplete (t ch : Nat) (i : RowInfo) (s : State) :
    exec (.decodeRowComplete t ch i) s = .next (settle (decodeRow ch i (s.tick t))) := rfl
theorem exec_decodeDone (t ch : Nat) (i : DoneInfo) (s : State) :
    exec (.decodeDone t ch i) s = .next (settle (decodeDone ch i (s.tick t))) := rfl

/-- Settles O28: the commands from their runs, the flush from what it makes of its context, the events from their meanings on the
ticked state. -/
theorem decodeRows : Obligations.DecodeRows := by
  unfold Obligations.DecodeRows
  refine ⟨?config, ?start, ?stop, ?flush, ?flushed, ?pool, ?conceal, ?row, ?done, ?idle⟩
  case config =>
    refine Runs.of isRow_decConfig ?_
    rintro j s - - - ⟨hcodec, hcpb, hstopped, hheap⟩
    exact ⟨_, _, decConfig_run hcodec hcpb hstopped hheap, rfl, rfl⟩
  case start => exact Runs.of isRow_decStart fun j s _ _ _ h => ⟨_, _, decStart_run h, rfl, rfl⟩
  case stop => exact Runs.of isRow_decStop fun j s _ _ _ h => ⟨_, _, decStop_run h, rfl, rfl⟩
  case flush => exact Runs.of isRow_decFlush fun j s _ _ _ h => ⟨_, _, decFlush_run h, rfl, rfl⟩
  case flushed =>
    intro s ch st hch
    rw [ctx_flushCtx_self hch]
    exact ⟨rfl, rfl, rfl, rfl, rfl, fun k hk => ctx_flushCtx_other hk st⟩
  case pool =>
    refine Runs.of isRow_decGetPool ?_
    rintro j s - - - h
    refine ⟨_, _, decGetPool_run h, rfl, ?_⟩
    rintro c rfl
    rfl
  case conceal => exact Runs.of isRow_decSetConceal fun j s _ _ _ h => ⟨_, _, decSetConceal_run h, rfl, rfl⟩
  case row =>
    rintro t ch i s0 s p r s1 c cur c1 hit from_ grey given rfl hcur hshown hthere hdue rfl rfl rfl hforced rfl rfl rfl rfl rfl
    rw [exec_decodeRowComplete, decodeRow_due hcur hdue hthere hshown hforced]
    rfl
  case done =>
    rintro t ch i s0 s p hs hch hcur h3 h5 hrows hwhole hby
    have hpics := pictures_afterDone hch p i ((s.ctx ch).doneBuf p i) ((s.ctx ch).recovers p i)
    have hkept := afterDone_keepsPictures (s.modCtx ch fun _ => (s.ctx ch).withDone p i) ch p i ((s.ctx ch).doneBuf p i)
      ((s.ctx ch).recovers p i)
    simp only [Ctx.pictures, Prod.mk.injEq] at hpics
    obtain ⟨hcpb, hnone, hlast⟩ := hpics
    have hothers : ∀ k, k ≠ ch → _ = s.ctx k := fun k hk => (hkept.others k hk).trans (ctx_modCtx_other hk _)
    rw [exec_decodeDone, ← hs, decodeDone_whole hcur h3 h5 hrows hwhole hby]
    exact ⟨_, rfl, hnone, ⟨_, hlast, rfl⟩, hcpb, hothers, hkept.mem, hkept.clk, hkept.heads⟩
  case idle =>
    rintro t ch i s0 s rfl h
    rw [exec_decodeDone, decodeDone_idle h]

end Sys2Proof.Machine
end

section
/-! PROOF. Tables, styles, banners and the SAFE map (spec/09 R230, R231, R235, R236, R246-R248, R251): the shadow that a load writes to,
each command's run under its condition, and the statement that gathers them. -/
namespace Sys2Proof.Machine

section
variable {j : Job} {s : State}

/-! ### The shadow of a table (R231) -/

theorem shadow?_table {table : Nat} {x : Shadow} (h : s.shadow? table = some x) : x.table = table := by
  simpa using List.find?_some h

theorem shadowFor_table (coef : List (Nat × Int)) (lut : List (Nat × Nat)) : (s.shadowFor j coef lut).table = j.u16 0 := by
  unfold State.shadowFor
  split
  · next x h =>
    have htable : x.table = j.u16 0 := shadow?_table h
    exact htable
  · rfl

/-- A shadow that ends is gone, whatever was written to it last. -/
theorem endShadow_putShadow {x : Shadow} {table : Nat} (h : x.table = table) : (s.putShadow x).endShadow table = s.endShadow table := by
  simp [State.endShadow, State.putShadow, h, List.filter_filter]

/-- A load that carries entries begins a shadow where there was none. -/
theorem putShadow_of_entries (he : 0 < j.entries) (x : Shadow) :
    (if j.entries = 0 && (s.shadow? (j.u16 0)).isNone then s else s.putShadow x) = s.putShadow x :=
  if_neg (by simp [Nat.ne_of_gt he])

/-! ### COEF_LOAD (R230, R231) -/

/-- The shadow of a coefficient set with the entries of a load. -/
def State.coefShadow (s : State) (j : Job) : Shadow :=
  let y := s.shadowFor j (s.lay.coefs.getD (idIndex (j.u16 0) - 0xC0) []) []
  { y with
    coef := (List.range j.entries).foldl (fun c i => putEntry c (512 * j.u8 2 + j.u16 4 + i) (j.s16 (8 + 2 * i))) y.coef }

theorem coefShadow_table : (s.coefShadow j).table = j.u16 0 := shadowFor_table _ _

/-- A coefficient set is published; the change goes to the heads of the layers that use it, and reaches the others at once. -/
def State.publishCoefs (s : State) (j : Job) (coef : List (Nat × Int)) : State :=
  let k := idIndex (j.u16 0) - 0xC0
  let s2 := { s with lay := { s.lay with coefs := modAt s.lay.coefs k fun _ => coef } }
  let used := (s2.coefHeads k ++ s2.txnCoefHeads j k).eraseDups
  (s2.affect j used).forEach ((List.range 32).filter fun h => !used.contains h) fun h y => applyJob j h y

theorem coefLoad_writes (hb : s.shadowBusy j = false) (h3 : j.u8 3 = 0) (he : 0 < j.entries) :
    cmdCoefLoad.run j s = .ok (s.putShadow (s.coefShadow j)) [] := by
  refine (if_neg (by simp [hb])).trans ((if_pos h3).trans ?_)
  rw [putShadow_of_entries he, State.coefShadow]

theorem coefLoad_publishes (hb : s.shadowBusy j = false) (h3 : j.u8 3 = 1) (hsum : coefSums (s.coefShadow j).coef = true) :
    cmdCoefLoad.run j s =
      .ok (((s.putShadow (s.coefShadow j)).endShadow (j.u16 0)).publishCoefs j (s.coefShadow j).coef) [] := by
  rw [endShadow_putShadow coefShadow_table]
  have hgood : ¬(!coefSums (s.coefShadow j).coef) = true := by simp [hsum]
  exact (if_neg (by simp [hb])).trans ((if_neg (by simp [h3])).trans (if_neg hgood))

/-! ### LUT_LOAD_PRE and LUT_LOAD_POST (R231, R235) -/

/-- The shadow of a look-up table with the entries of a load, begun from `lut`. -/
def State.lutShadow (s : State) (j : Job) (lut : List (Nat × Nat)) : Shadow :=
  let y := s.shadowFor j [] lut
  { y with lut := lutWrite j y.lut }

/-- The shadow of a layer's pre-blend LUT. -/
def State.preShadow (s : State) (j : Job) : Shadow := s.lutShadow j (s.layer j.layer).cfg.preLut

/-- The shadow of a head's post-blend LUT. -/
def State.postShadow (s : State) (j : Job) : Shadow := s.lutShadow j (s.head (idIndex (j.u16 0))).accPostLut

theorem preShadow_table : (s.preShadow j).table = j.u16 0 := shadowFor_table _ _
theorem postShadow_table : (s.postShadow j).table = j.u16 0 := shadowFor_table _ _

theorem lutLoadPre_writes (hb : s.shadowBusy j = false) (h3 : j.u8 3 = 0) (he : 0 < j.entries) :
    cmdLutLoadPre.run j s = .ok (s.putShadow (s.preShadow j)) [] := by
  refine (if_neg (by simp [hb])).trans ((if_pos h3).trans ?_)
  rw [putShadow_of_entries he, State.preShadow, State.lutShadow]

theorem lutLoadPre_publishes (hb : s.shadowBusy j = false) (h3 : j.u8 3 = 1) :
    cmdLutLoadPre.run j s = .ok ((((s.putShadow (s.preShadow j)).endShadow (j.u16 0)).edited j.layer fun c =>
      { c with preLut := (s.preShadow j).lut }).affectLayer j j.layer []) [] := by
  rw [endShadow_putShadow preShadow_table]
  exact (if_neg (by simp [hb])).trans (if_neg (by simp [h3]))

theorem lutLoadPost_writes (hb : s.shadowBusy j = false) (h3 : j.u8 3 = 0) (he : 0 < j.entries) :
    cmdLutLoadPost.run j s = .ok (s.putShadow (s.postShadow j)) [] := by
  refine (if_neg (by simp [hb])).trans ((if_pos h3).trans ?_)
  rw [putShadow_of_entries he, State.postShadow, State.lutShadow]

theorem lutLoadPost_publishes (hb : s.shadowBusy j = false) (h3 : j.u8 3 = 1) :
    cmdLutLoadPost.run j s = .ok ((((s.putShadow (s.postShadow j)).endShadow (j.u16 0)).modHead (idIndex (j.u16 0)) fun h =>
      { h with accPostLut := (s.postShadow j).lut }).affect j [idIndex (j.u16 0)]) [] := by
  rw [endShadow_putShadow postShadow_table]
  exact (if_neg (by simp [hb])).trans (if_neg (by simp [h3]))

/-! ### TABLE_READ (R236) -/

/-- Entry `i` of the table that TABLE_READ names, as it is sent. -/
def Job.tableWord (j : Job) (s : State) (i : Nat) : List Byte := match j.u8 2 with
  | 0 => leBytes 2 (unsigned 16 (coefAt (s.lay.coefs.getD (idIndex (j.u16 0) - 0xC0) []) 0 i))
  | 1 => leBytes 2 (unsigned 16 (coefAt (s.lay.coefs.getD (idIndex (j.u16 0) - 0xC0) []) 1 i))
  | 2 => leBytes 2 (preLutAt (s.inForce j.layer).preLut (j.u8 3) i)
  | 3 => leBytes 2 (postLutAt (s.head (idIndex (j.u16 0))).postLut (j.u8 3) i)
  | 4 => leBytes 2 (srgbEncode i)
  | _ => (((s.lay.styles.getD (idIndex (j.u16 0) - 0xE0) {}).bytes (j.u16 0)).drop (2 * i)).take 2

theorem tableRead_run : cmdTableRead.run j s =
    .ok s (((List.range (j.u16 6)).map fun i => j.u16 4 + i).flatMap (j.tableWord s)) := rfl

/-! ### SHADOW_TIMEOUT (R231) -/

theorem shadowTimeout_due {table : Nat} {x : Shadow} (hx : s.shadow? table = some x) (hold : x.lastWrite + 10 * nsPerSec ≤ s.now) :
    shadowTimeout table s = s.endShadow table := by
  simp only [shadowTimeout, hx, if_pos hold]

/-! ### APPL_STYLE_LOAD and APPL_SAFE_MAP (R246, R248) -/

theorem applStyleLoad_builtIn (h0 : idIndex (j.u16 0) = 0xE0) : cmdApplStyleLoad.run j s = .fail eProtected 16 := by
  simp only [cmdApplStyleLoad, h0, Nat.sub_self, if_true]

theorem applStyleLoad_stores (h0 : 0xE0 < idIndex (j.u16 0)) : cmdApplStyleLoad.run j s = .ok (({ s with
    lay := { s.lay with styles := modAt s.lay.styles (idIndex (j.u16 0) - 0xE0) fun _ => styleOf j } } : State).affect j
      (List.range 32)) [] := by
  simp only [cmdApplStyleLoad, if_neg (Nat.sub_ne_zero_of_lt h0)]

/-- The heads of the banners that a SAFE input showed before APPL_SAFE_MAP and shows after it. -/
def State.safeMapHeads (s : State) (j : Job) : List Nat :=
  ((s.lay.safeMap.getD (idIndex (j.u16 0) - 0x80) none).toList.map fun b => bannerHead b.1) ++
    if j.u16 2 = 0 then [] else [bannerHead (j.u16 2)]

theorem applSafeMap_run : cmdApplSafeMap.run j s = .ok (({ s with
    lay := { s.lay with
      safeMap := modAt s.lay.safeMap (idIndex (j.u16 0) - 0x80) fun _ =>
        if j.u16 2 = 0 then none else some (j.u16 2, decide (j.u8 4 = 1)) } } : State).affect j (s.safeMapHeads j)) [] := by
  simp only [cmdApplSafeMap, State.safeMapHeads]
  cases s.lay.safeMap.getD (idIndex (j.u16 0) - 0x80) none <;> rfl

end

/-! ### The rows -/

theorem isRow_coefLoad : IsRow .coefLoad cmdCoefLoad := fun _ _ _ => rfl
theorem isRow_lutLoadPre : IsRow .lutLoadPre cmdLutLoadPre := fun _ _ _ => rfl
theorem isRow_lutLoadPost : IsRow .lutLoadPost cmdLutLoadPost := fun _ _ _ => rfl
theorem isRow_tableRead : IsRow .tableRead cmdTableRead := fun _ _ _ => rfl
theorem isRow_applStyleLoad : IsRow .applStyleLoad cmdApplStyleLoad := fun _ _ _ => rfl
theorem isRow_applBanner : IsRow .applBanner cmdApplBanner := fun _ _ _ => rfl
theorem isRow_applSafeMap : IsRow .applSafeMap cmdApplSafeMap := fun _ _ _ => rfl
theorem isRow_applStatus : IsRow .applStatus cmdApplStatus := fun _ _ _ => rfl

theorem exec_shadowTimeout (t table : Nat) (s : State) :
    exec (.shadowTimeout t table) s = .next (settle (shadowTimeout table (s.tick t))) := rfl

/-- Settles O19: the commands from their runs, the event from its meaning on the ticked state. -/
theorem tableCommands : Obligations.TableCommands := by
  unfold Obligations.TableCommands
  refine ⟨?coef, ?pre, ?post, ?read, ?timeout, ?builtIn, ?style, ?banner, ?safe, ?status⟩
  case coef =>
    rintro x rfl
    refine ⟨Runs.of isRow_coefLoad ?_, Runs.of isRow_coefLoad ?_⟩
    · rintro j s - - - ⟨hb, h3, he⟩
      exact ⟨_, _, coefLoad_writes hb h3 he, rfl, rfl⟩
    · rintro j s - - - ⟨hb, h3, -, hsum⟩
      exact ⟨_, _, coefLoad_publishes hb h3 hsum, rfl, rfl⟩
  case pre =>
    rintro x rfl
    refine ⟨Runs.of isRow_lutLoadPre ?_, Runs.of isRow_lutLoadPre ?_⟩
    · rintro j s - - - ⟨hb, h3, he⟩
      exact ⟨_, _, lutLoadPre_writes hb h3 he, rfl, rfl⟩
    · rintro j s - - - ⟨hb, h3, -⟩
      exact ⟨_, _, lutLoadPre_publishes hb h3, rfl, rfl⟩
  case post =>
    rintro x rfl
    refine ⟨Runs.of isRow_lutLoadPost ?_, Runs.of isRow_lutLoadPost ?_⟩
    · rintro j s - - - ⟨hb, h3, he⟩
      exact ⟨_, _, lutLoadPost_writes hb h3 he, rfl, rfl⟩
    · rintro j s - - - ⟨hb, h3, -⟩
      exact ⟨_, _, lutLoadPost_publishes hb h3, rfl, rfl⟩
  case read =>
    refine Runs.of isRow_tableRead ?_
    rintro j s - - - -
    refine ⟨_, _, tableRead_run, rfl, _, rfl, ?_⟩
    refine ⟨?_, ?_, ?_, ?_, ?_⟩ <;> exact fun hkind i => by simp only [Job.tableWord, hkind]
  case timeout =>
    rintro t table s0 s x rfl hx hold
    rw [exec_shadowTimeout, shadowTimeout_due hx hold, State.endShadow]
  case builtIn => exact Fails.of isRow_applStyleLoad fun j s _ h0 => applStyleLoad_builtIn h0
  case style => exact Runs.of isRow_applStyleLoad fun j s _ _ _ h0 => ⟨_, _, applStyleLoad_stores h0, rfl, rfl⟩
  case banner => exact Runs.of isRow_applBanner fun j s _ _ _ _ => ⟨_, _, rfl, rfl, rfl⟩
  case safe => exact Runs.of isRow_applSafeMap fun j s _ _ _ _ => ⟨_, _, applSafeMap_run, rfl, rfl⟩
  case status =>
    refine Runs.of isRow_applStatus ?_
    rintro j s - - - -
    refine ⟨_, _, rfl, rfl, ?_⟩
    rintro x rfl
    rfl

end Sys2Proof.Machine
end

section
/-! PROOF. The layers after a reset (spec/09 R219, spec/22 R495): a reset makes the display anew and leaves nothing that waits, the boot
ROM touches none of it, so what every row ends with does nothing. -/
namespace Sys2Proof.Machine

section
variable {s u : State}

/-- The layers are as at reset, no head has a programmable blend order, and neither a held command, a forward step nor a transaction
waits. -/
structure DisplayReset (s : State) : Prop where
  lay : s.lay = State.reset.lay
  heads : ∀ h ∈ s.heads, h.programmable = false
  held : s.hif.held = []
  forward : s.clk.lastForward = none
  txn : s.txn = State.reset.txn

/-! ### What the boot ROM leaves -/

theorem DisplayReset.record (hd : DisplayReset s) (code origin : Nat) (args : List Nat) :
    DisplayReset (s.record code origin args) := by
  unfold State.record State.logOnly State.sample
  exact ⟨hd.lay, hd.heads, hd.held, hd.forward, hd.txn⟩

theorem DisplayReset.modHoop (hd : DisplayReset s) (f : Hoop → Hoop) : DisplayReset (s.modHoop f) :=
  ⟨hd.lay, hd.heads, hd.held, hd.forward, hd.txn⟩

theorem DisplayReset.failTrial (hd : DisplayReset s) (result : Nat) : DisplayReset (s.failTrial result) := by
  unfold State.failTrial
  exact (hd.record _ _ _).modHoop _

/-- The clock may change otherwise. -/
theorem DisplayReset.withClk (hd : DisplayReset s) (clk : Clk) (hforward : clk.lastForward = none) : DisplayReset { s with clk } :=
  ⟨hd.lay, hd.heads, hd.held, hforward, hd.txn⟩

theorem DisplayReset.loadLocal (hd : DisplayReset s) : DisplayReset s.loadLocal := by
  unfold State.loadLocal
  exact hd.withClk _ hd.forward

/-- The Hoop and the host interface may change otherwise. -/
theorem DisplayReset.withHoopHif (hd : DisplayReset s) (hoop : Hoop) (hif : Hif) (hheld : hif.held = []) :
    DisplayReset { s with hoop, hif } :=
  ⟨hd.lay, hd.heads, hheld, hd.forward, hd.txn⟩

theorem DisplayReset.takeFree (hd : DisplayReset s) : DisplayReset s.takeFree.2 :=
  ⟨hd.lay, hd.heads, hd.held, hd.forward, hd.txn⟩

theorem raiseIrq_held (s : State) (c : Nat) : (s.raiseIrq c).hif.held = s.hif.held := by
  unfold State.raiseIrq
  split
  · rfl
  · dsimp only
    split <;> rfl

theorem DisplayReset.raiseIrq (hd : DisplayReset s) (c : Nat) : DisplayReset (s.raiseIrq c) := by
  have hkeeps := raiseIrq_delivers s c
  exact ⟨hkeeps.lay_eq.trans hd.lay, hkeeps.heads_eq ▸ hd.heads, (raiseIrq_held s c).trans hd.held, hkeeps.clk_eq ▸ hd.forward,
    hkeeps.txn_eq.trans hd.txn⟩

theorem DisplayReset.ite {c : Prop} [Decidable c] (h1 : DisplayReset s) (h2 : DisplayReset u) :
    DisplayReset (if c then s else u) := by
  split
  · exact h1
  · exact h2

theorem DisplayReset.when {f : State → State} (hd : DisplayReset s) (hf : DisplayReset (f s)) (b : Bool) :
    DisplayReset (s.when b f) := hf.ite hd

/-- A slot boots, from the one named or from the other with its record, or the boot ROM panics. -/
theorem DisplayReset.boot (hd : DisplayReset s) (trialFailed : Bool) : DisplayReset (s.boot trialFailed) := by
  have hclock := (DisplayReset.ite (c := trialFailed = true) (hd.failTrial 3) hd).loadLocal
  unfold State.boot
  refine .ite (.when (hclock.withHoopHif _ _ ?_) (.record (hclock.withHoopHif _ _ ?_) _ _ _) _)
    ((hclock.takeFree.withHoopHif _ _ ?_).raiseIrq 9)
  all_goals exact hclock.held

/-! ### The two resets (R495) -/

theorem porstKeeps_displayReset (s : State) : DisplayReset s.porstKeeps where
  lay := rfl
  heads h hh := by rw [List.eq_of_mem_replicate hh]
  held := rfl
  forward := rfl
  txn := rfl

theorem sysKeeps_displayReset (s : State) : DisplayReset s.sysKeeps where
  lay := rfl
  heads h hh := by
    obtain ⟨x, -, rfl⟩ := List.mem_map.1 hh
    rfl
  held := rfl
  forward := rfl
  txn := rfl

theorem porstAssert_displayReset (s : State) : DisplayReset (porstAssert s) := by
  unfold porstAssert
  dsimp only
  split
  · exact (porstKeeps_displayReset s).failTrial 3
  · exact porstKeeps_displayReset s

/-- The reset comes: PORST_B is not low, and no reset came at the same instant. -/
theorem warmReset_boots (hup : s.hif.hoopState ≠ 0 ∨ s.hif.panic = true)
    (hfirst : ¬(s.hif.hoopState = 1 ∧ s.hoop.releasedAt = s.now)) : warmReset s = s.sysKeeps.boot (s.hoop.upd.st = .trial) := by
  refine if_neg ?_
  simp only [Bool.or_eq_true, Bool.and_eq_true, decide_eq_true_eq, Bool.not_eq_true']
  rintro (⟨hdown, hpanic⟩ | hboth)
  · exact hup.elim (absurd hdown) (Bool.eq_false_iff.1 hpanic)
  · exact hfirst hboth

theorem DisplayReset.settle (hd : DisplayReset s) : settle s = s := by
  refine quietSettle s hd.held (by simp [hd.forward]) fun x hx => ?_
  rw [hd.txn] at hx
  exact absurd hx List.not_mem_nil

/-! ### What the display is then (R219) -/

theorem DisplayReset.length_layers (hd : DisplayReset s) : s.lay.layers.length = 192 := by
  rw [hd.lay]
  exact List.length_replicate

theorem DisplayReset.layer_eq (hd : DisplayReset s) {l : Layer} (hl : l ∈ s.lay.layers) : l = {} := by
  rw [hd.lay] at hl
  exact List.eq_of_mem_replicate hl

end

theorem exec_porstAssert (t : Nat) (s : State) : exec (.porstAssert t) s = .next (settle (porstAssert (s.tick t))) := rfl
theorem exec_warmReset (t : Nat) (s : State) : exec (.warmReset t) s = .next (settle (warmReset (s.tick t))) := rfl

theorem displayReset_of_porstAssert {t : Nat} {s u : State} (h : exec (.porstAssert t) s = .next u) : DisplayReset u := by
  have hreset := porstAssert_displayReset (s.tick t)
  rw [exec_porstAssert, hreset.settle, Host.Outcome.next.injEq] at h
  exact h ▸ hreset

theorem displayReset_of_warmReset {t : Nat} {s u : State} (h : exec (.warmReset t) s = .next u)
    (hup : (s.tick t).hif.hoopState ≠ 0 ∨ (s.tick t).hif.panic = true)
    (hfirst : ¬((s.tick t).hif.hoopState = 1 ∧ (s.tick t).hoop.releasedAt = (s.tick t).now)) : DisplayReset u := by
  have hreset := (sysKeeps_displayReset (s.tick t)).boot ((s.tick t).hoop.upd.st = .trial)
  rw [exec_warmReset, warmReset_boots hup hfirst, hreset.settle, Host.Outcome.next.injEq] at h
  exact h ▸ hreset

/-- Settles O49: both resets leave the display as at reset, where each layer has the values its fields start with. -/
theorem resetLayers : Obligations.ResetLayers := by
  unfold Obligations.ResetLayers
  refine ⟨fun t s u h => ?_, fun t s => ⟨_, exec_porstAssert t s⟩, fun t s => ⟨_, exec_warmReset t s⟩⟩
  have hd : DisplayReset u :=
    h.elim displayReset_of_porstAssert fun ⟨hwarm, hup, hfirst⟩ => displayReset_of_warmReset hwarm hup hfirst
  refine ⟨hd.length_layers, congrArg Lay.tiles hd.lay, fun l hl c hc => ?_, hd.heads⟩
  obtain rfl := hd.layer_eq hl
  obtain rfl | rfl | rfl := hc <;> exact ⟨rfl, rfl, rfl, rfl, rfl, rfl, rfl, rfl, rfl, fun _ _ => rfl⟩

end Sys2Proof.Machine
end

section
/-! PROOF. The head commands (spec/10 R253-R275): the run of each under its condition, and the statement that gathers them. -/
namespace Sys2Proof.Machine

section
variable {j : Job} {s : State}

/-- The head that a command names. -/
abbrev Job.head (j : Job) : Nat := idIndex (j.u16 0)

/-! ### HEAD_TIMING (R252, R253) -/

/-- The head as HEAD_TIMING accepts it: a configured apply line stays while it is legal. -/
def State.retimed (s : State) (j : Job) : State := s.modHead j.head fun x => { x with
  accTiming := some (timingOf j), accApplyLine := keepLine (timingOf j) x.accApplyLine }

theorem headTiming_run (hformat : (timingOf j).format ≠ 3 ∨ idType (s.head j.head).accTarget ≠ 8)
    (hres : (s.retimed j).headResources j.head = none) : cmdHeadTiming.run j s = .ok ((s.retimed j).affect j [j.head]) [] := by
  have hcodes : ¬((timingOf j).format = 3 && idType (s.head j.head).accTarget = 8) = true := by
    simpa [or_iff_not_imp_left] using hformat
  refine (if_neg hcodes).trans ?_
  rw [State.retimed] at hres
  simp only [hres, ite_self]
  rfl

/-! ### HEAD_BIND_PORT (R265) -/

/-- The streams of the other heads that are bound to the port or encode channel HEAD_BIND_PORT names. -/
def State.sharers (s : State) (j : Job) : List Nat :=
  (s.heads.zipIdx.filter fun x => x.2 ≠ j.head && x.1.accTarget = j.u16 2).map (·.1.accStream)

/-- The port or encode channel has room for the head: it is none, or no other head has it, or it is a port on which the stream
named and at most three others are in use. -/
def State.bindable (s : State) (j : Job) : Prop :=
  j.u16 2 = 0 ∨ s.sharers j = [] ∨
    (idType (j.u16 2) = 7 ∧ j.u8 4 ≠ 0 ∧ (s.sharers j).length < 4 ∧ 0 ∉ s.sharers j ∧ j.u8 4 ∉ s.sharers j)

theorem headBindPort_run (hoff : (s.head j.head).enabled = false) (hfree : s.bindable j) : cmdHeadBindPort.run j s =
    .ok ((s.modHead j.head fun x => { x with accTarget := j.u16 2, accStream := j.u8 4 }).affect j
      (j.head :: s.headsOf (j.u16 2))) [] := by
  have hbusy : (decide (j.u16 2 ≠ 0) && (if idType (j.u16 2) = 8 then !(s.sharers j).isEmpty else
      (s.sharers j).contains 0 || decide ((s.sharers j).length ≥ 4) || (decide (j.u8 4 = 0) && !(s.sharers j).isEmpty) ||
        (s.sharers j).contains (j.u8 4))) = false := by
    obtain hnone | halone | ⟨hport, hstream, hfew, hsst, hnew⟩ := hfree
    · simp [hnone]
    · simp [halone]
    · simp [hport, hstream, Nat.not_le.2 hfew, hsst, hnew]
  exact (if_neg (ne_true_of_eq_false hbusy)).trans (if_neg (ne_true_of_eq_false hoff))

/-! ### HEAD_APPLY_LINE (R261) -/

theorem headApplyLine_run (hline : j.u16 2 ≠ 0xFFFF →
      (s.head j.head).timed = true ∧ (checkTiming j (s.head j.head)).lineOk (j.u16 2) = true) :
    cmdHeadApplyLine.run j s = .ok ((s.modHead j.head fun x => { x with
      accApplyLine := if j.u16 2 = 0xFFFF then none else some (j.u16 2) }).affect j [j.head]) [] := by
  have htimed : ¬(decide (j.u16 2 ≠ 0xFFFF) && !(s.head j.head).timed) = true := by simpa using fun h => (hline h).1
  have hlegal : ¬(decide (j.u16 2 ≠ 0xFFFF) && !s.fixedJob j && !(checkTiming j (s.head j.head)).lineOk (j.u16 2)) = true := by
    simpa using fun h _ => (hline h).2
  exact (if_neg htimed).trans (if_neg hlegal)

/-! ### HEAD_GENLOCK (R262) -/

theorem headGenlock_timed (ht : (s.head j.head).timed = true)
    (hphase : j.u32 16 * (checkTiming j (s.head j.head)).num < nsPerSec * (checkTiming j (s.head j.head)).den)
    (hled : j.u8 2 = 0 → s.ledHead j j.head = false) : cmdHeadGenlock.run j s =
      .ok ((s.modHead j.head fun x => { x with accGenlockMode := j.u8 2 }).affect j [j.head]) [] :=
  (if_neg (by simp [Nat.not_le.2 hphase])).trans ((if_neg (by simpa using hled)).trans
    ((if_neg (by simp [ht])).trans (if_neg (by simp [ht]))))

/-- A head without timing has no genlock to switch off. -/
theorem headGenlock_untimed (ht : (s.head j.head).timed = false) (hoff : j.u8 2 = 0) (hled : s.ledHead j j.head = false) :
    cmdHeadGenlock.run j s = .ok s [] :=
  (if_neg (by simp [ht])).trans ((if_neg (by simp [hled])).trans
    ((if_neg (by simp [hoff])).trans (if_pos (by simp [ht]))))

/-! ### HEAD_ENABLE and HEAD_DISABLE (R270) -/

/-- HEAD_ENABLE's conditions on the head's binding: a port is trained, and for a stream of MST its sink takes streams. -/
def State.boundPortReady (s : State) (x : Head) : Prop :=
  idType x.accTarget = 7 → (s.dp (idIndex x.accTarget)).st = 2 ∧ (x.accStream = 0 ∨ (s.dp (idIndex x.accTarget)).mst = true)

theorem headEnable_run {x : Head} {s1 : State} (hx : x = s.head j.head)
    (hs1 : s1 = s.modHead j.head fun x => { x with accEnable := true }) (hoff : x.accEnable = false) (ht : x.timed = true)
    (hbound : x.accTarget ≠ 0) (hport : s.boundPortReady x) (hres : s1.headResources j.head = none) :
    cmdHeadEnable.run j s = .ok (s1.affect j [j.head]) [] := by
  subst hx hs1
  have hready : ¬(idType (s.head j.head).accTarget = 7 && ((s.dp (idIndex (s.head j.head).accTarget)).st ≠ 2 ||
      ((s.head j.head).accStream ≠ 0 && !(s.dp (idIndex (s.head j.head).accTarget)).mst))) = true := by
    simpa [State.boundPortReady, or_iff_not_imp_left] using hport
  refine (if_neg (ne_true_of_eq_false hoff)).trans ((if_neg (by simp [ht, hbound])).trans ((if_neg hready).trans ?_))
  simp only [hres, ite_self]

/-! ### HEAD_SELF_REFRESH (R271) -/

/-- The head may enter self-refresh: it scans to a port whose sink offers it, without a training on exit. -/
def State.selfRefreshable (s : State) (x : Head) : Prop :=
  x.st = .scanning ∧ idType x.target = 7 ∧ x.stream = 0 ∧
    ((s.dp (idIndex x.target)).psr = true ∨ (s.dp (idIndex x.target)).psr2 = true) ∧ (s.dp (idIndex x.target)).psrTrain = false

theorem headSelfRefresh_enters (hmode : j.u8 2 = 1) (hable : s.selfRefreshable (s.head j.head))
    (hbanner : s.anyBanner j.head = false)
    (hstill : (s.head j.head).lastAllPaused = true ∨ ∀ y ∈ s.tilesOn j.head, y.cfg.guarded = false) :
    cmdHeadSelfRefresh.run j s =
      .later (s.modHead j.head fun x => { x with st := .srEntry, srJob := some j, srFail := false }) := by
  obtain ⟨hst, htyp, hsst, hpsr, htrain⟩ := hable
  have hok : ¬(!((s.head j.head).st = .scanning && idType (s.head j.head).target = 7 && (s.head j.head).stream = 0 &&
      ((s.dp (idIndex (s.head j.head).target)).psr || (s.dp (idIndex (s.head j.head).target)).psr2) &&
      !(s.dp (idIndex (s.head j.head).target)).psrTrain)) = true := by
    simpa [hst, htyp, hsst, htrain, or_iff_not_imp_left] using hpsr
  have hguard : ¬(!(s.head j.head).lastAllPaused && (s.tilesOn j.head).any fun t => t.cfg.guarded) = true := by
    simpa [or_iff_not_imp_left] using hstill
  exact (if_neg (by simp [hmode])).trans ((if_neg hok).trans ((if_neg (ne_true_of_eq_false hbanner)).trans (if_neg hguard)))

/-! ### HEAD_GET_CRC (R275) -/

/-- The head has frames to report. -/
def Head.crcLive (x : Head) : Prop := x.st = .scanning ∨ x.st = .closing

theorem Head.crcLive.not_refused {x : Head} (h : x.crcLive) : ¬(!(x.st = .scanning || x.st = .closing)) = true := by
  simpa [Head.crcLive, or_iff_not_imp_left] using h

/-- The selection in force is answered by the last frame's CRCs, or waits for the first frame with it. -/
theorem headGetCrc_inForce (hlive : (s.head j.head).crcLive) (hsel : (s.head j.head).crcSel = some (j.u16 2)) :
    cmdHeadGetCrc.run j s =
      if (s.head j.head).crcOut.isEmpty then .later (s.modHead j.head fun x => { x with crcWaiting := x.crcWaiting ++ [j] })
      else .ok s ((s.head j.head).crcReply j.head (j.u16 2)) :=
  (if_neg hlive.not_refused).trans (if_pos hsel)

/-- Another selection waits while none does. -/
theorem headGetCrc_new (hlive : (s.head j.head).crcLive) (hsel : (s.head j.head).crcSel ≠ some (j.u16 2))
    (hpending : (s.head j.head).crcPending = none) :
    cmdHeadGetCrc.run j s = .later (s.modHead j.head fun x => { x with crcPending := some (j.u16 2, [j]) }) := by
  refine (if_neg hlive.not_refused).trans ((if_neg hsel).trans ?_)
  rw [hpending]

/-- A request for the selection that waits joins it. -/
theorem headGetCrc_joins {js : List Job} (hlive : (s.head j.head).crcLive) (hsel : (s.head j.head).crcSel ≠ some (j.u16 2))
    (hpending : (s.head j.head).crcPending = some (j.u16 2, js)) :
    cmdHeadGetCrc.run j s = .later (s.modHead j.head fun x => { x with crcPending := some (j.u16 2, js ++ [j]) }) := by
  refine (if_neg hlive.not_refused).trans ((if_neg hsel).trans ?_)
  rw [hpending]
  exact if_pos rfl

end

/-! ### The rows -/

theorem isRow_headTiming : IsRow .headTiming cmdHeadTiming := fun _ _ _ => rfl
theorem isRow_headBindPort : IsRow .headBindPort cmdHeadBindPort := fun _ _ _ => rfl
theorem isRow_headApplyLine : IsRow .headApplyLine cmdHeadApplyLine := fun _ _ _ => rfl
theorem isRow_headGenlock : IsRow .headGenlock cmdHeadGenlock := fun _ _ _ => rfl
theorem isRow_headEnable : IsRow .headEnable cmdHeadEnable := fun _ _ _ => rfl
theorem isRow_headDisable : IsRow .headDisable cmdHeadDisable := fun _ _ _ => rfl
theorem isRow_headSelfRefresh : IsRow .headSelfRefresh cmdHeadSelfRefresh := fun _ _ _ => rfl
theorem isRow_headGetCrc : IsRow .headGetCrc cmdHeadGetCrc := fun _ _ _ => rfl

/-- Settles O23: each command from its run. -/
theorem headCommands : Obligations.HeadCommands := by
  unfold Obligations.HeadCommands
  refine ⟨?timing, ?bind, ?line, ?genlock, ?genlockOff, ?enable, ?enabled, ?disable, ?disabled, ?leave, ?enter, ?crc, ?crcWaits,
    ?crcNew, ?crcJoins⟩
  case timing =>
    rintro m rfl
    refine Runs.of isRow_headTiming ?_
    rintro j s - - - ⟨hformat, hres⟩
    exact ⟨_, _, headTiming_run hformat (Option.isNone_iff_eq_none.1 hres), rfl, rfl⟩
  case bind =>
    rintro others rfl
    refine Runs.of isRow_headBindPort ?_
    rintro j s - - - ⟨hoff, hfree⟩
    exact ⟨_, _, headBindPort_run hoff hfree, rfl, rfl⟩
  case line => exact Runs.of isRow_headApplyLine fun j s _ _ _ hline => ⟨_, _, headApplyLine_run hline, rfl, rfl⟩
  case genlock =>
    refine Runs.of isRow_headGenlock ?_
    rintro j s - - - ⟨ht, hphase, hled⟩
    exact ⟨_, _, headGenlock_timed ht hphase hled, rfl, rfl⟩
  case genlockOff =>
    refine Runs.of isRow_headGenlock ?_
    rintro j s - - - ⟨ht, hoff, hled⟩
    exact ⟨_, _, headGenlock_untimed ht hoff hled, rfl, rfl⟩
  case enable =>
    rintro m rfl
    refine Runs.of isRow_headEnable ?_
    rintro j s - - - h
    obtain ⟨hoff, ht, hbound, hport, hres⟩ := h _ _ rfl rfl
    exact ⟨_, _, headEnable_run rfl rfl hoff ht hbound hport (Option.isNone_iff_eq_none.1 hres), rfl, rfl⟩
  case enabled => exact Runs.of isRow_headEnable fun j s _ _ _ hon => ⟨_, _, if_pos hon, rfl, rfl⟩
  case disable => exact Runs.of isRow_headDisable fun j s _ _ _ hon => ⟨_, _, if_pos hon, rfl, rfl⟩
  case disabled => exact Runs.of isRow_headDisable fun j s _ _ _ hoff => ⟨_, _, if_neg (ne_true_of_eq_false hoff), rfl, rfl⟩
  case leave => exact Runs.of isRow_headSelfRefresh fun j s _ _ _ hmode => ⟨_, _, if_pos hmode, rfl, rfl⟩
  case enter =>
    refine RunsLater.of isRow_headSelfRefresh ?_
    rintro j s - - - h
    obtain ⟨hmode, hst, htyp, hsst, hpsr, htrain, hbanner, hstill⟩ := h _ _ rfl rfl
    exact ⟨_, headSelfRefresh_enters hmode ⟨hst, htyp, hsst, hpsr, htrain⟩ hbanner hstill, rfl⟩
  case crc =>
    refine Runs.of isRow_headGetCrc ?_
    rintro j s - - - ⟨hlive, hsel, hout⟩
    exact ⟨_, _, (headGetCrc_inForce hlive hsel).trans (if_neg (by simpa using hout)), rfl, rfl⟩
  case crcWaits =>
    refine RunsLater.of isRow_headGetCrc ?_
    rintro j s - - - ⟨hlive, hsel, hout⟩
    exact ⟨_, (headGetCrc_inForce hlive hsel).trans (if_pos (List.isEmpty_iff.2 hout)), rfl⟩
  case crcNew =>
    refine RunsLater.of isRow_headGetCrc ?_
    rintro j s - - - ⟨hlive, hsel, hpending⟩
    exact ⟨_, headGetCrc_new hlive hsel hpending, rfl⟩
  case crcJoins =>
    intro js
    refine RunsLater.of isRow_headGetCrc ?_
    rintro j s - - - ⟨hlive, hsel, hpending⟩
    exact ⟨_, headGetCrc_joins hlive hsel hpending, rfl⟩

end Sys2Proof.Machine
end

section
/-! PROOF. DisplayPort ports (spec/10 R266-R268): the run of PORT_TRAIN under each condition, what a training that ends and each
change of HPD do, and the statement that gathers them. -/
namespace Sys2Proof.Machine

section
variable {j : Job} {s : State} {p : Nat}

/-! ### The port's state (R268) -/

theorem modDp_modDp (f g : DpPort → DpPort) : (s.modDp p f).modDp p g = s.modDp p (g ∘ f) := by
  simp only [State.modDp, modAt_modAt]

theorem setDpState_same {st : Nat} (h : (s.dp p).st = st) : s.setDpState p st = s := if_pos h

theorem setDpState_changed {st : Nat} (h : (s.dp p).st ≠ st) : s.setDpState p st = (s.modDp p fun x => { x with
    st, rate := if st = 2 then x.rate else 0, lanes := if st = 2 then x.lanes else 0 }).record 0x0602 (0x5000 + p) [0x7000 + p, st] :=
  if_neg h

/-! ### Where PORT_TRAIN takes effect (R131, R517) -/

theorem headsOf_nodup (target : Nat) : (s.headsOf target).Nodup := by
  unfold State.headsOf
  split
  · exact List.nodup_nil
  · have hindices : (s.heads.zipIdx.map (·.2)).Nodup := by simpa [List.zipIdx_map_snd] using List.nodup_range'
    exact hindices.sublist (List.filter_sublist.map _)

theorem portWaits_nodup : (s.portWaits j).Nodup := (headsOf_nodup _).filter _

theorem portWaits_later (ht : j.req.txn = 0) {h : Nat} (hh : h ∈ s.portWaits j) : (s.head h).immediate = false := by
  simpa [atOnce_direct ht] using (List.mem_filter.1 hh).2

/-- Where heads bound to the port wait for their apply line, the change joins those that wait for it. -/
theorem affectPort_waits (ht : j.req.txn = 0) (hw : s.portWaits j ≠ []) : s.affectPort j = s.waits j (s.portWaits j) := by
  have hsome : ¬(s.portWaits j).isEmpty = true := by simpa using hw
  exact (if_neg hsome).trans (affect_waits ht portWaits_nodup fun h => portWaits_later ht)

/-- Where none waits, the change comes into force at once. -/
theorem affectPort_now (hw : s.portWaits j = []) : s.affectPort j = applyJob j 0 s := if_pos (List.isEmpty_iff.2 hw)

theorem applyJob_portTrain (hc : j.cls = 0x21) (ho : j.op = 0x09) (h : Nat) : applyJob j h s = (s.dropChanges j).trainNow j := by
  have hother : ¬isLayerEdit j = true := by simp [isLayerEdit, hc]
  simp only [applyJob, if_neg hother, hc, ho]

/-- A start that comes into force on a port with a sink. -/
theorem trainNow_starts (hact : j.u8 2 = 1) (hidle : (s.dp (idIndex (j.u16 0))).training = false)
    (hsink : (s.dp (idIndex (j.u16 0))).hpd = true) :
    s.trainNow j = s.modDp (idIndex (j.u16 0)) fun x => { x with training := true, job := some j } :=
  (if_neg (by simp [hidle])).trans ((if_neg (by simp [hact])).trans (if_neg (by simp [hsink])))

/-! ### PORT_TRAIN (R267) -/

theorem portTrain_releases (hact : j.u8 2 = 2) (hidle : (s.dp (idIndex (j.u16 0))).training = false)
    (hfree : s.portHeads (idIndex (j.u16 0)) = []) (hw : s.portWaits j = []) : cmdPortTrain.run j s =
      .ok (s.releasePort (idIndex (j.u16 0))) ((s.releasePort (idIndex (j.u16 0))).dpReply (idIndex (j.u16 0))) :=
  (if_neg (by simp [hact])).trans ((if_neg (by simp [hidle])).trans ((if_pos hact).trans
    ((if_neg (by simp [hfree])).trans (if_neg (by simp [hw])))))

theorem portTrain_releaseWaits (hact : j.u8 2 = 2) (hidle : (s.dp (idIndex (j.u16 0))).training = false)
    (hfree : s.portHeads (idIndex (j.u16 0)) = []) (hw : s.portWaits j ≠ []) : cmdPortTrain.run j s = .later (s.affectPort j) :=
  (if_neg (by simp [hact])).trans ((if_neg (by simp [hidle])).trans ((if_pos hact).trans
    ((if_neg (by simp [hfree])).trans (if_pos (by simpa using hw)))))

theorem portTrain_noSink (hact : j.u8 2 = 1) (hidle : (s.dp (idIndex (j.u16 0))).training = false)
    (hsink : (s.dp (idIndex (j.u16 0))).hpd = false) : cmdPortTrain.run j s =
      .ok (s.setDpState (idIndex (j.u16 0)) 0) ((s.setDpState (idIndex (j.u16 0)) 0).dpReply (idIndex (j.u16 0))) :=
  (if_neg (by simp [hact])).trans ((if_neg (by simp [hidle])).trans ((if_neg (by simp [hact])).trans (if_pos (by simp [hsink]))))

theorem portTrain_sink (hact : j.u8 2 = 1) (hidle : (s.dp (idIndex (j.u16 0))).training = false)
    (hsink : (s.dp (idIndex (j.u16 0))).hpd = true) : cmdPortTrain.run j s = .later (s.affectPort j) :=
  (if_neg (by simp [hact])).trans ((if_neg (by simp [hidle])).trans ((if_neg (by simp [hact])).trans (if_neg (by simp [hsink]))))

/-! ### The end of a training (R267, R268) -/

/-- The port no longer trains, and what the sink reported is known. -/
def State.withSink (s : State) (p : Nat) (r : TrainResult) : State := s.modDp p fun x => { x with
  training := false, job := none, dpcdRev := r.dpcdRev, sinkRate := r.sinkRate, sinkLanes := r.sinkLanes
  mst := r.mst, psr := r.psr, psr2 := r.psr2, psrTrain := r.psrTrain }

/-- The port is TRAINED at the rate and lanes of the result, and sends at them. -/
def State.withLink (s : State) (p : Nat) (r : TrainResult) : State :=
  ((s.setDpState p 2).modDp p fun x => { x with
    rate := r.rate, lanes := r.lanes, lastRate := r.rate, lastLanes := r.lanes }).emit (.dpSignal p 1 r.rate)

/-- A training that ends with HPD high, with a result that the port can have. -/
theorem portTrained_ends {r : TrainResult} (ht : (s.dp p).training = true) (hsink : (s.dp p).hpd = true)
    (hok : r.ok = true → s.trainOk p r = true) : portTrained p r s =
      (let u := if r.ok then (s.withSink p r).withLink p r else (s.withSink p r).setDpState p 3
       u.finish? (s.dp p).job 0 0 (u.dpReply p)) := by
  have hgood : ¬(!(s.dp p).training || (r.ok && !s.trainOk p r)) = true := by simpa [ht] using hok
  refine (if_neg hgood).trans ?_
  simp only [hsink, modDp_modDp, Bool.not_true, Bool.false_eq_true, if_false]
  rfl

/-! ### HPD (R268) -/

theorem hpdShort_read {d : DpcdStatus} (hon : s.dpOn p = true) (hsink : (s.dp p).hpd = true) (hplain : (s.dp p).pattern = 0) :
    hpdShort p d s = s.when (lockLost d (s.dp p).lanes && (s.dp p).st = 2 && !(s.dp p).training) (·.autoTrain p) :=
  (if_neg (by simp [hon, hsink])).trans (if_neg (not_not.2 hplain))

theorem hpdLow_powered (hon : s.dpOn p = true) : hpdLow p s = (s.modDp p fun x => { x with
    hpd := false, dpcdRev := 0, sinkRate := 0, sinkLanes := 0, mst := false, psr := false, psr2 := false
    psrTrain := false }).setDpState p 0 :=
  if_neg (by simp [hon])

theorem hpdLow_unpowered (hoff : s.dpOn p = false) : hpdLow p s = s.modDp p fun x => { x with hpd := false } :=
  if_pos (by simp [hoff])

theorem hpdRise_unpowered (hoff : s.dpOn p = false) (hlow : (s.dp p).hpd = false) :
    hpdRise p s = s.modDp p fun x => { x with hpd := true } :=
  (if_neg (ne_true_of_eq_false hlow)).trans (if_pos (by simp [hoff]))

/-- The port with its sink connected. -/
def State.connected (s : State) (p : Nat) : State := (s.modDp p fun x => { x with hpd := true }).setDpState p 1

theorem hpdRise_powered (hon : s.dpOn p = true) (hlow : (s.dp p).hpd = false) : hpdRise p s =
    if ((s.connected p).portHeads p).isEmpty || (s.dp p).training || (s.dp p).lastRate = 0 then s.connected p
    else (s.connected p).autoTrain p :=
  (if_neg (ne_true_of_eq_false hlow)).trans (if_neg (by simp [hon]))

end

/-! ### The rows -/

theorem isRow_portTrain : IsRow .portTrain cmdPortTrain := fun _ _ _ => rfl

section
variable (t p : Nat) (s : State)

theorem exec_portTrainingComplete (r : TrainResult) :
    exec (.portTrainingComplete t p r) s = .next (settle (portTrained p r (s.tick t))) := rfl
theorem exec_hpdShortPulse (d : DpcdStatus) : exec (.hpdShortPulse t p d) s = .next (settle (hpdShort p d (s.tick t))) := rfl
theorem exec_hpdLongLow : exec (.hpdLongLow t p) s = .next (settle (hpdLow p (s.tick t))) := rfl
theorem exec_hpdRise : exec (.hpdRise t p) s = .next (settle (hpdRise p (s.tick t))) := rfl

end

/-- Settles O24: the command from its runs, the events from their meanings on the ticked state. -/
theorem displayPortRows : Obligations.DisplayPortRows := by
  unfold Obligations.DisplayPortRows
  refine ⟨?read, ?release, ?noSink, ?start, ?waits, ?state, ?complete, ?pulse, ?low, ?unpowered, ?rise⟩
  case read => exact Runs.of isRow_portTrain fun j s _ _ _ hact => ⟨_, _, if_pos hact, rfl, rfl⟩
  case release =>
    refine Runs.of isRow_portTrain ?_
    rintro j s - - - ⟨hact, hidle, hfree, hw⟩
    exact ⟨_, _, portTrain_releases hact hidle hfree hw, rfl, rfl⟩
  case noSink =>
    refine Runs.of isRow_portTrain ?_
    rintro j s - - - ⟨hact, hidle, hsink⟩
    exact ⟨_, _, portTrain_noSink hact hidle hsink, rfl, rfl⟩
  case start =>
    refine RunsLater.of isRow_portTrain ?_
    rintro j s hc ho - ⟨hact, hidle, hsink, hw⟩
    refine ⟨_, portTrain_sink hact hidle hsink, ?_⟩
    rw [affectPort_now hw, applyJob_portTrain hc ho]
    exact trainNow_starts (s := s.dropChanges j) hact hidle hsink
  case waits =>
    refine RunsLater.of isRow_portTrain ?_
    rintro j s - - hclear ⟨hidle, hw, ⟨hact, hsink⟩ | ⟨hact, hfree⟩⟩
    · exact ⟨_, portTrain_sink hact hidle hsink, affectPort_waits (clear_direct hclear) hw⟩
    · exact ⟨_, portTrain_releaseWaits hact hidle hfree hw, affectPort_waits (clear_direct hclear) hw⟩
  case state => exact fun s p st => ⟨setDpState_same, setDpState_changed⟩
  case complete =>
    rintro t p r s0 s s1 rfl ht hsink rfl
    refine ⟨fun hok hgood => ?_, fun hfailed => ?_⟩
    · rw [exec_portTrainingComplete, portTrained_ends ht hsink fun _ => hgood, if_pos hok]
      rfl
    · rw [exec_portTrainingComplete, portTrained_ends ht hsink (by simp [hfailed]), if_neg (by simp [hfailed])]
      rfl
  case pulse =>
    rintro t p d s0 s x rfl hon rfl hsink hplain hidle
    refine ⟨fun htrained hlost => ?_, fun hkept => ?_⟩
    · rw [exec_hpdShortPulse, hpdShort_read hon hsink hplain]
      simp only [hlost, htrained, hidle]
      rfl
    · rw [exec_hpdShortPulse, hpdShort_read hon hsink hplain]
      simp only [hkept]
      rfl
  case low =>
    rintro t p s0 s rfl hon
    rw [exec_hpdLongLow, hpdLow_powered hon]
  case unpowered =>
    rintro t p s0 s rfl hoff
    refine ⟨?_, fun hlow => ?_⟩
    · rw [exec_hpdLongLow, hpdLow_unpowered hoff]
    · rw [exec_hpdRise, hpdRise_unpowered hoff hlow]
  case rise =>
    rintro t p s0 s s1 rfl hon hlow hs1
    obtain rfl : s1 = (s0.tick t).connected p := hs1
    rw [exec_hpdRise, hpdRise_powered hon hlow]
    refine ⟨fun hstays => ?_, fun hheads hidle hrate => ?_⟩
    · rw [if_pos (by simpa [or_assoc] using hstays)]
    · rw [if_neg (by simpa [hidle, hrate] using hheads)]
      rfl

end Sys2Proof.Machine
end

section
/-! PROOF. Encode channels and attestation settings (spec/12 R295-R315): the run of each command under its condition, what a picture
that leaves and a sender report do, and the statement that gathers them. -/
namespace Sys2Proof.Machine

/-! ### What sending leaves of a channel (R302, R306, R311) -/

/-- Of encode channel `ec`, `u` differs from `s` at most in the counts of what it has sent or not raised, and in its taint; no
channel is made or lost. -/
structure KeepsCoding (ec : Nat) (s u : State) : Prop where
  length : u.enc.length = s.enc.length
  channel : u.encode ec = { s.encode ec with
    taint := (u.encode ec).taint, seqNo := (u.encode ec).seqNo, packets := (u.encode ec).packets
    octets := (u.encode ec).octets, evMissed := (u.encode ec).evMissed }

section
variable {s u v : State} {ec : Nat}

theorem KeepsCoding.of_enc (h : u.enc = s.enc) : KeepsCoding ec s u := by
  have hsame : u.encode ec = s.encode ec := by rw [State.encode, h, State.encode]
  exact ⟨congrArg List.length h, by rw [hsame]⟩

theorem KeepsCoding.refl (ec : Nat) (s : State) : KeepsCoding ec s s := .of_enc rfl

theorem KeepsCoding.trans (h1 : KeepsCoding ec s u) (h2 : KeepsCoding ec u v) : KeepsCoding ec s v :=
  ⟨h2.length.trans h1.length, by rw [h2.channel, h1.channel]⟩

theorem KeepsCoding.after (h2 : KeepsCoding ec u v) (h1 : KeepsCoding ec s u) : KeepsCoding ec s v := h1.trans h2

theorem KeepsCoding.ite {c : Prop} [Decidable c] (h1 : KeepsCoding ec s u) (h2 : KeepsCoding ec s v) :
    KeepsCoding ec s (if c then u else v) := by
  split
  · exact h1
  · exact h2

theorem KeepsCoding.when {b : Bool} {f : State → State} (hf : KeepsCoding ec s (f s)) : KeepsCoding ec s (s.when b f) :=
  KeepsCoding.ite hf (KeepsCoding.refl ec s)

theorem KeepsCoding.forEach {α : Type} {f : α → State → State} (hf : ∀ a s, KeepsCoding ec s (f a s)) (l : List α) (s : State) :
    KeepsCoding ec s (s.forEach l f) :=
  State.forEach_keeps (p := KeepsCoding ec s) (fun a u hu => hu.trans (hf a u)) l s (KeepsCoding.refl ec s)

theorem Delivers.keepsCoding (h : Delivers s u) : KeepsCoding ec s u := .of_enc h.enc_eq

theorem Releases.keepsCoding (h : Releases s u) : KeepsCoding ec s u := .of_enc (by rw [h])

theorem encode_modEnc_self (hec : ec < s.enc.length) (f : Enc → Enc) : (s.modEnc ec f).encode ec = f (s.encode ec) :=
  modAt_getD_self _ _ _ _ hec

theorem encode_modEnc_other {k : Nat} (hk : k ≠ ec) (f : Enc → Enc) : (s.modEnc ec f).encode k = s.encode k :=
  modAt_getD_other _ _ _ _ _ hk

/-- An update of any channel that keeps its coding. -/
theorem modEnc_keepsCoding {n : Nat} {f : Enc → Enc} (hf : ∀ e, f e = { e with
      taint := (f e).taint, seqNo := (f e).seqNo, packets := (f e).packets, octets := (f e).octets, evMissed := (f e).evMissed }) :
    KeepsCoding ec s (s.modEnc n f) := by
  refine ⟨modAt_length _ _ _, ?_⟩
  by_cases hn : ec = n
  · subst hn
    by_cases hec : ec < s.enc.length
    · rw [encode_modEnc_self hec]
      exact hf _
    · have hout : (s.modEnc ec f).encode ec = s.encode ec := by
        rw [State.encode, State.encode, State.modEnc_enc, List.getD_eq_default _ _ (by simpa using hec),
          List.getD_eq_default _ _ (by simpa using hec)]
      rw [hout]
  · rw [encode_modEnc_other hn]

end

section
variable (s : State) (ec : Nat)

theorem evtEncode_keepsCoding (n code reason a0 a1 picture : Nat) : KeepsCoding ec s (s.evtEncode n code reason a0 a1 picture) :=
  KeepsCoding.ite ((modEnc_keepsCoding fun _ => rfl).trans (logOnly_delivers _ _ _ _).keepsCoding)
    (raiseOnce_delivers s _ _ _ _).keepsCoding

theorem sendRtp_delivers (n port udp : Nat) (o : Output) (len dest : Nat) : Delivers s (s.sendRtp n port udp o len dest) :=
  Delivers.ite rfl (Delivers.ite ((txFrame_delivers s _ _).trans (emit_delivers _ _)) (Delivers.refl s))

theorem sendPicture_keepsCoding (n ts : Nat) (nals : List (List Byte)) : KeepsCoding ec s (s.sendPicture n ts nals) :=
  KeepsCoding.forEach (fun _ s => (modEnc_keepsCoding fun _ => rfl).after (sendRtp_delivers s _ _ _ _ _ _).keepsCoding) _ s

theorem readRecon_keepsCoding (n : Nat) : KeepsCoding ec s (s.readRecon n) :=
  KeepsCoding.after (KeepsCoding.forEach (fun _ _ => modEnc_keepsCoding fun _ => rfl) _ _) (.of_enc rfl)

theorem drainHolds_releases (head frame : Nat) : Releases s (s.drainHolds head frame) :=
  Releases.forEach (fun ch s => (modCtx_releases s ch _).trans (sweep_releases _ ch)) _ s

end

/-! ### A picture leaves (R302-R310) -/

/-- The rows of a picture do not depend on what its channel has sent. -/
theorem KeepsCoding.codePicture {s u : State} {ec : Nat} (h : KeepsCoding ec s u) (p : EncPic) (obs : EncObs) :
    (u.encode ec).codePicture p obs = (s.encode ec).codePicture p obs := by
  rw [h.channel]
  rfl

/-- The pictures that a channel holds, the count of those coded, its state, and the rows coded last. -/
def Enc.course (e : Enc) : List EncPic × Nat × EncState × List CodedRow := (e.pics, e.pictures, e.st, e.prevRows)

theorem KeepsCoding.course {s u : State} {ec : Nat} (h : KeepsCoding ec s u) : (u.encode ec).course = (s.encode ec).course := by
  rw [h.channel]
  rfl

theorem KeepsCoding.stopping {s u : State} {ec : Nat} (h : KeepsCoding ec s u) :
    (u.encode ec).stopping = (s.encode ec).stopping := by
  rw [h.channel]

/-- The oldest picture leaves a channel that does not stop: it counts, and its rows are those coded last. -/
theorem pictureDone_course {s : State} {ec : Nat} (hec : ec < s.enc.length) (hstop : (s.encode ec).stopping = none) (p : EncPic)
    (obs : EncObs) : ((s.pictureDone ec p obs).encode ec).course = ((s.encode ec).pics.drop 1, (s.encode ec).pictures + 1,
      (s.encode ec).st, ((s.encode ec).codePicture p obs).1) := by
  unfold State.pictureDone
  extract_lets s1 e c idr taint
  obtain ⟨⟨rows, why⟩, hrows⟩ : ∃ coded, e.codePicture p obs = coded := ⟨_, rfl⟩
  rw [hrows]
  obtain ⟨n, band, k⟩ := c.waveOf p.w p.h
  obtain ⟨pos, m⟩ := e.sweep.getD (0, 0)
  dsimp -zeta only
  extract_lets first cut held reached ends past sweep cells recovery nals size facts s2 s3 s4 s5 s6 sum s7 s8 mark s9
  have hread : KeepsCoding ec s s1 := KeepsCoding.when (readRecon_keepsCoding s ec ec)
  have hsent : KeepsCoding ec s2 s3 := (sendPicture_keepsCoding _ ec _ _ _).after (emit_delivers _ _).keepsCoding
  have hidr : KeepsCoding ec s3 s4 := by
    unfold s4
    split
    · exact evtEncode_keepsCoding s3 ec _ _ _ _ _ _
    · exact KeepsCoding.refl ec s3
  have hcut : KeepsCoding ec s4 s5 := by
    unfold s5 first
    split
    · exact evtEncode_keepsCoding s4 ec _ _ _ _ _ _
    · exact KeepsCoding.refl ec s4
  have hheld : KeepsCoding ec s5 s6 := KeepsCoding.when (evtEncode_keepsCoding s5 ec _ _ _ _ _ _)
  have hcap : KeepsCoding ec s6 s7 := by
    unfold s7
    split
    · exact KeepsCoding.when (evtEncode_keepsCoding s6 ec _ _ _ _ _ _)
    · exact KeepsCoding.refl ec s6
  have hfreed : KeepsCoding ec s7 s8 := (drainHolds_releases s7 p.head p.frame).keepsCoding
  have hmarked : KeepsCoding ec s8 s9 := .of_enc rfl
  have hleft : KeepsCoding ec s2 s9 := hsent.trans (hidr.trans (hcut.trans (hheld.trans (hcap.trans (hfreed.trans hmarked)))))
  have hcoded : s2.encode ec = _ := encode_modEnc_self (hread.length ▸ hec) _
  have hgoes : (s9.encode ec).stopping = none := by rw [hleft.stopping, hcoded, ← hstop, ← hread.stopping]
  rw [hgoes]
  have hrec : e.codePicture p obs = (s.encode ec).codePicture p obs := hread.codePicture p obs
  rw [hleft.course, hcoded, ← hrec, hrows, hread.channel]
  rfl

theorem encodeDone_oldest {s : State} {ec : Nat} {p : EncPic} {rest : List EncPic} (hpics : (s.encode ec).pics = p :: rest)
    (obs : EncObs) : encodeDone ec obs s =
      if p.ended && (s.encode ec).cfg.holds p obs ((s.encode ec).ownNals p) then s.pictureDone ec p obs else s := by
  simp only [encodeDone, hpics]

/-! ### A sender report (R311) -/

@[simp] theorem beBytes_length (n v : Nat) : (beBytes n v).length = n := List.length_reverse.trans (leBytes_length n v)

/-- The RTCP sender report of a channel. -/
def State.reportBytes (s : State) (e : Enc) : List Byte :=
  [0x80, 200] ++ beBytes 2 6 ++ beBytes 4 e.cfg.ssrc ++ beBytes 4 (s.ntpNs / nsPerSec) ++
    beBytes 4 (s.ntpNs % nsPerSec * m32 / nsPerSec) ++ beBytes 4 (s.local * 90000 / nsPerSec) ++ beBytes 4 e.packets ++
    beBytes 4 e.octets

theorem reportBytes_length (s : State) (e : Enc) : (s.reportBytes e).length = 28 := by
  simp only [State.reportBytes, List.length_append, beBytes_length, List.length_cons, List.length_nil]

section
variable {j : Job} {s : State} {ec : Nat}

/-- The channel has been started and has not ended (Table 12-2). -/
def Enc.started (e : Enc) : Prop := e.st = .running ∨ e.st = .idle

theorem senderReport_due (hon : (s.encode ec).started) (hdue : (s.encode ec).lastSr + nsPerSec ≤ s.now) :
    senderReport ec s = (s.modEnc ec fun e => { e with lastSr := s.now }).sendRtp ec (s.encode ec).cfg.port (s.encode ec).cfg.udpDst
      (.rtcp ((s.encode ec).cfg.ip true) (s.reportBytes (s.encode ec))) (s.reportBytes (s.encode ec)).length
      (s.encode ec).cfg.dest :=
  if_neg (by simpa [Enc.started, Nat.not_lt.2 hdue, or_iff_not_imp_left] using hon)

/-! ### ENC_CONFIG and ENC_START (R295-R297) -/

/-- The encode channel that a command names. -/
abbrev Job.channel (j : Job) : Nat := idIndex (j.u16 0)

/-- A channel as ENC_CONFIG leaves it: the new settings and the rate control of reset. -/
def Enc.configured (e : Enc) (c : EncCfg) : Enc :=
  let d : Enc := {}
  { e with
    st := .configured, cfg := c, targetQp := d.targetQp, qpMax := d.qpMax, window := d.window, maxPic := d.maxPic
    peakKbps := d.peakKbps
    reconfigured := e.reconfigured || (e.st = .configured && 0 < e.pictures &&
      (e.cfg.codec ≠ c.codec || e.cfg.profile ≠ c.profile || e.cfg.level ≠ c.level)) }

theorem encConfig_run (hoff : ¬(s.encode j.channel).started) :
    cmdEncConfig.run j s = .ok (s.modEnc j.channel fun e => e.configured (encCfgOf j)) [] :=
  if_neg (by simpa [Enc.started] using hoff)

/-- A channel that starts on an encode core with a load, for its head, with a first RTP number. -/
def Enc.start (e : Enc) (h : Head) (core load first now : Nat) : Enc :=
  { e with
    st := if h.st = .scanning then .running else .idle, core, load, halved := false
    idr := some (if e.reconfigured then 3 else 0), reconfigured := false, pics := [], stopping := none, prevRows := []
    sizes := [], sweep := none, seqNo := first % 65536, pictures := 0, octets := 0, packets := 0, lastSr := now
    lastFrame := none }

theorem encStart_started (hon : (s.encode j.channel).started) : cmdEncStart.run j s = .ok s [] :=
  if_pos (by simpa [Enc.started] using hon)

/-- The channel starts on the core with more room, where its head and settings can be encoded and the core takes the load. -/
theorem encStart_run {h : Head} (hst : (s.encode j.channel).st = .configured) (hbound : s.boundHead j.channel = some h)
    (htimed : h.timed = true) (hable : (s.encode j.channel).startable h.newTiming = true)
    (hfits : s.coreFits (s.spareCore j.channel) j.channel (encRatio h.newTiming (s.encode j.channel).cfg.divider) = true) :
    cmdEncStart.run j s = .ok ((({ s with free := s.free + 1 } : State).modEnc j.channel fun e =>
      e.start h (s.spareCore j.channel) (encLoad h.newTiming (s.encode j.channel).cfg.divider) (Config.freeNat s.free) s.now).evtEncode
        j.channel 1 0 (s.spareCore j.channel) 0 h.frame) [] := by
  refine (if_neg (by simp [hst])).trans ?_
  rw [hbound]
  exact (if_neg (by simp [hst, htimed, hable])).trans (if_neg (by simp [hfits]))

/-! ### ENC_STOP (Table 12-2) -/

/-- A started channel with a picture stops after it. -/
theorem encHalt_later (hon : (s.encode ec).started) (hpics : (s.encode ec).pics ≠ []) (reason : Nat) :
    s.encHalt ec reason = s.modEnc ec fun e => { e with stopping := some reason } :=
  (if_pos (by simpa [Enc.started] using hon)).trans (if_pos (by simpa using hpics))

theorem encHalt_now (hon : (s.encode ec).started) (hpics : (s.encode ec).pics = []) (reason : Nat) :
    s.encHalt ec reason = s.encEnd ec reason :=
  (if_pos (by simpa [Enc.started] using hon)).trans (if_neg (by simp [hpics]))

theorem encHalt_stopped (hoff : ¬(s.encode ec).started) (reason : Nat) : s.encHalt ec reason = s :=
  if_neg (by simpa [Enc.started] using hoff)

theorem encStop_run : cmdEncStop.run j s = .ok (s.encHalt j.channel 0) [] := rfl

/-! ### ATTEST_READ (R315, R316) -/

/-- The records that ATTEST_READ asks for: the newest, or those from a frame number on. -/
def State.recordsRead (s : State) (j : Job) : List (Nat × List Byte) :=
  if j.u64 4 = 0 then keepNewest (j.u8 2) (s.head (idIndex (j.u16 0))).ring
  else ((s.head (idIndex (j.u16 0))).ring.dropWhile fun r => r.1 ≠ j.u64 4).take (j.u8 2)

theorem attestRead_all (hsome : s.recordsRead j ≠ []) (hall : j.u8 2 ≤ (s.recordsRead j).length) :
    cmdAttestRead.run j s = .ok s ((s.recordsRead j).flatMap (·.2)) :=
  (if_neg fun h => hsome (List.isEmpty_iff.1 h)).trans (if_neg (Nat.not_lt.2 hall))

theorem attestRead_part (hsome : s.recordsRead j ≠ []) (hfew : (s.recordsRead j).length < j.u8 2) :
    cmdAttestRead.run j s = .part s (s.recordsRead j).length ((s.recordsRead j).flatMap (·.2)) :=
  (if_neg fun h => hsome (List.isEmpty_iff.1 h)).trans (if_pos hfew)

end

/-! ### The rows -/

theorem isRow_encConfig : IsRow .encConfig cmdEncConfig := fun _ _ _ => rfl
theorem isRow_encStart : IsRow .encStart cmdEncStart := fun _ _ _ => rfl
theorem isRow_encStop : IsRow .encStop cmdEncStop := fun _ _ _ => rfl
theorem isRow_encSetRate : IsRow .encSetRate cmdEncSetRate := fun _ _ _ => rfl
theorem isRow_attestConfig : IsRow .attestConfig cmdAttestConfig := fun _ _ _ => rfl
theorem isRow_attestRead : IsRow .attestRead cmdAttestRead := fun _ _ _ => rfl

theorem exec_encodePictureDone (t ec : Nat) (obs : EncObs) (s : State) :
    exec (.encodePictureDone t ec obs) s = .next (settle (encodeDone ec obs (s.tick t))) := rfl
theorem exec_rtcpSenderReport (t ec : Nat) (s : State) :
    exec (.rtcpSenderReport t ec) s = .next (settle (senderReport ec (s.tick t))) := rfl

/-- Settles O27: the commands from their runs, the events from their meanings on the ticked state, the channel after a picture from
`pictureDone_course`. -/
theorem encodeRows : Obligations.EncodeRows := by
  unfold Obligations.EncodeRows
  refine ⟨?config, ?start, ?fits, ?started, ?later, ?now, ?stopped, ?rate, ?attest, ?read, ?picture, ?report⟩
  case config => exact Runs.of isRow_encConfig fun j s _ _ _ hoff => ⟨_, _, encConfig_run (not_or.2 hoff), rfl, rfl⟩
  case start =>
    refine Runs.of isRow_encStart ?_
    rintro j s - - - ⟨hst, h, hbound, htimed, hable, hfits⟩
    exact ⟨_, _, encStart_run hst hbound htimed hable hfits, rfl, h, _, _, hbound, rfl, rfl, rfl⟩
  case fits => exact fun _ _ _ _ => rfl
  case started => exact Runs.of isRow_encStart fun j s _ _ _ hon => ⟨_, _, encStart_started hon, rfl, rfl⟩
  case later => exact Runs.of isRow_encStop fun j s _ _ _ ⟨hon, hpics⟩ => ⟨_, _, encStop_run, rfl, encHalt_later hon hpics 0⟩
  case now => exact Runs.of isRow_encStop fun j s _ _ _ ⟨hon, hpics⟩ => ⟨_, _, encStop_run, rfl, encHalt_now hon hpics 0⟩
  case stopped => exact Runs.of isRow_encStop fun j s _ _ _ hoff => ⟨_, _, encStop_run, rfl, encHalt_stopped (not_or.2 hoff) 0⟩
  case rate => exact Runs.of isRow_encSetRate fun j s _ _ _ _ => ⟨_, _, rfl, rfl, rfl⟩
  case attest => exact Runs.of isRow_attestConfig fun j s _ _ _ _ => ⟨_, _, rfl, rfl, rfl⟩
  case read =>
    rintro recs rfl
    refine ⟨Runs.of isRow_attestRead ?_, RunsPart.of isRow_attestRead ?_⟩
    · rintro j s - - - ⟨hsome, hall⟩
      exact ⟨_, _, attestRead_all hsome hall, rfl, rfl⟩
    · rintro j s - - - ⟨hsome, hfew⟩
      exact ⟨_, _, _, attestRead_part hsome hfew, rfl, rfl, rfl⟩
  case picture =>
    rintro t ec obs s0 s e p rest rfl rfl hpics
    rw [exec_encodePictureDone, encodeDone_oldest hpics]
    refine ⟨fun hstays => ?_, fun hended hholds => ?_⟩
    · rw [if_neg (by simpa [or_iff_not_imp_left] using hstays)]
    · rw [if_pos (by simp [hended, hholds])]
      refine ⟨_, rfl, rfl, fun hec hstop => ?_⟩
      have hcourse := pictureDone_course hec hstop p obs
      simp only [Enc.course, Prod.mk.injEq, hpics, List.drop_succ_cons, List.drop_zero] at hcourse
      obtain ⟨hleft, hcount, hst, hrows⟩ := hcourse
      exact ⟨hleft, hcount, hst, hrows⟩
  case report =>
    rintro t ec s0 s e rfl rfl hon hdue
    rw [exec_rtcpSenderReport, senderReport_due hon hdue]
    exact ⟨_, _, rfl, reportBytes_length _ _, rfl⟩

end Sys2Proof.Machine
end

section
/-! PROOF. The time commands (spec/13 R316-R334): the run of TIME_CONFIG and TIME_SET under their conditions, the fields of the
TIME_STATS reply, and the statement that gathers them. -/
namespace Sys2Proof.Machine

section
variable {j : Job} {s : State}

/-! ### TIME_CONFIG (R316, R332) -/

/-- The other domain listens already on the port and with the number that TIME_CONFIG names. -/
def State.domainTaken (s : State) (j : Job) : Prop :=
  j.u8 1 = 1 ∧ (s.dom (1 - j.u8 0)).st ≠ .disabled ∧ (s.dom (1 - j.u8 0)).port = idIndex (j.u16 2) ∧
    (s.dom (1 - j.u8 0)).number = j.u8 4

/-- TIME_CONFIG leaves everything as it was that names the master of a domain that runs. -/
def Domain.sameMaster (x : Domain) (j : Job) : Bool := decide (x.st ≠ .disabled ∧ x.port = idIndex (j.u16 2) ∧
  x.number = j.u8 4 ∧ x.delay = j.u8 5 ∧ x.transport = j.u8 6)

/-- A domain as TIME_CONFIG leaves it: disabled, running on with its estimates, or LISTENING without any. -/
def Domain.configured (x : Domain) (j : Job) (same : Bool) : Domain :=
  let y := { x with
    port := idIndex (j.u16 2), number := j.u8 4, delay := j.u8 5, transport := j.u8 6, logSync := j.s8 7, logDelay := j.s8 8 }
  let fresh := { y with ests := [], lockRun := 0, master := none, delayReqPending := false, pathDelay := 0, syncTimes := none }
  if j.u8 1 ≠ 1 then { fresh with st := .disabled } else if same then y else { fresh with st := .listening }

theorem timeConfig_run (h : ¬s.domainTaken j) : cmdTimeConfig.run j s =
    .ok ((s.modDom (j.u8 0) fun x => x.configured j ((s.dom (j.u8 0)).sameMaster j)).rebase.modClk fun c => { c with
      oscPpb := if j.u32 12 = 0 then c.oscPpb else j.u32 12
      thetaUs := if j.u32 16 = 0 then c.thetaUs else j.u32 16 }) [] := by
  refine (if_neg (by simpa [State.domainTaken, and_assoc] using h)).trans ?_
  simp only [Domain.configured, Domain.sameMaster, Bool.decide_and, Bool.and_assoc, Bool.not_eq_true', decide_eq_false_iff_not, ne_eq]

/-! ### TIME_SET (R323) -/

/-- The uncertainty of TIME_SET holds from now on, and a reference has been seen. -/
def State.withUncertainty (s : State) (us : Nat) : State :=
  s.modClk fun c => { c with setUncert := some us, setAt := s.now, referenceSeen := true }

theorem timeSet_run (h : s.clk.domains.any Domain.valid = false) : cmdTimeSet.run j s =
    .ok ((s.withUncertainty (j.u32 12)).steer ((s.local : Int) - j.time 0) 1) [] := if_neg (ne_true_of_eq_false h)

/-! ### TIME_STATS (R334, Table 13-6) -/

/-- The master's clock class and accuracy. -/
def Master.quality (m : Master) : List Byte := leBytes 1 m.clockClass ++ leBytes 1 m.accuracy

/-- The flags of a domain, and its master's distance and variance. -/
def State.masterFacts (s : State) (d : Nat) (m : Master) : List Byte :=
  leBytes 1 (b2n (s.clk.active = some d) + 2 * b2n (s.dom d).twoStep) ++ leBytes 2 m.stepsRemoved ++ leBytes 2 m.variance

/-- The counts, instants and corrections that end TIME_STATS. -/
def State.domainCounts (s : State) (d : Nat) : List Byte :=
  let x := s.dom d
  leBytes 8 x.delayReqTx ++ leBytes 8 x.delayRespRx ++ leBytes 8 x.announceRx ++ leBytes 4 x.timeouts ++ leBytes 4 x.relocks ++
    timeBytes x.lastSyncLocal ++ leBytes 4 (if x.st = .holdover then sat32 ((s.now - x.holdoverSince) / 1000000) else 0) ++
    leBytes 8 (if s.bothValid then unsigned 64 s.domDiff else 0) ++ leBytes 4 s.clk.switches ++ leBytes 4 s.clk.steps ++
    leBytes 2 (unsigned 16 x.utc) ++ zeros 14

theorem timeStats_run : cmdTimeStats.run j s = .ok s (leBytes 1 (s.dom (j.u8 0)).st.code ++
    ((s.dom (j.u8 0)).master.getD {}).quality ++ s.masterFacts (j.u8 0) ((s.dom (j.u8 0)).master.getD {}) ++
    leBytes 8 ((s.dom (j.u8 0)).master.getD {}).gmId ++ leBytes 8 (unsigned 64 (s.offset (j.u8 0))) ++
    leBytes 4 (sat32 (s.dom (j.u8 0)).sigma) ++ leBytes 4 (sat32 (s.dom (j.u8 0)).pathDelay) ++
    leBytes 8 (s.dom (j.u8 0)).syncRx ++ leBytes 8 (s.dom (j.u8 0)).followUpRx ++ s.domainCounts (j.u8 0)) := by
  simp only [Master.quality, State.masterFacts, State.domainCounts, ← List.append_assoc]
  rfl

end

/-! ### The rows -/

theorem isRow_timeConfig : IsRow .timeConfig cmdTimeConfig := fun _ _ _ => rfl
theorem isRow_timeSet : IsRow .timeSet cmdTimeSet := fun _ _ _ => rfl
theorem isRow_timeSlewLimit : IsRow .timeSlewLimit cmdTimeSlewLimit := fun _ _ _ => rfl
theorem isRow_timeAsym : IsRow .timeAsym cmdTimeAsym := fun _ _ _ => rfl
theorem isRow_timeLegacyMode : IsRow .timeLegacyMode cmdTimeLegacyMode := fun _ _ _ => rfl
theorem isRow_timeGet : IsRow .timeGet cmdTimeGet := fun _ _ _ => rfl
theorem isRow_timeStats : IsRow .timeStats cmdTimeStats := fun _ _ _ => rfl

/-- Settles O39: each command from its run; the commands without a condition run as they are defined. -/
theorem timeCommands : Obligations.TimeCommands := by
  unfold Obligations.TimeCommands
  refine ⟨?config, ?set, ?slew, ?asym, ?legacy, ?get, ?stats⟩
  case config =>
    refine Runs.of isRow_timeConfig ?_
    rintro j s - - - hfree
    refine ⟨_, _, timeConfig_run hfree, rfl, ?_⟩
    rintro x same rfl rfl
    rfl
  case set => exact Runs.of isRow_timeSet fun j s _ _ _ hnone => ⟨_, _, timeSet_run hnone, rfl, rfl⟩
  case slew => exact Runs.of isRow_timeSlewLimit fun j s _ _ _ _ => ⟨_, _, rfl, rfl, rfl⟩
  case asym => exact Runs.of isRow_timeAsym fun j s _ _ _ _ => ⟨_, _, rfl, rfl, rfl⟩
  case legacy => exact Runs.of isRow_timeLegacyMode fun j s _ _ _ _ => ⟨_, _, rfl, rfl, rfl⟩
  case get => exact Runs.of isRow_timeGet fun j s _ _ _ _ => ⟨_, _, rfl, rfl, rfl⟩
  case stats =>
    refine Runs.of isRow_timeStats ?_
    rintro j s - - - -
    refine ⟨_, _, timeStats_run, rfl, _, _, _, ?_, ?_, rfl⟩
    · simp only [Master.quality, List.length_append, leBytes_length]
    · simp only [State.masterFacts, List.length_append, leBytes_length]

end Sys2Proof.Machine
end

section
/-! PROOF. PTP messages, the domains and the RTC (spec/13 R318-R320, R331): what the servo makes of a Sync, each other row's meaning
under its condition, and the statement that gathers them. -/
namespace Sys2Proof.Machine

section
variable {s : State} {m : SyncMsg} {x : Domain} {ms : Master} {d : Nat} {e : Int}

/-! ### Domains -/

theorem dom_modDom (s : State) (d k : Nat) (f : Domain → Domain) :
    (s.modDom d f).dom k = if k = d ∧ k < s.clk.domains.length then f (s.dom k) else s.dom k := by
  simp only [State.dom, State.modDom]
  by_cases hk : k = d
  · subst hk
    by_cases hlen : k < s.clk.domains.length
    · rw [if_pos ⟨rfl, hlen⟩, modAt_getD_self _ _ _ _ hlen]
    · rw [if_neg fun h => hlen h.2, List.getD_eq_default _ _ (by simpa using hlen), List.getD_eq_default _ _ (by simpa using hlen)]
  · rw [if_neg fun h => hk h.1, modAt_getD_other _ _ _ _ _ hk]

/-- Only what a change makes of the domain as it is matters. -/
theorem modDom_congr {f g : Domain → Domain} (h : f (s.dom d) = g (s.dom d)) : s.modDom d f = s.modDom d g := by
  simp only [State.modDom, modAt_congr s.clk.domains d f g {} h]

/-- The lock tolerance goes by the stamping of the domain's port alone. -/
theorem lockTol_modDom {f : Domain → Domain} (h : ∀ x, (f x).port = x.port) : (s.modDom d f).lockTol d = s.lockTol d := by
  have hport : ((s.modDom d f).dom d).port = (s.dom d).port := by
    rw [dom_modDom]
    split
    · exact h _
    · rfl
  rw [State.lockTol, hport]
  rfl

/-! ### A Sync (R318, R319) -/

/-- A Sync of the chosen master of a domain that runs arrives on the domain's port. -/
structure SyncTaken (s : State) (m : SyncMsg) (x : Domain) (ms : Master) : Prop where
  dom : x = s.dom m.domain
  range : m.domain < 2
  running : s.portRx x.port = true
  length : s.goodLength x.port (s.port x.port).vlan m.frameLen = true
  master : x.master = some ms
  sender : ms.sender = m.sender

/-- The Sync counted, and its instants noted for the path delay. -/
def State.syncNoted (s : State) (m : SyncMsg) (x : Domain) : State :=
  ((s.rxFrame x.port m.frameLen).modDom m.domain fun x =>
    { x with syncRx := x.syncRx + 1, followUpRx := x.followUpRx + b2n m.twoStep }).modDom m.domain fun y =>
    { y with twoStep := m.twoStep, lastSync := s.now, lastSyncLocal := s.local, syncTimes := some (m.origin, s.stamp y.port) }

/-- The estimate that a Sync gives, less the clock's own corrections. -/
def State.syncEstimate (s : State) (m : SyncMsg) (x : Domain) : Int :=
  (s.stamp x.port : Int) - m.origin - x.pathDelay - (s.clk.asym.getD x.port {}).asym / 16 - s.corr

/-- How far an estimate is from the mean of the last eight, itself included. -/
def Domain.farFrom (x : Domain) (e : Int) : Nat := (e - mean (((e :: x.ests).take 64).take 8)).natAbs

/-- Estimates in a row within the tolerance, with the one that comes. -/
def Domain.runWith (x : Domain) (tol : Nat) (e : Int) : Nat := if x.farFrom e ≤ tol then x.lockRun + 1 else 0

/-- The estimates begin anew with `e`. -/
def State.restartDomain (s : State) (d : Nat) (e : Int) : State :=
  s.modDom d fun x => { x with st := .uncalibrated, ests := [e], lockRun := 1 }

/-- The estimate `e` of a locked domain steers the clock where the domain is active. -/
def State.followDomain (s : State) (d : Nat) (e : Int) : State :=
  (s.when (s.clk.active = some d) (·.steerBy d (e + s.corr))).checkDisagree

/-- TA reaches LOCKED at the instant at which TB became the first active domain (R320). -/
def State.lockTie (s : State) (d : Nat) : Bool := d = 0 && s.clk.active = some 1 && s.clk.firstAt = some s.now

/-- The clock follows a domain that reaches LOCKED where it followed none, or at a tie. -/
def State.lockFirst (s : State) (d : Nat) : Bool := s.clk.active = none || s.lockTie d

/-- A domain reaches LOCKED. -/
def State.lockDomain (s : State) (d clockClass : Nat) : State :=
  ((s.modDom d fun x => { x with st := .locked }).modClk fun c => { c with
    setUncert := none, referenceSeen := true
    active := if s.lockFirst d then some d else c.active
    lastEval := if s.lockFirst d then s.now else c.lastEval
    firstAt := if s.lockFirst d then some s.now else c.firstAt
    established := c.established && !s.lockTie d }).evtTime 2 (some d) clockClass 0

/-- An estimate joins those of its domain. -/
def State.joinEstimate (s : State) (d : Nat) (x : Domain) (run : Nat) (e : Int) : State :=
  s.modDom d fun y => { y with ests := (e :: x.ests).take 64, lockRun := run }

/-- What the servo makes of an estimate, by the state that its domain was in (R319). -/
def State.servo (s : State) (d : Nat) (x : Domain) (clockClass : Nat) (e : Int) : State :=
  match x.st with
  | .disabled => s
  | .listening | .holdover => s.restartDomain d e
  | .uncalibrated =>
    let run := x.runWith (s.lockTol d) e
    if run < 8 then s.joinEstimate d x run e else ((s.joinEstimate d x run e).lockDomain d clockClass).followDomain d e
  | .locked =>
    if 100000 < x.farFrom e then (s.restartDomain d e).modDom d fun x => { x with relocks := satAdd32 x.relocks 1 }
    else (s.modDom d fun y => { y with ests := (e :: x.ests).take 64 }).followDomain d e

theorem ptpSync_taken (h : SyncTaken s m x ms) (hon : x.st ≠ .disabled) :
    ptpSync m s = (s.syncNoted m x).servo m.domain x ms.clockClass (s.syncEstimate m x) := by
  obtain ⟨rfl, hd, hrx, hlen, hmaster, hsender⟩ := h
  unfold ptpSync
  extract_lets d x
  rw [if_neg (by simp [x, d, hrx, hon, Nat.not_le.2 hd]), ownTag_vlan, takeFrame_good hlen rfl]
  refine (if_neg Bool.false_ne_true).trans ?_
  extract_lets s1
  rw [show x.master = some ms from hmaster]
  refine (if_neg (not_not.2 hsender)).trans ?_
  unfold State.servo
  rfl

theorem lockTol_syncNoted : (s.syncNoted m x).lockTol m.domain = s.lockTol m.domain := by
  rw [State.syncNoted, lockTol_modDom, lockTol_modDom]
  · rfl
  · exact fun _ => rfl
  · exact fun _ => rfl

theorem servo_restarts (h : x.st = .listening ∨ x.st = .holdover) (c : Nat) : s.servo d x c e = s.restartDomain d e := by
  obtain h | h := h <;> simp only [State.servo, h]

/-- The eighth estimate in a row within the tolerance. -/
theorem runWith_lt_iff {tol : Nat} : x.runWith tol e < 8 ↔ ¬(x.farFrom e ≤ tol ∧ 7 ≤ x.lockRun) := by
  unfold Domain.runWith
  split <;> omega

theorem servo_joins (h : x.st = .uncalibrated) (hfew : ¬(x.farFrom e ≤ s.lockTol d ∧ 7 ≤ x.lockRun)) (c : Nat) :
    s.servo d x c e = s.joinEstimate d x (x.runWith (s.lockTol d) e) e := by
  simp only [State.servo, h, if_pos (runWith_lt_iff.2 hfew)]

theorem servo_locks (h : x.st = .uncalibrated) (hnear : x.farFrom e ≤ s.lockTol d) (hrun : 7 ≤ x.lockRun) (c : Nat) :
    s.servo d x c e = ((s.joinEstimate d x (x.lockRun + 1) e).lockDomain d c).followDomain d e := by
  have height : ¬x.lockRun + 1 < 8 := by omega
  simp only [State.servo, h, Domain.runWith, if_pos hnear, if_neg height]

theorem servo_relocks (h : x.st = .locked) (hfar : 100000 < x.farFrom e) (c : Nat) : s.servo d x c e =
    (s.restartDomain d e).modDom d fun x => { x with relocks := satAdd32 x.relocks 1 } := by
  simp only [State.servo, h, if_pos hfar]

theorem servo_steers (h : x.st = .locked) (hnear : x.farFrom e ≤ 100000) (c : Nat) : s.servo d x c e =
    (s.modDom d fun y => { y with ests := (e :: x.ests).take 64 }).followDomain d e := by
  simp only [State.servo, h, if_neg (Nat.not_lt.2 hnear)]

theorem lockTie_eq : s.lockTie d = decide (d = 0 ∧ s.clk.active = some 1 ∧ s.clk.firstAt = some s.now) := by
  simp only [State.lockTie, Bool.decide_and, Bool.and_assoc]

theorem lockDomain_eq (c : Nat) : s.lockDomain d c =
    ((s.modDom d fun x => { x with st := .locked }).modClk fun c => { c with
      setUncert := none, referenceSeen := true
      active := if s.clk.active = none ∨ s.lockTie d then some d else c.active
      lastEval := if s.clk.active = none ∨ s.lockTie d then s.now else c.lastEval
      firstAt := if s.clk.active = none ∨ s.lockTie d then some s.now else c.firstAt
      established := c.established && !s.lockTie d }).evtTime 2 (some d) c 0 := by
  simp only [State.lockDomain, State.lockFirst, Bool.or_eq_true, decide_eq_true_eq]

/-! ### An Announce, and a silent master (R318, R319) -/

/-- An Announce is taken: the domain has no master, or it is its master's, or that of a better one. -/
def Domain.takesMaster (x : Domain) (a : Master) : Bool :=
  match x.master with
  | none => true
  | some b => b.sender = a.sender || a.better b

theorem ptpAnnounce_received {a : AnnounceMsg} (hx : x = s.dom d) (hd : d < 2) (hon : x.st ≠ .disabled)
    (hrx : s.portRx x.port = true) (hlen : s.goodLength x.port (s.port x.port).vlan a.frameLen = true) : ptpAnnounce d a s =
      ((s.rxFrame x.port a.frameLen).modDom d fun x => { x with announceRx := x.announceRx + 1 }).when
        (x.takesMaster (announced a)) (·.modDom d fun x => { x with master := some (announced a), lastAnnounce := s.now }) := by
  subst hx
  unfold ptpAnnounce
  extract_lets x
  rw [if_neg (by simp [x, hrx, hon, Nat.not_le.2 hd]), ownTag_vlan, takeFrame_good hlen rfl]
  exact if_neg Bool.false_ne_true

/-- The master of a domain has been silent for its Announce timeout. -/
def State.masterSilent (s : State) (x : Domain) : Bool := decide (x.master ≠ none ∧ x.lastAnnounce + x.announceLimit ≤ s.now)

theorem ptpMasterTimeout_locked (hx : x = s.dom d) (hd : d < 2) (hst : x.st = .locked)
    (hlost : s.masterSilent x = true ∨ x.lastSync + 3 * expSec x.logSync ≤ s.now) : ptpMasterTimeout d s =
      ((s.when (s.masterSilent x) (·.modDom d fun x => { x with master := none })).modDom d fun x => { x with
        st := .holdover, holdoverSince := s.now, timeouts := satAdd32 x.timeouts 1 }).evtTime 3 (some d) 0 0 := by
  subst hx
  have hsilent : (decide ((s.dom d).master ≠ none) && decide ((s.dom d).lastAnnounce + (s.dom d).announceLimit ≤ s.now)) =
      s.masterSilent (s.dom d) := (Bool.decide_and _ _).symm
  have hnow : (s.when (s.masterSilent (s.dom d)) (·.modDom d fun x => { x with master := none })).now = s.now := by
    unfold State.when
    split <;> rfl
  have hlost' : (s.masterSilent (s.dom d) || decide ((s.dom d).lastSync + 3 * expSec (s.dom d).logSync ≤ s.now)) = true := by
    simpa using hlost
  simp only [ptpMasterTimeout, hst, hsilent, hlost', hnow, Nat.not_le.2 hd]
  rfl

/-! ### The evaluation of a second (R320) -/

/-- A whole second has passed since the last evaluation of a clock that follows domain `a`. -/
structure EvaluationDue (s : State) (a : Nat) : Prop where
  active : s.clk.active = some a
  second : s.now / nsPerSec ≠ s.clk.lastEval / nsPerSec

theorem domainEvaluation_due {a : Nat} (h : EvaluationDue s a) : domainEvaluation s =
    if (s.dom (1 - a)).valid = false then s.modClk fun c => { c with lastEval := s.now, betterRun := 0 }
    else if (s.dom a).valid = false then (s.modClk fun c => { c with lastEval := s.now }).switchTo (1 - a)
    else if 1000000 < s.domDiff.natAbs then (s.modClk fun c => { c with lastEval := s.now, betterRun := 0 }).checkDisagree
    else
      let run := if s.ranksBetter (1 - a) a then s.clk.betterRun + 1 else 0
      ((s.modClk fun c => { c with lastEval := s.now, betterRun := run }).when (10 ≤ run) (·.switchTo (1 - a))).checkDisagree := by
  unfold domainEvaluation
  rw [h.active]
  simp only [← Bool.not_eq_true']
  exact if_neg h.second

/-! ### The path delay (R318) -/

/-- A domain's interval between delay requests has ended, on a port that can send. -/
structure DelayReqDue (s : State) (d : Nat) (x : Domain) : Prop where
  dom : x = s.dom d
  range : d < 2
  enabled : x.st ≠ .disabled
  peer : x.delay = 1 ∨ x.master ≠ none
  portEnabled : (s.port x.port).enable = true
  linked : (s.port x.port).link = true
  powered : s.portPowered x.port = true
  ended : x.lastDelayReq + expSec x.logDelay ≤ s.now

theorem ptpDelayReq_due (h : DelayReqDue s d x) : ptpDelayReq d s =
    ((s.modDom d fun x => { x with
      lastDelayReq := s.now, delayReqPending := true, delayReqTx := x.delayReqTx + 1, reqStamp := s.stampSent x.port }).txFrame x.port
      ((if x.delay = 1 then 54 else 44) + ptpHeaders x.transport)).emit (.ptpRequest d x.port) := by
  obtain ⟨rfl, hd, hon, hpeer, hen, hlink, hpow, hend⟩ := h
  unfold State.port at hen hlink
  refine if_pos ?_
  simp only [hen, hlink]
  simpa [hd, hon, hpow, hend] using hpeer

/-- The mean path delay that a response completes: from the two stamps of a Pdelay exchange, or from the four with the last Sync's. -/
def State.delayFrom (s : State) (x : Domain) (remote : Nat) : Nat :=
  if x.delay = 1 then (((s.stamp x.port : Int) - x.reqStamp - remote) / 2).toNat
  else match x.syncTimes with
    | some (t1, t2) => ((t2 - x.reqStamp + (remote - t1)) / 2).toNat
    | none => x.pathDelay

theorem pathDelay?_getD {remote : Nat} : (s.pathDelay? d remote).getD (s.dom d).pathDelay = s.delayFrom (s.dom d) remote := by
  simp only [State.pathDelay?, State.delayFrom]
  split
  · rfl
  · cases (s.dom d).syncTimes <;> rfl

theorem ptpDelayResponse_received {remote len : Nat} (hx : x = s.dom d) (hd : d < 2) (hon : x.st ≠ .disabled)
    (hpend : x.delayReqPending = true) (hrx : s.portRx x.port = true)
    (hlen : s.goodLength x.port (s.port x.port).vlan len = true) : ptpDelayResponse d remote len s =
      (s.rxFrame x.port len).modDom d fun y => { y with
        pathDelay := s.delayFrom x remote, delayReqPending := false, delayRespRx := x.delayRespRx + 1 } := by
  subst hx
  unfold ptpDelayResponse
  extract_lets x
  rw [if_neg (by simp [x, hd, hrx, hon, hpend]), ownTag_vlan, takeFrame_good hlen rfl]
  refine (if_neg Bool.false_ne_true).trans (modDom_congr ?_)
  rw [← pathDelay?_getD]
  rfl

/-! ### The RTC (R331) -/

theorem rtcLoad_minute (hest : s.clk.established = true) (hmin : s.local / nsPerSec % 60 = 0) (hgood : ∀ f ∈ s.clk.faults, f.1 ≠ 1) :
    rtcLoad s = s.modClk fun c => { c with
      rtcSec := s.local / nsPerSec, rtcSub := 0, rtcAt := s.now - (s.local - s.local / nsPerSec * nsPerSec) } :=
  if_pos (by simpa [hest, hmin] using hgood)

end

/-! ### The rows -/

theorem exec_ptpSync {t : Nat} {m : SyncMsg} {s : State} {x : Domain} {ms : Master} (h : SyncTaken (s.tick t) m x ms)
    (hon : x.st ≠ .disabled) : exec (.ptpSync t m) s = .next (settle
      (((s.tick t).syncNoted m x).servo m.domain x ms.clockClass ((s.tick t).syncEstimate m x))) := by
  rw [← ptpSync_taken h hon]
  rfl
theorem exec_ptpAnnounce (t d : Nat) (m : AnnounceMsg) (s : State) :
    exec (.ptpAnnounce t d m) s = .next (settle (ptpAnnounce d m (s.tick t))) := rfl
theorem exec_ptpMasterTimeout (t d : Nat) (s : State) :
    exec (.ptpMasterTimeout t d) s = .next (settle (ptpMasterTimeout d (s.tick t))) := rfl
theorem exec_domainEvaluation (t : Nat) (s : State) :
    exec (.domainEvaluation t) s = .next (settle (domainEvaluation (s.tick t))) := rfl
theorem exec_ptpDelayReqInterval (t d : Nat) (s : State) :
    exec (.ptpDelayReqInterval t d) s = .next (settle (ptpDelayReq d (s.tick t))) := rfl
theorem exec_ptpDelayResponse (t d remote len : Nat) (s : State) :
    exec (.ptpDelayResponse t d remote len) s = .next (settle (ptpDelayResponse d remote len (s.tick t))) := rfl
theorem exec_rtcLoad (t : Nat) (s : State) : exec (.rtcLoad t) s = .next (settle (rtcLoad (s.tick t))) := rfl

/-- Settles O40: a Sync from what the servo makes of its estimate, the other events from their meanings on the ticked state. -/
theorem ptpEvents : Obligations.PtpEvents := by
  unfold Obligations.PtpEvents
  refine ⟨?sync, ?announce, ?timeout, ?evaluation, ?request, ?response, ?rtc⟩
  case sync =>
    rintro t m s0 s x ms s1 e rfl hx hd hrx hlen hmaster hsender hnoted he
    obtain rfl : s1 = (s0.tick t).syncNoted m x := hnoted
    obtain rfl : e = (s0.tick t).syncEstimate m x := he
    have htaken : SyncTaken (s0.tick t) m x ms := ⟨hx, hd, hrx, hlen, hmaster, hsender⟩
    refine ⟨fun hst => ?_, fun hst hfew => ?_, fun hst hnear hrun => ?_, fun hst hfar => ?_, fun hst hnear => ?_⟩
    · have hon : x.st ≠ .disabled := by obtain h | h := hst <;> simp [h]
      rw [exec_ptpSync htaken hon, servo_restarts hst]
      rfl
    · rw [exec_ptpSync htaken (by simp [hst]), servo_joins hst (by rwa [lockTol_syncNoted]), lockTol_syncNoted]
      rfl
    · rw [exec_ptpSync htaken (by simp [hst]), servo_locks hst (by rwa [lockTol_syncNoted]) hrun, lockDomain_eq, lockTie_eq]
      rfl
    · rw [exec_ptpSync htaken (by simp [hst]), servo_relocks hst hfar]
      rfl
    · rw [exec_ptpSync htaken (by simp [hst]), servo_steers hst hnear]
      rfl
  case announce =>
    rintro t d a s0 s x rfl hx hd hon hrx hlen
    rw [exec_ptpAnnounce, ptpAnnounce_received hx hd hon hrx hlen]
    rfl
  case timeout =>
    rintro t d s0 s x quiet rfl hx hd hst rfl hlost
    rw [exec_ptpMasterTimeout, ptpMasterTimeout_locked hx hd hst hlost]
    rfl
  case evaluation =>
    rintro t s0 s a rfl hactive hsecond
    rw [exec_domainEvaluation, domainEvaluation_due ⟨hactive, hsecond⟩]
    refine ⟨fun hb => ?_, fun hb ha => ?_, fun hb ha hfar => ?_, fun hb ha hnear => ?_⟩
    · rw [if_pos hb]
    · rw [if_neg (by simp [hb]), if_pos ha]
    · rw [if_neg (by simp [hb]), if_neg (by simp [ha]), if_pos hfar]
    · rw [if_neg (by simp [hb]), if_neg (by simp [ha]), if_neg (Nat.not_lt.2 hnear)]
  case request =>
    rintro t d s0 s x p rfl hx rfl hd hon hpeer hen hlink hpow hend
    rw [exec_ptpDelayReqInterval, ptpDelayReq_due ⟨hx, hd, hon, hpeer, hen, hlink, hpow, hend⟩]
    rfl
  case response =>
    rintro t d remote len s0 s x rfl hx hd hon hpend hrx hlen
    rw [exec_ptpDelayResponse, ptpDelayResponse_received hx hd hon hpend hrx hlen]
    rfl
  case rtc =>
    rintro t s0 s rfl hest hmin hgood
    rw [exec_rtcLoad, rtcLoad_minute hest hmin hgood]

end Sys2Proof.Machine
end

section
/-! PROOF. One step and the table of rows: the front of the queue runs, an empty queue idles, and every row answers a next state. -/
namespace Sys2Proof.Machine

/-- A step on an empty queue idles. -/
theorem step_idle {s : State} (h : s.pending = []) : step s = .next s := by
  unfold step
  rw [h]

/-- Settles O1: a step is `exec` of the front of the queue, by definition, and idles on the empty one. -/
theorem stepRunsTheFrontCommand : Obligations.StepRunsTheFrontCommand := by
  unfold Obligations.StepRunsTheFrontCommand
  exact ⟨fun _ _ _ => rfl, fun _ h => step_idle h⟩

/-- Settles O2: row by row, `exec` is the next state that the row's meaning gives. -/
theorem everyRowAnswers : Obligations.EveryRowAnswers := by
  unfold Obligations.EveryRowAnswers
  intro c s
  cases c <;> exact ⟨_, rfl⟩

end Sys2Proof.Machine
end

section
/-! PROOF. What the delivery of an event leaves of the Hoop, and what a command that is clear has passed: its payload checks. -/
namespace Sys2Proof.Machine

/-! ### The Hoop under a delivery (R107) -/

section
variable (s : State)

@[simp] theorem raiseIrq_hoop (c : Nat) : (s.raiseIrq c).hoop = s.hoop := by
  unfold State.raiseIrq
  split
  · rfl
  · dsimp only
    split <;> rfl

@[simp] theorem when_hoop {b : Bool} {f : State → State} (h : (f s).hoop = s.hoop) : (s.when b f).hoop = s.hoop := by
  unfold State.when
  split
  · exact h
  · rfl

@[simp] theorem setSpiPort_hoop (b : Bool) (p : Spi) : (s.setSpiPort b p).hoop = s.hoop := by
  unfold State.setSpiPort
  dsimp only
  rw [when_hoop _ rfl]
  split <;> rfl

@[simp] theorem sendDatagram_hoop (n : Nat) (b : List Byte) : (s.sendDatagram n b).hoop = s.hoop := by
  unfold State.sendDatagram
  split
  · rfl
  · dsimp only
    split <;> rfl

@[simp] theorem offerPcie_hoop (e : Event) : (s.offerPcie e).hoop = s.hoop := by
  unfold State.offerPcie
  dsimp only
  split
  · rw [raiseIrq_hoop]
  · rw [raiseIrq_hoop]
    rfl

@[simp] theorem offerSpi_hoop (b : Bool) (e : Event) : (s.offerSpi b e).hoop = s.hoop := by
  unfold State.offerSpi
  dsimp only
  split <;> rw [setSpiPort_hoop] <;> cases b <;> rfl

@[simp] theorem offerNet_hoop (n : Nat) (e : Event) : (s.offerNet n e).hoop = s.hoop := by
  unfold State.offerNet
  split
  · rfl
  · dsimp only
    split
    · rfl
    · rw [sendDatagram_hoop]
      rfl

theorem forEach_hoop {α : Type} {f : α → State → State} (h : ∀ a s, (f a s).hoop = s.hoop) (l : List α) :
    (s.forEach l f).hoop = s.hoop :=
  State.forEach_keeps (p := fun u => u.hoop = s.hoop) (fun a u hu => (h a u).trans hu) l s rfl

@[simp] theorem offer_hoop (e : Event) : (s.offer e).hoop = s.hoop := by
  unfold State.offer
  extract_lets s1 s2 s3
  have h1 : s1.hoop = s.hoop := when_hoop s (offerPcie_hoop s e)
  have h2 : s2.hoop = s1.hoop := when_hoop s1 (offerSpi_hoop s1 false e)
  have h3 : s3.hoop = s2.hoop := when_hoop s2 (offerSpi_hoop s2 true e)
  exact (forEach_hoop s3 (fun (x : Session) u => offerNet_hoop u x.number e) _).trans (h3.trans (h2.trans h1))

/-- An event leaves the Hoop its record in the Sampler and nothing else. -/
theorem raise_hoop (op src : Nat) (d : List Byte) :
    ∃ r, (s.raise op src d).hoop = { s.hoop with sampler := s.hoop.sampler.offer r } := ⟨_, offer_hoop _ _⟩

theorem raiseOnce_hoop (op src c : Nat) (d : List Byte) :
    ∃ m, (s.raiseOnce op src c d).hoop = { s.hoop with sampler := m } := by
  unfold State.raiseOnce
  split
  · exact ⟨s.hoop.sampler, rfl⟩
  · exact ⟨_, offer_hoop _ _⟩

theorem evtSampler_hoop (c g o : Nat) :
    ∃ r, (s.evtSampler c g o).hoop = { s.hoop with sampler := s.hoop.sampler.offer r } := raise_hoop s _ _ _

end

/-! ### What a clear command has passed (R74, R104) -/

section
variable {c : Cmd} {j : Job} {s : State}

theorem clear_check (h : clear c j s = true) : check c j s = none := by
  simp only [clear, Bool.and_eq_true, Option.isNone_iff_eq_none] at h
  exact h.1.1.1.1.1.2

theorem firstOffset_eq_none {l : List Nat} : firstOffset l = none ↔ l = [] := List.min?_eq_none_iff

/-- None of the fields of a clear command is at fault. -/
theorem clear_param (h : clear c j s = true) : c.param j s = [] := by
  have hcheck := clear_check h
  simp only [check] at hcheck
  split_ifs at hcheck
  exact firstOffset_eq_none.1 (Option.map_eq_none_iff.1 hcheck)

theorem chk_eq_nil {off : Nat} {ok : Bool} : chk off ok = [] ↔ ok = true := by
  cases ok <;> simp [chk]

end

end Sys2Proof.Machine
end

section
/-! PROOF. The event log and the Sampler (spec/18 R410-R412, R425-R429): what each operation does to the store, the runs of the
commands, and the statement that gathers them. -/
namespace Sys2Proof.Machine

/-! ### Records offered to the store (R426) -/

theorem keepNewest_concat {α : Type} (n : Nat) (l : List α) (x : α) : keepNewest (n + 1) (l ++ [x]) = keepNewest n l ++ [x] := by
  rw [keepNewest, keepNewest, List.length_append, List.length_singleton, Nat.add_sub_add_right,
    List.drop_append_of_le_length (Nat.sub_le _ _)]

section
variable (m : Sampler) (r : Rec)

theorem offer_armed (h : m.st = .armed) : m.offer r = m.push r := by
  unfold Sampler.offer
  rw [h]

theorem offer_postTrigger (h : m.st = .postTrigger) :
    m.offer r = if m.remaining = 0 then m else { m.push r with remaining := m.remaining - 1 } := by
  unfold Sampler.offer
  rw [h]

/-- A store that is frozen takes no record. -/
theorem offer_closed (h : m.st = .frozen ∨ m.st = .copying) : m.offer r = m := by
  unfold Sampler.offer
  obtain h | h := h <;> rw [h]

/-- `u` is the store `m` but for its records: the ring, the place of the trigger in it and how many still come. -/
def Sampler.SameButRing (m u : Sampler) : Prop :=
  u = { m with ring := u.ring, triggerPos := u.triggerPos, remaining := u.remaining }

/-- A store of at most `n` records takes one. -/
def Sampler.keep (n : Nat) (m : Sampler) (r : Rec) : Sampler :=
  { m with
    ring := keepNewest n (m.ring ++ [r])
    triggerPos := if m.ring.length < n then m.triggerPos else m.triggerPos.map (· - 1) }

theorem push_eq_keep : m.push r = m.keep 4096 r := rfl

theorem keep_sameButRing (n : Nat) : m.SameButRing (m.keep n r) := rfl

theorem keep_counts_sameButRing (n k : Nat) : m.SameButRing { m.keep n r with remaining := k } := rfl

theorem push_sameButRing : m.SameButRing (m.push r) := push_eq_keep m r ▸ keep_sameButRing m r 4096

/-- A record changes the ring and nothing that a trigger or a copy has set. -/
theorem offer_sameButRing : m.SameButRing (m.offer r) := by
  cases h : m.st with
  | armed => exact offer_armed m r h ▸ push_sameButRing m r
  | postTrigger =>
    rw [offer_postTrigger m r h]
    split
    · rfl
    · exact keep_counts_sameButRing m r 4096 _
  | frozen => exact (offer_closed m r (.inl h)).symm ▸ rfl
  | copying => exact (offer_closed m r (.inr h)).symm ▸ rfl

theorem keep_ring (n : Nat) : (m.keep (n + 1) r).ring = keepNewest n m.ring ++ [r] := keepNewest_concat n m.ring r

theorem mem_keep_of_newest (n : Nat) {l : List Rec} (h : m.ring = l ++ [r]) (k : Rec) : r ∈ (m.keep (n + 2) k).ring := by
  rw [keep_ring, h, keepNewest_concat]
  exact List.mem_append_left _ List.mem_concat_self

theorem push_ring : (m.push r).ring = keepNewest 4095 m.ring ++ [r] := keep_ring m r 4095

/-- The newest record of the ring stays when another is offered. -/
theorem mem_offer_of_newest {l : List Rec} (h : m.ring = l ++ [r]) (k : Rec) : r ∈ (m.offer k).ring := by
  have hold : r ∈ m.ring := h ▸ List.mem_concat_self
  have hpush : r ∈ (m.push k).ring := mem_keep_of_newest m r 4094 h k
  cases hst : m.st with
  | armed => exact (offer_armed m k hst).symm ▸ hpush
  | postTrigger =>
    rw [offer_postTrigger m k hst]
    split
    · exact hold
    · dsimp only
      exact hpush
  | frozen => exact (offer_closed m k (.inl hst)).symm ▸ hold
  | copying => exact (offer_closed m k (.inr hst)).symm ▸ hold

/-- An armed store after a trigger: its record is written and the post-trigger phase begins. -/
def Sampler.triggered (m : Sampler) (r : Rec) : Sampler :=
  { m.push r with
    st := .postTrigger, remaining := m.post, trigger := some r, triggerPos := some ((m.push r).ring.length - 1)
    incident := m.incident + 1 }

theorem triggered_ring : (m.triggered r).ring = keepNewest 4095 m.ring ++ [r] := by
  unfold Sampler.triggered
  dsimp only
  exact push_ring m r

/-- A frozen store after a trigger: it is counted as lost. -/
def Sampler.missed (m : Sampler) : Sampler := { m with lost := satAdd32 m.lost 1 }

end

/-! ### Triggers, the freeze and the copy (R426, R427) -/

section
variable {s : State}

/-- The store of a state that a trigger has changed. -/
def State.withStore (s : State) (m : Sampler) : State := { s with hoop := { s.hoop with samplerSinceReset := true, sampler := m } }

theorem trigger_armed (h : s.hoop.sampler.st = .armed) (code origin : Nat) (args : List Nat) : s.trigger code origin args =
    ((s.withStore (s.hoop.sampler.triggered { stitch := s.clk.stitch, code, origin, args })).logOnly code origin args).evtSampler
      1 code origin := by
  unfold State.trigger
  extract_lets r h0 s0 m
  split <;> rename_i hst
  · rfl
  all_goals cases hst.symm.trans h

theorem trigger_closed (h : s.hoop.sampler.st = .frozen ∨ s.hoop.sampler.st = .copying) (code origin : Nat) (args : List Nat) :
    s.trigger code origin args = ((s.withStore s.hoop.sampler.missed).logOnly code origin args).evtSampler 5 code origin := by
  unfold State.trigger
  extract_lets r h0 s0 m
  split <;> rename_i hst
  · obtain h | h := h <;> cases hst.symm.trans h
  · obtain h | h := h <;> cases hst.symm.trans h
  · rfl
  · rfl

theorem trigger_postTrigger (h : s.hoop.sampler.st = .postTrigger) (code origin : Nat) (args : List Nat) :
    s.trigger code origin args = (s.withStore s.hoop.sampler).record code origin args := by
  unfold State.trigger
  extract_lets r h0 s0 m
  split <;> rename_i hst
  · cases hst.symm.trans h
  · rfl
  all_goals cases hst.symm.trans h

theorem trigger_armed_store (h : s.hoop.sampler.st = .armed) (code origin : Nat) (args : List Nat) : ∃ k,
    (s.trigger code origin args).hoop.sampler =
      (s.hoop.sampler.triggered { stitch := s.clk.stitch, code, origin, args }).offer k := by
  rw [trigger_armed h]
  obtain ⟨k, hk⟩ := evtSampler_hoop _ 1 code origin
  exact ⟨k, by rw [hk]; rfl⟩

theorem trigger_closed_store (h : s.hoop.sampler.st = .frozen ∨ s.hoop.sampler.st = .copying) (code origin : Nat)
    (args : List Nat) : (s.trigger code origin args).hoop.sampler = s.hoop.sampler.missed := by
  rw [trigger_closed h]
  obtain ⟨k, hk⟩ := evtSampler_hoop _ 5 code origin
  rw [hk]
  exact offer_closed s.hoop.sampler.missed k h

/-- A trigger is remembered until the next reset. -/
theorem trigger_sinceReset (code origin : Nat) (args : List Nat) : (s.trigger code origin args).hoop.samplerSinceReset = true := by
  cases h : s.hoop.sampler.st with
  | armed =>
    rw [trigger_armed h]
    obtain ⟨k, hk⟩ := evtSampler_hoop _ 1 code origin
    rw [hk]
    rfl
  | postTrigger =>
    rw [trigger_postTrigger h]
    rfl
  | frozen =>
    rw [trigger_closed (.inl h)]
    obtain ⟨k, hk⟩ := evtSampler_hoop _ 5 code origin
    rw [hk]
    rfl
  | copying =>
    rw [trigger_closed (.inr h)]
    obtain ⟨k, hk⟩ := evtSampler_hoop _ 5 code origin
    rw [hk]
    rfl

end


section
variable {s : State}

/-- An event leaves the Hoop as it is while the store is frozen. -/
theorem evtSampler_closed (h : s.hoop.sampler.st = .frozen ∨ s.hoop.sampler.st = .copying) (c g o : Nat) :
    (s.evtSampler c g o).hoop = s.hoop := by
  obtain ⟨k, hk⟩ := evtSampler_hoop s c g o
  rw [hk, offer_closed _ _ h]

/-- The freeze: the store is frozen, and with flash its copy begins. -/
theorem freezeSampler_store (s : State) : s.freezeSampler.hoop.sampler =
    if s.hoop.flashPresent then { s.hoop.sampler with st := .copying, copyFailed := false }
    else { s.hoop.sampler with st := .frozen, copyFailed := true } := by
  unfold State.freezeSampler
  extract_lets m t s1
  have hfrozen : s1.hoop = { s.hoop with sampler := { s.hoop.sampler with st := .frozen, copyFailed := false } } :=
    evtSampler_closed (.inl rfl) _ _ _
  split
  · show ({ s1.hoop.sampler with st := .copying } : Sampler) = _
    rw [hfrozen]
  · have hst : s1.hoop.sampler.st = .frozen := congrArg (·.sampler.st) hfrozen
    refine (congrArg Hoop.sampler (evtSampler_closed ?_ 4 t.code t.origin)).trans ?_
    · exact .inl hst
    · show ({ s1.hoop.sampler with copyFailed := true } : Sampler) = _
      rw [hfrozen]

theorem samplerFreeze_due (hst : s.hoop.sampler.st = .postTrigger) (hrem : s.hoop.sampler.remaining = 0) :
    samplerFreeze s = s.freezeSampler := if_pos (by simp [hst, hrem])

/-- The incident that a finished copy stores. -/
def Sampler.copied (m : Sampler) : Incident :=
  { number := m.incident, stitch := (m.trigger.getD {}).stitch, code := (m.trigger.getD {}).code
    origin := (m.trigger.getD {}).origin, position := m.triggerPos.getD 0, slot := (m.incident - 1) % 4, valid := true
    records := m.ring }

/-- The store armed again once its copy is finished. -/
def Sampler.rearmed (m : Sampler) : Sampler :=
  { m with st := .armed, ring := [], trigger := none, triggerPos := none, incidents := (m.copied :: m.incidents).take 4 }

/-- A finished copy: the store is armed again, but for the record of the event that reports it. -/
theorem samplerCopyDone_ok (h : s.hoop.sampler.st = .copying) : ∃ k, (samplerCopyDone true s).hoop =
    { s.hoop with summary := summaryOf s.hoop.log s.hoop.sampler.trigger, sampler := s.hoop.sampler.rearmed.offer k } := by
  rw [show samplerCopyDone true s = _ from if_neg (not_not.2 h)]
  exact evtSampler_hoop (s.modHoop fun h => { h with
    summary := summaryOf h.log s.hoop.sampler.trigger, sampler := s.hoop.sampler.rearmed }) 3 _ _

theorem samplerCopyDone_failed (h : s.hoop.sampler.st = .copying) :
    (samplerCopyDone false s).hoop.sampler = { s.hoop.sampler with st := .frozen, copyFailed := true } := by
  rw [show samplerCopyDone false s = _ from if_neg (not_not.2 h)]
  exact congrArg Hoop.sampler (evtSampler_closed (.inl rfl) _ _ _)

end

/-! ### The commands (R412, R426, R428, R429) -/

section
variable {j : Job} {s : State}

theorem partialReply_all {n : Nat} {head : Nat → List Byte} {items : List (List Byte)} (h : n ≤ items.length) :
    partialReply s n head items = .ok s (head n ++ (items.take n).flatten) := by
  have hlen : (items.take n).length = n := List.length_take_of_le h
  unfold partialReply
  extract_lets got payload
  rw [if_neg (show ¬got.length < n from Nat.not_lt.2 hlen.ge)]
  show CmdResult.ok s (head (items.take n).length ++ _) = _
  rw [hlen]

theorem partialReply_few {n : Nat} {head : Nat → List Byte} {items : List (List Byte)} (h : items.length < n) :
    partialReply s n head items = .part s items.length (head items.length ++ items.flatten) := by
  have hall : items.take n = items := List.take_of_length_le h.le
  unfold partialReply
  rw [hall]
  exact if_pos h

/-- The entries that LOG_READ asks for: all, or those from a number on. -/
def State.entriesRead (s : State) (j : Job) : List (Nat × List Byte) :=
  if j.u32 4 = 0 then s.logEntries (j.u8 0) else (s.logEntries (j.u8 0)).dropWhile fun e => e.1 ≠ j.u32 4

/-- The head of LOG_READ's reply: how many entries there are and how many follow. -/
def State.logReadHead (s : State) (j : Job) (n : Nat) : List Byte :=
  leBytes 4 (s.logEntries (j.u8 0)).length ++ leBytes 1 n ++ zeros 3

theorem logRead_run (h : j.u32 4 = 0 ∨ s.entriesRead j ≠ []) : cmdLogRead.run j s =
    partialReply s (j.u8 1) (s.logReadHead j) ((s.entriesRead j).map (·.2)) := by
  refine if_neg fun hfail => ?_
  obtain ⟨hfrom, hnone⟩ : decide (j.u32 4 ≠ 0) = true ∧ (s.entriesRead j).isEmpty = true := Bool.and_eq_true_iff.1 hfail
  exact h.elim (by simpa using hfrom) fun hsome => hsome (List.isEmpty_iff.1 hnone)

/-- A clear LOG_READ or SAMPLER_READ asks for at least one entry. -/
theorem logRead_count (h : clear cmdLogRead j s = true) : 1 ≤ j.u8 1 := by
  have hparam : chk 1 (1 ≤ j.u8 1 && j.u8 1 ≤ 31) = [] := by
    have hall := clear_param h
    simp only [cmdLogRead, List.append_eq_nil_iff] at hall
    exact hall.1.2
  simpa using (Bool.and_eq_true_iff.1 (chk_eq_nil.1 hparam)).1

theorem samplerRead_count (h : clear cmdSamplerRead j s = true) : 1 ≤ j.u8 1 := by
  have hparam : chk 1 (1 ≤ j.u8 1 && j.u8 1 ≤ 31) = [] := by
    have hall := clear_param h
    simp only [cmdSamplerRead, List.append_eq_nil_iff] at hall
    exact hall.1.2
  simpa using (Bool.and_eq_true_iff.1 (chk_eq_nil.1 hparam)).1

/-- The head of SAMPLER_READ's reply for the live store. -/
def Sampler.readHead (m : Sampler) (n : Nat) : List Byte :=
  leBytes 1 m.st.code ++ leBytes 1 n ++ leBytes 2 (m.triggerPos.getD 0xFFFF) ++ leBytes 4 m.lost

theorem samplerRead_live (hstore : j.u8 0 = 0) (hin : j.u32 4 < s.hoop.sampler.ring.length) : cmdSamplerRead.run j s =
    partialReply s (j.u8 1) s.hoop.sampler.readHead ((s.hoop.sampler.ring.drop (j.u32 4)).map Rec.samplerBytes) := by
  simp only [cmdSamplerRead, if_pos hstore]
  exact if_neg (Nat.not_le.2 hin)

theorem samplerArm_armed (h : s.hoop.sampler.st = .armed) :
    cmdSamplerArm.run j s = .ok (s.modSampler fun m => { m with post := j.u16 0 }) [] := by
  simp only [cmdSamplerArm, h]

theorem samplerArm_frozen (h : s.hoop.sampler.st = .frozen) : cmdSamplerArm.run j s =
    .ok (s.modSampler fun m => { m with
      st := .armed, post := j.u16 0, ring := [], trigger := none, triggerPos := none, copyFailed := false }) [] := by
  simp only [cmdSamplerArm, h]

end

/-! ### The rows -/

theorem isRow_logRead : IsRow .logRead cmdLogRead := fun _ _ _ => rfl
theorem isRow_samplerRead : IsRow .samplerRead cmdSamplerRead := fun _ _ _ => rfl
theorem isRow_samplerArm : IsRow .samplerArm cmdSamplerArm := fun _ _ _ => rfl
theorem isRow_samplerTrigger : IsRow .samplerTrigger cmdSamplerTrigger := fun _ _ _ => rfl

theorem exec_samplerFreeze (t : Nat) (s : State) : exec (.samplerFreeze t) s = .next (settle (samplerFreeze (s.tick t))) := rfl
theorem exec_samplerCopyDone (t : Nat) (ok : Bool) (s : State) :
    exec (.samplerCopyDone t ok) s = .next (settle (samplerCopyDone ok (s.tick t))) := rfl

/-- Settles O43: the commands from their runs, triggers, freeze and copy from what they make of the store. -/
theorem logAndSamplerRows : Obligations.LogAndSamplerRows := by
  unfold Obligations.LogAndSamplerRows
  refine ⟨?log, ?read, ?readPart, ?arm, ?command, ?trigger, ?freeze, ?copied, ?failed⟩
  case log =>
    intro es hes
    obtain rfl : es = fun j s => s.entriesRead j := hes
    refine ⟨Runs.of isRow_logRead ?_, RunsPart.of isRow_logRead ?_⟩
    · intro j s _ _ hc hall
      have hsome : s.entriesRead j ≠ [] := List.ne_nil_of_length_pos (Nat.lt_of_lt_of_le (logRead_count hc) hall)
      exact ⟨_, _, (logRead_run (.inr hsome)).trans (partialReply_all (by simpa using hall)), rfl, rfl⟩
    · intro j s _ _ _ ⟨hfew, hfrom⟩
      refine ⟨_, _, _, (logRead_run hfrom).trans (partialReply_few (by simpa using hfew)), rfl, List.length_map _, ?_⟩
      rw [List.length_map]
      rfl
  case read =>
    refine Runs.of isRow_samplerRead fun j s _ _ hc ⟨hstore, hall⟩ => ?_
    have hone := samplerRead_count hc
    exact ⟨_, _, (samplerRead_live hstore (by omega)).trans (partialReply_all (by simp; omega)), rfl, rfl⟩
  case readPart =>
    refine RunsPart.of isRow_samplerRead fun j s _ _ _ ⟨hstore, hin, hfew⟩ => ?_
    have hlen : ((s.hoop.sampler.ring.drop (j.u32 4)).map Rec.samplerBytes).length = s.hoop.sampler.ring.length - j.u32 4 := by simp
    exact ⟨_, _, _, (samplerRead_live hstore hin).trans (partialReply_few (by omega)), rfl, hlen, rfl⟩
  case arm =>
    rintro m rfl
    exact ⟨Runs.of isRow_samplerArm fun j s _ _ _ h => ⟨_, _, samplerArm_armed h, rfl, rfl⟩,
      Runs.of isRow_samplerArm fun j s _ _ _ h => ⟨_, _, samplerArm_frozen h, rfl, rfl⟩⟩
  case command => exact Runs.of isRow_samplerTrigger fun j s _ _ _ _ => ⟨_, _, rfl, rfl, rfl⟩
  case trigger =>
    rintro s code origin args x r rfl rfl
    refine ⟨_, rfl, fun h => ?_, fun h => trigger_closed_store h code origin args, trigger_sinceReset code origin args⟩
    obtain ⟨k, hk⟩ := trigger_armed_store h code origin args
    have hmem := mem_offer_of_newest _ _ (triggered_ring s.hoop.sampler { stitch := s.clk.stitch, code, origin, args }) k
    rw [hk]
    rw [offer_sameButRing] at hmem ⊢
    exact ⟨rfl, rfl, rfl, hmem⟩
  case freeze =>
    rintro t s0 s rfl hst hrem
    refine ⟨_, ?_, rfl, freezeSampler_store _⟩
    rw [exec_samplerFreeze, samplerFreeze_due hst hrem]
  case copied =>
    rintro t s0 s x rfl rfl hst
    obtain ⟨k, hk⟩ := samplerCopyDone_ok hst
    refine ⟨_, exec_samplerCopyDone _ _ _, ?_⟩
    rw [hk]
    dsimp only
    rw [offer_sameButRing]
    exact ⟨rfl, rfl, rfl, rfl⟩
  case failed =>
    rintro t s0 s rfl hst
    exact ⟨_, exec_samplerCopyDone _ _ _, samplerCopyDone_failed hst⟩

end Sys2Proof.Machine
end

section
/-! PROOF. Firmware updates (spec/18 R418-R424): the run of each command in the state of the update it needs, trials and the delayed
warm reset, and the statement that gathers them. -/
namespace Sys2Proof.Machine

section
variable {j : Job} {s : State}

/-! ### Receiving an image (R421-R423) -/

theorem targetSlot_running (h : s.loader = false) : s.targetSlot = 1 - s.hoop.running := by
  simp [State.targetSlot, h]

theorem targetSlot_loader (h : s.loader = true) : s.targetSlot = 0 := by
  simp [State.targetSlot, h]

/-- An update that starts for the session of a request. -/
def Upd.begun (u : Upd) (j : Job) : Upd :=
  { u with
    st := .receiving, session := j.req.session, transport := j.req.transport, length := j.u32 0, crc := j.u32 4, received := []
    chunks := [] }

theorem updBegin_run (h : s.hoop.upd.st = .idle) : cmdUpdBegin.run j s =
    .ok ((if s.loader then s else s.setSlot s.targetSlot fun _ => {}).modUpd fun u => u.begun j) [] := by
  simp only [cmdUpdBegin, h]
  rfl

/-- The bytes that a chunk carries. -/
def Job.chunk (j : Job) : List Byte := j.req.payload.drop 8

/-- The loader erases slot A with the chunk that tells it the image's type, if that is BUNDLE. -/
def State.erases (s : State) (j : Job) : Bool :=
  s.loader && s.hoop.upd.received.length < 256 && 256 ≤ (s.hoop.upd.received ++ j.chunk).length &&
    uAt (s.hoop.upd.received ++ j.chunk) 6 1 = 3

theorem erases_iff : s.erases j = true ↔ s.loader = true ∧ s.hoop.upd.received.length < 256 ∧
    256 ≤ (s.hoop.upd.received ++ j.req.payload.drop 8).length ∧ uAt (s.hoop.upd.received ++ j.req.payload.drop 8) 6 1 = 3 := by
  show s.erases j = true ↔ s.loader = true ∧ s.hoop.upd.received.length < 256 ∧
    256 ≤ (s.hoop.upd.received ++ j.chunk).length ∧ uAt (s.hoop.upd.received ++ j.chunk) 6 1 = 3
  simp only [State.erases, Bool.and_eq_true, decide_eq_true_eq, and_assoc]

theorem updChunk_next (hst : s.hoop.upd.st = .receiving) (hown : s.ownsUpdate j.req = true)
    (hoff : j.u32 0 = s.hoop.upd.received.length) (hsome : 0 < j.chunk.length) (hfit : j.u32 0 + j.chunk.length ≤ s.hoop.upd.length) :
    cmdUpdChunk.run j s = .later ((s.when (s.erases j) (·.setSlot s.targetSlot fun _ => {})).modUpd fun u => { u with
      received := s.hoop.upd.received ++ j.chunk, chunks := u.chunks ++ [(j.u32 0, j.chunk, j)] }) := by
  have hnew : ¬j.u32 0 + j.chunk.length ≤ s.hoop.upd.received.length := by omega
  refine (if_neg (by simp [hst, hown])).trans ((if_neg hnew).trans ((if_neg ?_).trans ?_))
  · show ¬(decide (j.u32 0 ≠ s.hoop.upd.received.length) || decide (s.hoop.upd.length < j.u32 0 + j.chunk.length)) = true
    simpa only [ne_eq, hoff, not_true_eq_false, decide_false, Bool.false_or, decide_eq_true_eq, not_lt] using hfit
  · rfl

theorem updChunk_again (hst : s.hoop.upd.st = .receiving) (hown : s.ownsUpdate j.req = true)
    (hold : j.u32 0 + j.chunk.length ≤ s.hoop.upd.received.length)
    (hsame : (s.hoop.upd.received.drop (j.u32 0)).take j.chunk.length = j.chunk) : cmdUpdChunk.run j s = .ok s [] :=
  (if_neg (by simp [hst, hown])).trans ((if_pos hold).trans (if_pos hsame))

theorem updChunkProgrammed_oldest {off : Nat} {data : List Byte} {rest : List (Nat × List Byte × Job)}
    (hidle : s.hoop.sampler.st ≠ .copying) (hchunks : s.hoop.upd.chunks = (off, data, j) :: rest) :
    updChunkProgrammed s = (s.modUpd fun u => { u with chunks := rest }).finish j 0 0 [] := by
  unfold updChunkProgrammed
  rw [if_neg hidle, hchunks]

/-! ### UPD_VERIFY (R418, R423) -/

/-- A whole image that its session has sent and whose bytes are programmed. -/
structure ImageReceived (s : State) (j : Job) : Prop where
  receiving : s.hoop.upd.st = .receiving
  owned : s.ownsUpdate j.req = true
  whole : s.hoop.upd.received.length = s.hoop.upd.length
  programmed : s.hoop.upd.chunks = []
  running : s.loader = false
  crc : crc32 s.hoop.upd.received = s.hoop.upd.crc

/-- An image that passes R418 is of an accepted type. -/
theorem imageErr_type {b : List Byte} {types : List Nat} (h : s.imageErr b types = none) : types.contains (uAt b 6 1) = true := by
  unfold State.imageErr at h
  extract_lets o type slot at h
  split_ifs at h with _ _ _ _ _ _ htype
  simpa using htype

theorem updVerify_refused (h : ImageReceived s j) {e : Err} (he : s.imageErr s.hoop.upd.received [3] = some e) :
    cmdUpdVerify.run j s = .failWith (s.modUpd fun u => { u with st := .idle }) e.status e.detail := by
  obtain ⟨hst, hown, hlen, hprog, hrun, hcrc⟩ := h
  refine (if_neg (by simp [hst, hown, hlen, hprog])).trans ?_
  simp only [hrun, hcrc, ne_eq, not_true_eq_false, if_false, Bool.not_false, if_true, he]

/-- The slot that a verified bundle fills. -/
def bundleSlot (b : List Byte) : Slot := { valid := true, version := uAt b 8 4, arb := uAt b 12 1, bytes := b }

theorem updVerify_passes (h : ImageReceived s j) (he : s.imageErr s.hoop.upd.received [3] = none) : cmdUpdVerify.run j s =
    .ok ((s.setSlot (1 - s.hoop.running) fun _ => bundleSlot s.hoop.upd.received).modUpd fun u => { u with
      st := .verified, imgType := 3, imgArb := uAt s.hoop.upd.received 12 1, imgVersion := uAt s.hoop.upd.received 8 4 })
      (leBytes 1 3 ++ leBytes 1 (uAt s.hoop.upd.received 12 1) ++ zeros 2) := by
  obtain ⟨hst, hown, hlen, hprog, hrun, hcrc⟩ := h
  have htype : uAt s.hoop.upd.received 6 1 = 3 := by simpa using imageErr_type he
  refine (if_neg (by simp [hst, hown, hlen, hprog])).trans ?_
  simp only [hrun, hcrc, ne_eq, not_true_eq_false, if_false, Bool.not_false, if_true, he, htype, targetSlot_running hrun]
  rfl

/-! ### UPD_ACTIVATE (R423) -/

theorem updActivate_hoop (hst : s.hoop.upd.st = .verified) (hown : s.ownsUpdate j.req = true) (htype : s.hoop.upd.imgType = 1) :
    cmdUpdActivate.run j s = .ok (s.modHoop fun h => { h with
      fwHoop := s.hoop.upd.imgVersion, upd := { h.upd with st := .idle, recoveryHoop := true } }) [] :=
  (if_neg (by simp [hst, hown])).trans (if_pos htype)

theorem updActivate_bobbin (hst : s.hoop.upd.st = .verified) (hown : s.ownsUpdate j.req = true) (htype : s.hoop.upd.imgType = 2) :
    cmdUpdActivate.run j s = .ok (s.modHoop fun h => { h with
      fwBobbin := s.hoop.upd.imgVersion, upd := { h.upd with st := .idle } }) [] :=
  (if_neg (by simp [hst, hown])).trans ((if_neg (by simp [htype])).trans (if_pos htype))

/-- A verified bundle becomes the boot slot, for a trial after the next reset. -/
def State.activated (s : State) : State :=
  ((s.writeKeys s.hoop.upd.received).record 0x0A01 0 [1 - s.hoop.running, s.hoop.upd.imgVersion, s.hoop.upd.imgArb]).modHoop
    fun h => { h with
      summary := keepNewest 64 h.log, bootSlot := 1 - s.hoop.running
      upd := { h.upd with st := .activated, previous := h.running, noTrial := false } }

theorem updActivate_bundle (hst : s.hoop.upd.st = .verified) (hown : s.ownsUpdate j.req = true) (htype : s.hoop.upd.imgType = 3)
    (hrun : s.loader = false) : cmdUpdActivate.run j s = .ok (if j.u8 0 = 1 then s.activated.warmIn100 else s.activated) [] := by
  refine (if_neg (by simp [hst, hown])).trans ((if_neg (by simp [htype])).trans ((if_neg (by simp [htype])).trans ?_))
  simp only [targetSlot_running hrun, hrun, Bool.or_false, decide_eq_true_eq]
  rfl

/-- `u` differs from `s` at most in what the Hoop holds. -/
def OnlyHoop (s u : State) : Prop := u = { s with hoop := u.hoop }

theorem writeKeys_onlyHoop (s : State) (b : List Byte) : OnlyHoop s (s.writeKeys b) := by
  unfold State.writeKeys
  split <;> rfl

theorem writeKeys_running (s : State) (b : List Byte) : (s.writeKeys b).hoop.running = s.hoop.running := by
  unfold State.writeKeys
  split <;> rfl

theorem writeKeys_warmAt (s : State) (b : List Byte) : (s.writeKeys b).hoop.warmAt = s.hoop.warmAt := by
  unfold State.writeKeys
  split <;> rfl

theorem OnlyHoop.now_eq {u : State} (h : OnlyHoop s u) : u.now = s.now := by rw [h]; rfl

theorem OnlyHoop.trans {u v : State} (h1 : OnlyHoop s u) (h2 : OnlyHoop u v) : OnlyHoop s v := by
  unfold OnlyHoop at *
  rw [h2, h1]

theorem record_onlyHoop (s : State) (c o : Nat) (a : List Nat) : OnlyHoop s (s.record c o a) := by
  unfold OnlyHoop State.record State.logOnly State.sample
  rfl

/-- A record changes the log and the Sampler, nothing else of the Hoop. -/
theorem record_hoop (s : State) (c o : Nat) (a : List Nat) :
    ∃ m l n, (s.record c o a).hoop = { s.hoop with sampler := m, log := l, logSeq := n } := ⟨_, _, _, rfl⟩

theorem activated_running (s : State) : s.activated.hoop.running = s.hoop.running := by
  obtain ⟨m, l, n, h⟩ := record_hoop (s.writeKeys s.hoop.upd.received) 0x0A01 0
    [1 - s.hoop.running, s.hoop.upd.imgVersion, s.hoop.upd.imgArb]
  exact (congrArg Hoop.running h).trans (writeKeys_running s s.hoop.upd.received)

theorem activated_previous (s : State) : s.activated.hoop.upd.previous = s.hoop.running := activated_running s

theorem activated_warmAt (s : State) : s.activated.hoop.warmAt = s.hoop.warmAt := by
  obtain ⟨m, l, n, h⟩ := record_hoop (s.writeKeys s.hoop.upd.received) 0x0A01 0
    [1 - s.hoop.running, s.hoop.upd.imgVersion, s.hoop.upd.imgArb]
  exact (congrArg Hoop.warmAt h).trans (writeKeys_warmAt s s.hoop.upd.received)

theorem activated_onlyHoop (s : State) : OnlyHoop s s.activated :=
  ((writeKeys_onlyHoop s _).trans (record_onlyHoop _ _ _ _)).trans rfl

/-! ### UPD_ROLLBACK (R421, R423, R424) -/

theorem othersUpdate_owned (h : s.ownsUpdate j.req = true) : s.othersUpdate j.req = false := by
  simp [State.othersUpdate, h]

theorem othersUpdate_of {u : UpdState} (hst : s.hoop.upd.st = u) (h : u = .trial ∨ u = .idle) : s.othersUpdate j.req = false := by
  obtain rfl | rfl := h <;> simp [State.othersUpdate, hst]

/-- An activated update of a session that has closed is nobody's. -/
theorem othersUpdate_closed (hst : s.hoop.upd.st = .activated)
    (hclosed : ∀ x ∈ s.ses.sessions, ¬(x.number = s.hoop.upd.session ∧ x.transport = s.hoop.upd.transport)) :
    s.othersUpdate j.req = false := by
  simpa [State.othersUpdate, hst] using fun _ => hclosed

theorem updRollback_receiving (hst : s.hoop.upd.st = .receiving ∨ s.hoop.upd.st = .verified) (hown : s.ownsUpdate j.req = true) :
    cmdUpdRollback.run j s = .ok ((s.modUpd fun u => { u with st := .idle, chunks := [] }).forEach s.hoop.upd.chunks
      fun c y => y.finish c.2.2 eState 0 []) [] := by
  refine (if_neg (by simp [othersUpdate_owned hown])).trans ?_
  obtain hst | hst := hst <;> rw [hst]

theorem updRollback_refused (hst : s.hoop.upd.st = .receiving ∨ s.hoop.upd.st = .verified) (hother : s.ownsUpdate j.req = false) :
    cmdUpdRollback.run j s = .fail eState 0 := by
  refine if_pos ?_
  obtain hst | hst := hst <;> simp [State.othersUpdate, hst, hother]

theorem updRollback_activated (hst : s.hoop.upd.st = .activated) (hfree : s.othersUpdate j.req = false) : cmdUpdRollback.run j s =
    .ok (s.modHoop fun h => { h with bootSlot := h.running, upd := { h.upd with st := .idle } }) [] := by
  refine (if_neg (by simp [hfree])).trans ?_
  rw [hst]

theorem updRollback_trial (hst : s.hoop.upd.st = .trial) : cmdUpdRollback.run j s = .ok (s.failTrial 4).warmIn100 [] := by
  refine (if_neg (by simp [othersUpdate_of hst (.inl rfl)])).trans ?_
  rw [hst]

theorem updRollback_idle (hst : s.hoop.upd.st = .idle) (hvalid : (s.hoop.slots.getD (1 - s.hoop.running) {}).valid = true)
    (harb : s.hoop.otp.arb ≤ (s.hoop.slots.getD (1 - s.hoop.running) {}).arb) : cmdUpdRollback.run j s =
    .ok (s.modHoop fun h => { h with bootSlot := 1 - s.hoop.running }) [] := by
  refine (if_neg (by simp [othersUpdate_of hst (.inr rfl)])).trans ?_
  rw [hst]
  exact (if_neg (by rw [hvalid]; exact Bool.false_ne_true)).trans (if_neg (Nat.not_lt.2 harb))

/-! ### Trials and the delayed reset (R421, R424) -/

/-- A trial has ended with a result: the previous slot boots, in 100 ms, and only the Hoop has changed. -/
structure TrialFailed (s u : State) (result : Nat) : Prop where
  bootSlot : u.hoop.bootSlot = s.hoop.upd.previous
  idle : u.hoop.upd.st = .idle
  lastResult : u.hoop.upd.lastResult = result
  warmAt : u.hoop.warmAt = some (s.now + 100000000)
  onlyHoop : OnlyHoop s u

theorem failTrial_fails (s : State) (result : Nat) : TrialFailed s (s.failTrial result).warmIn100 result := by
  unfold State.failTrial
  extract_lets sl
  have hrec := record_onlyHoop s 0x0A03 0 [s.hoop.running, sl.version, sl.arb]
  obtain ⟨m, l, n, h⟩ := record_hoop s 0x0A03 0 [s.hoop.running, sl.version, sl.arb]
  generalize s.record 0x0A03 0 [s.hoop.running, sl.version, sl.arb] = u at h hrec
  exact ⟨congrArg (·.upd.previous) h, rfl, rfl, congrArg (some <| · + 100000000) hrec.now_eq, hrec.trans rfl⟩

/-- A trial that meets its health conditions (R424). -/
structure TrialIsHealthy (s : State) : Prop where
  trial : s.hoop.upd.st = .trial
  ready : s.hif.ready = true
  bobbins : s.hoop.bobbinDown = []
  served : s.hoop.bobbinOkSince + nsPerSec ≤ s.now
  quiet : s.hoop.samplerSinceReset = false
  inTime : s.now ≤ s.hoop.releasedAt + 60 * nsPerSec

/-- A healthy trial of a bundle without a board configuration is confirmed, and the OTP counter follows it. -/
theorem trialHealthy_confirms (h : TrialIsHealthy s)
    (hboard : imgSection (s.hoop.slots.getD s.hoop.running {}).bytes 3 = none) :
    trialHealthy s = (s.modHoop fun h => { h with
      otp := { h.otp with arb := max h.otp.arb (s.hoop.slots.getD s.hoop.running {}).arb }
      upd := { h.upd with st := .idle, lastResult := 1, noTrial := false } }).record 0x0A02 0
        [s.hoop.running, (s.hoop.slots.getD s.hoop.running {}).version, (s.hoop.slots.getD s.hoop.running {}).arb] := by
  obtain ⟨hst, hready, hdown, hserved, hquiet, htime⟩ := h
  refine (if_neg (by simp [hst, hready, hdown, hserved, hquiet, htime])).trans ?_
  rw [hboard]
  simp only [Nat.or_zero, show decide ((0 : Nat) = 1) = false from rfl, Bool.and_false, Bool.not_false, Bool.and_true,
    Bool.false_eq_true, if_false]
  rfl

theorem trialTimeout_due (hst : s.hoop.upd.st = .trial) (hend : s.hoop.upd.trialUntil ≤ s.now) :
    trialTimeout s = (s.failTrial 2).warmIn100 := if_pos (by simp [hst, hend])

theorem delayedWarmReset_at {at_ : Nat} (h : s.hoop.warmAt = some at_) :
    delayedWarmReset s = if at_ ≤ s.now then warmReset s else s := by
  unfold delayedWarmReset
  rw [h]

end

/-! ### The rows -/

theorem isRow_updBegin : IsRow .updBegin cmdUpdBegin := fun _ _ _ => rfl
theorem isRow_updChunk : IsRow .updChunk cmdUpdChunk := fun _ _ _ => rfl
theorem isRow_updVerify : IsRow .updVerify cmdUpdVerify := fun _ _ _ => rfl
theorem isRow_updActivate : IsRow .updActivate cmdUpdActivate := fun _ _ _ => rfl
theorem isRow_updRollback : IsRow .updRollback cmdUpdRollback := fun _ _ _ => rfl
theorem isRow_updStatus : IsRow .updStatus cmdUpdStatus := fun _ _ _ => rfl

theorem exec_updChunkProgrammed (t : Nat) (s : State) :
    exec (.updChunkProgrammed t) s = .next (settle (updChunkProgrammed (s.tick t))) := rfl
theorem exec_trialHealthy (t : Nat) (s : State) : exec (.trialHealthy t) s = .next (settle (trialHealthy (s.tick t))) := rfl
theorem exec_trialTimeout (t : Nat) (s : State) : exec (.trialTimeout t) s = .next (settle (trialTimeout (s.tick t))) := rfl
theorem exec_delayedWarmReset (t : Nat) (s : State) :
    exec (.delayedWarmReset t) s = .next (settle (delayedWarmReset (s.tick t))) := rfl

/-- Settles O44: the commands from their runs by the state of the update, the events from their meanings on the ticked state. -/
theorem updateRows : Obligations.UpdateRows := by
  unfold Obligations.UpdateRows
  refine ⟨?begin, ?next, ?again, ?programmed, ?verify, ?bundle, ?hoop, ?bobbin, ?abandon, ?withdraw, ?refused, ?trial, ?other,
    ?status, ?healthy, ?timeout, ?reset⟩
  case begin =>
    refine Runs.of isRow_updBegin fun j s _ _ _ hidle => ⟨_, _, updBegin_run hidle, rfl, ?_⟩
    cases hl : s.loader
    · simp only [targetSlot_running hl]
      rfl
    · rfl
  case next =>
    refine RunsLater.of isRow_updChunk fun j s _ _ _ ⟨hst, hown, hoff, hsome, hfit⟩ =>
      ⟨_, updChunk_next hst hown hoff hsome hfit, ?_⟩
    rintro got rfl
    simp only [← erases_iff]
    cases he : s.erases j
    · rfl
    · rw [targetSlot_loader (erases_iff.1 he).1]
      rfl
  case again =>
    exact Runs.of isRow_updChunk fun j s _ _ _ ⟨hst, hown, hold, hsame⟩ => ⟨_, _, updChunk_again hst hown hold hsame, rfl, rfl⟩
  case programmed =>
    rintro t s0 s off data j rest rfl hidle hchunks
    rw [exec_updChunkProgrammed, updChunkProgrammed_oldest hidle hchunks]
    rfl
  case verify =>
    rintro t r s j s1 b ok ht hc hst hown rfl hlen hprog hrun hcrc - he
    have hrec : ImageReceived s1 j := ⟨hst, hown, hlen, hprog, hrun, hcrc⟩
    rw [isRow_updVerify, host_clear ht hc]
    split at he
    · rw [updVerify_passes hrec he, if_pos ‹_›]
      rfl
    · rw [updVerify_refused hrec he, if_neg ‹_›]
      rfl
  case bundle =>
    refine Runs.of isRow_updActivate fun j s _ _ _ ⟨hst, hown, htype, hrun⟩ =>
      ⟨_, _, updActivate_bundle hst hown htype hrun, rfl, ?_⟩
    split
    · exact ⟨rfl, rfl, activated_previous s, congrArg (some <| · + 100000000) (activated_onlyHoop s).now_eq,
        activated_running s, (activated_onlyHoop s).trans rfl⟩
    · exact ⟨rfl, rfl, activated_previous s, activated_warmAt s, activated_running s, activated_onlyHoop s⟩
  case hoop =>
    exact Runs.of isRow_updActivate fun j s _ _ _ ⟨hst, hown, htype⟩ => ⟨_, _, updActivate_hoop hst hown htype, rfl, rfl⟩
  case bobbin =>
    exact Runs.of isRow_updActivate fun j s _ _ _ ⟨hst, hown, htype⟩ => ⟨_, _, updActivate_bobbin hst hown htype, rfl, rfl⟩
  case abandon =>
    exact Runs.of isRow_updRollback fun j s _ _ _ ⟨hst, hown⟩ => ⟨_, _, updRollback_receiving hst hown, rfl, rfl⟩
  case withdraw =>
    refine Runs.of isRow_updRollback fun j s _ _ _ ⟨hst, hwho⟩ => ⟨_, _, updRollback_activated hst ?_, rfl, rfl⟩
    exact hwho.elim othersUpdate_owned (othersUpdate_closed hst)
  case refused => exact Fails.of isRow_updRollback fun j s _ ⟨hst, hother⟩ => updRollback_refused hst hother
  case trial =>
    refine Runs.of isRow_updRollback fun j s _ _ _ hst => ⟨_, _, updRollback_trial hst, rfl, ?_⟩
    obtain ⟨hboot, hidle, hresult, hwarm, honly⟩ := failTrial_fails s 4
    exact ⟨hboot, hidle, hresult, hwarm, honly⟩
  case other =>
    exact Runs.of isRow_updRollback fun j s _ _ _ ⟨hst, hvalid, harb⟩ => ⟨_, _, updRollback_idle hst hvalid harb, rfl, rfl⟩
  case status =>
    refine Runs.of isRow_updStatus fun j s _ _ _ _ => ⟨_, _, rfl, rfl, ?_⟩
    rintro x a b rfl rfl rfl
    rfl
  case healthy =>
    rintro t s0 s sl rfl hst hready hdown hserved hquiet htime rfl hboard
    rw [exec_trialHealthy, trialHealthy_confirms ⟨hst, hready, hdown, hserved, hquiet, htime⟩ hboard]
    rfl
  case timeout =>
    rintro t s0 s rfl hst hend
    obtain ⟨hboot, hidle, hresult, hwarm, honly⟩ := failTrial_fails (s0.tick t) 2
    exact ⟨_, by rw [exec_trialTimeout, trialTimeout_due hst hend], hboot, hidle, hresult, hwarm, honly⟩
  case reset =>
    rintro t s0 s at_ rfl hat
    rw [exec_delayedWarmReset, delayedWarmReset_at hat]
    exact ⟨fun hdue => by rw [if_pos hdue]; rfl, fun hearly => by rw [if_neg (Nat.not_le.2 hearly)]⟩

end Sys2Proof.Machine
end

section
/-! PROOF. Sensors, supplies, the thermal trip and the watchdog (spec/18 R403-R409, spec/22 R494, spec/23 R507, R510): what a sample leaves
of the readings it stores, each event's meaning under its condition, and the statement that gathers them. -/
namespace Sys2Proof.Machine

/-! ### A reading of a sensor (R403-R405) -/

/-- A reading lies in the range of a sensor and near the one before. -/
def Sensor.plausible (x : Sensor) (mC : Int) : Prop := -55000 ≤ mC ∧ mC ≤ 150000 ∧ mC - x.mC ≤ 20000 ∧ x.mC - mC ≤ 20000

section
variable {x : Sensor} {mC : Int}

theorem read_implausible (hf : x.faulty = false) (h : ¬x.plausible mC) : x.read mC = ({ x with mC, faulty := true, okRun := 0 }, [5]) := by
  unfold Sensor.plausible at h
  simp only [Sensor.read, hf, h]
  rfl

theorem read_plausible (hf : x.faulty = false) (h : x.plausible mC) : x.read mC =
    if !x.warned && 95000 ≤ mC then ({ x with mC, warned := true }, [1])
    else if x.warned && mC ≤ 90000 then ({ x with mC, warned := false }, [2])
    else ({ x with mC }, []) := by
  unfold Sensor.plausible at h
  simp only [Sensor.read, hf, h]
  rfl

/-- The hundredth plausible reading in a row ends a fault. -/
theorem read_healed (hf : x.faulty = true) (hrun : x.okRun = 99) (h : x.plausible mC) :
    x.read mC = ({ x with mC, faulty := false, okRun := 0 }, [6]) := by
  unfold Sensor.plausible at h
  simp only [Sensor.read, hf, h, hrun]
  rfl

end

/-! ### What a sample stores (R403, R404, R494, R507) -/

/-- The readings that the Hoop holds. -/
def Hoop.readings (h : Hoop) : List Sensor × Nat × List Nat × List (Option (List Nat)) × Nat × Nat :=
  (h.sensors, h.sampleStitch, h.supplies, h.rails, h.coreMv, h.coreMvAt)

/-- `u` differs from `s` at most in what delivery touches, and holds the same readings. -/
structure KeepsReadings (s u : State) : Prop where
  delivers : Delivers s u
  readings : u.hoop.readings = s.hoop.readings

section
variable {s u v : State}

theorem KeepsReadings.refl (s : State) : KeepsReadings s s := ⟨.refl s, rfl⟩

theorem KeepsReadings.trans (h1 : KeepsReadings s u) (h2 : KeepsReadings u v) : KeepsReadings s v :=
  ⟨h1.delivers.trans h2.delivers, h2.readings.trans h1.readings⟩

theorem KeepsReadings.ite {c : Prop} [Decidable c] (h1 : KeepsReadings s u) (h2 : KeepsReadings s v) :
    KeepsReadings s (if c then u else v) := by
  split
  · exact h1
  · exact h2

theorem KeepsReadings.forEach {α : Type} {f : α → State → State} (h : ∀ a s, KeepsReadings s (f a s)) (l : List α) (s : State) :
    KeepsReadings s (s.forEach l f) :=
  State.forEach_keeps (p := KeepsReadings s) (fun a u hu => hu.trans (h a u)) l s (.refl s)

theorem modHoop_keepsReadings {f : Hoop → Hoop} (h : (f s.hoop).readings = s.hoop.readings) : KeepsReadings s (s.modHoop f) := ⟨rfl, h⟩

theorem record_keepsReadings (s : State) (c o : Nat) (a : List Nat) : KeepsReadings s (s.record c o a) := by
  obtain ⟨m, l, n, h⟩ := record_hoop s c o a
  exact ⟨record_delivers s c o a, by rw [h]; rfl⟩

theorem evtThermal_hoop (s : State) (n c : Nat) (t : Int) (a : Nat) :
    ∃ m, (s.evtThermal n c t a).hoop = { s.hoop with sampler := m } := raiseOnce_hoop s _ _ _ _

theorem evtThermal_keepsReadings (s : State) (n c : Nat) (t : Int) (a : Nat) : KeepsReadings s (s.evtThermal n c t a) := by
  obtain ⟨m, h⟩ := evtThermal_hoop s n c t a
  exact ⟨raiseOnce_delivers s _ _ _ _, by rw [h]; rfl⟩

theorem checkSupplies_keepsReadings (s : State) (mv : List Nat) : KeepsReadings s (s.checkSupplies mv) :=
  KeepsReadings.forEach (fun _ s => .ite (.refl s) (.trans (modHoop_keepsReadings rfl) (record_keepsReadings _ _ _ _))) _ s

theorem checkGradient_keepsReadings (s : State) : KeepsReadings s s.checkGradient := by
  unfold State.checkGradient
  split
  · exact .refl s
  · extract_lets d
    exact .ite (.ite (.trans (modHoop_keepsReadings rfl) (evtThermal_keepsReadings _ _ _ _ _)) (.refl s)) (modHoop_keepsReadings rfl)

/-- VDD_CORE moves towards the wanted setpoint, in RUN (R507). -/
theorem setCore_coreMv (s : State) (want : Nat) : (s.setCore want).hoop.coreMv =
    if s.pwr.pstate ≠ 0 then s.hoop.coreMv
    else coreStep s.hoop.coreMv want (s.hoop.supplies.getD 2 800) (s.now - s.hoop.coreMvAt) := by
  unfold State.setCore
  extract_lets h mv
  split
  · rfl
  · split
    · exact Eq.symm ‹_›
    · rfl

/-- The readings of a sample, before what follows from them. -/
def State.withSample (s : State) (o : SensorObs) : State :=
  s.modHoop fun h => { h with
    sensors := h.sensors.zipIdx.map fun x => (x.1.read (o.temps.getD x.2 x.1.mC)).1
    sampleStitch := s.stitch32, supplies := o.supplies
    rails := o.rails.mapIdx fun i r => if i < h.pmbus.length then r else none }

/-- A sample stores its readings; what follows from them keeps these, but for the setpoint of VDD_CORE. -/
theorem sensorSample_eq (o : SensorObs) (s : State) : ∃ k, KeepsReadings (s.withSample o) k ∧
    sensorSample o s = (k.setCore o.wantMv).checkGradient := by
  unfold sensorSample
  extract_lets reads s1 s2
  have h1 : s1 = s.withSample o := by
    unfold s1 State.withSample reads
    rw [List.map_map]
    rfl
  exact ⟨s2.checkSupplies o.supplies, h1 ▸ (KeepsReadings.forEach (fun r s =>
    KeepsReadings.forEach (fun c s => evtThermal_keepsReadings s _ c _ _) _ s) _ s1).trans (checkSupplies_keepsReadings s2 _), rfl⟩

/-- What a sample leaves: its readings, the setpoint that R507 allows, and all else but what delivery touches. -/
structure SampleStored (s : State) (o : SensorObs) (u : State) : Prop where
  delivers : Delivers s u
  sensors : u.hoop.sensors = (s.withSample o).hoop.sensors
  sampleStitch : u.hoop.sampleStitch = s.stitch32
  supplies : u.hoop.supplies = o.supplies
  rails : u.hoop.rails = (s.withSample o).hoop.rails
  coreMv : u.hoop.coreMv = if s.pwr.pstate ≠ 0 then s.hoop.coreMv
    else coreStep s.hoop.coreMv o.wantMv (o.supplies.getD 2 800) (s.now - s.hoop.coreMvAt)

theorem sensorSample_stores (o : SensorObs) (s : State) : SampleStored s o (sensorSample o s) := by
  obtain ⟨k, ⟨hdel, hread⟩, heq⟩ := sensorSample_eq o s
  obtain ⟨mv, at_, out, hset⟩ := setCore_frame k o.wantMv
  obtain ⟨hdelG, hreadG⟩ := checkGradient_keepsReadings (k.setCore o.wantMv)
  have hmv := setCore_coreMv k o.wantMv
  rw [← heq] at hdelG hreadG
  simp only [Hoop.readings, Prod.mk.injEq] at hread hreadG
  obtain ⟨hsensors, hstitch, hsupplies, hrails, hcore, hcoreAt⟩ := hread
  obtain ⟨hsensorsG, hstitchG, hsuppliesG, hrailsG, hcoreG, -⟩ := hreadG
  have hkept : (k.setCore o.wantMv).hoop = { k.hoop with coreMv := mv, coreMvAt := at_ } := by rw [hset]
  have hall : Delivers s (k.setCore o.wantMv) := Delivers.trans (hdel.after rfl) (by rw [hset]; rfl)
  have hnow : k.now = s.now := congrArg Clk.elapsed (hdel.after rfl : Delivers s k).clk_eq
  exact {
    delivers := hall.trans hdelG
    sensors := hsensorsG.trans ((congrArg Hoop.sensors hkept).trans hsensors)
    sampleStitch := hstitchG.trans ((congrArg Hoop.sampleStitch hkept).trans hstitch)
    supplies := hsuppliesG.trans ((congrArg Hoop.supplies hkept).trans hsupplies)
    rails := hrailsG.trans ((congrArg Hoop.rails hkept).trans hrails)
    coreMv := by
      rw [hcoreG, hmv, hdel.pwr_eq, hcore, hsupplies, hnow, hcoreAt]
      rfl }

theorem gradientClear_due {at_ : Nat} (hg : s.hoop.gradient = true) (hok : s.hoop.gradientOkSince = some at_)
    (hend : at_ + nsPerSec ≤ s.now) : gradientClear s =
      (s.modHoop fun h => { h with
        gradient := false, gradientOkSince := none, throttle := none, throttlePending := none }).evtThermal s.hoop.gradientSensor 4
          (s.hoop.sensors.getD s.hoop.gradientSensor {}).mC 0 := by
  unfold gradientClear
  rw [hg, hok]
  exact if_neg (Nat.not_lt.2 hend)

/-! ### The trip and the watchdog (R407, R409) -/

/-- A trigger that changes the store and is logged and reported. -/
theorem reportTrigger_hoop (s : State) (m : Sampler) (code origin : Nat) (args : List Nat) (c : Nat) :
    ∃ k l n, (((s.withStore m).logOnly code origin args).evtSampler c code origin).hoop =
      { s.hoop with sampler := k, log := l, logSeq := n, samplerSinceReset := true } := by
  obtain ⟨l, n, hlog⟩ : ∃ l n, ((s.withStore m).logOnly code origin args).hoop =
    { (s.withStore m).hoop with log := l, logSeq := n } := ⟨_, _, rfl⟩
  obtain ⟨k, hk⟩ := evtSampler_hoop ((s.withStore m).logOnly code origin args) c code origin
  rw [hlog] at hk
  exact ⟨_, l, n, hk⟩

/-- A trigger writes the log and the Sampler, and is remembered until the next reset; nothing else of the Hoop changes. -/
theorem trigger_hoop (s : State) (code origin : Nat) (args : List Nat) : ∃ m l n, (s.trigger code origin args).hoop =
    { s.hoop with sampler := m, log := l, logSeq := n, samplerSinceReset := true } := by
  cases h : s.hoop.sampler.st with
  | armed =>
    rw [trigger_armed h]
    exact reportTrigger_hoop s _ code origin args 1
  | postTrigger =>
    rw [trigger_postTrigger h]
    obtain ⟨m, l, n, hrec⟩ := record_hoop (s.withStore s.hoop.sampler) code origin args
    exact ⟨m, l, n, hrec⟩
  | frozen =>
    rw [trigger_closed (.inl h)]
    exact reportTrigger_hoop s _ code origin args 5
  | copying =>
    rw [trigger_closed (.inr h)]
    exact reportTrigger_hoop s _ code origin args 5

/-- The domains that stay powered in a trip: AON and the Hoop. -/
def tripDomains : List Bool := (List.range 21).map fun d => decide (d < 2)

/-- After a trip the Hoop is what it was, with the trip to report, an empty log and no engine waiting. -/
def Hoop.tripWith (h : Hoop) (i : Nat) (mC : Int) : Hoop :=
  { h with
    tripped := true, trippedReport := some (i, mC, h.sampler.incident), log := []
    bist := if h.bist.st = 1 then { h.bist with st := 3, job := none, diePending := false } else h.bist
    resetting := [] }

/-- The device after a trip: as after a warm reset, but that it waits, with its clock running and two domains powered. -/
def State.tripWith (s : State) (i : Nat) (mC : Int) : State :=
  { s.sysKeeps with
    clk := s.clk
    hif := { s.sysKeeps.hif with hoopState := s.hif.hoopState, panic := s.hif.panic, pcieUp := false }
    pwr := { s.sysKeeps.pwr with on := tripDomains, portOpen := tripDomains }
    hoop := s.hoop.tripWith i mC }

theorem thermalTrip_trips {i : Nat} {mC : Int} (hup : s.hoop.tripped = false) (hhot : 110000 ≤ mC) (hi : i < 18)
    (hgood : (s.hoop.sensors.getD i {}).faulty = false) :
    thermalTrip i mC s = (s.trigger 0x0102 0 [i, unsigned 32 mC]).tripWith i mC := by
  refine if_neg ?_
  rw [hup, hgood]
  simp only [Bool.false_or, Bool.or_false, Bool.or_eq_true, decide_eq_true_eq]
  omega

theorem thermalRecovery_cool (htrip : s.hoop.tripped = true) (hcool : ∀ x ∈ s.hoop.sensors, x.faulty = true ∨ x.mC < 95000) :
    thermalRecovery s = warmReset s := if_pos (by simpa [htrip] using hcool)

theorem hoopWatchdog_resets (h : s.hif.hoopState ≠ 0) : hoopWatchdog s = warmReset (s.trigger 0x0101 0x0100 []) := if_neg h

theorem brownOut_low {mv : Nat} (h : mv < 500) : brownOut mv s =
    if (s.trigger 0x0104 0 [mv]).hoop.sampler.st = .postTrigger then (s.trigger 0x0104 0 [mv]).freezeSampler
    else s.trigger 0x0104 0 [mv] := if_neg (Nat.not_le.2 h)

end

/-! ### The rows -/

theorem isRow_sensorRead : IsRow .sensorRead cmdSensorRead := fun _ _ _ => rfl

theorem exec_sensorSample (t : Nat) (o : SensorObs) (s : State) :
    exec (.sensorSample t o) s = .next (settle (sensorSample o (s.tick t))) := rfl
theorem exec_gradientClear (t : Nat) (s : State) : exec (.gradientClear t) s = .next (settle (gradientClear (s.tick t))) := rfl
theorem exec_thermalTrip (t i : Nat) (mC : Int) (s : State) :
    exec (.thermalTrip t i mC) s = .next (settle (thermalTrip i mC (s.tick t))) := rfl
theorem exec_thermalTripRecovery (t : Nat) (s : State) :
    exec (.thermalTripRecovery t) s = .next (settle (thermalRecovery (s.tick t))) := rfl
theorem exec_hoopWatchdogExpiry (t : Nat) (s : State) :
    exec (.hoopWatchdogExpiry t) s = .next (settle (hoopWatchdog (s.tick t))) := rfl
theorem exec_brownOut (t mv : Nat) (s : State) : exec (.brownOut t mv) s = .next (settle (brownOut mv (s.tick t))) := rfl

/-- Settles O42: readings case by case, a sample from what it stores, the other events from their meanings on the ticked state. -/
theorem sensorAndThermalRows : Obligations.SensorAndThermalRows := by
  unfold Obligations.SensorAndThermalRows
  refine ⟨?command, ?plausible, ?implausible, ?sample, ?gradient, ?trip, ?recovery, ?watchdog, ?brown⟩
  case command => exact Runs.of isRow_sensorRead fun j s _ _ _ _ => ⟨_, _, rfl, rfl, rfl⟩
  case plausible =>
    intro x mC hlow hhigh hup hdown
    have hp : x.plausible mC := ⟨hlow, hhigh, hup, hdown⟩
    refine ⟨fun hf hw hhot => ?_, fun hf hw hcool => ?_, fun hf hw => ?_, fun hf hrun => read_healed hf hrun hp⟩
    · rw [read_plausible hf hp, if_pos (by simpa [hw] using hhot)]
    · rw [read_plausible hf hp, if_neg (by simp [hw]), if_pos (by simpa [hw] using hcool)]
    · rw [read_plausible hf hp, if_neg, if_neg]
      all_goals
        obtain ⟨hw, ht⟩ | ⟨hw, ht⟩ := hw <;> simp [hw, ht]
  case implausible =>
    intro x mC hf hbad
    refine read_implausible hf ?_
    unfold Sensor.plausible
    omega
  case sample =>
    rintro t o s0 s rfl
    have h := sensorSample_stores o (s0.tick t)
    exact ⟨_, exec_sensorSample t o s0, h.sensors, h.sampleStitch, h.supplies, h.rails, h.coreMv, h.delivers.clk_eq,
      h.delivers.mem_eq, h.delivers.lay_eq, h.delivers.heads_eq⟩
  case gradient =>
    rintro t s0 s at_ rfl hg hok hend
    rw [exec_gradientClear, gradientClear_due hg hok hend]
    rfl
  case trip =>
    rintro t i mC s0 s rfl hup hhot hi hgood
    obtain ⟨m, l, n, hhoop⟩ := trigger_hoop (s0.tick t) 0x0102 0 [i, unsigned 32 mC]
    have hdel : Delivers (s0.tick t) ((s0.tick t).trigger 0x0102 0 [i, unsigned 32 mC]) := trigger_delivers _ _ _ _
    refine ⟨((s0.tick t).trigger 0x0102 0 [i, unsigned 32 mC]).tripWith i mC, ?_, rfl, rfl, rfl, rfl, rfl, rfl, hdel.clk_eq,
      rfl, rfl, rfl, ?_, hdel.pending_eq⟩
    · rw [exec_thermalTrip, thermalTrip_trips hup hhot hi hgood]
    · exact (congrArg Hoop.otp hhoop :)
  case recovery =>
    rintro t s0 s rfl htrip hcool
    exact ⟨by rw [exec_thermalTripRecovery, thermalRecovery_cool htrip hcool],
      by rw [exec_thermalTripRecovery, thermalRecovery_cool htrip hcool, exec_warmReset]⟩
  case watchdog =>
    rintro t s0 s rfl h
    rw [exec_hoopWatchdogExpiry, hoopWatchdog_resets h]
  case brown =>
    rintro t mv s0 s rfl h
    rw [exec_brownOut, brownOut_low h]

end Sys2Proof.Machine
end

section
/-! PROOF. The self-test, DisplayPort patterns and the debug port (spec/16, spec/21): the run of each command, what completes a run,
challenges and their responses, and the statement that gathers them. -/
namespace Sys2Proof.Machine

section
variable {j : Job} {s : State}

/-! ### BIST runs and their results (R474, R475) -/

theorem bistRun_engine (ho : j.u16 0 ≠ 0) (hex : engineExists (j.u16 0) = true) (hon : s.targetOff (j.u16 0) = none)
    (hfree : testProtected (j.u16 0) = false) (hst : s.hoop.bist.st ≠ 1) (hidle : s.notIdle (j.u16 0) = none) :
    cmdBistRun.run j s = .later (s.modBist fun _ => {
      st := 1, kind := j.u8 2, config := j.u8 3, origin := j.u16 0, job := some j }) := by
  refine (if_neg ho).trans ((if_neg (by simp [hex])).trans ?_)
  simp only [hon]
  refine (if_neg (by simp [hfree])).trans ((if_neg hst).trans ?_)
  simp only [hidle]

theorem bistRun_die (ho : j.u16 0 = 0) (htrial : s.hoop.upd.st ≠ .trial) (hst : s.hoop.bist.st ≠ 1)
    (hcopy : s.hoop.sampler.st ≠ .copying) : cmdBistRun.run j s = .ok ((s.modBist fun _ => {
      st := 1, kind := j.u8 2, config := j.u8 3, origin := j.u16 0, diePending := true }).warmIn100) [] :=
  (if_pos ho).trans ((if_neg (by simp [hst, hcopy])).trans (if_neg htrial))

theorem bistComplete_die {o : BistObs} (hst : s.hoop.bist.st = 1) (hdie : s.hoop.bist.diePending = true) (hup : s.hif.ready = false)
    (hwarm : s.hoop.warmAt = none) : bistComplete o s = s.modBist (·.results o) := by
  unfold bistComplete
  rw [if_neg (by simp [hst]), if_pos hdie, if_neg (by simp [hup, hwarm])]

theorem bistComplete_engine {o : BistObs} (hst : s.hoop.bist.st = 1) (hdie : s.hoop.bist.diePending = false) :
    bistComplete o s = ((s.modBist (·.results o)).resetEngine s.hoop.bist.origin none).finish? s.hoop.bist.job 0 0 [] := by
  unfold bistComplete
  rw [if_neg (by simp [hst]), if_neg (by simp [hdie])]

/-- BIST_RESULT has failures to list from the one asked for. -/
theorem bistResult_lists (hlist : j.u8 0 = 1) (hin : j.u16 2 < s.hoop.bist.records.length) : ∃ p, cmdBistResult.run j s =
    if j.u16 2 + ((s.hoop.bist.records.drop (j.u16 2)).take 82).length < s.hoop.bist.records.length then
      .part s ((s.hoop.bist.records.drop (j.u16 2)).take 82).length p
    else .ok s p :=
  ⟨_, (if_neg (by omega)).trans (if_neg (by omega))⟩

theorem listed_length (n : Nat) (xs : List BistFail) : ((xs.drop n).take 82).length = min 82 (xs.length - n) := by
  rw [List.length_take, List.length_drop]

/-! ### DP_PATTERN (R482) -/

/-- A number of bytes after the first of a field. -/
theorem leVal_drop : ∀ (k : Nat) (bs : List Byte), leVal (bs.drop k) = leVal bs / 256 ^ k
  | 0, bs => by simp
  | k + 1, [] => by simp [leVal]
  | k + 1, b :: bs => by
    have hb := b.isLt
    rw [List.drop_succ_cons, leVal_drop k bs, leVal, pow_succ', ← Nat.div_div_eq_div_mul]
    congr 1
    omega

theorem leVal_take_one (bs : List Byte) : leVal (bs.take 1) = leVal bs % 256 := by
  cases bs with
  | nil => rfl
  | cons b bs =>
    have hb := b.isLt
    simp only [List.take_succ_cons, List.take_zero, leVal]
    omega

/-- A byte of a field of `n` bytes. -/
theorem uAt_byte {bs : List Byte} {off n k : Nat} (hk : k < n) : uAt bs off n / 256 ^ k % 256 = uAt bs (off + k) 1 := by
  unfold uAt
  rw [← leVal_drop, ← leVal_take_one, List.drop_take, List.take_take, List.drop_drop, Nat.min_eq_left (by omega)]

theorem dpPattern_run (hidle : (s.dp (idIndex (j.u16 0))).training = false) : cmdDpPattern.run j s = .ok (s.affectPort j) [] :=
  if_neg (by simp [hidle])

theorem applyJob_dpPattern (hc : j.cls = 0x50) (ho : j.op = 0x03) (h : Nat) : applyJob j h s = (s.dropChanges j).setPattern j := by
  unfold applyJob
  rw [if_neg (by simp [isLayerEdit, hc]), hc, ho]
  rfl

theorem setPattern_drives : s.setPattern j =
    if j.u8 2 = 0 then ((s.modDp (idIndex (j.u16 0)) fun x => { x with pattern := j.u8 2, patternLanes := j.u8 4 }).emit
      (.dpSignal (idIndex (j.u16 0)) 1 (uAt j.req.payload 2 5))).setDpState (idIndex (j.u16 0)) 4
    else (s.modDp (idIndex (j.u16 0)) fun x => { x with pattern := j.u8 2, patternLanes := j.u8 4 }).emit
      (.dpSignal (idIndex (j.u16 0)) 1 (uAt j.req.payload 2 5)) := by
  have hlanes : uAt j.req.payload 2 5 / 65536 % 256 = j.u8 4 := uAt_byte (k := 2) (by omega)
  unfold State.setPattern State.drivePattern
  rw [hlanes]

theorem portWaits_direct (ht : j.req.txn = 0) : s.portWaits j = (s.headsOf (j.u16 0)).filter fun h => !(s.head h).immediate := by
  simp only [State.portWaits, atOnce_direct ht]

/-! ### The debug port (R415, R416) -/

theorem debugUnlockChallenge_secure (h : s.hoop.otp.lifecycle = 1) : debugUnlockChallenge s =
    ({ s with free := s.free + 1, hoop := { s.hoop with
        unlock := some (leBytes 8 s.hoop.otp.serial ++ padTo 40 (Config.freeBytes s.free 40), s.now) } } : State).emit
      (.debugPort (leBytes 8 s.hoop.otp.serial ++ padTo 40 (Config.freeBytes s.free 40))) :=
  if_neg (not_not.2 h)

theorem debugUnlockChallenge_ignored (h : s.hoop.otp.lifecycle ≠ 1) : debugUnlockChallenge s = s := if_pos h

theorem debugUnlockResponse_secure {sig : List Byte} (h : s.hoop.otp.lifecycle = 1) : debugUnlockResponse sig s =
    ({ s with hoop := { s.hoop with
        unlock := none, debugOpen := s.hoop.debugOpen || responseOk 4 s.hoop.unlock s.now sig } } : State).record 0x0504 0
      [b2n (responseOk 4 s.hoop.unlock s.now sig)] :=
  if_neg (not_not.2 h)

theorem fieldReturnChallenge_open (h : s.hoop.otp.lifecycle = 1) (hopen : s.hoop.debugOpen = true) {c : List Byte}
    (hc : c = [0x46, 0x52, 0x54, 0x4E] ++ leBytes 8 s.hoop.otp.serial ++ padTo 36 (Config.freeBytes s.free 36)) :
    fieldReturnChallenge s = ({ s with
      free := s.free + 1, hoop := { s.hoop with fieldReturn := some (c, s.now) } } : State).emit (.debugPort c) := by
  subst hc
  exact if_neg (by simp [h, hopen])

/-- What an accepted field-return response erases and sets. -/
def Hoop.returned (h : Hoop) : Hoop :=
  { h with
    fieldReturn := none, keys := List.replicate 5 none, flashKeys := List.replicate 5 none, otp := { h.otp with lifecycle := 2 } }

theorem fieldReturn_refused {sig : List Byte} (h : s.hoop.otp.lifecycle = 1) (hopen : s.hoop.debugOpen = true)
    (hbad : responseOk 5 s.hoop.fieldReturn s.now sig = false) : s.fieldReturnResponse sig =
    (({ s with hoop := { s.hoop with fieldReturn := none } } : State).record 0x0505 0 [0], false) :=
  (if_neg (by simp [h, hopen])).trans (if_pos (by simp [hbad]))

theorem fieldReturn_accepted {sig : List Byte} (h : s.hoop.otp.lifecycle = 1) (hopen : s.hoop.debugOpen = true)
    (hok : responseOk 5 s.hoop.fieldReturn s.now sig = true) : s.fieldReturnResponse sig =
    (({ s with hoop := s.hoop.returned } : State).record 0x0505 0 [1], true) :=
  (if_neg (by simp [h, hopen])).trans (if_neg (by simp [hok]))

theorem fieldReturnResponse_open {sig : List Byte} (h : s.hoop.otp.lifecycle = 1) (hopen : s.hoop.debugOpen = true) :
    fieldReturnResponse sig s = if responseOk 5 s.hoop.fieldReturn s.now sig then
        warmReset (({ s with hoop := s.hoop.returned } : State).record 0x0505 0 [1])
      else ({ s with hoop := { s.hoop with fieldReturn := none } } : State).record 0x0505 0 [0] := by
  unfold fieldReturnResponse
  cases hok : responseOk 5 s.hoop.fieldReturn s.now sig with
  | false => simp only [fieldReturn_refused h hopen hok, Bool.false_eq_true, if_false]
  | true => simp only [fieldReturn_accepted h hopen hok, if_true]

end

/-! ### The rows -/

theorem isRow_bistRun : IsRow .bistRun cmdBistRun := fun _ _ _ => rfl
theorem isRow_bistResult : IsRow .bistResult cmdBistResult := fun _ _ _ => rfl
theorem isRow_dpPattern : IsRow .dpPattern cmdDpPattern := fun _ _ _ => rfl

theorem exec_bistComplete (t : Nat) (o : BistObs) (s : State) :
    exec (.bistComplete t o) s = .next (settle (bistComplete o (s.tick t))) := rfl
theorem exec_debugUnlockChallenge (t : Nat) (s : State) :
    exec (.debugUnlockChallenge t) s = .next (settle (debugUnlockChallenge (s.tick t))) := rfl
theorem exec_debugUnlockResponse (t : Nat) (sig : List Byte) (s : State) :
    exec (.debugUnlockResponse t sig) s = .next (settle (debugUnlockResponse sig (s.tick t))) := rfl
theorem exec_fieldReturnChallenge (t : Nat) (s : State) :
    exec (.fieldReturnChallenge t) s = .next (settle (fieldReturnChallenge (s.tick t))) := rfl
theorem exec_fieldReturnResponse (t : Nat) (sig : List Byte) (s : State) :
    exec (.fieldReturnResponse t sig) s = .next (settle (fieldReturnResponse sig (s.tick t))) := rfl

/-- Settles O45: each command by its run, each event by its meaning on the ticked state. -/
theorem testAndDebugRows : Obligations.TestAndDebugRows := by
  unfold Obligations.TestAndDebugRows
  refine ⟨?engine, ?die, ?complete, ?summary, ?last, ?part, ?pattern, ?waits, ?direct, ?challenge, ?ignored, ?response, ?none,
    ?fieldChallenge, ?fieldResponse⟩
  case engine =>
    refine RunsLater.of isRow_bistRun ?_
    rintro j s - - - ⟨ho, hex, hon, hfree, hst, hidle⟩
    exact ⟨_, bistRun_engine ho hex hon hfree hst hidle, rfl⟩
  case die =>
    refine Runs.of isRow_bistRun ?_
    rintro j s - - - ⟨ho, htrial, hst, hcopy⟩
    refine ⟨_, _, bistRun_die ho htrial hst hcopy, rfl, ?_⟩
    rw [ho]
    rfl
  case complete =>
    rintro t o s0 s rfl hst
    refine ⟨fun hdie hup hwarm => ?_, fun hdie => ?_⟩
    · rw [exec_bistComplete, bistComplete_die hst hdie hup hwarm]
      rfl
    · rw [exec_bistComplete, bistComplete_engine hst hdie]
      rfl
  case summary =>
    refine Runs.of isRow_bistResult ?_
    intro j s _ _ _ hsum
    exact ⟨_, _, if_pos hsum, rfl, by rintro b rfl; rfl⟩
  case last =>
    refine Runs.of isRow_bistResult ?_
    rintro j s - - - ⟨hlist, hin, hlast⟩
    obtain ⟨p, hrun⟩ := bistResult_lists hlist hin
    rw [listed_length, if_neg (by omega)] at hrun
    exact ⟨s, p, hrun, rfl⟩
  case part =>
    refine RunsPart.of isRow_bistResult ?_
    rintro j s - - - ⟨hlist, hmore⟩
    obtain ⟨p, hrun⟩ := bistResult_lists (s := s) hlist (by omega)
    rw [listed_length, if_pos (by omega)] at hrun
    exact ⟨s, _, p, hrun, rfl, by omega⟩
  case pattern =>
    refine Runs.of isRow_dpPattern ?_
    rintro j s hc ho - ⟨hidle, hw⟩
    refine ⟨_, _, dpPattern_run hidle, rfl, ?_⟩
    rintro s1 rfl
    rw [affectPort_now hw, applyJob_dpPattern hc ho, setPattern_drives]
  case waits =>
    refine Runs.of isRow_dpPattern ?_
    rintro j s - - hclear ⟨hidle, hw⟩
    exact ⟨_, _, dpPattern_run hidle, rfl, affectPort_waits (clear_direct hclear) hw⟩
  case direct => exact fun j s ht => portWaits_direct ht
  case challenge =>
    rintro t s0 s c rfl hlife rfl
    rw [exec_debugUnlockChallenge, debugUnlockChallenge_secure hlife]
  case ignored =>
    rintro t s0 s rfl hlife
    rw [exec_debugUnlockChallenge, debugUnlockChallenge_ignored hlife]
  case response =>
    rintro t sig s0 s c at_ rfl hlife hout
    rw [exec_debugUnlockResponse, debugUnlockResponse_secure hlife, hout]
    rfl
  case none =>
    rintro t sig s0 s rfl hlife hout
    have hsame : ({ s0.tick t with hoop := { (s0.tick t).hoop with unlock := none } } : State) = s0.tick t := by
      rw [← hout]
    rw [exec_debugUnlockResponse, debugUnlockResponse_secure hlife, hout]
    simp only [responseOk, Bool.or_false]
    rw [hsame]
    rfl
  case fieldChallenge =>
    rintro t s0 s c rfl hlife hopen hc
    rw [exec_fieldReturnChallenge, fieldReturnChallenge_open hlife hopen hc]
  case fieldResponse =>
    rintro t sig s0 s c at_ rfl hlife hopen hout
    rw [exec_fieldReturnResponse, fieldReturnResponse_open hlife hopen, hout]
    rfl

end Sys2Proof.Machine
end

section
/-! PROOF. Energy (spec/15): the commands, the correction and its loss, the refusal of class-0 load in a breach, and the statement
that gathers them. -/
namespace Sys2Proof.Machine

section
variable {j : Job} {s : State}

/-! ### ENERGY_SET_CLASS (R363, R369) -/

/-- The state that ENERGY_SET_CLASS leaves. -/
def State.setClass (s : State) (j : Job) : State :=
  match idType (j.u16 0) with
  | 1 => { s with nrg := { s.nrg with chClass := modAt s.nrg.chClass (idIndex (j.u16 0)) fun _ => j.u8 2 } }
  | 6 => { s with nrg := { s.nrg with headClass := modAt s.nrg.headClass (idIndex (j.u16 0)) fun _ => j.u8 2 } }
  | 8 => { s with nrg := { s.nrg with encClass := modAt s.nrg.encClass (idIndex (j.u16 0)) fun _ => j.u8 2 } }
  | _ => if (s.layerHeads (layerIndex (j.u16 0))).isEmpty && j.req.txn = 0 then s.atBoundary j else s.putClass j

theorem energySetClass_run : cmdEnergySetClass.run j s = .ok (s.setClass j) [] := rfl

theorem setClass_channel (h : idType (j.u16 0) = 1) : s.setClass j =
    { s with nrg := { s.nrg with chClass := modAt s.nrg.chClass (idIndex (j.u16 0)) fun _ => j.u8 2 } } := by
  simp only [State.setClass, h]

theorem setClass_head (h : idType (j.u16 0) = 6) : s.setClass j =
    { s with nrg := { s.nrg with headClass := modAt s.nrg.headClass (idIndex (j.u16 0)) fun _ => j.u8 2 } } := by
  simp only [State.setClass, h]

theorem setClass_encode (h : idType (j.u16 0) = 8) : s.setClass j =
    { s with nrg := { s.nrg with encClass := modAt s.nrg.encClass (idIndex (j.u16 0)) fun _ => j.u8 2 } } := by
  simp only [State.setClass, h]

theorem setClass_layer (h : idType (j.u16 0) = 3 ∨ idType (j.u16 0) = 4) : s.setClass j =
    if (s.layerHeads (layerIndex (j.u16 0))).isEmpty && j.req.txn = 0 then s.atBoundary j else s.putClass j := by
  obtain h | h := h <;> simp only [State.setClass, h]

theorem setClass_unplaced (ht : j.req.txn = 0) (h : idType (j.u16 0) = 3 ∨ idType (j.u16 0) = 4)
    (hno : s.layerHeads (layerIndex (j.u16 0)) = []) : s.setClass j = s.atBoundary j := by
  rw [setClass_layer h, if_pos (by simp [hno, ht])]

theorem setClass_placed (h : idType (j.u16 0) = 3 ∨ idType (j.u16 0) = 4) (hon : s.layerHeads (layerIndex (j.u16 0)) ≠ []) :
    s.setClass j = s.putClass j := by
  rw [setClass_layer h, if_neg (by simp [hon])]

/-! ### The correction (R357) -/

/-- The model energy that the rails' energies are compared with. -/
def Nrg.modelled (n : Nrg) : Nat := ((n.hist.take 20).map fun e => e.model.sum).sum

/-- The corrected factor, held between one half and two. -/
def Nrg.corrects (n : Nrg) (uj : Nat) : Nat :=
  (max ((m32 / 2 : Nat) : Int) (min ((n.c : Int) + if n.modelled = 0 then 0 else
    (((uj * 1000000 * m32 / n.modelled : Nat) : Int) - (n.c : Int)) / 16) ((2 * m32 : Nat) : Int))).toNat

theorem corrects_bounds (n : Nrg) (uj : Nat) : m32 / 2 ≤ n.corrects uj ∧ n.corrects uj ≤ 2 * m32 := by
  unfold Nrg.corrects
  generalize (n.c : Int) + _ = x
  unfold m32
  omega

/-- The energy state after a valid reading. -/
def Nrg.read (n : Nrg) (uj now : Nat) : Nrg :=
  { n with
    c := n.corrects uj, boardMw := uj / 10, lastRail := now, pmbusLost := false
    corrLimit := decide (n.corrects uj = m32 / 2 ∨ n.corrects uj = 2 * m32) }

theorem energyCorrection_read {rails : List Nat} (h : rails ≠ []) : energyCorrection rails s =
    ((({ s with nrg := s.nrg.read rails.sum s.now } : State).when s.nrg.pmbusLost (·.evtEnergy 8 (sat32 (rails.sum / 10)) 0)).when
      ((s.nrg.read rails.sum s.now).corrLimit && !s.nrg.corrLimit)
      (·.evtEnergy 6 (s.nrg.corrects rails.sum / 65536) (sat32 (rails.sum / 10)))) :=
  if_neg (by simpa using h)

theorem evtEnergy_delivers (s : State) (c a b : Nat) : Delivers s (s.evtEnergy c a b) := raiseOnce_delivers _ _ _ _ _

theorem energyCorrection_nrg {rails : List Nat} (h : rails ≠ []) :
    (energyCorrection rails s).nrg = s.nrg.read rails.sum s.now := by
  rw [energyCorrection_read h]
  exact ((Delivers.when (evtEnergy_delivers _ _ _ _)).trans (Delivers.when (evtEnergy_delivers _ _ _ _))).nrg_eq

theorem energyCorrection_silent {rails : List Nat} (h : rails ≠ []) (hlost : s.nrg.pmbusLost = false) (hlim : s.nrg.corrLimit = true) :
    energyCorrection rails s = { s with nrg := s.nrg.read rails.sum s.now } := by
  rw [energyCorrection_read h, hlost, hlim, Bool.not_true, Bool.and_false]
  rfl

theorem pmbusLost_due (hlost : s.nrg.pmbusLost = false) (hold : s.nrg.lastRail + 50000000 ≤ s.now) :
    pmbusLost s = ({ s with nrg := { s.nrg with pmbusLost := true } } : State).evtEnergy 7 0 0 :=
  if_neg (by simpa [hlost] using hold)

/-! ### Load in a breach (R366) -/

theorem budgetErr_breach {u : State} (hb : s.nrg.breach = true) (h : State.loads0 j s u = true ∨ s.forecast0 < u.forecast0) :
    ∃ d, budgetErr j s u = some ⟨eBudget, d⟩ :=
  ⟨_, (if_neg (by simp [hb])).trans (if_pos (by simpa using h))⟩

theorem budgetErr_none {u : State}
    (h : s.nrg.breach = false ∨ (State.loads0 j s u = false ∧ u.forecast0 ≤ s.forecast0)) : budgetErr j s u = none := by
  unfold budgetErr
  obtain hb | ⟨hl, hf⟩ := h
  · rw [if_pos (by simp [hb])]
  · rw [if_neg (show ¬(State.loads0 j s u || decide (s.forecast0 < u.forecast0)) = true by simpa [hl] using hf), ite_self]

end

/-! ### The rows -/

theorem isRow_energySetBudget : IsRow .energySetBudget cmdEnergySetBudget := fun _ _ _ => rfl
theorem isRow_energySetClass : IsRow .energySetClass cmdEnergySetClass := fun _ _ _ => rfl
theorem isRow_energyGet : IsRow .energyGet cmdEnergyGet := fun _ _ _ => rfl

theorem exec_energyCorrectionUpdate (t : Nat) (rails : List Nat) (s : State) :
    exec (.energyCorrectionUpdate t rails) s = .next (settle (energyCorrection rails (s.tick t))) := rfl
theorem exec_pmbusLost (t : Nat) (s : State) : exec (.pmbusLost t) s = .next (settle (pmbusLost (s.tick t))) := rfl

/-- Settles O32: the commands by their runs, the events on the ticked state, and the two answers of the budget's check. -/
theorem energyRows : Obligations.EnergyRows := by
  unfold Obligations.EnergyRows
  refine ⟨?budget, ?cls, ?get, ?correction, ?reading, ?lost, ?refused, ?admitted⟩
  case budget => exact Runs.of isRow_energySetBudget fun j s _ _ _ _ => ⟨_, _, rfl, rfl, rfl⟩
  case cls =>
    refine Runs.of isRow_energySetClass ?_
    rintro j s - - hclear -
    refine ⟨_, _, energySetClass_run, rfl, setClass_channel, setClass_head, setClass_encode, setClass_unplaced (clear_direct hclear), ?_⟩
    rintro h hon i rfl
    rw [setClass_placed h hon]
    exact ⟨rfl, rfl⟩
  case get =>
    refine Runs.of isRow_energyGet ?_
    intro j s _ _ _ _
    refine ⟨_, _, rfl, rfl, _, ?_, rfl⟩
    simp [List.length_flatMap, leBytes_length]
  case correction =>
    rintro t rails s0 s modelled c rfl hread rfl hsome rfl hlost hlim
    have hne : ¬((s0.tick t).nrg.modelled = 0) := Nat.pos_iff_ne_zero.1 hsome
    rw [exec_energyCorrectionUpdate, energyCorrection_silent hread hlost hlim]
    unfold Nrg.read Nrg.corrects
    rw [if_neg hne, Bool.decide_or]
    rfl
  case reading =>
    rintro t rails s0 s rfl hread
    refine ⟨_, exec_energyCorrectionUpdate t rails s0, ?_⟩
    rw [energyCorrection_nrg hread]
    exact ⟨rfl, (corrects_bounds _ _).1, (corrects_bounds _ _).2, rfl⟩
  case lost =>
    rintro t s0 s rfl hlost hold
    rw [exec_pmbusLost, pmbusLost_due hlost hold]
  case refused =>
    intro j s u p hb h
    obtain ⟨d, hd⟩ := budgetErr_breach hb h
    exact ⟨d, by simp only [withBudget, hd]⟩
  case admitted =>
    intro j s u p h
    simp only [withBudget, budgetErr_none h]

end Sys2Proof.Machine
end

section
/-! PROOF. The mode of the host interface: what no delivery to the host changes of it. -/
namespace Sys2Proof.Machine

/-- The host interface without what a delivery moves: the causes, the rings, the SPI ports and the commands in progress. -/
def Hif.mode (h : Hif) : Hif :=
  { h with
    irqStatus := 0, cqs := [], eq := {}, eqLost := 0, rbuf := {}, spi := {}, safetySpi := {}, inflight := [] }

section
variable {s u : State}

theorem ready_of_mode (h : u.hif.mode = s.hif.mode) : u.hif.ready = s.hif.ready := (congrArg Hif.ready h :)
theorem enable_of_mode (h : u.hif.mode = s.hif.mode) : u.hif.enable = s.hif.enable := (congrArg Hif.enable h :)
theorem hoopState_of_mode (h : u.hif.mode = s.hif.mode) : u.hif.hoopState = s.hif.hoopState := (congrArg Hif.hoopState h :)

end

section
variable (s : State)

theorem raiseIrq_mode (c : Nat) : (s.raiseIrq c).hif.mode = s.hif.mode := by
  unfold State.raiseIrq
  split
  · rfl
  · dsimp only
    split <;> rfl

theorem when_mode {b : Bool} {f : State → State} (h : (f s).hif.mode = s.hif.mode) : (s.when b f).hif.mode = s.hif.mode := by
  unfold State.when
  split
  · exact h
  · rfl

theorem forEach_mode {α : Type} {f : α → State → State} (h : ∀ a s, (f a s).hif.mode = s.hif.mode) (l : List α) :
    (s.forEach l f).hif.mode = s.hif.mode :=
  State.forEach_keeps (p := fun u => u.hif.mode = s.hif.mode) (fun a u hu => (h a u).trans hu) l s rfl

theorem setSpiPort_mode (b : Bool) (p : Spi) : (s.setSpiPort b p).hif.mode = s.hif.mode := by
  unfold State.setSpiPort
  dsimp only
  rw [when_mode _ rfl]
  split <;> rfl

theorem sendDatagram_mode (n : Nat) (b : List Byte) : (s.sendDatagram n b).hif.mode = s.hif.mode := by
  unfold State.sendDatagram
  split
  · rfl
  · dsimp only
    split <;> rfl

theorem offerPcie_mode (e : Event) : (s.offerPcie e).hif.mode = s.hif.mode := by
  unfold State.offerPcie
  dsimp only
  split <;> rw [raiseIrq_mode] <;> rfl

theorem offerSpi_mode (b : Bool) (e : Event) : (s.offerSpi b e).hif.mode = s.hif.mode := by
  unfold State.offerSpi
  dsimp only
  split <;> rw [setSpiPort_mode] <;> cases b <;> rfl

theorem offerNet_mode (n : Nat) (e : Event) : (s.offerNet n e).hif.mode = s.hif.mode := by
  unfold State.offerNet
  split
  · rfl
  · dsimp only
    split
    · rfl
    · rw [sendDatagram_mode]
      rfl

theorem offer_mode (e : Event) : (s.offer e).hif.mode = s.hif.mode := by
  unfold State.offer
  extract_lets s1 s2 s3
  have h1 : s1.hif.mode = s.hif.mode := when_mode s (offerPcie_mode s e)
  have h2 : s2.hif.mode = s1.hif.mode := when_mode s1 (offerSpi_mode s1 false e)
  have h3 : s3.hif.mode = s2.hif.mode := when_mode s2 (offerSpi_mode s2 true e)
  exact (forEach_mode s3 (fun (x : Session) u => offerNet_mode u x.number e) _).trans (h3.trans (h2.trans h1))

theorem raise_mode (op src : Nat) (d : List Byte) : (s.raise op src d).hif.mode = s.hif.mode := offer_mode _ _

theorem raiseOnce_mode (op src c : Nat) (d : List Byte) : (s.raiseOnce op src c d).hif.mode = s.hif.mode := by
  unfold State.raiseOnce
  split
  · rfl
  · exact raise_mode _ _ _ _

theorem record_mode (c o : Nat) (a : List Nat) : (s.record c o a).hif.mode = s.hif.mode := by
  unfold State.record State.logOnly State.sample
  rfl

theorem complete_mode (j : Job) (a b c : Nat) (p : List Byte) : (s.complete j a b c p).hif.mode = s.hif.mode := by
  unfold State.complete
  extract_lets q rb useBuf hdr entry rb1 src s1 src1 s2
  split
  · rfl
  · have h1 : s1.hif.mode = s.hif.mode := when_mode s rfl
    have h2 : s2.hif.mode = s1.hif.mode := (raiseIrq_mode _ _).trans rfl
    exact (when_mode s2 (raiseIrq_mode s2 7)).trans (h2.trans h1)

theorem replyAt_mode (j : Job) (a b c : Nat) (p : List Byte) : (s.replyAt j a b c p).hif.mode = s.hif.mode := by
  unfold State.replyAt
  extract_lets s1 bad body packet safety port held
  split
  · exact when_mode s1 (raise_mode _ _ _ _)
  · split
    · exact complete_mode s1 _ _ _ _ _
    · split_ifs
      · rfl
      · rfl
      · rfl
      · exact sendDatagram_mode s1 _ _
    all_goals
      split_ifs
      all_goals exact setSpiPort_mode s1 _ _

theorem finish_mode (j : Job) (a b : Nat) (p : List Byte) : (s.finish j a b p).hif.mode = s.hif.mode := by
  unfold State.finish
  split
  · exact replyAt_mode _ _ _ _ _ _
  · rfl

theorem finish?_mode (j : Option Job) (a b : Nat) (p : List Byte) : (s.finish? j a b p).hif.mode = s.hif.mode := by
  cases j with
  | none => rfl
  | some j => exact finish_mode s j a b p

end

end Sys2Proof.Machine
end

section
/-! PROOF. Power states (spec/16): the commands, entries and their refusals, what gating leaves of the state, wakes, and the statement
that gathers them. -/
namespace Sys2Proof.Machine

/-! ### What gating and waking leave -/

/-- `u` has the clock, the power state, the memory and the mode of the host interface of `s`. -/
structure KeepsPlatform (s u : State) : Prop where
  clk : u.clk = s.clk
  pwr : u.pwr = s.pwr
  mem : u.mem = s.mem
  mode : u.hif.mode = s.hif.mode

section
variable {s u v : State}

theorem KeepsPlatform.refl (s : State) : KeepsPlatform s s := ⟨rfl, rfl, rfl, rfl⟩

theorem KeepsPlatform.trans (h1 : KeepsPlatform s u) (h2 : KeepsPlatform u v) : KeepsPlatform s v :=
  ⟨h2.clk.trans h1.clk, h2.pwr.trans h1.pwr, h2.mem.trans h1.mem, h2.mode.trans h1.mode⟩

theorem KeepsPlatform.ite {c : Prop} [Decidable c] (h1 : KeepsPlatform s u) (h2 : KeepsPlatform s v) :
    KeepsPlatform s (if c then u else v) := by
  split
  · exact h1
  · exact h2

theorem KeepsPlatform.forEach {α : Type} {f : α → State → State} (h : ∀ a s, KeepsPlatform s (f a s)) (l : List α) (s : State) :
    KeepsPlatform s (s.forEach l f) :=
  State.forEach_keeps (p := KeepsPlatform s) (fun a u hu => hu.trans (h a u)) l s (KeepsPlatform.refl s)

theorem Delivers.keepsPlatform (h : Delivers s u) (hm : u.hif.mode = s.hif.mode) : KeepsPlatform s u :=
  ⟨h.clk_eq, h.pwr_eq, h.mem_eq, hm⟩

end

section
variable (s : State)

theorem finish_keepsPlatform (j : Job) (a b : Nat) (p : List Byte) : KeepsPlatform s (s.finish j a b p) :=
  (finish_delivers s j a b p).keepsPlatform (finish_mode s j a b p)

theorem finish?_keepsPlatform (j : Option Job) (a b : Nat) (p : List Byte) : KeepsPlatform s (s.finish? j a b p) :=
  (finish?_delivers s j a b p).keepsPlatform (finish?_mode s j a b p)

theorem raise_keepsPlatform (o n : Nat) (d : List Byte) : KeepsPlatform s (s.raise o n d) :=
  (raise_delivers s o n d).keepsPlatform (raise_mode s o n d)

theorem raiseOnce_keepsPlatform (o n c : Nat) (d : List Byte) : KeepsPlatform s (s.raiseOnce o n c d) :=
  (raiseOnce_delivers s o n c d).keepsPlatform (raiseOnce_mode s o n c d)

theorem record_keepsPlatform (c o : Nat) (a : List Nat) : KeepsPlatform s (s.record c o a) :=
  (record_delivers s c o a).keepsPlatform (record_mode s c o a)

theorem modRec_keepsPlatform (o n : Nat) (f : GimpRec → GimpRec) : KeepsPlatform s (s.modRec o n f) := ⟨rfl, rfl, rfl, rfl⟩
theorem modSlk_keepsPlatform (n : Nat) (f : Slk → Slk) : KeepsPlatform s (s.modSlk n f) := ⟨rfl, rfl, rfl, rfl⟩
theorem modLayer_keepsPlatform (n : Nat) (f : Layer → Layer) : KeepsPlatform s (s.modLayer n f) := ⟨rfl, rfl, rfl, rfl⟩
theorem modDp_keepsPlatform (n : Nat) (f : DpPort → DpPort) : KeepsPlatform s (s.modDp n f) := ⟨rfl, rfl, rfl, rfl⟩
theorem modLk_keepsPlatform (n : Nat) (f : Lk → Lk) : KeepsPlatform s (s.modLk n f) := ⟨rfl, rfl, rfl, rfl⟩
theorem modCtx_keepsPlatform (n : Nat) (f : Ctx → Ctx) : KeepsPlatform s (s.modCtx n f) := ⟨rfl, rfl, rfl, rfl⟩

theorem setDpState_keepsPlatform (p st : Nat) : KeepsPlatform s (s.setDpState p st) :=
  KeepsPlatform.ite (KeepsPlatform.refl s) ((modDp_keepsPlatform s p _).trans (record_keepsPlatform _ _ _ _))

theorem disableLink_keepsPlatform (n : Nat) : KeepsPlatform s (s.disableLink n) := by
  unfold State.disableLink State.stopLink
  extract_lets old s1
  have h1 : KeepsPlatform s s1 := (modLk_keepsPlatform s n _).trans (raiseOnce_keepsPlatform _ _ _ _ _)
  exact KeepsPlatform.ite (KeepsPlatform.refl s) (h1.trans (finish?_keepsPlatform s1 _ _ _ _))

theorem sliceShed_keepsPlatform (ch : Nat) : KeepsPlatform s (s.sliceShed ch) :=
  KeepsPlatform.ite ⟨rfl, rfl, rfl, rfl⟩ (KeepsPlatform.refl s)

theorem shedChannel_keepsPlatform (ch : Nat) : KeepsPlatform s (s.shedChannel ch) :=
  KeepsPlatform.ite (modCtx_keepsPlatform _ _ _) (KeepsPlatform.refl s)

theorem discardRec_keepsPlatform (o n : Nat) : KeepsPlatform s (s.discardRec o n) := ⟨rfl, rfl, rfl, rfl⟩

theorem dropCpb_keepsPlatform (ch : Nat) : KeepsPlatform s (s.dropCpb ch) := by
  unfold State.dropCpb
  exact (KeepsPlatform.forEach (fun _ u => discardRec_keepsPlatform u _ _) _ s).trans (modCtx_keepsPlatform _ _ _)

theorem dropCur_keepsPlatform (ch : Nat) : KeepsPlatform s (s.dropCur ch) := by
  unfold State.dropCur
  split
  · exact KeepsPlatform.refl s
  · exact (discardRec_keepsPlatform s _ _).trans (modCtx_keepsPlatform _ _ _)

theorem releaseFrames_keepsPlatform (o : Nat) : KeepsPlatform s (s.releaseFrames o) := ⟨rfl, rfl, rfl, rfl⟩

theorem flushCtx_keepsPlatform (ch : Nat) (st : DecState) : KeepsPlatform s (s.flushCtx ch st) := by
  unfold State.flushCtx
  exact (dropCpb_keepsPlatform s ch).trans ((dropCur_keepsPlatform _ ch).trans
    ((releaseFrames_keepsPlatform _ _).trans (modCtx_keepsPlatform _ _ _)))

theorem settleFlips_keepsPlatform (i : Nat) : KeepsPlatform s (s.settleFlips i) := by
  unfold State.settleFlips
  dsimp only
  refine KeepsPlatform.trans ?_ (KeepsPlatform.forEach (fun f u => ?_) _ _)
  · refine KeepsPlatform.trans ?_ (modLayer_keepsPlatform _ i _)
    exact KeepsPlatform.forEach (fun n u => modRec_keepsPlatform u (graphicId i) n _) _ s
  · exact KeepsPlatform.ite (finish_keepsPlatform u _ _ _ _) (finish_keepsPlatform u _ _ _ _)

theorem dropPictures_keepsPlatform : KeepsPlatform s s.dropPictures := by
  unfold State.dropPictures
  extract_lets s1 tile layer lose net s2 lay s3 s4 group quiet
  have h1 : KeepsPlatform s s1 := KeepsPlatform.forEach (fun n u => KeepsPlatform.ite
    ((modSlk_keepsPlatform u n _).trans (flushCtx_keepsPlatform _ _ _)) (releaseFrames_keepsPlatform u _)) _ s
  clear_value s1
  have h3 : KeepsPlatform s1 s3 := ⟨rfl, rfl, rfl, rfl⟩
  have h4 : KeepsPlatform s3 s4 := by
    refine KeepsPlatform.forEach (fun k u => ?_) _ s3
    exact settleFlips_keepsPlatform u (128 + k)
  clear_value s4
  exact h1.trans (h3.trans (h4.trans ⟨rfl, rfl, rfl, rfl⟩))

/-- The banks that are lost hold memory and records of frames. -/
theorem dropBanks_leaves : s.dropBanks.clk = s.clk ∧ s.dropBanks.pwr = s.pwr := by
  unfold State.dropBanks
  exact ⟨rfl, rfl⟩

theorem gateEth_keepsPlatform (st : Nat) : KeepsPlatform s (s.gateEth st) := ⟨rfl, rfl, rfl, rfl⟩

theorem rollback_keepsPlatform (x : Txn) (a b c d : Nat) : KeepsPlatform s (s.rollback x a b c d) := by
  unfold State.rollback
  extract_lets fs s1 s2
  have h1 : KeepsPlatform s s1 := ⟨rfl, rfl, rfl, rfl⟩
  exact h1.trans ((finish?_keepsPlatform s1 _ _ _ _).trans (KeepsPlatform.ite (raise_keepsPlatform _ _ _ _) (KeepsPlatform.refl _)))

theorem abandonUpdate_keepsPlatform (n : Nat) (tr : Transport) : KeepsPlatform s (s.abandonUpdate n tr) := by
  unfold State.abandonUpdate
  extract_lets u src s1
  have h1 : KeepsPlatform s s1 := ⟨rfl, rfl, rfl, rfl⟩
  exact KeepsPlatform.ite (h1.trans (KeepsPlatform.forEach (fun c v => finish_keepsPlatform v _ _ _ _) _ s1)) (KeepsPlatform.refl s)

theorem closeSession_keepsPlatform (n : Nat) : KeepsPlatform s (s.closeSession n) := by
  unfold State.closeSession
  split
  · exact KeepsPlatform.refl s
  · have h1 : ∀ tr, KeepsPlatform s (s.rollbackSession n tr) := fun tr =>
      KeepsPlatform.forEach (fun x v => rollback_keepsPlatform v _ _ _ _ _) _ s
    exact (h1 _).trans ((abandonUpdate_keepsPlatform _ _ _).trans ⟨rfl, rfl, rfl, rfl⟩)

/-! ### Gating (Table 16-5) -/

/-- What the gating of a state leaves: the clock and the settings of power, for HUSH the memory, and for REST no transport. -/
structure Gates (st : Nat) (s u : State) : Prop where
  clk : u.clk = s.clk
  pwr : u.pwr = { s.pwr with on := (List.range 21).map (s.onIn st), portOpen := (List.range 21).map (s.onIn st), pstate := st }
  hush : st = 1 → u.mem = s.mem ∧ u.hif.ready = s.hif.ready
  rest : st = 3 → u.hif.ready = false ∧ u.hif.pcieUp = false

theorem gate_gates (st : Nat) : Gates st s (s.gate st) := by
  unfold State.gate
  extract_lets on s1 s2 s3 s4 s5 src s6
  have h1 : KeepsPlatform s s1 := KeepsPlatform.forEach (fun p u =>
    (modDp_keepsPlatform u p _).trans ((setDpState_keepsPlatform _ _ _).trans (finish?_keepsPlatform _ _ _ _ _))) _ s
  have h2 : KeepsPlatform s1 s2 := KeepsPlatform.forEach (fun n u => disableLink_keepsPlatform u n) _ s1
  have h3 : KeepsPlatform s2 s3 := KeepsPlatform.forEach (fun ch u =>
    (sliceShed_keepsPlatform u ch).trans (shedChannel_keepsPlatform _ ch)) _ s2
  have hup : KeepsPlatform s s3 := h1.trans (h2.trans h3)
  have h4 : s4.clk = s3.clk ∧ s4.pwr = s3.pwr ∧ (st < 2 → s4 = s3) := by
    unfold s4
    split
    · have hd := dropPictures_keepsPlatform s3
      have hg := gateEth_keepsPlatform s3.dropPictures.dropBanks st
      obtain ⟨hclk, hpwr⟩ := dropBanks_leaves s3.dropPictures
      exact ⟨hg.clk.trans (hclk.trans hd.clk), hg.pwr.trans (hpwr.trans hd.pwr), fun hst => absurd hst (by omega)⟩
    · exact ⟨rfl, rfl, fun _ => rfl⟩
  obtain ⟨hclk, hpwr, hsame⟩ := h4
  have h5 : KeepsPlatform s4 s5 := KeepsPlatform.forEach (fun n u => closeSession_keepsPlatform u n) _ s4
  have h6 : s6.clk = s.clk ∧ s6.pwr = s.pwr ∧ (st = 1 → s6.mem = s.mem ∧ s6.hif.ready = s.hif.ready) ∧
      (st = 3 → s6.hif.ready = false ∧ s6.hif.pcieUp = false) := by
    unfold s6
    split
    · rename_i hst
      exact ⟨(h5.clk.trans hclk).trans hup.clk, (h5.pwr.trans hpwr).trans hup.pwr, fun h => absurd h (by omega), fun _ => ⟨rfl, rfl⟩⟩
    · rename_i hst
      refine ⟨hclk.trans hup.clk, hpwr.trans hup.pwr, fun h => ?_, fun h => absurd h hst⟩
      rw [hsame (by omega)]
      exact ⟨hup.mem, ready_of_mode hup.mode⟩
  obtain ⟨hclk6, hpwr6, hhush, hrest⟩ := h6
  refine ⟨hclk6, ?_, hhush, hrest⟩
  show ({ s6.pwr with on, portOpen := on, pstate := st } : Pwr) = _
  rw [hpwr6]

end

end Sys2Proof.Machine
end

section
/-! PROOF. Power states (spec/16): requests, entries, wakes and what they leave of the state, and the statement that gathers them. -/
namespace Sys2Proof.Machine

/-! ### A step of local time -/

/-- `u` differs from `s` at most in its audio. -/
def OnlyAudio (s u : State) : Prop := u = { s with aud := u.aud }

section
variable {s u v : State}

theorem OnlyAudio.refl (s : State) : OnlyAudio s s := rfl

theorem OnlyAudio.trans (h1 : OnlyAudio s u) (h2 : OnlyAudio u v) : OnlyAudio s v := by
  unfold OnlyAudio at *
  rw [h2, h1]

theorem OnlyAudio.ite {c : Prop} [Decidable c] (h1 : OnlyAudio s u) (h2 : OnlyAudio s v) : OnlyAudio s (if c then u else v) := by
  split
  · exact h1
  · exact h2

theorem OnlyAudio.forEach {α : Type} {f : α → State → State} (h : ∀ a s, OnlyAudio s (f a s)) (l : List α) (s : State) :
    OnlyAudio s (s.forEach l f) :=
  State.forEach_keeps (p := OnlyAudio s) (fun a u hu => hu.trans (h a u)) l s (OnlyAudio.refl s)

theorem OnlyAudio.clk_eq (h : OnlyAudio s u) : u.clk = s.clk := by rw [h]
theorem OnlyAudio.hif_eq (h : OnlyAudio s u) : u.hif = s.hif := by rw [h]
theorem OnlyAudio.pwr_eq (h : OnlyAudio s u) : u.pwr = s.pwr := by rw [h]
theorem OnlyAudio.mem_eq (h : OnlyAudio s u) : u.mem = s.mem := by rw [h]

end

section
variable (s : State)

theorem modAud_onlyAudio (f : Aud → Aud) : OnlyAudio s (s.modAud f) := rfl

theorem modAudCtr_onlyAudio (n : Nat) (f : AudCtr → AudCtr) : OnlyAudio s (s.modAudCtr n f) :=
  OnlyAudio.ite rfl (OnlyAudio.ite (OnlyAudio.refl s) (OnlyAudio.ite rfl rfl))

theorem tally_onlyAudio (c n f k : Nat) : OnlyAudio s (s.tally c n f k) := rfl

theorem audTimeStep_onlyAudio (δ : Int) : OnlyAudio s (s.audTimeStep δ) := by
  unfold State.audTimeStep
  extract_lets foreign s1
  refine OnlyAudio.trans (modAud_onlyAudio s _ : OnlyAudio s s1) (OnlyAudio.forEach (fun gi u => ?_) _ s1)
  refine OnlyAudio.trans (modAud_onlyAudio u _) (OnlyAudio.forEach (fun f v => ?_) _ _)
  exact (modAudCtr_onlyAudio v _ _).trans ((modAudCtr_onlyAudio _ _ _).trans (tally_onlyAudio _ _ _ _ _))

/-- A step of local time leaves the active domain, the interface, power and memory. -/
theorem stepClock_leaves (δ : Int) : (s.stepClock δ).clk.active = s.clk.active ∧ (s.stepClock δ).hif = s.hif ∧
    (s.stepClock δ).pwr = s.pwr ∧ (s.stepClock δ).mem = s.mem := by
  unfold State.stepClock
  split
  · exact ⟨rfl, rfl, rfl, rfl⟩
  · extract_lets t2 s1 dec lay s2 n mark
    clear_value t2 n
    split
    all_goals
      have h := audTimeStep_onlyAudio
    · exact ⟨(congrArg Clk.active (h _ δ).clk_eq :), ((h _ δ).hif_eq :), ((h _ δ).pwr_eq :), ((h _ δ).mem_eq :)⟩
    · exact ⟨(congrArg Clk.active (h _ δ).clk_eq :), ((h _ δ).hif_eq :), ((h _ δ).pwr_eq :), ((h _ δ).mem_eq :)⟩

/-- The exit from REST leaves the active domain, power and memory, and PCIe as it comes from reset. -/
theorem leaveRest_leaves : s.leaveRest.clk.active = s.clk.active ∧ s.leaveRest.hif.enable = false ∧ s.leaveRest.pwr = s.pwr ∧
    s.leaveRest.mem = s.mem := by
  unfold State.leaveRest
  extract_lets h s1 t s2 again
  obtain ⟨hactive, hhif, hpwr, hmem⟩ := stepClock_leaves (s1.modClk fun c => { c with localNs := s1.pwr.sealLocal })
    ((t : Int) - (s1.pwr.sealLocal : Int))
  have hirq := raiseIrq_delivers (s2.modClk fun c => { c with
    domains := c.domains.map again, stepDue := true, referenceSeen := false }) 10
  refine ⟨?_, ?_, hirq.pwr_eq.trans hpwr, hirq.mem_eq.trans hmem⟩
  · exact (congrArg Clk.active hirq.clk_eq).trans hactive
  · exact (enable_of_mode (raiseIrq_mode _ 10)).trans (congrArg Hif.enable hhif)

end

/-! ### Entry complete and wake complete (R381, R384) -/

section
variable {j : Job} {s : State}

/-- The state in which an entry without a latched wake source ends. -/
def State.entered (s : State) (x : Transition) (o : Nat) : State :=
  { s.gate x.target with
    pwr := { (s.gate x.target).pwr with
      trans := none, lastStitch := s.stitch, enteredRtc := s.rtcTicks, sealRtc := s.rtcTicks
      sealLocal := s.local - (s.now - (o + 12000)) }
    ses := { (s.gate x.target).ses with hbSuspended := (s.gate x.target).ses.hbSuspended || decide (2 ≤ x.target) } }

theorem pstateEntryComplete_enters {x : Transition} {o : Nat} (hx : s.pwr.trans = some x) (hw : x.waking = false)
    (ho : x.origin = some o) (hdue : o + 16000 ≤ s.now) (hl : s.pwr.latched = none) : pstateEntryComplete s = s.entered x o := by
  simp only [pstateEntryComplete, hx, hw, ho, hl, if_neg (Nat.not_lt.2 hdue)]
  rfl

/-- What a wake leaves of the state it wakes from. -/
structure KeepsObjects (s u : State) : Prop extends KeepsPlatform s u where
  dec : u.dec = s.dec
  lay : u.lay = s.lay

theorem KeepsObjects.trans {u v : State} (h1 : KeepsObjects s u) (h2 : KeepsObjects u v) : KeepsObjects s v :=
  ⟨h1.toKeepsPlatform.trans h2.toKeepsPlatform, h2.dec.trans h1.dec, h2.lay.trans h1.lay⟩

theorem trainLink_keepsObjects (n : Nat) (taps : Bool) : KeepsObjects s (s.trainLink n taps) := ⟨modLk_keepsPlatform _ _ _, rfl, rfl⟩

/-- The links that an exit to RUN trains. -/
theorem trainLinks_keepsObjects (l : List Nat) : KeepsObjects s (s.forEach l fun n s =>
    if (s.lk n).enable && (s.lk n).st = 0 then s.trainLink n false else s) :=
  State.forEach_keeps (p := KeepsObjects s) (fun n u hu => hu.trans (by
    split
    · exact trainLink_keepsObjects n false
    · exact ⟨KeepsPlatform.refl u, rfl, rfl⟩)) l s ⟨KeepsPlatform.refl s, rfl, rfl⟩

/-- What a completed wake leaves: `b` is the state after the exit from REST, if it was in REST. -/
structure Wakes (x : Transition) (prev : Nat) (b u : State) : Prop where
  clk : u.clk = b.clk
  mem : u.mem = b.mem
  dec : u.dec = b.dec
  layers : u.lay.layers = b.lay.layers
  shallow : prev < 2 → u.lay = b.lay
  mode : u.hif.mode = b.hif.mode
  pstate : u.pwr.pstate = x.target
  trans : u.pwr.trans = none
  lastWake : u.pwr.lastWake = x.source
  on : u.pwr.on = (List.range 21).map (b.onIn x.target)
  ports : u.pwr.portOpen = u.pwr.on

theorem wakeComplete_wakes {x : Transition} (hx : s.pwr.trans = some x) (hw : x.waking = true) :
    Wakes x s.pwr.pstate (if s.pwr.pstate = 3 then s.leaveRest else s) (wakeComplete s) := by
  unfold wakeComplete
  rw [hx]
  change Wakes x s.pwr.pstate _ (if !x.waking then s else _)
  rw [if_neg (show ¬(!x.waking) = true by simp [hw])]
  extract_lets prev ms b on pwr s2 ses s3 eth net s4 s5 wait lay s6 s7
  change Wakes x prev b _
  clear_value prev ms b
  have h4 : s4.clk = b.clk ∧ s4.mem = b.mem ∧ s4.dec = b.dec ∧ s4.lay = b.lay ∧ s4.hif = b.hif ∧ s4.pwr = s2.pwr := by
    unfold s4 s3
    split <;> exact ⟨rfl, rfl, rfl, rfl, rfl, rfl⟩
  have h5 : KeepsObjects s4 s5 := trainLinks_keepsObjects _
  clear_value s4 s5
  have h6 : KeepsPlatform s5 s6 ∧ s6.dec = s5.dec ∧ s6.lay.layers = s5.lay.layers ∧ (prev < 2 → s6.lay = s5.lay) := by
    unfold s6
    split
    · exact ⟨⟨rfl, rfl, rfl, rfl⟩, rfl, rfl, fun h => absurd h (by omega)⟩
    · exact ⟨KeepsPlatform.refl s5, rfl, rfl, fun _ => rfl⟩
  clear_value s6
  have h7 : KeepsObjects s6 s7 := by
    unfold s7
    split <;> exact ⟨⟨rfl, rfl, rfl, rfl⟩, rfl, rfl⟩
  clear_value s7
  have h8 : KeepsPlatform s7 ((s7.evtPstate 2 x.target prev x.source (sat32 ms)).finish? x.job 0 0 []) :=
    (raise_keepsPlatform _ _ _ _).trans (finish?_keepsPlatform _ _ _ _ _)
  have hd : Delivers s7 ((s7.evtPstate 2 x.target prev x.source (sat32 ms)).finish? x.job 0 0 []) :=
    (raise_delivers _ _ _ _).trans (finish?_delivers _ _ _ _ _)
  obtain ⟨hclk, hmem, hdec, hlay, hhif, hpwr⟩ := h4
  obtain ⟨h6, hdec6, hlayers6, hlay6⟩ := h6
  have hall : KeepsPlatform s4 ((s7.evtPstate 2 x.target prev x.source (sat32 ms)).finish? x.job 0 0 []) :=
    h5.toKeepsPlatform.trans (h6.trans (h7.toKeepsPlatform.trans h8))
  have hon : ((s7.evtPstate 2 x.target prev x.source (sat32 ms)).finish? x.job 0 0 []).pwr = s2.pwr := hall.pwr.trans hpwr
  exact ⟨hall.clk.trans hclk, hall.mem.trans hmem, hd.dec_eq.trans (h7.dec.trans (hdec6.trans (h5.dec.trans hdec))),
    (congrArg Lay.layers (hd.lay_eq.trans h7.lay)).trans (hlayers6.trans (congrArg Lay.layers (h5.lay.trans hlay))),
    fun h => hd.lay_eq.trans (h7.lay.trans ((hlay6 h).trans (h5.lay.trans hlay))),
    hall.mode.trans (congrArg Hif.mode hhif), congrArg Pwr.pstate hon, congrArg Pwr.trans hon, congrArg Pwr.lastWake hon,
    congrArg Pwr.on hon, by rw [hon]⟩

end

end Sys2Proof.Machine
end

section
/-! PROOF. Power states (spec/16): the runs of the commands, entries that start or are refused, latched wake sources, and the statement
that gathers them. -/
namespace Sys2Proof.Machine

section
variable {j : Job} {s : State}

/-! ### PSTATE_REQUEST (R379) -/

theorem pstateRequest_veto (hfree : s.pwr.trans = none) (hbist : s.hoop.bist.st ≠ 1) (h : j.u8 0 = 4 ∨ j.u8 0 = 5) :
    cmdPstateRequest.run j s = .ok (s.setVeto j.req (decide (j.u8 0 = 4))) [] := by
  refine (if_neg (by simp [hfree, hbist])).trans ?_
  obtain h | h := h <;> simp [h]

theorem pstateRequest_entry (hfree : s.pwr.trans = none) (hbist : s.hoop.bist.st ≠ 1) (hst : j.u8 0 < 4) :
    cmdPstateRequest.run j s = if j.u8 1 = 1 then .ok { s with pwr := { s.pwr with scheduled := some (j.u8 0, j.u32 4) } } []
      else if j.u8 0 = s.pwr.pstate then .ok s []
      else if s.pwr.pstate < j.u8 0 && s.clk.refLost then .fail eBusy 0
      else if j.u8 0 < s.pwr.pstate then .later (s.startExit (j.u8 0) 8 (some j))
      else match s.entry (j.u8 0) with
        | .err e => .fail e.status e.detail
        | .refused i => .failWith (s.countRefusal i) eRefused i
        | .start => .later (s.startEntry (j.u8 0) (some j)) :=
  (if_neg (by simp [hfree, hbist])).trans ((if_neg (by omega)).trans (if_neg (by omega)))

theorem pstateRequest_schedules (hfree : s.pwr.trans = none) (hbist : s.hoop.bist.st ≠ 1) (hst : j.u8 0 < 4) (h : j.u8 1 = 1) :
    cmdPstateRequest.run j s = .ok { s with pwr := { s.pwr with scheduled := some (j.u8 0, j.u32 4) } } [] :=
  (pstateRequest_entry hfree hbist hst).trans (if_pos h)

theorem pstateRequest_present (hfree : s.pwr.trans = none) (hbist : s.hoop.bist.st ≠ 1) (hst : j.u8 0 < 4) (h : j.u8 1 = 0)
    (hat : j.u8 0 = s.pwr.pstate) : cmdPstateRequest.run j s = .ok s [] :=
  (pstateRequest_entry hfree hbist hst).trans ((if_neg (by omega)).trans (if_pos hat))

theorem pstateRequest_exits (hfree : s.pwr.trans = none) (hbist : s.hoop.bist.st ≠ 1) (hst : j.u8 0 < 4) (h : j.u8 1 = 0)
    (hup : j.u8 0 < s.pwr.pstate) : cmdPstateRequest.run j s = .later (s.startExit (j.u8 0) 8 (some j)) :=
  (pstateRequest_entry hfree hbist hst).trans ((if_neg (by omega)).trans ((if_neg (by omega)).trans
    ((if_neg (by simp; omega)).trans (if_pos hup))))

/-- The checks of an entry find nothing against it. -/
theorem entry_start {target : Nat} (hush : target = 1 → s.hushErr = none) (hno : s.refuser target = none) :
    s.entry target = .start := by
  have herr : (if target = 1 then s.hushErr else none) = none := by
    split
    · exact hush ‹_›
    · rfl
  simp only [State.entry, herr, hno]

theorem entry_refused {target i : Nat} (hush : target = 1 → s.hushErr = none) (hno : s.refuser target = some i) :
    s.entry target = .refused i := by
  have herr : (if target = 1 then s.hushErr else none) = none := by
    split
    · exact hush ‹_›
    · rfl
  simp only [State.entry, herr, hno]

theorem pstateRequest_enters (hfree : s.pwr.trans = none) (hbist : s.hoop.bist.st ≠ 1) (hst : j.u8 0 < 4) (h : j.u8 1 = 0)
    (hdown : s.pwr.pstate < j.u8 0) (href : s.clk.refLost = false) (hush : j.u8 0 = 1 → s.hushErr = none)
    (hno : s.refuser (j.u8 0) = none) : cmdPstateRequest.run j s = .later (s.startEntry (j.u8 0) (some j)) := by
  rw [pstateRequest_entry hfree hbist hst, if_neg (by omega), if_neg (by omega), if_neg (by simp [href]), if_neg (by omega),
    entry_start hush hno]

/-! ### Scheduled entries (R379, R380) -/

theorem scheduledEntry_due {target at_ : Nat} (hsch : s.pwr.scheduled = some (target, at_)) (hat : s.rtc.1 % m32 = at_)
    (hfree : s.pwr.trans = none) (hbist : s.hoop.bist.st ≠ 1) (hdown : s.pwr.pstate < target) (href : s.clk.refLost = false) :
    scheduledEntry s = match ({ s with pwr := { s.pwr with scheduled := none } } : State).entry target with
      | .err _ => ({ s with pwr := { s.pwr with scheduled := none } } : State).evtPstate 3 s.pwr.pstate s.pwr.pstate 0 0
      | .refused i => (({ s with pwr := { s.pwr with scheduled := none } } : State).countRefusal i).evtPstate 3 s.pwr.pstate
        s.pwr.pstate i 0
      | .start => ({ s with pwr := { s.pwr with scheduled := none } } : State).startEntry target none := by
  unfold scheduledEntry
  rw [hsch]
  refine (if_neg (by simpa using hat)).trans ((if_neg ?_).trans (if_neg (by simp [href])))
  show ¬(s.pwr.trans.isSome || decide (s.hoop.bist.st = 1) || decide (target ≤ s.pwr.pstate)) = true
  simp [hfree, hbist, hdown]

/-! ### Latched wake sources (R382-R384) -/

theorem wakeBy_idle {source : Nat} (hfree : s.pwr.trans = none) : s.wakeBy source =
    if s.wakeValid s.pwr.pstate source then s.startExit s.pwr.wake.target source none else s := by
  unfold State.wakeBy
  rw [hfree]

/-- A valid source before the reply of an entry refuses it. -/
theorem wakeBy_aborts {source : Nat} {x : Transition} (hx : s.pwr.trans = some x) (hw : x.waking = false) (ho : x.origin = none)
    (hv : s.wakeValid x.target source = true) : s.wakeBy source =
    match x.job with
    | some j => (({ s with pwr := { s.pwr with trans := none } } : State).countRefusal 6).finish j eRefused 6 []
    | none => (({ s with pwr := { s.pwr with trans := none } } : State).countRefusal 6).evtPstate 3 s.pwr.pstate s.pwr.pstate 6 0 := by
  unfold State.wakeBy
  rw [hx]
  refine (if_neg (by simp [hw])).trans ((if_neg (by simp [hv])).trans ?_)
  rw [ho] <;> rfl

theorem wakeValid_eq {st n : Nat} (h1 : 1 ≤ n) (h7 : n ≤ 7) :
    s.wakeValid st n = (s.pwr.wake.sources.testBit (n - 1) && (if 6 ≤ n then st = 2 else 1 ≤ st)) := by
  simp [State.wakeValid, h1, h7]

theorem wakeValid_source {st n : Nat} (h : s.wakeValid st n = true) : 1 ≤ n ∧ n ≤ 7 := by
  simp only [State.wakeValid, Bool.and_eq_true, decide_eq_true_eq] at h
  exact h.1.1

theorem wakeRow_source {n : Nat} (h1 : 1 ≤ n) (h7 : n ≤ 7) : wakeRow n s = s.wakeBy n := if_pos (by simp [h1, h7])

theorem rtcAlarm_due (hset : s.pwr.wake.alarm ≠ 0) (hat : s.rtc.1 % m32 = s.pwr.wake.alarm)
    (hgood : ∀ f ∈ s.clk.faults, f.1 ≠ 1) : rtcAlarm s = s.wakeBy 1 := by
  refine if_pos ?_
  simpa [hset, hat] using hgood

end

/-! ### The rows -/

theorem isRow_pstateRequest : IsRow .pstateRequest cmdPstateRequest := fun _ _ _ => rfl
theorem isRow_pstateStatus : IsRow .pstateStatus cmdPstateStatus := fun _ _ _ => rfl
theorem isRow_wakeConfig : IsRow .wakeConfig cmdWakeConfig := fun _ _ _ => rfl
theorem isRow_refusalLog : IsRow .refusalLog cmdRefusalLog := fun _ _ _ => rfl

theorem exec_scheduledEntry (t : Nat) (s : State) : exec (.scheduledEntry t) s = .next (settle (scheduledEntry (s.tick t))) := rfl
theorem exec_pstateEntryComplete (t : Nat) (s : State) :
    exec (.pstateEntryComplete t) s = .next (settle (pstateEntryComplete (s.tick t))) := rfl
theorem exec_wakeEvent (t n : Nat) (s : State) : exec (.wakeEvent t n) s = .next (settle (wakeRow n (s.tick t))) := rfl
theorem exec_rtcAlarm (t : Nat) (s : State) : exec (.rtcAlarm t) s = .next (settle (rtcAlarm (s.tick t))) := rfl
theorem exec_wakeComplete (t : Nat) (s : State) : exec (.wakeComplete t) s = .next (settle (wakeComplete (s.tick t))) := rfl

/-- Settles O33: requests by their runs, entries and wakes by what gating and waking leave. -/
theorem powerRows : Obligations.PowerRows := by
  unfold Obligations.PowerRows
  refine ⟨?veto, ?schedule, ?present, ?exit, ?enter, ?status, ?config, ?log, ?scheduled, ?entered, ?wake, ?abort, ?valid, ?alarm,
    ?woken, ?rested⟩
  case veto =>
    refine Runs.of isRow_pstateRequest ?_
    rintro j s - - - ⟨hfree, hbist, h⟩
    exact ⟨_, _, pstateRequest_veto hfree hbist h, rfl, rfl⟩
  case schedule =>
    refine Runs.of isRow_pstateRequest ?_
    rintro j s - - - ⟨hfree, hbist, hst, h⟩
    exact ⟨_, _, pstateRequest_schedules hfree hbist hst h, rfl, rfl⟩
  case present =>
    refine Runs.of isRow_pstateRequest ?_
    rintro j s - - - ⟨hfree, hbist, hst, h, hat⟩
    exact ⟨_, _, pstateRequest_present hfree hbist hst h hat, rfl, rfl⟩
  case exit =>
    refine RunsLater.of isRow_pstateRequest ?_
    rintro j s - - - ⟨hfree, hbist, h, hup, hst⟩
    exact ⟨_, pstateRequest_exits hfree hbist hst h hup, rfl⟩
  case enter =>
    refine RunsLater.of isRow_pstateRequest ?_
    rintro j s - - - ⟨hfree, hbist, h, hdown, hst, href, hush, hno⟩
    exact ⟨_, pstateRequest_enters hfree hbist hst h hdown href hush hno, rfl⟩
  case status => exact Runs.of isRow_pstateStatus fun j s _ _ _ _ => ⟨_, _, rfl, rfl, rfl⟩
  case config => exact Runs.of isRow_wakeConfig fun j s _ _ _ _ => ⟨_, _, rfl, rfl, rfl⟩
  case log => exact Runs.of isRow_refusalLog fun j s _ _ _ _ => ⟨_, _, rfl, rfl, rfl⟩
  case scheduled =>
    rintro t s0 s s1 target at_ rfl hsch hat rfl hfree hbist hdown href hush
    rw [exec_scheduledEntry, scheduledEntry_due hsch hat hfree hbist hdown href]
    cases hno : ({ s0.tick t with pwr := { (s0.tick t).pwr with scheduled := none } } : State).refuser target with
    | none => rw [entry_start hush hno]
    | some i => rw [entry_refused hush hno]
  case entered =>
    rintro t s0 s x o rfl hx hw ho hdue hl
    have hg := gate_gates (s0.tick t) x.target
    refine ⟨(s0.tick t).entered x o, ?_, congrArg Pwr.pstate hg.pwr, congrArg Pwr.on hg.pwr, ?_, rfl, rfl, (congrArg Pwr.wake hg.pwr :),
      hg.clk, hg.hush, hg.rest⟩
    · rw [exec_pstateEntryComplete, pstateEntryComplete_enters hx hw ho hdue hl]
    · exact (congrArg Pwr.portOpen hg.pwr).trans (congrArg Pwr.on hg.pwr).symm
  case wake =>
    rintro t source s0 s rfl h1 h7 hfree
    rw [exec_wakeEvent, wakeRow_source h1 h7, wakeBy_idle hfree]
    rfl
  case abort =>
    rintro t source s0 s x rfl hx hw ho hv
    obtain ⟨h1, h7⟩ := wakeValid_source hv
    rw [exec_wakeEvent, wakeRow_source h1 h7, wakeBy_aborts hx hw ho hv] <;> rfl
  case valid => exact fun s st n h1 h7 => wakeValid_eq h1 h7
  case alarm =>
    rintro t s0 s rfl hset hat hgood
    rw [exec_rtcAlarm, rtcAlarm_due hset hat hgood]
  case woken =>
    rintro t s0 s x rfl hx hw hst
    have h := wakeComplete_wakes hx hw
    rw [if_neg hst] at h
    exact ⟨_, exec_wakeComplete t s0, h.pstate, h.trans, h.lastWake, h.on, h.ports, h.clk, h.mem, h.layers, h.shallow, h.dec⟩
  case rested =>
    rintro t s0 s x rfl hx hw hst
    have h := wakeComplete_wakes hx hw
    rw [if_pos hst] at h
    obtain ⟨hactive, henable, -, hmem⟩ := leaveRest_leaves (s0.tick t)
    exact ⟨_, exec_wakeComplete t s0, h.pstate, h.lastWake, (congrArg Clk.active h.clk).trans hactive,
      (enable_of_mode h.mode).trans henable, h.mem.trans hmem⟩

end Sys2Proof.Machine
end

section
/-! PROOF. The Lacing links' state (spec/19): what a change of a link leaves of it and of the others, what is sent on it, and pattern
tests. -/
namespace Sys2Proof.Machine

/-! ### A change of a link -/

/-- A link after a change: one of its state or power is preceded by the charge of its lanes. -/
def State.relink (s : State) (f : Lk → Lk) (l : Lk) : Lk :=
  if (f l).st = l.st && (f l).txPower = l.txPower && (f l).rxPower = l.rxPower then f l
  else { f l with
    laneWork := (l.charge s.hoop.otp.costs s.clk.elapsed).laneWork, laneAt := (l.charge s.hoop.otp.costs s.clk.elapsed).laneAt
    leftActive := leftAt s.now l (f l) }

section
variable {s : State} {n : Nat} {f g : Lk → Lk} {l : Lk}

theorem modLk_links (s : State) (n : Nat) (f : Lk → Lk) : (s.modLk n f).lnk.links = modAt s.lnk.links n (s.relink f) := rfl

theorem lk_modLk (h : n < s.lnk.links.length) : (s.modLk n f).lk n = s.relink f (s.lk n) := modAt_getD_self _ _ _ _ h

theorem modLk_length : (s.modLk n f).lnk.links.length = s.lnk.links.length := modAt_length _ _ _

/-- What a charge writes: the lanes' work, its instant, and when ACTIVE was left. -/
theorem relink_charged : ∃ w a t, s.relink f l = { f l with laneWork := w, laneAt := a, leftActive := t } := by
  unfold State.relink
  split
  · exact ⟨(f l).laneWork, (f l).laneAt, (f l).leftActive, rfl⟩
  · exact ⟨_, _, _, rfl⟩

@[simp] theorem relink_st : (s.relink f l).st = (f l).st := by
  obtain ⟨w, a, t, h⟩ := relink_charged (s := s) (f := f) (l := l)
  rw [h]
@[simp] theorem relink_prbs : (s.relink f l).prbs = (f l).prbs := by
  obtain ⟨w, a, t, h⟩ := relink_charged (s := s) (f := f) (l := l)
  rw [h]
@[simp] theorem relink_queue : (s.relink f l).queue = (f l).queue := by
  obtain ⟨w, a, t, h⟩ := relink_charged (s := s) (f := f) (l := l)
  rw [h]
@[simp] theorem relink_replay : (s.relink f l).replay = (f l).replay := by
  obtain ⟨w, a, t, h⟩ := relink_charged (s := s) (f := f) (l := l)
  rw [h]
@[simp] theorem relink_resendRun : (s.relink f l).resendRun = (f l).resendRun := by
  obtain ⟨w, a, t, h⟩ := relink_charged (s := s) (f := f) (l := l)
  rw [h]
@[simp] theorem relink_transit : (s.relink f l).transit = (f l).transit := by
  obtain ⟨w, a, t, h⟩ := relink_charged (s := s) (f := f) (l := l)
  rw [h]
@[simp] theorem relink_peerFreed : (s.relink f l).peerFreed = (f l).peerFreed := by
  obtain ⟨w, a, t, h⟩ := relink_charged (s := s) (f := f) (l := l)
  rw [h]
@[simp] theorem relink_rxPower : (s.relink f l).rxPower = (f l).rxPower := by
  obtain ⟨w, a, t, h⟩ := relink_charged (s := s) (f := f) (l := l)
  rw [h]
@[simp] theorem relink_unacked : (s.relink f l).unacked = (f l).unacked := by
  obtain ⟨w, a, t, h⟩ := relink_charged (s := s) (f := f) (l := l)
  rw [h]
@[simp] theorem relink_badRun : (s.relink f l).badRun = (f l).badRun := by
  obtain ⟨w, a, t, h⟩ := relink_charged (s := s) (f := f) (l := l)
  rw [h]

/-- A change that keeps a property of every link keeps it of this one. -/
theorem lk_modLk_keeps {α : Type} (p : Lk → α) (hf : ∀ l, p (s.relink f l) = p l) (k : Nat) : p ((s.modLk n f).lk k) = p (s.lk k) := by
  show p ((modAt s.lnk.links n (s.relink f)).getD k {}) = p (s.lnk.links.getD k {})
  simp only [List.getD_eq_getElem?_getD, modAt_getElem?]
  cases hk : s.lnk.links[k]? with
  | none => rfl
  | some l =>
    simp only [Option.map_some, Option.getD_some]
    split
    · exact hf l
    · rfl

/-- Two changes of one link, the second of which sees its state and power as the first leaves them. -/
theorem modLk_one : ∃ l, s.modLk n f = { s with lnk := { s.lnk with links := modAt s.lnk.links n fun _ => l } } := by
  refine ⟨s.relink f (s.lk n), ?_⟩
  have h : modAt s.lnk.links n (s.relink f) = modAt s.lnk.links n fun _ => s.relink f (s.lk n) :=
    modAt_congr s.lnk.links n _ _ {} rfl
  show ({ s with lnk := { s.lnk with links := modAt s.lnk.links n (s.relink f) } } : State) = _
  rw [h]

end

/-! ### What is sent and what is logged -/

section
variable (s : State) (n : Nat)

theorem evtLink_delivers (a b c d e : Nat) : Delivers s (s.evtLink n a b c d e) := raiseOnce_delivers _ _ _ _ _

theorem evtLink_lk (a b c d e k : Nat) : (s.evtLink n a b c d e).lk k = s.lk k := by
  unfold State.lk
  rw [(evtLink_delivers s n a b c d e).lnk_eq]

theorem sendFlit_queue (b : List Byte) (k : Nat) : ((s.sendFlit n b).lk k).queue = (s.lk k).queue := by
  refine lk_modLk_keeps Lk.queue (fun l => ?_) k
  rw [relink_queue]

theorem sendLlc_queue (nak : Bool) (e k : Nat) : ((s.sendLlc n nak e).lk k).queue = (s.lk k).queue := by
  refine Eq.trans (lk_modLk_keeps Lk.queue (fun l => ?_) k) (sendFlit_queue s n _ k)
  rw [relink_queue]

/-- A link with nothing to send sends nothing. -/
theorem drainLink_empty {s : State} {n : Nat} (h : (s.lk n).queue = []) : s.drainLink n = s := if_pos (by simp [h])

end

/-! ### Pattern tests (R454) -/

section
variable {j : Job} {s : State} {n : Nat}

/-- What an action of LINK_PRBS does before errors are injected. -/
def State.prbsAct (s : State) (j : Job) : State :=
  match j.u8 2 with
  | 0 => ((s.prbsCheck (idIndex (j.u16 0))).modLk (idIndex (j.u16 0)) fun l =>
      { l with prbs := { l.prbs with generate := false, check := false } }).endTest (idIndex (j.u16 0))
  | 4 => s.prbsCheck (idIndex (j.u16 0))
  | 5 => s.modLk (idIndex (j.u16 0)) fun l => { l with prbs := { l.prbs with
      errors := List.replicate 8 0, injected := List.replicate 8 0, since := s.now } }
  | _ => s.modLk (idIndex (j.u16 0)) fun l => { l with st := 4, prbs := { l.prbs with
      generate := j.u8 2 ≠ 2, check := j.u8 2 ≠ 1, pattern := j.u8 3, lanes := j.u8 4, since := s.now
      rate := j.u8 7, errors := if j.u8 2 = 1 then l.prbs.errors else List.replicate 8 0, lock := List.replicate 8 false } }

/-- `k` bits are in error on every selected lane. -/
def Lk.inject (k : Nat) (l : Lk) : Lk :=
  { l with prbs := { l.prbs with
      injected := l.prbs.injected.mapIdx fun m x => if l.prbs.lanes.testBit m then x + k else x
      errors := l.prbs.errors.mapIdx fun m x =>
        if ((l.loop = 1 || l.loop = 2) && l.prbs.check) && l.prbs.lanes.testBit m then satAdd32 x k else x } }

theorem linkPrbs_runs (hbusy : ¬((decide (1 ≤ j.u8 2) && decide (j.u8 2 ≤ 3)) && s.linkInUse (idIndex (j.u16 0))) = true)
    (hst : ¬((decide (1 ≤ j.u8 2) && decide (j.u8 2 ≤ 3)) && !(decide ((s.lk (idIndex (j.u16 0))).st = 2) ||
      decide ((s.lk (idIndex (j.u16 0))).st = 3) || decide ((s.lk (idIndex (j.u16 0))).st = 4))) = true) :
    ∃ k, (j.u8 5 = 0 → k = 0) ∧ cmdLinkPrbs.run j s = .ok ((s.prbsAct j).modLk (idIndex (j.u16 0)) (Lk.inject k))
      (prbsReply (idIndex (j.u16 0)) ((s.prbsAct j).modLk (idIndex (j.u16 0)) (Lk.inject k))) := by
  refine ⟨if ((s.prbsAct j).lk (idIndex (j.u16 0))).prbs.generate then (match j.u8 5 with
        | 1 => 1
        | 2 => j.u8 6
        | _ => 0) else 0, fun h => ?_, (if_neg hbusy).trans ((if_neg hst).trans rfl)⟩
  rw [h]
  exact ite_self _

end

end Sys2Proof.Machine
end

section
/-! PROOF. The commands of Lacing links (spec/19): the run of each command and the statement that gathers them. -/
namespace Sys2Proof.Machine

section
variable {j : Job} {s : State} {n : Nat}

/-! ### Pattern tests (R454) -/

/-- The checker leaves the link, or takes a free value for what it has found. -/
theorem prbsCheck_cases : s.prbsCheck n = s ∨ ∃ f, s.prbsCheck n = ({ s with free := s.free + 1 } : State).modLk n f := by
  by_cases h : (!((s.lk n).prbs.check && !(((s.lk n).loop = 1 || (s.lk n).loop = 2) && (s.lk n).prbs.generate))) = true
  · exact .inl (if_pos h)
  · exact .inr ⟨_, if_neg h⟩

theorem prbsCheck_only : s.prbsCheck n = { s with lnk := (s.prbsCheck n).lnk, free := (s.prbsCheck n).free } := by
  obtain h | ⟨f, h⟩ := prbsCheck_cases (s := s) (n := n)
  · rw [h]
  · rw [h]
    rfl

theorem prbsCheck_length : (s.prbsCheck n).lnk.links.length = s.lnk.links.length := by
  obtain h | ⟨f, h⟩ := prbsCheck_cases (s := s) (n := n)
  · rw [h]
  · rw [h, modLk_length]

/-- What a pattern test generates and checks stays when its link leaves the test. -/
theorem endTest_prbs (k : Nat) : ((s.endTest n).lk k).prbs = (s.lk k).prbs := by
  unfold State.endTest
  extract_lets l
  split
  · split
    · refine lk_modLk_keeps Lk.prbs (fun l => ?_) k
      rw [relink_prbs]
    · refine lk_modLk_keeps Lk.prbs (fun l => ?_) k
      rw [relink_prbs]
  · rfl

/-- A link on which LINK_PRBS starts a test. -/
def Lk.starts (j : Job) (now : Nat) (l : Lk) : Lk :=
  { l with
    st := 4
    prbs := { l.prbs with
      generate := j.u8 2 ≠ 2, check := j.u8 2 ≠ 1, pattern := j.u8 3, lanes := j.u8 4, since := now
      rate := j.u8 7, errors := if j.u8 2 = 1 then l.prbs.errors else List.replicate 8 0, lock := List.replicate 8 false } }

theorem prbsAct_start (h1 : 1 ≤ j.u8 2) (h3 : j.u8 2 ≤ 3) : s.prbsAct j = s.modLk (idIndex (j.u16 0)) (Lk.starts j s.now) := by
  obtain h | h | h : j.u8 2 = 1 ∨ j.u8 2 = 2 ∨ j.u8 2 = 3 := by omega
  all_goals
    unfold State.prbsAct Lk.starts
    rw [h]
    rfl

theorem prbsAct_stop (h : j.u8 2 = 0) : s.prbsAct j = ((s.prbsCheck (idIndex (j.u16 0))).modLk (idIndex (j.u16 0)) fun l =>
    { l with prbs := { l.prbs with generate := false, check := false } }).endTest (idIndex (j.u16 0)) := by
  unfold State.prbsAct
  rw [h]
  rfl

theorem prbsAct_read (h : j.u8 2 = 4) : s.prbsAct j = s.prbsCheck (idIndex (j.u16 0)) := by
  unfold State.prbsAct
  rw [h]
  rfl

theorem prbsAct_clear (h : j.u8 2 = 5) : s.prbsAct j = s.modLk (idIndex (j.u16 0)) fun l => { l with prbs := { l.prbs with
    errors := List.replicate 8 0, injected := List.replicate 8 0, since := s.now } } := by
  unfold State.prbsAct
  rw [h]
  rfl

/-- An action that starts no test is not refused. -/
theorem linkPrbs_acts (h : j.u8 2 = 0 ∨ 3 < j.u8 2) :
    ∃ k, (j.u8 5 = 0 → k = 0) ∧ cmdLinkPrbs.run j s = .ok ((s.prbsAct j).modLk (idIndex (j.u16 0)) (Lk.inject k))
      (prbsReply (idIndex (j.u16 0)) ((s.prbsAct j).modLk (idIndex (j.u16 0)) (Lk.inject k))) := by
  have hno : (decide (1 ≤ j.u8 2) && decide (j.u8 2 ≤ 3)) = false := by
    simp only [Bool.and_eq_false_imp, decide_eq_true_eq, decide_eq_false_iff_not]
    omega
  exact linkPrbs_runs (by simp [hno]) (by simp [hno])

theorem linkPrbs_starts (hfree : s.linkInUse (idIndex (j.u16 0)) = false) (h2 : 2 ≤ (s.lk (idIndex (j.u16 0))).st)
    (h4 : (s.lk (idIndex (j.u16 0))).st ≤ 4) :
    ∃ k, (j.u8 5 = 0 → k = 0) ∧ cmdLinkPrbs.run j s = .ok ((s.prbsAct j).modLk (idIndex (j.u16 0)) (Lk.inject k))
      (prbsReply (idIndex (j.u16 0)) ((s.prbsAct j).modLk (idIndex (j.u16 0)) (Lk.inject k))) := by
  have hst : (s.lk (idIndex (j.u16 0))).st = 2 ∨ (s.lk (idIndex (j.u16 0))).st = 3 ∨ (s.lk (idIndex (j.u16 0))).st = 4 := by omega
  refine linkPrbs_runs (by simp [hfree]) ?_
  obtain h | h | h := hst <;> simp [h]

theorem prbsReply_length : (prbsReply n s).length = 72 := by
  simp [prbsReply, List.length_flatMap, leBytes_length, zeros]

/-- What a test generates and checks stays when errors are injected. -/
theorem inject_generate (k m : Nat) : ((s.modLk n (Lk.inject k)).lk m).prbs.generate = (s.lk m).prbs.generate := by
  refine lk_modLk_keeps (fun l => l.prbs.generate) (fun l => ?_) m
  rw [relink_prbs]
  rfl

theorem inject_check (k m : Nat) : ((s.modLk n (Lk.inject k)).lk m).prbs.check = (s.lk m).prbs.check := by
  refine lk_modLk_keeps (fun l => l.prbs.check) (fun l => ?_) m
  rw [relink_prbs]
  rfl

theorem mapIdx_replicate_zero {f : Nat → Nat → Nat} (hf : ∀ m, f m 0 = 0) (k : Nat) :
    (List.replicate k 0).mapIdx f = List.replicate k 0 :=
  List.ext_getElem (by simp) fun i h1 h2 => by simp [hf]

/-- No error is injected into cleared counters. -/
theorem inject_errors {l : Lk} (h : l.prbs.errors = List.replicate 8 0) : (l.inject 0).prbs.errors = List.replicate 8 0 := by
  unfold Lk.inject
  dsimp only
  rw [h]
  exact mapIdx_replicate_zero (fun m => by split <;> rfl) 8

theorem inject_injected {l : Lk} (h : l.prbs.injected = List.replicate 8 0) : (l.inject 0).prbs.injected = List.replicate 8 0 := by
  unfold Lk.inject
  dsimp only
  rw [h]
  exact mapIdx_replicate_zero (fun m => by split <;> rfl) 8

/-! ### The other commands -/

theorem linkConfig_port (h : j.u8 2 = 0) : cmdLinkConfig.run j s = .ok (linkConfigPort j s) [] := if_pos h

theorem linkConfig_adds (h : j.u8 2 = 1) (hadd : j.u8 3 = 1)
    (hok : s.fwdErr (idIndex (j.u16 0)) (idIndex (j.u16 4)) (j.u16 6) (j.u8 8) = none) : cmdLinkConfig.run j s =
    .ok (s.modLk (idIndex (j.u16 0)) fun l => { l with
      fwds := l.fwds ++ [{ channel := idIndex (j.u16 4), stream := j.u16 6, kind := j.u8 8 }] }) [] := by
  refine (if_neg (by omega)).trans ((if_neg (by omega)).trans ?_)
  dsimp only
  rw [hok]

theorem linkConfig_removes (h : j.u8 2 = 1) (hdel : j.u8 3 = 0) : cmdLinkConfig.run j s =
    .ok (s.modLk (idIndex (j.u16 0)) fun l => { l with
      fwds := l.fwds.filter (· ≠ { channel := idIndex (j.u16 4), stream := j.u16 6, kind := j.u8 8 }) }) [] :=
  (if_neg (by omega)).trans (if_pos hdel)

theorem linkTrain_trains (hjob : (s.lk (idIndex (j.u16 0))).job = none)
    (hst : (s.lk (idIndex (j.u16 0))).st = 1 ∨ (s.lk (idIndex (j.u16 0))).st = 2 ∨ (s.lk (idIndex (j.u16 0))).st = 3) :
    cmdLinkTrain.run j s = .later ((if (s.lk (idIndex (j.u16 0))).st = 2 then
      s.retrain (idIndex (j.u16 0)) 6 0xFF (j.u8 2 = 1) else s.trainLink (idIndex (j.u16 0)) (j.u8 2 = 1)).modLk
        (idIndex (j.u16 0)) fun l => { l with job := some j }) := by
  refine (if_neg (by simp [hjob])).trans (if_neg ?_)
  obtain h | h | h := hst <;> simp [h]

theorem linkTxeq_sets (h : j.u8 2 = 0) : cmdLinkTxeq.run j s = .ok (s.forEach (List.range (j.u8 3)) fun i y =>
    y.modLk (idIndex (j.u16 0)) fun l => { l with
      taps := l.taps.set (j.u8 (8 + 4 * i)) { pre := j.u8 (9 + 4 * i), main := j.u8 (10 + 4 * i), post := j.u8 (11 + 4 * i) } }) [] := by
  have h9 : ∀ i, 8 + 4 * i + 1 = 9 + 4 * i := fun i => by omega
  have h10 : ∀ i, 8 + 4 * i + 2 = 10 + 4 * i := fun i => by omega
  have h11 : ∀ i, 8 + 4 * i + 3 = 11 + 4 * i := fun i => by omega
  simp only [cmdLinkTxeq, h, h9, h10, h11]

theorem linkTxeq_searches (h : j.u8 2 = 1) (h0 : (s.lk (idIndex (j.u16 0))).st ≠ 0) (h4 : (s.lk (idIndex (j.u16 0))).st ≠ 4)
    (h5 : (s.lk (idIndex (j.u16 0))).st ≠ 5) : cmdLinkTxeq.run j s = .ok (if (s.lk (idIndex (j.u16 0))).st = 2 then
      s.retrain (idIndex (j.u16 0)) 6 0xFF true else s.trainLink (idIndex (j.u16 0)) true) [] := by
  simp only [cmdLinkTxeq, h]
  exact if_neg (by simp [h0, h4, h5])

theorem linkTxeq_resets (h : j.u8 2 = 2) : cmdLinkTxeq.run j s =
    .ok (s.modLk (idIndex (j.u16 0)) fun l => { l with taps := List.replicate 8 {} }) [] := by
  simp only [cmdLinkTxeq, h]

/-- The policy that LINK_LOWPOWER stores. -/
def State.setPolicy (s : State) (j : Job) : State :=
  s.modLk (idIndex (j.u16 0)) fun l => { l with
    policy := j.u8 2, idleNs := if j.u16 4 = 0 then 1000 else j.u16 4, sleepUs := if j.u16 6 = 0 then 100 else j.u16 6
    quietSince := s.now }

theorem linkLowpower_off (h : j.u8 2 = 3) (hfree : s.linkInUse (idIndex (j.u16 0)) = false) :
    cmdLinkLowpower.run j s = .ok ((s.setPolicy j).linkOff (idIndex (j.u16 0))) [] :=
  (if_neg (by simp [hfree])).trans (if_pos h)

theorem linkLowpower_on (h : j.u8 2 ≠ 3) : cmdLinkLowpower.run j s =
    .ok (if (s.lk (idIndex (j.u16 0))).st = 5 && (s.lk (idIndex (j.u16 0))).rxPower ≠ 3 then
      ((s.setPolicy j).modLk (idIndex (j.u16 0)) fun l => { l with
        txPower := if l.txPower = 3 || j.u8 2 < l.txPower then 0 else l.txPower }).trainLink (idIndex (j.u16 0)) false
      else (s.setPolicy j).modLk (idIndex (j.u16 0)) fun l => { l with
        txPower := if l.txPower = 3 || j.u8 2 < l.txPower then 0 else l.txPower }) [] :=
  (if_neg (by simp [h])).trans (if_neg h)

theorem linkLoop_starts (h : j.u8 2 ≠ 0) (hfree : s.linkInUse (idIndex (j.u16 0)) = false)
    (h2 : 2 ≤ (s.lk (idIndex (j.u16 0))).st) (h4 : (s.lk (idIndex (j.u16 0))).st ≤ 4) : cmdLinkLoop.run j s =
    .ok (s.modLk (idIndex (j.u16 0)) fun l => { l with
      st := 4, loop := j.u8 2, loopUntil := if j.u32 4 = 0 then none else some (s.now + j.u32 4 * 1000000) }) [] := by
  refine (if_neg h).trans ((if_neg (by simp [hfree])).trans (if_neg ?_))
  have hst : (s.lk (idIndex (j.u16 0))).st = 2 ∨ (s.lk (idIndex (j.u16 0))).st = 3 ∨ (s.lk (idIndex (j.u16 0))).st = 4 := by omega
  obtain h | h | h := hst <;> simp [h]

theorem linkLoop_ends (h : j.u8 2 = 0) : cmdLinkLoop.run j s =
    .ok ((s.modLk (idIndex (j.u16 0)) fun l => { l with loop := 0, loopUntil := none }).endTest (idIndex (j.u16 0))) [] := if_pos h

end

/-! ### The rows -/

theorem isRow_linkConfig : IsRow .linkConfig cmdLinkConfig := fun _ _ _ => rfl
theorem isRow_linkTrain : IsRow .linkTrain cmdLinkTrain := fun _ _ _ => rfl
theorem isRow_linkTxeq : IsRow .linkTxeq cmdLinkTxeq := fun _ _ _ => rfl
theorem isRow_linkLowpower : IsRow .linkLowpower cmdLinkLowpower := fun _ _ _ => rfl
theorem isRow_linkLoop : IsRow .linkLoop cmdLinkLoop := fun _ _ _ => rfl
theorem isRow_linkPrbs : IsRow .linkPrbs cmdLinkPrbs := fun _ _ _ => rfl
theorem isRow_linkStatus : IsRow .linkStatus cmdLinkStatus := fun _ _ _ => rfl

/-- Settles O29: each command by its run; of pattern tests, what the link holds after the action and the injected errors. -/
theorem linkCommands : Obligations.LinkCommands := by
  unfold Obligations.LinkCommands
  refine ⟨?port, ?add, ?remove, ?train, ?taps, ?search, ?reset, ?policy, ?loop, ?endLoop, ?start, ?stop, ?read, ?clear, ?status⟩
  case port =>
    refine Runs.of isRow_linkConfig fun j s _ _ _ h => ⟨_, _, linkConfig_port h, rfl, ?_⟩
    rintro n old s1 s2 rfl rfl rfl rfl
    rfl
  case add =>
    refine Runs.of isRow_linkConfig ?_
    rintro j s - - - ⟨h, hadd, hok⟩
    exact ⟨_, _, linkConfig_adds h hadd hok, rfl, rfl⟩
  case remove =>
    refine Runs.of isRow_linkConfig ?_
    rintro j s - - - ⟨h, hdel⟩
    exact ⟨_, _, linkConfig_removes h hdel, rfl, rfl⟩
  case train =>
    refine RunsLater.of isRow_linkTrain ?_
    rintro j s - - - ⟨hjob, hst⟩
    exact ⟨_, linkTrain_trains hjob hst, rfl⟩
  case taps => exact Runs.of isRow_linkTxeq fun j s _ _ _ h => ⟨_, _, linkTxeq_sets h, rfl, rfl⟩
  case search =>
    refine Runs.of isRow_linkTxeq ?_
    rintro j s - - - ⟨h, h0, h4, h5⟩
    exact ⟨_, _, linkTxeq_searches h h0 h4 h5, rfl, rfl⟩
  case reset => exact Runs.of isRow_linkTxeq fun j s _ _ _ h => ⟨_, _, linkTxeq_resets h, rfl, rfl⟩
  case policy =>
    rintro m rfl
    refine ⟨Runs.of isRow_linkLowpower ?_, Runs.of isRow_linkLowpower ?_⟩
    · rintro j s - - - ⟨h, hfree⟩
      exact ⟨_, _, linkLowpower_off h hfree, rfl, rfl⟩
    · rintro j s - - - h
      refine ⟨_, _, linkLowpower_on h, rfl, ?_⟩
      rintro s2 rfl
      rfl
  case loop =>
    refine Runs.of isRow_linkLoop ?_
    rintro j s - - - ⟨h, hfree, h2, h4⟩
    exact ⟨_, _, linkLoop_starts h hfree h2 h4, rfl, rfl⟩
  case endLoop => exact Runs.of isRow_linkLoop fun j s _ _ _ h => ⟨_, _, linkLoop_ends h, rfl, rfl⟩
  case start =>
    refine Runs.of isRow_linkPrbs ?_
    rintro j s - - - ⟨h1, h3, hone, hfree, h2, h4⟩
    obtain ⟨k, hk, hrun⟩ := linkPrbs_starts hfree h2 h4
    refine ⟨_, _, hrun, ?_⟩
    rw [prbsAct_start h1 h3]
    refine ⟨(s.modLk (idIndex (j.u16 0)) (Lk.starts j s.now)).relink (Lk.inject k) (s.relink (Lk.starts j s.now) (s.lk (idIndex (j.u16 0)))),
      ?_, fun _ => ?_, rfl, prbsReply_length⟩
    · rw [modLk_links, modLk_links, modAt_modAt]
      exact modAt_congr _ _ _ _ {} rfl
    · have hprbs := relink_prbs (s := s) (f := Lk.starts j s.now) (l := s.lk (idIndex (j.u16 0)))
      refine ⟨?_, ?_⟩
      · rw [relink_st]
        exact relink_st
      · rw [relink_prbs]
        exact ⟨congrArg Prbs.generate hprbs, congrArg Prbs.check hprbs, congrArg Prbs.pattern hprbs, congrArg Prbs.lanes hprbs,
          congrArg Prbs.since hprbs⟩
  case stop =>
    refine Runs.of isRow_linkPrbs ?_
    rintro j s - - - h
    obtain ⟨k, -, hrun⟩ := linkPrbs_acts (s := s) (.inl h)
    refine ⟨_, _, hrun, fun hn => ?_⟩
    have hlen : idIndex (j.u16 0) < (s.prbsCheck (idIndex (j.u16 0))).lnk.links.length := by rwa [prbsCheck_length]
    rw [inject_generate, inject_check, prbsAct_stop h, endTest_prbs, lk_modLk hlen, relink_prbs]
    exact ⟨rfl, rfl⟩
  case read =>
    refine Runs.of isRow_linkPrbs ?_
    rintro j s - - - ⟨h, -⟩
    obtain ⟨k, -, hrun⟩ := linkPrbs_acts (s := s) (.inr (by omega : 3 < j.u8 2))
    refine ⟨_, _, hrun, ?_⟩
    rw [prbsAct_read h, prbsCheck_only]
    rfl
  case clear =>
    refine Runs.of isRow_linkPrbs ?_
    rintro j s - - - ⟨h, hone⟩
    obtain ⟨k, hk, hrun⟩ := linkPrbs_acts (s := s) (.inr (by omega : 3 < j.u8 2))
    obtain rfl := hk hone
    refine ⟨_, _, hrun, fun hn => ?_⟩
    rw [prbsAct_clear h, lk_modLk (by rwa [modLk_length]), lk_modLk hn, relink_prbs]
    refine ⟨inject_errors ?_, inject_injected ?_, ?_⟩
    · rw [relink_prbs]
    · rw [relink_prbs]
    · exact congrArg Prbs.since relink_prbs
  case status =>
    refine Runs.of isRow_linkStatus fun j s _ _ _ _ => ⟨_, _, rfl, rfl, ?_⟩
    rintro l rfl
    rfl

end Sys2Proof.Machine
end

section
/-! PROOF. Events of Lacing links (spec/19): trainings, retraining, loss, power of a direction, beacons and margins, and the statement
that gathers them. -/
namespace Sys2Proof.Machine

section
variable {s : State} {n : Nat}

/-! ### Trainings (R438, R439) -/

/-- A link that a good training makes ACTIVE. -/
def Lk.trained (r : LinkTrainResult) (now : Nat) (l : Lk) : Lk :=
  { l with
    st := 2, peerId := r.peerId, peerSerial := r.peerSerial, peerPresent := true, peerCredits := r.peerCredits
    transit := (r.roundTrip + 1) / 2, fom := r.fom.map sat16, skew := r.skew, leftActive := none, resendRun := 0
    rxPower := 0, txPower := 0, quietSince := now
    taps := if l.tapSearch then r.search.map bestTaps else l.taps }

/-- A link whose training failed. -/
def Lk.failed (r : LinkTrainResult) (now : Nat) (l : Lk) : Lk :=
  { l with st := 3, retryAt := now + 100000000, peerPresent := false, skew := r.skew }

theorem linkTrained_good {r : LinkTrainResult} (hn : n < 4) (hst : (s.lk n).st = 1) (hjob : (s.lk n).job = none)
    (hreplay : (s.lk n).replay = []) (hpol : (s.lk n).policy ≠ 3) (hlen : n < s.lnk.links.length)
    (hres : s.trainResult (s.lk n) r = 0) : linkTrained n r s =
    (s.modLk n (Lk.trained r s.now)).evtLink n 1 0 0xFF ((r.roundTrip + 1) / 2) (r.fom.min?.getD 0) := by
  unfold linkTrained
  extract_lets l result us s1 s2 s3 s4
  have hact : s1 = s.modLk n (Lk.trained r s.now) := rfl
  have htransit : (s1.lk n).transit = (r.roundTrip + 1) / 2 := by
    rw [hact, lk_modLk hlen, relink_transit]
    rfl
  have h3 : s3 = s2 := if_pos (by simp [l, hreplay])
  have h4 : s4 = s2 := (if_pos hres).trans ((if_neg (by simp [l, hpol])).trans h3)
  refine (if_neg (by simp [l, hn, hst])).trans ?_
  rw [show l.job = none from hjob]
  exact h4.trans (by unfold s2; rw [htransit, hact])

theorem linkTrained_bad {r : LinkTrainResult} (hn : n < 4) (hst : (s.lk n).st = 1) (hjob : (s.lk n).job = none)
    (hres : s.trainResult (s.lk n) r ≠ 0) : linkTrained n r s =
    (s.modLk n (Lk.failed r s.now)).evtLink n 3 (s.trainResult (s.lk n) r) 0xFF 0 0 := by
  unfold linkTrained
  extract_lets l result us s1 s2 s3 s4
  have h4 : s4 = (s.modLk n (Lk.failed r s.now)).evtLink n 3 (s.trainResult (s.lk n) r) 0xFF 0 0 := if_neg hres
  refine (if_neg (by simp [l, hn, hst])).trans ?_
  rw [show l.job = none from hjob]
  exact h4

/-- Nothing wrong with a training (R439). -/
theorem trainResult_good {l : Lk} {r : LinkTrainResult} (hr : r.result = 0)
    (hin : s.now ≤ l.trainingAt + (if l.tapSearch then 11100000 else 2100000)) (hself : r.peerId ≠ s.lnk.localId)
    (hpeer : l.peerCfg = 0xFF ∨ r.peerId = l.peerCfg) (hc : creditsOk r.peerCredits = true) (ho : creditsOk l.credits = true) :
    s.trainResult l r = 0 := by
  refine (if_neg (not_not.2 hr)).trans ((if_neg (Nat.not_lt.2 hin)).trans ((if_neg ?_).trans (if_neg (by simp [hc, ho]))))
  obtain h | h := hpeer
  · simp [hself, h]
  · simp [hself, ← h]

theorem trainResult_late {l : Lk} {r : LinkTrainResult} (hr : r.result = 0)
    (hlate : l.trainingAt + (if l.tapSearch then 11100000 else 2100000) < s.now) : s.trainResult l r = 7 :=
  (if_neg (not_not.2 hr)).trans (if_pos hlate)

theorem trainResult_found {l : Lk} {r : LinkTrainResult} (hr : r.result ≠ 0) : s.trainResult l r = r.result := if_pos hr

/-- A link with nothing to send has nothing to send after a change that keeps its queue. -/
theorem modLk_queue {f : Lk → Lk} (hf : ∀ l, (f l).queue = l.queue) (k : Nat) : ((s.modLk n f).lk k).queue = (s.lk k).queue := by
  refine lk_modLk_keeps Lk.queue (fun l => ?_) k
  rw [relink_queue, hf]

/-! ### Retries, triggers and loss (R437, R438, R443) -/

theorem linkRetry_due (hn : n < 4) (hst : (s.lk n).st = 3) (hen : (s.lk n).enable = true) (hat : (s.lk n).retryAt ≤ s.now) :
    linkRetry n s = s.trainLink n false := if_pos (by simp [hn, hst, hen, hat])

theorem linkTrigger_retrains {cause lane : Nat} (hn : n < 4) (hst : (s.lk n).st = 2) (h1 : 1 ≤ cause) (h5 : cause ≤ 5)
    (hlos : cause = 1 → (s.lk n).rxPower < 2) (hrun : cause = 3 → 8 ≤ (s.lk n).resendRun)
    (hbad : cause = 4 → ∃ b ∈ (s.lk n).badRun, 3 ≤ b) : linkTrigger n cause lane s =
    (s.modLk n fun l => { l with
      los := l.los + b2n (cause = 1 && l.los < 65535), lol := l.lol + b2n (cause = 2 && l.lol < 65535) }).retrain n cause lane false := by
  refine (if_neg (by simp [hn, hst, h1, h5])).trans ((if_neg ?_).trans ((if_neg ?_).trans (if_neg ?_)))
  · simpa using hlos
  · simpa using hrun
  · simpa using hbad

theorem linkLoss_due {at_ : Nat} (hleft : (s.lk n).leftActive = some at_) (hst : (s.lk n).st ≠ 2) (hold : at_ + nsPerSec ≤ s.now) :
    linkLoss n s = s.modLk n Lk.discard := by
  unfold linkLoss
  rw [hleft]
  exact if_pos (by simp [hst, hold])

theorem linkLoopExpiry_due {at_ : Nat} (hloop : (s.lk n).loopUntil = some at_) (hold : at_ ≤ s.now) :
    linkLoopExpiry n s = (s.modLk n fun l => { l with loop := 0, loopUntil := none }).endTest n := by
  unfold linkLoopExpiry
  rw [hloop]
  exact if_pos hold

/-! ### Power of a direction (R445) -/

theorem linkIdle_due (hn : n < 4) (hst : (s.lk n).st = 2) (hpol : (s.lk n).policy = 1 ∨ (s.lk n).policy = 2)
    (htx : (s.lk n).txPower = 0) (hreplay : (s.lk n).replay = []) (hqueue : (s.lk n).queue = [])
    (hquiet : (s.lk n).quietSince + (s.lk n).idleNs ≤ s.now) :
    linkIdle n s = (s.sendLlc n false 1).modLk n fun l => { l with txPower := 1, idleSince := s.now } := by
  refine if_pos ?_
  obtain h | h := hpol <;> simp [hn, hst, h, htx, hreplay, hqueue, hquiet]

theorem linkSleep_due (hn : n < 4) (hst : (s.lk n).st = 2) (hpol : (s.lk n).policy = 2) (htx : (s.lk n).txPower = 1)
    (hidle : (s.lk n).idleSince + (s.lk n).sleepUs * 1000 ≤ s.now) :
    linkSleep n s = (s.sendLlc n false 2).modLk n fun l => { l with txPower := 2 } := if_pos (by simp [hn, hst, hpol, htx, hidle])

/-! ### Margins (R442, R443) -/

/-- The figure of merit of a lane, from its eye width and height. -/
def laneFom (margins : List Nat) (k : Nat) : Nat :=
  sat16 (min (1000 * margins.getD (2 * k) 0 / 300) (1000 * margins.getD (2 * k + 1) 0 / 30))

/-- A link with the margins that a measurement found. -/
def Lk.measured (margins : List Nat) (l : Lk) : Lk :=
  { l with
    fom := (List.range 8).map (laneFom margins)
    eyeW := sat16 (((List.range 8).map fun k => margins.getD (2 * k) 0).min?.getD 0)
    eyeH := sat16 (((List.range 8).map fun k => margins.getD (2 * k + 1) 0).min?.getD 0)
    badRun := (List.range 8).map fun k => if laneFom margins k < 250 then l.badRun.getD k 0 + 1 else 0
    marginLow := (List.range 8).map fun k => laneFom margins k < 1000 || (l.marginLow.getD k false && laneFom margins k < 1100) }

theorem forEach_evtLink_delivers (lanes : List Nat) (fom : Nat → Nat) :
    Delivers s (s.forEach lanes fun k y => y.evtLink n 5 0 k (fom k) 0) :=
  Delivers.forEach (fun k u => evtLink_delivers u n 5 0 k (fom k) 0) lanes s

/-- No lane of a link with good margins has a run of bad ones. -/
theorem badRun_good {margins : List Nat} (hgood : ∀ k < 8, 250 ≤ laneFom margins k) (l : Lk) (k : Nat) :
    (l.measured margins).badRun.getD k 0 = 0 := by
  have hall : (l.measured margins).badRun = (List.range 8).map fun _ => 0 :=
    List.map_congr_left fun k hk => if_neg (Nat.not_lt.2 (hgood k (List.mem_range.1 hk)))
  rw [hall, List.getD_eq_getElem?_getD, List.getElem?_map]
  cases (List.range 8)[k]? <;> rfl

theorem marginMeasure_good {margins : List Nat} (hn : n < 4) (hst : (s.lk n).st = 2) (hgood : ∀ k < 8, 250 ≤ laneFom margins k)
    (hlen : n < s.lnk.links.length) : marginMeasure n margins s =
    (s.modLk n (Lk.measured margins)).forEach
      ((List.range 8).filter fun k => laneFom margins k < 1000 && !(s.lk n).marginLow.getD k false)
      fun k y => y.evtLink n 5 0 k (laneFom margins k) 0 := by
  unfold marginMeasure
  extract_lets l w h fom lanes s1 s2
  refine (if_neg (by simp [l, hn, hst])).trans ?_
  have h2 : s2 = (s.modLk n (Lk.measured margins)).forEach
      ((List.range 8).filter fun k => laneFom margins k < 1000 && !(s.lk n).marginLow.getD k false)
      fun k y => y.evtLink n 5 0 k (laneFom margins k) 0 := rfl
  have hlk : (s2.lk n).badRun = ((s.lk n).measured margins).badRun := by
    rw [h2]
    unfold State.lk
    rw [(forEach_evtLink_delivers _ _).lnk_eq]
    exact (congrArg Lk.badRun (lk_modLk hlen)).trans relink_badRun
  have hnone : (lanes.find? fun k => decide ((s2.lk n).badRun.getD k 0 ≥ 3)) = none := by
    refine List.find?_eq_none.2 fun k _ => ?_
    rw [hlk, badRun_good hgood]
    decide
  rw [hnone]
  exact h2

/-! ### Beacons (R451) -/

/-- A link that has heard a beacon. -/
def Lk.heard (b : Beacon) (s : State) (o : Int) (l : Lk) : Lk :=
  { l with
    offsets := (o :: l.offsets).take 64, lastBeacon := some s.now, stitchDelta := b.stitch - s.stitch
    peerEstablished := b.established, peerUnproven := b.unproven, peerUdev := b.uDev }

theorem linkMisaligned_due (hn : n < 4) (hal : (s.lk n).aligned = true) (hno : s.linkAligned (s.lk n) = false) :
    linkMisaligned n s = (s.modLk n fun l => { l with aligned := false }).evtLink n 6 0 0xFF ((s.lk n).offsets.headD 0).natAbs 0 :=
  if_pos (by simp [hn, hal, hno])

end

/-! ### The rows -/

theorem exec_linkTrainingComplete (t n : Nat) (r : LinkTrainResult) (s : State) :
    exec (.linkTrainingComplete t n r) s = .next (settle ((linkTrained n r (s.tick t)).drainLink n)) := rfl
theorem exec_linkRetryTimer (t n : Nat) (s : State) : exec (.linkRetryTimer t n) s = .next (settle (linkRetry n (s.tick t))) := rfl
theorem exec_linkRetrainTrigger (t n cause lane : Nat) (s : State) :
    exec (.linkRetrainTrigger t n cause lane) s = .next (settle (linkTrigger n cause lane (s.tick t))) := rfl
theorem exec_linkActiveLossTimeout (t n : Nat) (s : State) :
    exec (.linkActiveLossTimeout t n) s = .next (settle (linkLoss n (s.tick t))) := rfl
theorem exec_linkLoopExpiry (t n : Nat) (s : State) :
    exec (.linkLoopExpiry t n) s = .next (settle (linkLoopExpiry n (s.tick t))) := rfl
theorem exec_linkIdleEntry (t n : Nat) (s : State) : exec (.linkIdleEntry t n) s = .next (settle (linkIdle n (s.tick t))) := rfl
theorem exec_linkSleepEntry (t n : Nat) (s : State) : exec (.linkSleepEntry t n) s = .next (settle (linkSleep n (s.tick t))) := rfl
theorem exec_marginMeasure (t n : Nat) (m : List Nat) (s : State) :
    exec (.marginMeasure t n m) s = .next (settle (marginMeasure n m (s.tick t))) := rfl
theorem exec_beaconReceive (t n : Nat) (b : Beacon) (s : State) :
    exec (.beaconReceive t n b) s = .next (settle (linkBeacon n b (s.tick t))) := rfl
theorem exec_linkMisaligned (t n : Nat) (s : State) :
    exec (.linkMisaligned t n) s = .next (settle (linkMisaligned n (s.tick t))) := rfl

/-- A training that ends on a link with an empty queue leaves nothing to send. -/
theorem exec_linkTrainingComplete_quiet {t n : Nat} {r : LinkTrainResult} {s : State} {f : Lk → Lk} {a b c d e : Nat}
    (hqueue : ((s.tick t).lk n).queue = []) (hf : ∀ l, (f l).queue = l.queue)
    (h : linkTrained n r (s.tick t) = ((s.tick t).modLk n f).evtLink n a b c d e) :
    exec (.linkTrainingComplete t n r) s = .next (settle (((s.tick t).modLk n f).evtLink n a b c d e)) := by
  rw [exec_linkTrainingComplete, h, drainLink_empty]
  rw [evtLink_lk, modLk_queue hf, hqueue]

/-- Settles O30: each event from its meaning on the ticked state; a training by its result. -/
theorem linkTrainingRows : Obligations.LinkTrainingRows := by
  unfold Obligations.LinkTrainingRows
  refine ⟨?training, ?retry, ?trigger, ?loss, ?loop, ?idle, ?sleep, ?margin, ?beacon, ?misaligned⟩
  case training =>
    rintro t n r s0 s l rfl hn rfl hst hjob hreplay hqueue hlen
    refine ⟨?_, fun hr => ?_⟩
    · rintro limit rfl hr
      refine ⟨fun hin hpol hself hpeer hc ho => ?_, fun hlate => ?_⟩
      · exact exec_linkTrainingComplete_quiet (f := Lk.trained r (s0.tick t).now) hqueue (fun _ => rfl)
          (linkTrained_good hn hst hjob hreplay hpol hlen (trainResult_good hr hin hself hpeer hc ho))
      · have hres := trainResult_late hr hlate
        have hend := linkTrained_bad hn hst hjob (r := r) (by rw [hres]; decide)
        rw [hres] at hend
        exact exec_linkTrainingComplete_quiet (f := Lk.failed r (s0.tick t).now) hqueue (fun _ => rfl) hend
    · have hres := trainResult_found (s := s0.tick t) (l := (s0.tick t).lk n) hr
      have hend := linkTrained_bad hn hst hjob (r := r) (by rw [hres]; exact hr)
      rw [hres] at hend
      exact exec_linkTrainingComplete_quiet (f := Lk.failed r (s0.tick t).now) hqueue (fun _ => rfl) hend
  case retry =>
    rintro t n s0 s l rfl hn rfl hst hen hat
    rw [exec_linkRetryTimer, linkRetry_due hn hst hen hat]
    rfl
  case trigger =>
    rintro t n cause lane s0 s l rfl hn rfl hst h1 h5 hlos hrun hbad
    rw [exec_linkRetrainTrigger, linkTrigger_retrains hn hst h1 h5 hlos hrun hbad]
  case loss =>
    rintro t n s0 s at_ rfl hleft hst hold
    rw [exec_linkActiveLossTimeout, linkLoss_due hleft hst hold]
  case loop =>
    rintro t n s0 s at_ rfl hloop hold
    rw [exec_linkLoopExpiry, linkLoopExpiry_due hloop hold]
  case idle =>
    rintro t n s0 s l rfl hn rfl hst hpol htx hreplay hqueue hquiet
    rw [exec_linkIdleEntry, linkIdle_due hn hst hpol htx hreplay hqueue hquiet]
  case sleep =>
    rintro t n s0 s l rfl hn rfl hst hpol htx hidle
    rw [exec_linkSleepEntry, linkSleep_due hn hst hpol htx hidle]
  case margin =>
    rintro t n margins s0 s l fom s1 rfl hn rfl hst rfl rfl hgood hlen
    rw [exec_marginMeasure, marginMeasure_good hn hst hgood hlen]
    rfl
  case beacon =>
    rintro t n b s0 s l o rfl hn rfl hst rfl
    refine ⟨((s0.tick t).modLk n (Lk.heard b (s0.tick t) (((s0.tick t).local : Int) - ((s0.tick t).lk n).transit - b.timeNs))).linkAligned
      (((s0.tick t).modLk n (Lk.heard b (s0.tick t) (((s0.tick t).local : Int) - ((s0.tick t).lk n).transit - b.timeNs))).lk n), ?_⟩
    rintro s1 rfl
    refine ⟨rfl, ?_⟩
    rw [exec_beaconReceive]
    unfold linkBeacon
    rw [if_neg (by simp [hn, hst])]
    rfl
  case misaligned =>
    rintro t n s0 s l rfl hn rfl hal hno
    rw [exec_linkMisaligned, linkMisaligned_due hn hal hno]

end Sys2Proof.Machine
end

section
/-! PROOF. Flits and messages of Lacing links (spec/19 R432-R436, R449-R453): what a flit does to its link, resends, forwarded
messages, and the statement that gathers them. -/
namespace Sys2Proof.Machine

section
variable {s : State} {n : Nat}

/-! ### Flits (R432, R436) -/

/-- A flit of 64 bytes whose CRC is right. -/
def flitSound (f : Flit) : Prop := f.bytes.length = 64 ∧ uAt f.bytes 60 4 = crc32c (f.bytes.take 60)

theorem flitSound_iff {f : Flit} : flitSound f ↔ ¬(f.bytes.length ≠ 64 ∨ uAt f.bytes 60 4 ≠ crc32c (f.bytes.take 60)) := by
  unfold flitSound
  tauto

theorem receiving_of {s : State} {n : Nat} (hn : n < 4) (hst : (s.lk n).st = 2 ∨ (s.lk n).st = 5) :
    ¬(!(decide (n < 4) && (decide ((s.lk n).st = 2) || decide ((s.lk n).st = 5)))) = true := by
  obtain h | h := hst <;> simp [hn, h]

theorem flitReceive_bad {f : Flit} (hn : n < 4) (hst : (s.lk n).st = 2 ∨ (s.lk n).st = 5)
    (hbad : f.bytes.length ≠ 64 ∨ uAt f.bytes 60 4 ≠ crc32c (f.bytes.take 60))
    (hquiet : byteAt f.bytes 0 / 16 ≠ 1 ∨ (s.lk n).discarding = true) :
    flitReceive n f s = s.modLk n fun l => { l with crcErrors := l.crcErrors + 1 } := by
  unfold flitReceive
  extract_lets l type vc nak s1
  refine (if_neg (receiving_of hn hst)).trans ((if_pos (by simpa using hbad)).trans ?_)
  obtain h | h := hquiet
  · exact if_neg h
  · have hnak : nak s1 = s1 := if_pos h
    rw [hnak, ite_self]

/-- A DATA flit out of order is answered with one NAK. -/
theorem flitReceive_gap {f : Flit} (hn : n < 4) (hst : (s.lk n).st = 2 ∨ (s.lk n).st = 5) (hf : flitSound f)
    (htype : byteAt f.bytes 0 / 16 = 1) (hseq : byteAt f.bytes 1 ≠ (s.lk n).rxSeq) (hdis : (s.lk n).discarding = false) :
    flitReceive n f s = (s.sendLlc n true 0).modLk n fun l => { l with discarding := true } := by
  unfold flitReceive
  extract_lets l type vc nak s1 s2
  refine (if_neg (receiving_of hn hst)).trans ((if_neg (by simpa using flitSound_iff.1 hf)).trans ?_)
  rw [show type = 1 from htype]
  exact (if_pos hseq).trans (if_neg (by simp [l, hdis]))

/-- A link that has received a DATA flit in order on a virtual channel. -/
def Lk.received (s : State) (vc : Nat) (l : Lk) : Lk :=
  { l with
    rxSeq := (l.rxSeq + 1) % 256, rxFlits := l.rxFlits + 1, unacked := l.unacked + 1, discarding := false
    unackedAt := if l.unacked = 0 then s.now else l.unackedAt, freed := modAt l.freed vc fun x => (x + 1) % m16
    rxAny := true, lastRx23 := if vc ≥ 2 then s.stitch else l.lastRx23
    rxPower := if l.rxPower = 3 then 3 else 0 }

theorem flitReceive_next {f : Flit} (hn : n < 4) (hst : (s.lk n).st = 2 ∨ (s.lk n).st = 5) (hf : flitSound f)
    (htype : byteAt f.bytes 0 / 16 = 1) (hseq : byteAt f.bytes 1 = (s.lk n).rxSeq) (hlen : n < s.lnk.links.length) :
    flitReceive n f s = if 64 ≤ (s.lk n).unacked + 1 then
      (s.modLk n (Lk.received s (byteAt f.bytes 0 / 4 % 4))).sendLlc n false 0
      else s.modLk n (Lk.received s (byteAt f.bytes 0 / 4 % 4)) := by
  unfold flitReceive
  extract_lets l type vc nak s1 s2
  refine (if_neg (receiving_of hn hst)).trans ((if_neg (by simpa using flitSound_iff.1 hf)).trans ?_)
  rw [show type = 1 from htype]
  have h2 : s2 = s.modLk n (Lk.received s (byteAt f.bytes 0 / 4 % 4)) := rfl
  have hun : (s2.lk n).unacked = (s.lk n).unacked + 1 := by
    rw [h2, lk_modLk hlen, relink_unacked]
    rfl
  refine (if_neg (not_not.2 hseq)).trans ?_
  rw [hun, h2]

/-! ### Acknowledgements and resends (R433, R435, R436) -/

/-- Flits that an LLC acknowledges. -/
def Lk.acked (l : Lk) (p : List Byte) : Nat :=
  if (byteAt p 1).testBit 1 then (match l.replay.findIdx? fun x => x.seq = byteAt p 0 with
    | some i => i + 1
    | none => 0) else 0

/-- A link that has received an LLC. -/
def Lk.acks (s : State) (p : List Byte) (counts : Bool) (gone : Nat) (l : Lk) : Lk :=
  { l with
    replay := l.replay.drop gone, peerFreed := (List.range 4).map fun v => uAt p (2 + 2 * v) 2, rxPower := bits (byteAt p 1) 3 2
    resendRun := if gone > 0 then 0 else l.resendRun, oldestAt := if gone > 0 then s.now else l.oldestAt
    lastRx23 := if counts then s.stitch else l.lastRx23 }

theorem llcReceive_plain {p : List Byte} (hn : n < 4) (hst : (s.lk n).st = 2) (hack : byteAt p 1 % 2 = 0) (hon : bits (byteAt p 1) 3 2 ≠ 3)
    (hlen : n < s.lnk.links.length) : ∃ counts, llcReceive n p s = s.modLk n (Lk.acks s p counts ((s.lk n).acked p)) := by
  unfold llcReceive
  extract_lets l ack f pos gone newFreed counts s1 s2 l1
  refine ⟨counts, (if_neg (receiving_of hn (.inl hst))).trans ?_⟩
  have h1 : s1 = s.modLk n (Lk.acks s p counts ((s.lk n).acked p)) := rfl
  have hno : f.testBit 0 = false := by
    rw [Nat.testBit_zero]
    simp [f, hack]
  have h2 : s2 = s1 := if_neg (by simp [hno])
  have hlk : l1.st = 2 ∧ l1.rxPower = bits (byteAt p 1) 3 2 := by
    unfold l1
    rw [h2, h1, lk_modLk hlen, relink_st, relink_rxPower]
    exact ⟨hst, rfl⟩
  exact (if_neg (by simp [hlk, hon])).trans ((if_neg (by simp [hlk])).trans (h2.trans h1))

theorem acked_found {l : Lk} {p : List Byte} {i : Nat} (hb : (byteAt p 1).testBit 1 = true)
    (hi : l.replay.findIdx? (fun x => x.seq = byteAt p 0) = some i) : l.acked p = i + 1 := by
  unfold Lk.acked
  rw [if_pos hb, hi]

theorem acked_none {l : Lk} {p : List Byte} (hi : l.replay.findIdx? (fun x => x.seq = byteAt p 0) = none) : l.acked p = 0 := by
  unfold Lk.acked
  rw [hi]
  exact ite_self _

theorem llcAckTimer_due (hn : n < 4) (hst : (s.lk n).st = 2) (hun : 0 < (s.lk n).unacked)
    (hold : (s.lk n).unackedAt + 1000 ≤ s.now) : llcAckTimer n s = s.sendLlc n false 0 := if_pos (by simp [hn, hst, hun, hold])

/-- Sending keeps how often a link has sent again, how many links there are, and the time. -/
theorem sendFlits_keeps (fs : List SentFlit) :
    ((s.forEach fs fun f y => y.sendFlit n f.bytes).lk n).resendRun = (s.lk n).resendRun ∧
    (s.forEach fs fun f y => y.sendFlit n f.bytes).lnk.links.length = s.lnk.links.length ∧
    (s.forEach fs fun f y => y.sendFlit n f.bytes).now = s.now := by
  refine State.forEach_keeps (p := fun u => (u.lk n).resendRun = (s.lk n).resendRun ∧
    u.lnk.links.length = s.lnk.links.length ∧ u.now = s.now) (fun f u hu => ?_) fs s ⟨rfl, rfl, rfl⟩
  obtain ⟨hrun, hlen, hnow⟩ := hu
  refine ⟨Eq.trans (lk_modLk_keeps Lk.resendRun (fun l => ?_) n) hrun, Eq.trans modLk_length hlen, Eq.trans rfl hnow⟩
  rw [relink_resendRun]

theorem replayTimeout_due (hn : n < 4) (hst : (s.lk n).st = 2) (hout : (s.lk n).replay ≠ []) (hold : (s.lk n).oldestAt + 2000 ≤ s.now)
    (hrun : (s.lk n).resendRun < 7) (hlen : n < s.lnk.links.length) : replayTimeout n s = s.resend n := by
  obtain ⟨hkeep, hlinks, -⟩ := sendFlits_keeps (s := s) (n := n) (s.lk n).replay
  have hrun1 : ((s.resend n).lk n).resendRun = (s.lk n).resendRun + 1 := by
    unfold State.resend
    rw [lk_modLk (by rwa [hlinks]), relink_resendRun, hkeep]
  refine (if_pos (by simp [hn, hst, hout, hold])).trans (if_neg ?_)
  rw [hrun1]
  omega

/-! ### Forwarded messages (R449, R450, R452) -/

/-- A message of the kind of its entry. -/
def FwdEntry.carries (e : FwdEntry) (msg rows : Nat) : Prop :=
  (e.kind = 6 ∧ msg = 3) ∨ (e.kind = 5 ∧ (msg = 1 ∨ (msg = 2 ∧ 1 ≤ rows ∧ rows ≤ 64)))

/-- The message that an entry queues. -/
def FwdEntry.tx (e : FwdEntry) (stream msg seq row rows len : Nat) (tail : List Byte) : FwdTx :=
  { vc := if e.kind = 5 then 2 else 3, channel := e.channel, stream, msg, seq, firstRow := row, rows
    bodyLen := if msg = 1 then 0 else max len tail.length, left := if msg = 1 then 0 else max len tail.length, tail }

section
variable {stream msg row rows len seq : Nat} {e : FwdEntry}

theorem forwardSend_entry (he : (s.lk n).fwds.find? (fun e => e.stream = stream) = some e) (hkind : e.carries msg rows)
    (hseq : s.fwdSeq e = some seq) : forwardSend n stream msg row rows len s =
    if e.kind = 6 && s.hoop.bobbinDown.contains (egressBobbin (e.channel / 32)) then s.egressDrop (egressBobbin (e.channel / 32)) 1
    else ((s.when (msg = 2) (·.readBand e.channel seq row rows)).modLk n fun l => { l with
      queue := l.queue ++ [e.tx stream msg seq row rows len
        (if msg = 2 then (s.when (msg = 2) (·.readBand e.channel seq row rows)).bandTaint e.channel seq row rows else [])] }).drainLink
      n := by
  unfold forwardSend
  rw [he]
  refine (if_neg ?_).trans ?_
  · obtain ⟨hk, hm⟩ | ⟨hk, hm | ⟨hm, h1, h64⟩⟩ := hkind
    · simp [hk, hm]
    · simp [hk, hm]
    · simp [hk, hm, h1, h64]
  · rw [hseq]
    rfl

end

/-- The channel of a message is open on its link and of its kind. -/
def Src.takes (c : Src) (n : Nat) (m : FwdMsg) : Bool :=
  c.installed && (c.paths.getD 0 {}).port = n && (c.paths.getD 0 {}).udp = m.stream &&
    ((c.typ = 5 && (m.msg = 1 || m.msg = 2)) || (c.typ = 6 && m.msg = 3))

theorem forwardReceive_dropped {m : FwdMsg} (hn : n < 4) (hen : (s.lk n).enable = true)
    (hno : ∀ c ∈ s.net.srcs.take 64, ¬(c.installed = true ∧ (c.paths.getD 0 {}).port = n ∧ (c.paths.getD 0 {}).udp = m.stream)) :
    forwardReceive n m s = s.modLk n fun l => { l with dropped := satAdd32 l.dropped 1 } := by
  have hnone : (s.net.srcs.take 64).findIdx? (fun c => c.takes n m) = none := by
    refine List.findIdx?_eq_none_iff.2 fun c hc => ?_
    refine Bool.eq_false_iff.2 fun ht => hno c hc ?_
    simp only [Src.takes, Bool.and_eq_true, decide_eq_true_eq] at ht
    obtain ⟨⟨⟨hin, hport⟩, hudp⟩, -⟩ := ht
    exact ⟨hin, hport, hudp⟩
  unfold forwardReceive
  extract_lets fits
  refine (if_neg (by simp [hn, hen])).trans ?_
  rw [show (s.net.srcs.take 64).findIdx? fits = none from hnone]

theorem forwardReceive_delivered {m : FwdMsg} {ch : Nat} (hn : n < 4) (hen : (s.lk n).enable = true)
    (hch : (s.net.srcs.take 64).findIdx? (fun c => c.takes n m) = some ch) : forwardReceive n m s =
    if m.msg = 1 then
      (if m.complete then (s.fwdHeard ch (s.fwdArrival n m).1 (s.fwdArrival n m).2).fwdBegin n ch m
        else s.fwdHeard ch (s.fwdArrival n m).1 (s.fwdArrival n m).2)
    else if m.msg = 2 then (s.fwdHeard ch (s.fwdArrival n m).1 (s.fwdArrival n m).2).fwdBand n ch m
    else (s.fwdHeard ch (s.fwdArrival n m).1 (s.fwdArrival n m).2).fwdUnit n ch m := by
  unfold forwardReceive
  extract_lets fits
  refine (if_neg (by simp [hn, hen])).trans ?_
  rw [show (s.net.srcs.take 64).findIdx? fits = some ch from hch]
  dsimp only
  split
  · rename_i h
    rw [if_pos h]
  · rename_i h
    rw [if_neg (by omega), if_pos h]
  · rename_i h1 h2
    rw [if_neg h1, if_neg h2]

end

/-! ### The rows -/

theorem exec_flitReceive (t n : Nat) (f : Flit) (s : State) :
    exec (.flitReceive t n f) s = .next (settle ((flitReceive n f (s.tick t)).drainLink n)) := rfl
theorem exec_llcReceive (t n : Nat) (p : List Byte) (s : State) :
    exec (.llcReceive t n p) s = .next (settle ((llcReceive n p (s.tick t)).drainLink n)) := rfl
theorem exec_llcAckTimer (t n : Nat) (s : State) : exec (.llcAckTimer t n) s = .next (settle (llcAckTimer n (s.tick t))) := rfl
theorem exec_replayTimeout (t n : Nat) (s : State) : exec (.replayTimeout t n) s = .next (settle (replayTimeout n (s.tick t))) := rfl
theorem exec_forwardMessageSend (t n stream msg row rows len : Nat) (s : State) :
    exec (.forwardMessageSend t n stream msg row rows len) s = .next (settle (forwardSend n stream msg row rows len (s.tick t))) := rfl
theorem exec_forwardedMessageReceive (t n : Nat) (m : FwdMsg) (s : State) :
    exec (.forwardedMessageReceive t n m) s = .next (settle (forwardReceive n m (s.tick t))) := rfl

/-- Settles O31: flits, acknowledgements and resends by what they do to their link, messages by the entry or channel they belong
to. -/
theorem flitAndMessageRows : Obligations.FlitAndMessageRows := by
  unfold Obligations.FlitAndMessageRows
  refine ⟨?flit, ?llc, ?ack, ?replay, ?send, ?receive⟩
  case flit =>
    rintro t n f s0 s l rfl hn rfl hst hqueue hlen
    refine ⟨fun hbad hquiet => ?_, fun h64 hcrc htype hseq hdis => ?_, fun h64 hcrc htype hseq => ?_⟩
    · rw [exec_flitReceive, flitReceive_bad hn hst hbad hquiet, drainLink_empty]
      refine (modLk_queue (fun _ => ?_) n).trans hqueue
      rfl
    · rw [exec_flitReceive, flitReceive_gap hn hst ⟨h64, hcrc⟩ htype hseq hdis, drainLink_empty]
      refine (modLk_queue (fun _ => ?_) n).trans ((sendLlc_queue _ n _ _ n).trans hqueue)
      rfl
    · rintro vc s1 rfl rfl
      have hkeep := (modLk_queue (n := n) (f := Lk.received (s0.tick t) (byteAt f.bytes 0 / 4 % 4)) (fun _ => rfl) n).trans hqueue
      rw [exec_flitReceive, flitReceive_next hn hst ⟨h64, hcrc⟩ htype hseq hlen, drainLink_empty]
      · rfl
      · split
        · exact (sendLlc_queue _ n _ _ n).trans hkeep
        · exact hkeep
  case llc =>
    rintro t n p s0 s l rfl hn rfl hst hqueue hack hon hlen
    obtain ⟨counts, hrun⟩ := llcReceive_plain (p := p) hn hst hack hon hlen
    have hlk : ((s0.tick t).modLk n (Lk.acks (s0.tick t) p counts (((s0.tick t).lk n).acked p))).lk n = _ := lk_modLk hlen
    refine ⟨(s0.tick t).modLk n (Lk.acks (s0.tick t) p counts (((s0.tick t).lk n).acked p)), ?_, ?_, ?_, ?_, ?_, modLk_one⟩
    · rw [exec_llcReceive, hrun, drainLink_empty]
      refine (modLk_queue (fun _ => ?_) n).trans hqueue
      rfl
    · rw [hlk, relink_peerFreed]
      rfl
    · rw [hlk, relink_rxPower]
      rfl
    · intro i hb hi
      rw [hlk, relink_replay, relink_resendRun, acked_found hb hi]
      exact ⟨rfl, rfl⟩
    · intro hi
      rw [hlk, relink_replay, acked_none hi]
      rfl
  case ack =>
    rintro t n s0 s l rfl hn rfl hst hun hold
    rw [exec_llcAckTimer, llcAckTimer_due hn hst hun hold]
  case replay =>
    rintro t n s0 s l rfl hn rfl hst hout hold hrun hlen
    obtain ⟨-, -, hnow⟩ := sendFlits_keeps (s := s0.tick t) (n := n) ((s0.tick t).lk n).replay
    rw [exec_replayTimeout, replayTimeout_due hn hst hout hold hrun hlen]
    unfold State.resend
    dsimp only
    rw [hnow]
  case send =>
    rintro t n stream msg row rows len s0 s e seq s1 tail size rfl he hkind hseq rfl rfl rfl
    refine ⟨fun hk hdown => ?_, fun hup => ?_⟩
    · rw [exec_forwardMessageSend, forwardSend_entry he hkind hseq,
        if_pos (by simp only [hk, hdown, decide_true, Bool.and_self])]
    · rw [exec_forwardMessageSend, forwardSend_entry he hkind hseq, if_neg]
      · rfl
      · obtain h | h := hup
        · simp [h]
        · simp only [h, Bool.and_false, Bool.false_eq_true, not_false_eq_true]
  case receive =>
    rintro t n m s0 s rfl hn hen
    refine ⟨fun hno => ?_, fun ch hch => ?_⟩
    · rw [exec_forwardedMessageReceive, forwardReceive_dropped hn hen hno]
    · rw [exec_forwardedMessageReceive, forwardReceive_delivered hn hen hch]

end Sys2Proof.Machine
end

section
/-! PROOF. The console's commands (spec/20): touch electrodes, GPIO and SAFE inputs, and the statement that gathers them. -/
namespace Sys2Proof.Machine

section
variable {j : Job} {s : State}

/-! ### Touch (R461-R463) -/

/-- An electrode as TOUCH_CONFIG sets it: one newly enabled starts again, one disabled is not scanned. -/
def Electrode.configured (e : Electrode) (on : Bool) (t n : Nat) : Electrode :=
  if on && !e.enabled then Electrode.restart { e with enabled := on, t := t, n := n }
  else if on then { e with enabled := on, t := t, n := n } else { e with enabled := on, t := t, n := n, st := 0 }

theorem configured_eq (e : Electrode) (on : Bool) (t n : Nat) : e.configured on t n =
    if on then (if e.enabled then { e with enabled := on, t := t, n := n }
      else Electrode.restart { e with enabled := on, t := t, n := n })
    else { e with enabled := on, t := t, n := n, st := 0 } := by
  unfold Electrode.configured
  cases on <;> cases he : e.enabled <;> rfl

/-- The electrode of entry `i` of TOUCH_CONFIG. -/
def Electrode.entry (e : Electrode) (j : Job) (i : Nat) : Electrode :=
  e.configured (j.u8 (17 + 4 * i) = 1) (4 * j.u8 (18 + 4 * i)) (4 * j.u8 (19 + 4 * i))

theorem touchConfig_run : cmdTouchConfig.run j s = .ok ((s.modIo fun x => { x with
    touchOn := j.u8 1 = 1
    holdS := if j.u16 2 = 0 then 20 else j.u16 2
    approachThr := if j.u16 4 = 0 then 40 else j.u16 4
    baseTc := if j.u16 6 = 0 then 10 else j.u16 6 }).forEach (List.range (j.u8 0)) fun i s =>
      s.modIo fun x => { x with electrodes := modAt x.electrodes (j.u8 (16 + 4 * i)) (·.entry j i) }) [] := by
  unfold Electrode.entry Electrode.configured
  simp only [cmdTouchConfig, decide_eq_true_eq]

/-- The electrodes that TOUCH_RECAL marks. -/
def markRecal (mask : Nat) (es : List Electrode) : List Electrode :=
  es.mapIdx fun i e => if mask.testBit i then { e with recal := e.enabled } else e

theorem markRecal_eq (mask : Nat) (es : List Electrode) :
    (es.mapIdx fun i e => if !mask.testBit i then e else { e with recal := e.enabled }) = markRecal mask es := by
  unfold markRecal
  congr 1
  funext i e
  cases mask.testBit i <;> rfl

theorem touchRecal_marks (h : s.hoop.otp.lifecycle ≠ 0) : cmdTouchRecal.run j s =
    .ok (s.modIo fun x => { x with electrodes := markRecal (j.u32 0) s.io.electrodes }) [] := by
  rw [← markRecal_eq]
  exact if_pos h

theorem touchRecal_writes (h : s.hoop.otp.lifecycle = 0) : cmdTouchRecal.run j s = .ok
    { s with
      io := { s.io with electrodes := markRecal (j.u32 0) s.io.electrodes }
      hoop := { s.hoop with otp := { s.hoop.otp with
        touchRef := s.hoop.otp.touchRef.mapIdx fun i v => if (j.u32 0).testBit i && v.isNone then
          some ((markRecal (j.u32 0) s.io.electrodes).getD i {}).raw else v } } } [] := by
  rw [← markRecal_eq]
  exact if_neg (not_not.2 h)

/-! ### GPIO_CONFIG (R464-R468) -/

/-- An input as GPIO_CONFIG sets it: its states start again. -/
def Inp.configured (j : Job) (now : Nat) (x : Inp) : Inp :=
  { x with
    mode := j.u8 2, flags := j.u8 3, debounce := j.u8 4, chatterK := j.u8 5, chatterW := j.u16 6, stuckMs := j.u32 8
    raw := if x.flags.testBit 0 = (j.u8 3).testBit 0 then x.raw else !x.raw
    rawAt := now, levelAt := now, edges := [], chatter := false, stuck := false }

theorem ite_ne_not {a b c : Bool} : (if a ≠ b then !c else c) = if a = b then c else !c := ite_not _ _ _

theorem gpioConfig_gpio (h : inpIndex (j.u16 0) < 48) : cmdGpioConfig.run j s =
    .ok ((s.modInp (inpIndex (j.u16 0)) (Inp.configured j s.now)).when (2 ≤ j.u8 2)
      (·.emit (.pin ("GPIO" ++ toString (inpIndex (j.u16 0))) ((j.u8 3).testBit 5)))) [] := by
  refine (if_neg (by simp [Nat.not_le.2 h])).trans ?_
  unfold Inp.configured
  simp only [if_neg (Nat.not_le.2 h), ite_ne_not]
  simp only [State.when, decide_eq_true_eq]

/-- A SAFE input as configured, with its pair's states started again. -/
def State.pairRestart (s : State) (j : Job) (i : Nat) : State :=
  (s.modInp i (Inp.configured j s.now)).when
    (i % 2 = 0 && (s.paired ((i - 48) / 2) || (s.modInp i (Inp.configured j s.now)).paired ((i - 48) / 2)))
    fun u => u.modInp (i + 1) fun x => { x with
      raw := if (s.inpCfg (i + 1)).flags.testBit 0 ≠ ((s.modInp i (Inp.configured j s.now)).inpCfg (i + 1)).flags.testBit 0
        then !x.raw else x.raw
      rawAt := s.now, levelAt := s.now, edges := [], chatter := false, stuck := false }

theorem gpioConfig_safe (h : 48 ≤ inpIndex (j.u16 0)) (hmode : j.u8 2 = 1)
    (hown : inpIndex (j.u16 0) % 2 = 0 ∨ s.paired ((inpIndex (j.u16 0) - 48) / 2) = false) : cmdGpioConfig.run j s =
    .ok (((s.pairRestart j (inpIndex (j.u16 0))).modIo fun x =>
      { x with pairs := x.pairs.set ((inpIndex (j.u16 0) - 48) / 2) {} }).pairFollow (inpIndex (j.u16 0))) [] := by
  have hfree : ¬(decide (48 ≤ inpIndex (j.u16 0)) && decide (inpIndex (j.u16 0) % 2 = 1) &&
      s.paired ((inpIndex (j.u16 0) - 48) / 2)) = true := by
    obtain h | h := hown <;> simp [h]
  refine (if_neg hfree).trans ?_
  unfold State.pairRestart Inp.configured State.when
  simp only [if_pos h, hmode, ite_ne_not]
  rfl

end

/-! ### The rows -/

theorem isRow_touchConfig : IsRow .touchConfig cmdTouchConfig := fun _ _ _ => rfl
theorem isRow_touchStatus : IsRow .touchStatus cmdTouchStatus := fun _ _ _ => rfl
theorem isRow_touchRecal : IsRow .touchRecal cmdTouchRecal := fun _ _ _ => rfl
theorem isRow_gpioConfig : IsRow .gpioConfig cmdGpioConfig := fun _ _ _ => rfl
theorem isRow_gpioStatus : IsRow .gpioStatus cmdGpioStatus := fun _ _ _ => rfl
theorem isRow_safeStatus : IsRow .safeStatus cmdSafeStatus := fun _ _ _ => rfl

/-- Settles O34: each command by its run. -/
theorem consoleAndInputCommands : Obligations.ConsoleAndInputCommands := by
  unfold Obligations.ConsoleAndInputCommands
  refine ⟨?touchConfig, ?touchStatus, ?mark, ?write, ?gpio, ?safe, ?gpioStatus, ?safeStatus⟩
  case touchConfig =>
    refine Runs.of isRow_touchConfig fun j s _ _ _ _ => ⟨_, _, touchConfig_run, rfl, ?_⟩
    simp only [Electrode.entry, configured_eq, decide_eq_true_eq]
  case touchStatus => exact Runs.of isRow_touchStatus fun j s _ _ _ _ => ⟨_, _, rfl, rfl, rfl⟩
  case mark => exact Runs.of isRow_touchRecal fun j s _ _ _ h => ⟨_, _, touchRecal_marks h, rfl, rfl⟩
  case write => exact Runs.of isRow_touchRecal fun j s _ _ _ h => ⟨_, _, touchRecal_writes h, rfl, rfl⟩
  case gpio => exact Runs.of isRow_gpioConfig fun j s _ _ _ h => ⟨_, _, gpioConfig_gpio h, rfl, rfl⟩
  case safe =>
    refine Runs.of isRow_gpioConfig ?_
    rintro j s - - - ⟨h, hmode, hown⟩
    exact ⟨_, _, gpioConfig_safe h hmode (by simpa using hown), rfl, rfl⟩
  case gpioStatus => exact Runs.of isRow_gpioStatus fun j s _ _ _ _ => ⟨_, _, rfl, rfl, rfl⟩
  case safeStatus => exact Runs.of isRow_safeStatus fun j s _ _ _ _ => ⟨_, _, rfl, rfl, rfl⟩

end Sys2Proof.Machine
end

section
/-! PROOF. The console bus (spec/20 R470-R473): its commands and events case by case, and the statement that gathers them. -/
namespace Sys2Proof.Machine

section
variable {j : Job} {s : State} {k : Nat}

theorem cbusSend_queues (hroom : (s.cbus (idIndex (j.u16 0) - 5)).queue.length < 8)
    (hon : (s.cbPort (idIndex (j.u16 0) - 5)).enable = true) : cmdCbusSend.run j s =
    .later (s.modCbus (idIndex (j.u16 0) - 5) fun c => { c with
      seq := (c.seq + 1) % m16
      queue := c.queue ++ [{
        job := j, since := s.now
        bytes := cbFrame (j.bytes 4 6) (beBytes 6 (s.hoop.otp.macs.getD (5 + (idIndex (j.u16 0) - 5)) 0)) (j.u8 2)
          (s.cbus (idIndex (j.u16 0) - 5)).seq (j.req.payload.drop 12) }] }) :=
  (if_neg (Nat.not_le.2 hroom)).trans (if_neg (by simp [hon]))

theorem cbusSent_oldest {coll late : Nat} {f : CbFrame} {rest : List CbFrame} (hq : (s.cbus k).queue = f :: rest)
    (hon : (s.cbPort k).enable = true) (hpow : s.portPowered (5 + k) = true) : cbusSent k coll late s =
    (((s.modCbus k fun c => { c with queue := rest }).modPort (5 + k) fun x => { x with
      ctr := { x.ctr with
        txFrames := x.ctr.txFrames + 1, txOctets := x.ctr.txOctets + f.bytes.length + 4
        fecCorrected := x.ctr.fecCorrected + coll, fecUncorrected := x.ctr.fecUncorrected + late } }).emit
      (.consoleFrame k (s.cbus k).node f.bytes)).finish f.job 0 0 [] := by
  unfold cbusSent
  rw [hq]
  exact if_neg (by simp [hon, hpow])

theorem cbusTimeout_oldest {f : CbFrame} {rest : List CbFrame} (hq : (s.cbus k).queue = f :: rest)
    (hold : f.since + 100000000 ≤ s.now) :
    cbusTimeout k s = (s.modCbus k fun c => { c with queue := rest }).finish f.job eTimeout 0 [] := by
  unfold cbusTimeout
  rw [hq]
  exact if_pos hold

/-! ### Frames that come (R472) -/

/-- A port that has counted a frame. -/
def State.cbHeard (s : State) (k : Nat) (f : ConsoleFrame) : State :=
  s.modPort (5 + k) fun x => { x with
    ctr := { x.ctr with rxFrames := x.ctr.rxFrames + 1, rxOctets := x.ctr.rxOctets + f.bytes.length + 18 } }

/-- A port that can receive: enabled, powered and not in loopback. -/
structure CbReceives (s : State) (k : Nat) : Prop where
  port : k < 2
  enabled : (s.cbPort k).enable = true
  powered : s.portPowered (5 + k) = true
  direct : (s.cbPort k).loop = 0

theorem CbReceives.test (h : CbReceives s k) : ¬(!(decide (k < 2) && (s.cbPort k).enable && decide ((s.cbPort k).loop = 0) &&
    s.portPowered (5 + k))) = true := by
  simp [h.port, h.enabled, h.powered, h.direct]

theorem cbusReceive_stranger {f : ConsoleFrame} (hrx : CbReceives s k) (h : (s.cbus k).allowed.contains f.src = false) :
    cbusReceive k f s = (s.cbHeard k f).modPort (5 + k) fun x => { x with ctr := { x.ctr with rxStranger := x.ctr.rxStranger + 1 } } := by
  refine (if_neg hrx.test).trans (if_pos ?_)
  show (!(s.cbus k).allowed.contains f.src) = true
  rw [h]
  rfl

theorem cbusReceive_known {f : ConsoleFrame} (hrx : CbReceives s k) (h : (s.cbus k).allowed.contains f.src = true) :
    cbusReceive k f s =
    if f.etherType ≠ 0x88B5 then
      (s.cbHeard k f).modPort (5 + k) fun x => { x with ctr := { x.ctr with rxUnmatched := x.ctr.rxUnmatched + 1 } }
    else match cbParse f.bytes with
      | some (1, items) => (s.cbHeard k f).forEach items fun it s =>
          s.evtIo { source := 0xD005 + k, input := 64 + k, code := 8, level := byteAt it 1, arg0 := byteAt it 0 }
      | some (3, items) => (s.cbHeard k f).forEach items fun it s =>
          s.pendIo (0xD005 + k) (256 * (k + 1) + byteAt it 0) 9 0 (byteAt it 0)
            (unsigned 32 (signed 16 (byteAt it 2 * 256 + byteAt it 3)))
      | _ => (s.cbHeard k f).modPort (5 + k) fun x => { x with ctr := { x.ctr with rxUnmatched := x.ctr.rxUnmatched + 1 } } := by
  refine (if_neg hrx.test).trans ((if_neg ?_).trans rfl)
  show ¬(!(s.cbus k).allowed.contains f.src) = true
  rw [h]
  decide

theorem cbusReceive_malformed {f : ConsoleFrame} (hrx : CbReceives s k) (h : (s.cbus k).allowed.contains f.src = true)
    (hbad : f.etherType ≠ 0x88B5 ∨ cbParse f.bytes = none) : cbusReceive k f s =
    (s.cbHeard k f).modPort (5 + k) fun x => { x with ctr := { x.ctr with rxUnmatched := x.ctr.rxUnmatched + 1 } } := by
  rw [cbusReceive_known hrx h]
  obtain hbad | hbad := hbad
  · exact if_pos hbad
  · rw [hbad]
    exact ite_self _

theorem cbusReceive_axes {f : ConsoleFrame} {items : List (List Byte)} (hrx : CbReceives s k)
    (h : (s.cbus k).allowed.contains f.src = true) (htype : f.etherType = 0x88B5) (hp : cbParse f.bytes = some (3, items)) :
    cbusReceive k f s = (s.cbHeard k f).forEach items fun it s =>
      s.pendIo (0xD005 + k) (256 * (k + 1) + byteAt it 0) 9 0 (byteAt it 0)
        (unsigned 32 (signed 16 (byteAt it 2 * 256 + byteAt it 3))) := by
  rw [cbusReceive_known hrx h, if_neg (not_not.2 htype), hp]
  rfl

theorem cbusReceive_keys {f : ConsoleFrame} {items : List (List Byte)} (hrx : CbReceives s k)
    (h : (s.cbus k).allowed.contains f.src = true) (htype : f.etherType = 0x88B5) (hp : cbParse f.bytes = some (1, items)) :
    cbusReceive k f s = (s.cbHeard k f).forEach items fun it s =>
      s.evtIo { source := 0xD005 + k, input := 64 + k, code := 8, level := byteAt it 1, arg0 := byteAt it 0 } := by
  rw [cbusReceive_known hrx h, if_neg (not_not.2 htype), hp]
  rfl

theorem cbusReceive_loopback {f : ConsoleFrame} (h : (s.cbPort k).loop ≠ 0) : cbusReceive k f s = s := if_pos (by simp [h])

/-! ### PLCA (R470) -/

theorem plcaLost_due (hk : k < 2) (hon : (s.cbPort k).enable = true) (hpow : s.portPowered (5 + k) = true)
    (hmode : (s.cbus k).mode = 2) (hnew : (s.cbus k).plcaLost = false) (hold : (s.cbus k).lastBeacon + 4000000 ≤ s.now) :
    plcaLost k s = ((s.modCbus k fun c => { c with plcaLost := true }).modPort (5 + k) fun x =>
      { x with ctr := { x.ctr with fecSymbolErr := x.ctr.fecSymbolErr + 1 } }).pendIo (0xD005 + k) (64 + k) 10 0 0 0 :=
  if_neg (by simp [hk, hon, hpow, hmode, hnew, hold])

theorem plcaBeacon_heard (hk : k < 2) (hon : (s.cbPort k).enable = true) (hpow : s.portPowered (5 + k) = true)
    (hmode : (s.cbus k).mode = 2) : plcaBeacon k s =
    (s.modCbus k fun c => { c with plcaLost := false, lastBeacon := s.now }).when (s.cbus k).plcaLost
      (·.pendIo (0xD005 + k) (64 + k) 11 0 0 0) :=
  if_neg (by simp [hk, hon, hpow, hmode])

end

/-! ### The rows -/

theorem isRow_cbusConfig : IsRow .cbusConfig cmdCbusConfig := fun _ _ _ => rfl
theorem isRow_cbusSend : IsRow .cbusSend cmdCbusSend := fun _ _ _ => rfl

theorem exec_cbusFrameSent (t k coll late : Nat) (s : State) :
    exec (.cbusFrameSent t k coll late) s = .next (settle (cbusSent k coll late (s.tick t))) := rfl
theorem exec_cbusSendTimeout (t k : Nat) (s : State) : exec (.cbusSendTimeout t k) s = .next (settle (cbusTimeout k (s.tick t))) := rfl
theorem exec_consoleFrameReceive (t k : Nat) (f : ConsoleFrame) (s : State) :
    exec (.consoleFrameReceive t k f) s = .next (settle (cbusReceive k f (s.tick t))) := rfl
theorem exec_plcaLost (t k : Nat) (s : State) : exec (.plcaLost t k) s = .next (settle (plcaLost k (s.tick t))) := rfl
theorem exec_plcaBeacon (t k : Nat) (s : State) : exec (.plcaBeacon t k) s = .next (settle (plcaBeacon k (s.tick t))) := rfl

/-- Settles O35: the commands by their runs, the events case by case on the ticked state. -/
theorem consoleBusRows : Obligations.ConsoleBusRows := by
  unfold Obligations.ConsoleBusRows
  refine ⟨?config, ?send, ?sent, ?timeout, ?receive, ?loopback, ?lost, ?beacon⟩
  case config => exact Runs.of isRow_cbusConfig fun j s _ _ _ _ => ⟨_, _, rfl, rfl, rfl⟩
  case send =>
    refine RunsLater.of isRow_cbusSend ?_
    rintro j s - - - ⟨hroom, hon⟩
    exact ⟨_, cbusSend_queues hroom hon, rfl⟩
  case sent =>
    rintro t k coll late s0 s f rest rfl hq hon hpow
    rw [exec_cbusFrameSent, cbusSent_oldest hq hon hpow]
  case timeout =>
    rintro t k s0 s f rest rfl hq hold
    rw [exec_cbusSendTimeout, cbusTimeout_oldest hq hold]
  case receive =>
    rintro t k f s0 s s1 rfl hk hon hpow hloop rfl
    have hrx : CbReceives (s0.tick t) k := ⟨hk, hon, hpow, hloop⟩
    refine ⟨fun h => ?_, fun h hbad => ?_, fun items h htype hp => ?_, fun items h htype hp => ?_⟩
    · rw [exec_consoleFrameReceive, cbusReceive_stranger hrx h]
      rfl
    · rw [exec_consoleFrameReceive, cbusReceive_malformed hrx h hbad]
      rfl
    · rw [exec_consoleFrameReceive, cbusReceive_axes hrx h htype hp]
      rfl
    · rw [exec_consoleFrameReceive, cbusReceive_keys hrx h htype hp]
      rfl
  case loopback =>
    rintro t k f s0 s rfl h
    rw [exec_consoleFrameReceive, cbusReceive_loopback h]
  case lost =>
    rintro t k s0 s rfl hk hon hpow hmode hnew hold
    rw [exec_plcaLost, plcaLost_due hk hon hpow hmode hnew hold]
  case beacon =>
    rintro t k s0 s rfl hk hon hpow hmode
    rw [exec_plcaBeacon, plcaBeacon_heard hk hon hpow hmode]

end Sys2Proof.Machine
end

section
/-! PROOF. Touch scans, approach scans and the sampled inputs (spec/20 R458-R467): each event case by case, and the statement that
gathers them. -/
namespace Sys2Proof.Machine

section
variable {s : State}

/-! ### Touch (R458, R459) -/

/-- What a touch scan makes of the electrodes: each with the event it raises. -/
def State.electrodeScans (s : State) (raw : List Nat) : List (Electrode × Option (Nat × Nat)) :=
  s.io.electrodes.mapIdx fun i e => if e.enabled then
    e.scan s.io.baseTc s.now (heldState (s.io.electrodes.getD i {}) ||
      (i > 0 && heldState (s.io.electrodes.getD (i - 1) {})) || heldState (s.io.electrodes.getD (i + 1) {}))
      (min (raw.getD i 0) 65535) else (e, none)

theorem touchScan_run {raw : List Nat} (hon : s.io.touchOn = true) (hrun : s.pwr.pstate = 0) : touchScan raw s =
    (s.modIo fun x => { x with electrodes := (s.electrodeScans raw).map (·.1), scans := (x.scans + 1) % m32 }).forEach (s.electrodeScans raw).zipIdx
      fun q s' => match q.1.2 with
        | some (code, flags) => s'.evtTouch q.2 code flags q.1.1.signal
            (if code = 2 then (s.now - (s.io.electrodes.getD q.2 {}).pressAt) / 1000000 else 0)
        | none => s' :=
  (if_neg (by simp [hon, hrun])).trans rfl

theorem touchHold_due {i : Nat} (hst : (s.io.electrodes.getD i {}).st = 2 ∨ (s.io.electrodes.getD i {}).st = 4)
    (hen : (s.io.electrodes.getD i {}).enabled = true)
    (hold : (s.io.electrodes.getD i {}).pressAt + s.io.holdS * nsPerSec ≤ s.now) : touchHold i s =
    (s.modIo fun x => { x with electrodes := modAt x.electrodes i fun e => { e with st := 3, below := 0 } }).evtTouch i 3 0
      (s.io.electrodes.getD i {}).signal ((s.now - (s.io.electrodes.getD i {}).pressAt) / 1000000) := by
  refine if_neg ?_
  rw [hen, decide_eq_true hold]
  obtain h | h := hst <;> rw [h] <;> decide

/-- One approach group of a scan below RUN. -/
def State.approachGroup (s : State) (sig : List Int) (g : Nat) : State :=
  let run := if sig.getD g 0 > s.io.approachThr then s.io.approachRun.getD g 0 + 1 else 0
  s.when (s.pwr.wake.touchGroups.testBit g) fun s =>
    (s.modIo fun x => { x with approachRun := x.approachRun.set g run, approach := x.approach.set g (decide (run ≥ 2)) }).when
      (decide (run ≥ 2) && !s.io.approach.getD g false) (·.evtTouch (8 * g) 7 0 (sig.getD g 0) 0)

theorem approachScan_run {sig : List Int} (hon : s.io.touchOn = true) (hlow : s.pwr.pstate ≠ 0) : approachScan sig s =
    s.forEach (List.range 4) fun g s => s.approachGroup sig g := by
  refine (if_neg (by simp [hon, hlow])).trans (congrArg (State.forEach s (List.range 4)) ?_)
  funext g s
  unfold State.approachGroup State.when
  cases h : s.pwr.wake.touchGroups.testBit g with
  | false => rfl
  | true => rfl

/-! ### Sampled inputs (R464-R466) -/

section
variable {i : Nat}

theorem inpRaw_edge {pin lvl : Bool} (hi : i < 56) (hmode : (s.inp i).mode = 1) (hs : s.sampled i = true)
    (hlvl : lvl = (if (s.inpCfg i).flags.testBit 0 then !pin else pin)) (hnew : lvl ≠ (s.inp i).raw) : inpRaw i pin s =
    (let edges := (s.now :: (s.inp i).edges).filter fun e => s.now - e ≤ (s.inpCfg i).chatterW * 1000000
     let enter := (s.inpCfg i).chatterK ≠ 0 && edges.length > (s.inpCfg i).chatterK && !(s.inp i).chatter
     (s.modInp i fun p => { p with raw := lvl, rawAt := s.now, edges := edges.take 256, chatter := p.chatter || enter }).when
       enter (·.pendIo (inpId i) i 4 (b2n (s.inp i).level) 0 0)) := by
  subst hlvl
  refine (if_neg ?_).trans rfl
  rw [hs, decide_eq_true hi, decide_eq_true hmode, decide_eq_true hnew]
  decide

theorem inpDebounced_due (hi : i < 56) (hmode : (s.inp i).mode = 1) (hcalm : (s.inp i).chatter = false ∨ 48 ≤ i)
    (hnew : (s.inp i).raw ≠ (s.inp i).level) (hheld : debounced (s.inpCfg i) (s.inp i) s.now = true) : inpDebounced i s =
    (((s.modInp i fun p => { p with level := p.raw, levelAt := s.now, stuck := p.stuck && p.raw }).pendIo (inpId i) i 1
      (b2n (s.inp i).raw) 0 0).when ((s.inp i).stuck && !(s.inp i).raw) (·.pendIo (inpId i) i 3 (b2n (s.inp i).raw) 0 0)).pairFollow i := by
  have hfree : ((s.inp i).chatter && decide (i < 48)) = false := by
    obtain h | h := hcalm
    · rw [h, Bool.false_and]
    · rw [decide_eq_false (by omega), Bool.and_false]
  refine (if_neg ?_).trans rfl
  rw [hheld, hfree, decide_eq_true hi, decide_eq_true hmode, decide_eq_true hnew]
  decide

theorem inpChatterClear_due (hi : i < 56) (hch : (s.inp i).chatter = true)
    (hold : (s.inp i).rawAt + (s.inpCfg i).chatterW * 1000000 ≤ s.now) : inpChatterClear i s =
    (let lv := if debounced (s.inpCfg i) (s.inp i) s.now then (s.inp i).raw else (s.inp i).level
     (((s.modInp i fun q => { q with
        chatter := false, edges := [], level := lv, levelAt := if q.level = lv then q.levelAt else s.now
        stuck := q.stuck && lv }).pendIo (inpId i) i 5 (b2n lv) 0 0).when ((s.inp i).stuck && !lv)
          (·.pendIo (inpId i) i 3 (b2n lv) 0 0)).pairFollow i) := by
  refine (if_neg ?_).trans rfl
  rw [hch, decide_eq_true hi, decide_eq_true hold]
  decide

theorem inpStuck_due (hi : i < 56) (hmode : (s.inp i).mode = 1) (hset : (s.inpCfg i).stuckMs ≠ 0) (hact : (s.inp i).level = true)
    (hnew : (s.inp i).stuck = false) (hold : (s.inp i).levelAt + (s.inpCfg i).stuckMs * 1000000 ≤ s.now) : inpStuck i s =
    (s.modInp i fun p => { p with stuck := true }).pendIo (inpId i) i 2 1 0 0 := by
  refine if_neg ?_
  rw [hact, hnew, decide_eq_true hi, decide_eq_true hmode, decide_eq_true hset, decide_eq_true hold]
  decide

end

/-! ### SAFE pairs (R467) -/

theorem pairFault_due {k since : Nat} (hk : k < 4) (hp : s.paired k = true) (hok : (s.io.pairs.getD k {}).fault = false)
    (hdis : (s.io.pairs.getD k {}).disagreeAt = some since) (hold : since + 10000000 < s.now) : pairFault k s =
    (s.modIo fun x => { x with
      pairFaults := satAdd32 x.pairFaults 1, pairs := modAt x.pairs k fun p => { p with fault := true } }).pendIo
        (inpId (48 + 2 * k)) (56 + k) 6 (b2n (s.pairLevel k)) 0 0 := by
  unfold pairFault
  extract_lets p due
  have hdue : due = true := by
    unfold due p
    rw [hdis]
    exact decide_eq_true hold
  refine if_neg ?_
  rw [hp, hdue, decide_eq_true hk, show p.fault = false from hok]
  decide

theorem pairOk_due {k since : Nat} (hk : k < 4) (hp : s.paired k = true) (hbad : (s.io.pairs.getD k {}).fault = true)
    (hok : (s.io.pairs.getD k {}).okSince = some since) (hold : since + 100000000 ≤ s.now) : pairOk k s =
    (s.modIo fun x => { x with pairs := modAt x.pairs k fun p => { p with fault := false } }).pendIo
      (inpId (48 + 2 * k)) (56 + k) 7 (b2n (s.pairLevel k)) 0 0 := by
  unfold pairOk
  extract_lets p due
  have hdue : due = true := by
    unfold due p
    rw [hok]
    exact decide_eq_true hold
  refine if_neg ?_
  rw [hp, hdue, decide_eq_true hk, show p.fault = true from hbad]
  decide

end

/-! ### The rows -/

theorem exec_touchScan (t : Nat) (raw : List Nat) (s : State) : exec (.touchScan t raw) s = .next (settle (touchScan raw (s.tick t))) := rfl
theorem exec_touchHoldLimit (t i : Nat) (s : State) : exec (.touchHoldLimit t i) s = .next (settle (touchHold i (s.tick t))) := rfl
theorem exec_approachScan (t : Nat) (sig : List Int) (s : State) :
    exec (.approachScan t sig) s = .next (settle ((approachScan sig (s.tick t)).wakeApproach (s.tick t))) := rfl
theorem exec_inputRawTransition (t i : Nat) (pin : Bool) (s : State) :
    exec (.inputRawTransition t i pin) s = .next (settle (inpRaw i pin (s.tick t)).bannersAll) := rfl
theorem exec_inputDebouncedChange (t i : Nat) (s : State) :
    exec (.inputDebouncedChange t i) s = .next (settle (inputRow i (s.tick t))) := rfl
theorem exec_chatterClear (t i : Nat) (s : State) :
    exec (.chatterClear t i) s = .next (settle (inpChatterClear i (s.tick t)).bannersAll) := rfl
theorem exec_inputStuck (t i : Nat) (s : State) : exec (.inputStuck t i) s = .next (settle (inpStuck i (s.tick t))) := rfl
theorem exec_pairFault (t k : Nat) (s : State) : exec (.pairFault t k) s = .next (settle (pairFault k (s.tick t)).bannersAll) := rfl
theorem exec_pairOk (t k : Nat) (s : State) : exec (.pairOk t k) s = .next (settle (pairOk k (s.tick t)).bannersAll) := rfl

/-- Settles O36: each event from its meaning on the ticked state. -/
theorem inputEvents : Obligations.InputEvents := by
  unfold Obligations.InputEvents
  refine ⟨?scan, ?hold, ?approach, ?raw, ?debounced, ?chatter, ?stuck, ?fault, ?ok⟩
  case scan =>
    rintro t raw s0 s rs rfl hon hrun rfl
    rw [exec_touchScan, touchScan_run hon hrun]
    rfl
  case hold =>
    rintro t i s0 s e rfl rfl hst hen hold
    rw [exec_touchHoldLimit, touchHold_due hst hen hold]
  case approach =>
    rintro t sig s0 s rfl hon hlow
    rw [exec_approachScan, approachScan_run hon hlow]
    rfl
  case raw =>
    rintro t i pin s0 s c p lvl rfl rfl rfl hi hmode hs hlvl hnew
    rw [exec_inputRawTransition, inpRaw_edge hi hmode hs hlvl hnew]
  case debounced =>
    rintro t i s0 s p rfl rfl hi hmode hcalm hnew hheld
    rw [exec_inputDebouncedChange]
    unfold inputRow
    rw [inpDebounced_due hi hmode hcalm hnew hheld]
    exact congrArg (fun u => Host.Outcome.next (settle u)) (ite_not _ _ _)
  case chatter =>
    rintro t i s0 s p rfl rfl hi hch hold
    rw [exec_chatterClear, inpChatterClear_due hi hch hold]
  case stuck =>
    rintro t i s0 s p rfl rfl hi hmode hset hact hnew hold
    rw [exec_inputStuck, inpStuck_due hi hmode hset hact hnew hold]
  case fault =>
    rintro t k s0 s since rfl hk hp hok hdis hold
    rw [exec_pairFault, pairFault_due hk hp hok hdis hold]
  case ok =>
    rintro t k s0 s since rfl hk hp hbad hok hold
    rw [exec_pairOk, pairOk_due hk hp hbad hok hold]

end Sys2Proof.Machine
end

section
/-! PROOF. The audio commands (spec/14 R336-R350), case by case, and the statement that gathers them. -/
namespace Sys2Proof.Machine

section
variable {j : Job} {s : State}

theorem audPortConfig_run (h : s.groupOf (j.u16 0) = none) : cmdAudPortConfig.run j s = .ok (s.modAud fun a => { a with
    ports := a.ports.set (idIndex (j.u16 0)) {
      enable := j.u8 2 = 1, master := j.u8 3 = 1, format := j.u8 4, output := j.u8 5 = 1, slots := j.u8 6, word := j.u8 7
      rate := j.u8 8, clock := j.u8 9, ratio := j.u16 10, fault := (a.ports.getD (idIndex (j.u16 0)) {}).fault && j.u8 2 = 0 }
    pairs := a.pairs.filter fun p => p.src ≠ 0x9000 + idIndex (j.u16 0)
    routes := if j.u8 2 = 1 then
        a.routes.map fun r => if r.source = 0x9000 + idIndex (j.u16 0) then { r with faultFade := none } else r
      else a.routes }) [] := by
  unfold cmdAudPortConfig
  dsimp only
  rw [h]

/-! ### Routes (R343) -/

theorem audRoute_removes (h : j.u8 1 = 0) : cmdAudRoute.run j s =
    .ok ((s.dropRouteWait (j.u8 0)).modAud fun a => { a with routes := a.routes.filter fun r => r.number ≠ j.u8 0 }) [] :=
  if_pos h

/-- What AUD_ROUTE asks of a route to an output port: its destination channel is free, its source is an input, and both ends lie
in one group. -/
structure RouteFits (j : Job) (s : State) : Prop where
  setting : j.u8 1 = 1
  port : idType (j.u16 6) = 9
  free : ∀ r ∈ s.accRoutes, r.number ≠ j.u8 0 → ¬(r.dst = j.u16 6 ∧ r.dstCh = j.u8 5)
  together : s.sameGroup (j.u16 2) (j.u16 6) = true
  sink : s.isInput (j.u16 6) = false
  source : s.isInput (j.u16 2) = true

theorem RouteFits.unused (h : RouteFits j s) :
    ((s.accRoutes.filter fun r => r.number ≠ j.u8 0).any fun r => r.dst = j.u16 6 && r.dstCh = j.u8 5) = false := by
  rw [List.any_eq_false]
  intro r hr
  obtain ⟨hmem, hnum⟩ := List.mem_filter.1 hr
  have hne := h.free r hmem (of_decide_eq_true hnum)
  simpa using hne

/-- Dropping a route that waits changes the transactions alone. -/
theorem dropRouteWait_eq (n : Nat) : s.dropRouteWait n = { s with txn := (s.dropRouteWait n).txn } := by
  unfold State.dropRouteWait
  split <;> rfl

/-- A route that fits comes into force, or waits for the Stitch boundary where it follows a layer placed on no head. -/
theorem audRoute_sets (h : RouteFits j s) (hfollow : j.u16 8 ≠ 0 → (s.lay.layers.getD (layerIndex (j.u16 8)) {}).cfg.guarded = true) :
    cmdAudRoute.run j s = .ok (if (j.u16 8 ≠ 0 && ((s.dropRouteWait (j.u8 0)).layerHeads (layerIndex (j.u16 8))).isEmpty &&
        idType (j.u16 6) ≠ 6) && j.req.txn = 0
      then (s.dropRouteWait (j.u8 0)).atBoundary j else (s.dropRouteWait (j.u8 0)).putRoute j) [] := by
  refine (if_neg (by simp [h.setting])).trans ((if_neg (by simp only [h.unused, Bool.false_eq_true, not_false_eq_true])).trans
    ((if_neg (by simp [h.port])).trans ((if_neg (by simp [h.together, h.sink, h.port])).trans
      ((if_neg (by simp [h.source])).trans ((if_neg ?_).trans rfl)))))
  by_cases hf : j.u16 8 = 0
  · rw [decide_eq_false (not_not.2 hf), Bool.false_and]
    decide
  · rw [hfollow hf, Bool.not_true, Bool.and_false]
    decide

theorem putRoute_unfollowed (h : j.u16 8 = 0) : s.putRoute j = s.modAud fun a => { a with
    routes := (a.routes.filter fun r => r.number ≠ j.u8 0) ++ [{
      number := j.u8 0, source := j.u16 2, srcCh := j.u8 4, dst := j.u16 6, dstCh := j.u8 5, follow := 0, gain := j.s16 10
      folMuted := false, folFade := none, folSince := s.local
      npFade := if s.aud.pairs.any fun p => p.src = j.u16 2 && p.pair = j.u8 4 / 2 && p.muted
        then some { down := true, start := s.local - 1000000 } else none
      faultFade := if idType (j.u16 2) = 9 && (s.audPort (idIndex (j.u16 2))).fault
        then some { down := true, start := s.local - 1000000 } else none }] } := by
  unfold State.putRoute State.routeOf
  rw [h]
  rfl

theorem audRoute_unfollowed (h : RouteFits j s) (hfollow : j.u16 8 = 0) :
    cmdAudRoute.run j s = .ok ((s.dropRouteWait (j.u8 0)).putRoute j) [] := by
  rw [audRoute_sets h (fun hf => absurd hfollow hf), if_neg (by simp [hfollow])]

theorem audRoute_waits (h : RouteFits j s) (hfollow : j.u16 8 ≠ 0)
    (hguard : (s.lay.layers.getD (layerIndex (j.u16 8)) {}).cfg.guarded = true)
    (hheads : s.layerHeads (layerIndex (j.u16 8)) = []) (hdirect : j.req.txn = 0) :
    cmdAudRoute.run j s = .ok ((s.dropRouteWait (j.u8 0)).atBoundary j) [] := by
  have hnone : (s.dropRouteWait (j.u8 0)).layerHeads (layerIndex (j.u16 8)) = [] := by
    rw [dropRouteWait_eq]
    exact hheads
  rw [audRoute_sets h (fun _ => hguard), if_pos (by simp [hfollow, hnone, hdirect, h.port])]

/-! ### Groups (R344) -/

theorem audGroup_dissolves (h : j.u8 7 = 1) : cmdAudGroup.run j s = .ok (s.modAud fun a => { a with
    groups := a.groups.set (idIndex (j.u16 0) - 0x100) {}
    routes := a.routes.filter fun r => !((s.group (idIndex (j.u16 0) - 0x100)).members.contains r.source ||
      (s.group (idIndex (j.u16 0) - 0x100)).members.contains r.dst) }) [] :=
  if_pos h

/-- The state in which AUD_GROUP has made its group. -/
def State.withGroup (s : State) (j : Job) : State :=
  s.modAud fun a => { a with
    groups := a.groups.set (idIndex (j.u16 0) - 0x100) {
      made := true, clock := j.u16 2, playout := j.u16 4, loopBw := j.u8 6, members := groupMembers j
      openAt := s.local + j.u16 4 * 1000 } }

theorem audGroup_makes (h : j.u8 7 = 0) (hclock : j.u16 2 = 0 ∨ s.isInput (j.u16 2) = true)
    (hok : groupErr s (idIndex (j.u16 0) - 0x100) (j.u16 2) (groupMembers j) = none) : cmdAudGroup.run j s =
    .ok (((s.withGroup j).modAud fun a => { a with
      routes := a.routes.filter fun r => (s.withGroup j).sameGroup r.source r.dst }).forEach (groupMembers j)
        fun m s => s.modAudCtr m fun _ => {}) [] := by
  refine (if_neg (by simp [h])).trans ?_
  dsimp only
  rw [hok]
  refine (if_neg ?_).trans rfl
  obtain hc | hc := hclock
  · simp [hc]
  · simp [hc]

/-! ### Tones (R348, R349) -/

/-- The tone that AUD_TONE names. -/
def State.toneOf (s : State) (j : Job) : Tone := s.aud.tones.getD (idIndex (j.u16 0) - 0xA0) {}

/-- The state with `t` for the tone that AUD_TONE names. -/
def State.putTone (s : State) (j : Job) (t : Tone) : State :=
  s.modAud fun a => { a with tones := a.tones.set (idIndex (j.u16 0) - 0xA0) t }

theorem audTone_stops (h : j.u8 2 = 0) : cmdAudTone.run j s = .ok (s.putTone j { s.toneOf j with
    playing := false
    stopAt := if (s.toneOf j).playing && (s.toneOf j).phaseOn then some s.now else (s.toneOf j).stopAt }) [] := by
  unfold cmdAudTone
  dsimp only
  rw [h]
  rfl

theorem audTone_starts (h : j.u8 2 = 1) (hgroup : s.groupOf (j.u16 10) ≠ none)
    (hon : (if idType (j.u16 10) = 9 then (s.audPort (idIndex (j.u16 10))).enable && !s.isInput (j.u16 10)
      else (s.heads.getD (idIndex (j.u16 10)) {}).accEnable && idType (s.heads.getD (idIndex (j.u16 10)) {}).target = 7) = true) :
    cmdAudTone.run j s = .ok (s.putTone j { s.toneOf j with
      playing := true, level := j.s8 3, freq := j.u16 4, onMs := j.u16 6, offMs := j.u16 8, dst := j.u16 10
      channels := j.u16 12, duration := j.u16 14, startAt := s.now, phaseOn := true, phaseAt := s.now, stopAt := none }) [] := by
  unfold cmdAudTone
  dsimp only
  rw [h]
  exact if_neg (by simp only [hon, hgroup, decide_false, Bool.not_true, Bool.or_false, Bool.false_eq_true, not_false_eq_true])

theorem audTone_takes (h : j.u8 2 = 2) (hown : (s.toneOf j).owned = false) :
    cmdAudTone.run j s = .ok (s.putTone j { s.toneOf j with owned := true }) [] := by
  unfold cmdAudTone
  dsimp only
  rw [h]
  exact if_neg (Bool.not_eq_true _ ▸ hown)

theorem audTone_releases (h : j.u8 2 = 3) (hown : (s.toneOf j).owned = true) :
    cmdAudTone.run j s = .ok (s.putTone j { s.toneOf j with owned := false }) [] := by
  unfold cmdAudTone
  dsimp only
  rw [h]
  exact if_pos hown

/-! ### Counters (R350) -/

/-- The reply's words as one list: those after the name, the fill and those after the counters each form a part. -/
theorem regroup_appends (a b c d e f g h i k l m n : List Byte) : a ++ b ++ c ++ d ++ e ++ f ++ g ++ h ++ i ++ k ++ l ++ m ++ n =
    a ++ (b ++ c ++ d) ++ e ++ f ++ g ++ h ++ i ++ k ++ l ++ (m ++ n) := by
  simp only [List.append_assoc]

theorem audStats_run : ∃ h f t : List Byte, h.length = 6 ∧ f.length = 4 ∧ cmdAudStats.run j s =
    .ok s (leBytes 2 (j.u16 0) ++ h ++ leBytes 8 (s.audCtr (j.u16 0)).samples ++ leBytes 8 (s.audCtr (j.u16 0)).silence ++
      leBytes 8 (s.audCtr (j.u16 0)).late ++ leBytes 8 (s.audCtr (j.u16 0)).overrun ++ f ++
      leBytes 4 (unsigned 32 s.pllPpb) ++ leBytes 4 (s.audCtr (j.u16 0)).nonPcm ++ t) :=
  ⟨_, _, _, by simp, by simp, congrArg (CmdResult.ok s) (regroup_appends _ _ _ _ _ _ _ _ _ _ _ _ _)⟩

end

/-! ### The rows -/

theorem isRow_audPortConfig : IsRow .audPortConfig cmdAudPortConfig := fun _ _ _ => rfl
theorem isRow_audRoute : IsRow .audRoute cmdAudRoute := fun _ _ _ => rfl
theorem isRow_audGroup : IsRow .audGroup cmdAudGroup := fun _ _ _ => rfl
theorem isRow_audTone : IsRow .audTone cmdAudTone := fun _ _ _ => rfl
theorem isRow_audStats : IsRow .audStats cmdAudStats := fun _ _ _ => rfl

/-- Settles O37: each command from its run in the case named. -/
theorem audioCommands : Obligations.AudioCommands := by
  unfold Obligations.AudioCommands
  refine ⟨?port, ?remove, ?set, ?wait, ?dissolve, ?make, ?stop, ?start, ?own, ?stats⟩
  case port => exact Runs.of isRow_audPortConfig fun j s _ _ _ hfree => ⟨_, _, audPortConfig_run hfree, rfl, rfl⟩
  case remove => exact Runs.of isRow_audRoute fun j s _ _ _ hremove => ⟨_, _, audRoute_removes hremove, rfl, rfl⟩
  case set =>
    refine Runs.of isRow_audRoute fun j s _ _ _ hpre => ?_
    obtain ⟨hset, hport, hfree, hsame, hsink, hsrc, hfollow⟩ := hpre
    refine ⟨_, _, audRoute_unfollowed ⟨hset, hport, hfree, hsame, hsink, hsrc⟩ hfollow, rfl, ?_⟩
    rw [putRoute_unfollowed hfollow, dropRouteWait_eq]
    rfl
  case wait =>
    refine Runs.of isRow_audRoute fun j s _ _ hclear hpre => ?_
    obtain ⟨hset, hport, hfree, hsame, hsink, hsrc, hfollow, hguard, hheads⟩ := hpre
    exact ⟨_, _, audRoute_waits ⟨hset, hport, hfree, hsame, hsink, hsrc⟩ hfollow hguard hheads (clear_direct hclear), rfl, rfl⟩
  case dissolve => exact Runs.of isRow_audGroup fun j s _ _ _ hdis => ⟨_, _, audGroup_dissolves hdis, rfl, rfl⟩
  case make =>
    refine Runs.of isRow_audGroup fun j s _ _ _ hpre => ?_
    obtain ⟨hmake, hclock, hok⟩ := hpre
    exact ⟨_, _, audGroup_makes hmake hclock hok, rfl, s.withGroup j, rfl, rfl⟩
  case stop => exact Runs.of isRow_audTone fun j s _ _ _ hstop => ⟨_, _, audTone_stops hstop, rfl, rfl⟩
  case start =>
    refine Runs.of isRow_audTone fun j s _ _ _ hpre => ?_
    obtain ⟨hstart, hgroup, hon⟩ := hpre
    exact ⟨_, _, audTone_starts hstart hgroup hon, rfl, rfl⟩
  case own =>
    refine Runs.of isRow_audTone fun j s _ _ _ hpre => ?_
    obtain ⟨htake, hfree⟩ | ⟨hrelease, howned⟩ := hpre
    · refine ⟨_, _, audTone_takes htake hfree, rfl, ?_⟩
      rw [htake]
      rfl
    · refine ⟨_, _, audTone_releases hrelease howned, rfl, ?_⟩
      rw [hrelease]
      rfl
  case stats =>
    refine Runs.of isRow_audStats fun j s _ _ _ _ => ?_
    obtain ⟨h, f, t, hh, hf, hrun⟩ := audStats_run (j := j) (s := s)
    exact ⟨_, _, hrun, rfl, h, f, t, hh, hf, rfl⟩

end Sys2Proof.Machine
end

section
/-! PROOF. Sample frames, play times, tones, mutes and the steering limit (spec/14 R340-R348), case by case, and the statement that
gathers them. -/
namespace Sys2Proof.Machine

/-! ### The audio groups that a step keeps -/

/-- `u` holds the groups of `s` with their members, at the same instant. -/
structure SameGroups (s u : State) : Prop where
  clk : u.clk = s.clk
  group : ∀ i, (u.group i).made = (s.group i).made ∧ (u.group i).members = (s.group i).members

section
variable {s u v : State}

theorem SameGroups.refl (s : State) : SameGroups s s := ⟨rfl, fun _ => ⟨rfl, rfl⟩⟩

theorem SameGroups.trans (h1 : SameGroups s u) (h2 : SameGroups u v) : SameGroups s v :=
  ⟨h2.clk.trans h1.clk, fun i => ⟨(h2.group i).1.trans (h1.group i).1, (h2.group i).2.trans (h1.group i).2⟩⟩

theorem SameGroups.forEach {α : Type} {f : α → State → State} (h : ∀ a s, SameGroups s (f a s)) (l : List α) (s : State) :
    SameGroups s (s.forEach l f) :=
  State.forEach_keeps (p := SameGroups s) (fun a u hu => hu.trans (h a u)) l s (SameGroups.refl s)

theorem SameGroups.groupOf (h : SameGroups s u) (id : Nat) : u.groupOf id = s.groupOf id := by
  unfold State.groupOf
  congr 1
  funext i
  rw [(h.group i).1, (h.group i).2]

end

section
variable (s : State)

theorem modGroup_sameGroups (i : Nat) {f : Group → Group} (hf : ∀ g, (f g).made = g.made ∧ (f g).members = g.members) :
    SameGroups s (s.modGroup i f) := by
  refine ⟨rfl, fun k => ?_⟩
  change ((modAt s.aud.groups i f).getD k {}).made = _ ∧ ((modAt s.aud.groups i f).getD k {}).members = _
  unfold State.group
  simp only [List.getD_eq_getElem?_getD, modAt_getElem?]
  cases s.aud.groups[k]? with
  | none => exact ⟨rfl, rfl⟩
  | some g =>
    simp only [Option.map_some, Option.getD_some]
    split
    · exact hf g
    · exact ⟨rfl, rfl⟩

theorem emit_sameGroups (o : Output) : SameGroups s (s.emit o) := ⟨rfl, fun _ => ⟨rfl, rfl⟩⟩

theorem modAudCtr_sameGroups (id : Nat) (f : AudCtr → AudCtr) : SameGroups s (s.modAudCtr id f) := by
  unfold State.modAudCtr
  split
  · exact ⟨rfl, fun _ => ⟨rfl, rfl⟩⟩
  · split
    · exact SameGroups.refl s
    · split
      · exact ⟨rfl, fun _ => ⟨rfl, rfl⟩⟩
      · exact modGroup_sameGroups s _ fun _ => ⟨rfl, rfl⟩

theorem tally_sameGroups (code source first k : Nat) : SameGroups s (s.tally code source first k) := by
  unfold State.tally
  refine ⟨rfl, fun i => ?_⟩
  change (Group.made (List.getD (Aud.groups (if _ then _ else _)) i {})) = _ ∧
    (Group.members (List.getD (Aud.groups (if _ then _ else _)) i {})) = _
  split <;> exact ⟨rfl, rfl⟩

/-- Two changes of a group that agree on it are one. -/
theorem modGroup_congr (i : Nat) (f g : Group → Group) (h : f (s.group i) = g (s.group i)) : s.modGroup i f = s.modGroup i g :=
  congrArg (fun l => s.modAud fun a => { a with groups := l }) (modAt_congr s.aud.groups i f g {} h)

end

section
variable {s : State}

/-! ### Sample frames (R340) -/

/-- The input port `k` that has counted a sample frame. -/
def State.heardFrame (s : State) (k : Nat) : State :=
  (s.modAud fun a => { a with ports := modAt a.ports k fun p => { p with lastEdge := s.local } }).modAudCtr (0x9000 + k)
    fun c => { c with samples := c.samples + 1 }

/-- An input port that can hear sample frames. -/
structure HearsFrames (s : State) (k : Nat) : Prop where
  port : k < 8
  enabled : (s.audPort k).enable = true
  input : (s.audPort k).output = false
  good : (s.audPort k).fault = false
  powered : s.domainOn 20 = true

theorem HearsFrames.test {k : Nat} (h : HearsFrames s k) : ¬(!(decide (k < 8) && (s.audPort k).enable && !(s.audPort k).output &&
    !(s.audPort k).fault && s.domainOn 20)) = true := by
  simp [h.port, h.enabled, h.input, h.good, h.powered]

/-- The samples of a frame of slots. -/
def AudPort.samples (p : AudPort) (slots : List Int) : List Int := (slots.take p.slots).map (slotValue p)

/-- The subframes of a frame of slots. -/
def AudPort.words (p : AudPort) (slots : List Int) : List Int := if p.format = 2 then slots.take p.slots else []

/-- The number of local time at a rate. -/
def State.mediaNow (s : State) (rate : Nat) : Int := (s.local * audHz rate / nsPerSec : Nat)

section
variable {k gi : Nat} {slots : List Int}

theorem audFrameSync_alone (h : HearsFrames s k) (hg : (s.heardFrame k).groupOf (0x9000 + k) = none) : audFrameSync k slots s =
    (s.heardFrame k).watchPairs (0x9000 + k) ((s.heardFrame k).mediaNow (s.audPort k).rate) ((s.audPort k).samples slots)
      ((s.audPort k).words slots) := by
  refine (if_neg h.test).trans ?_
  change (match (s.heardFrame k).groupOf (0x9000 + k) with | none => _ | some gi => _) = _
  rw [hg]
  rfl

/-- The number of a frame of port `k`: the next of its own count where it is its group's reference, else the one of local time. -/
def State.frameNo (s : State) (k gi rate : Nat) : Int := if (s.group gi).clock = 0x9000 + k then (s.group gi).refCount else s.mediaNow rate

/-- A reference counts its frames, from the first. -/
def State.countRef (s : State) (k gi : Nat) : State := if (s.group gi).clock = 0x9000 + k then
    s.modGroup gi fun g => { g with refCount := g.refCount + 1, refFirst := some (g.refFirst.getD s.local) }
  else s

theorem audFrameSync_grouped (h : HearsFrames s k) (hg : (s.heardFrame k).groupOf (0x9000 + k) = some gi) : audFrameSync k slots s =
    (((s.heardFrame k).countRef k gi).watchPairs (0x9000 + k) ((s.heardFrame k).frameNo k gi (s.audPort k).rate)
      ((s.audPort k).samples slots) ((s.audPort k).words slots)).writeSample gi
        { src := 0x9000 + k, n := (s.heardFrame k).frameNo k gi (s.audPort k).rate, values := (s.audPort k).samples slots } := by
  refine (if_neg h.test).trans ?_
  change (match (s.heardFrame k).groupOf (0x9000 + k) with | none => _ | some gi => _) = _
  rw [hg]
  rfl

end

/-! ### Play times (R341, R342, R345) -/

/-- The routes that feed the destinations of group `gi` that play. -/
def State.fedRoutes (s : State) (gi : Nat) : List Route :=
  s.aud.routes.filter fun r => ((s.group gi).members.filter s.destPlays).contains r.dst

/-- The sources of group `gi` whose sample `n` has not come. -/
def State.missingSources (s : State) (gi : Nat) (n : Int) : List Nat :=
  ((s.fedRoutes gi).map (·.source)).eraseDups.filter fun src => !(s.group gi).buffer.any fun b => b.src = src && b.n = n

/-- Every destination channel of group `gi` has played sample `n`, and what is missing is counted. -/
def State.playDests (s : State) (gi : Nat) (n : Int) (opened : Bool) : State :=
  (s.forEach ((s.group gi).members.filter s.destPlays) fun d u =>
    (u.forEach (List.range (u.memberChannels d)) fun ch w =>
      let v := match (s.fedRoutes gi).find? fun r => r.dst = d && r.dstCh = ch with
        | some r => match (s.group gi).buffer.find? fun b => b.src = r.source && b.n = n with
          | some b => if opened then r.play w.local (b.values.getD r.srcCh 0) else 0
          | none => 0
        | none => 0
      let tone := ((w.aud.tones.filter fun t => t.dst = d && t.channels.testBit ch).map fun t => t.play w.now).sum
      w.emit (.sample d ch (w.slotOut d (satS 32 (v + tone))))).modAudCtr d fun c => { c with
        samples := c.samples + 1
        silence := c.silence + b2n (opened && (s.fedRoutes gi).any fun r => r.dst = d && (s.missingSources gi n).contains r.source) }).forEach
    (if opened then s.missingSources gi n else []) fun src u =>
      (u.modAudCtr src fun c => { c with silence := c.silence + 1 }).tally 1 src (unsigned 32 n)

section
variable {gi : Nat} {n : Int}

theorem playDests_sameGroups (opened : Bool) : SameGroups s (s.playDests gi n opened) := by
  unfold State.playDests
  refine SameGroups.trans (SameGroups.forEach (fun d u => ?_) _ s) (SameGroups.forEach (fun src u => ?_) _ _)
  · exact SameGroups.trans (SameGroups.forEach (fun ch w => emit_sameGroups w _) _ u) (modAudCtr_sameGroups _ d _)
  · exact (modAudCtr_sameGroups u src _).trans (tally_sameGroups _ _ _ _ _)

/-- Group `gi` after its sample `n`. -/
def Group.afterPlay (g : Group) (hz now l : Nat) (n : Int) (silent : Bool) : Group :=
  { g.steer hz now with
    played := some n, playedAt := (g.nextAt hz l).getD 0, buffer := g.buffer.filter fun b => n < b.n
    ctr := { g.ctr with samples := g.ctr.samples + 1, silence := g.ctr.silence + b2n silent } }

theorem audPlay_due (hmade : (s.group gi).made = true) (hon : s.domainOn 20 = true)
    (hn : (s.group gi).playNow (s.groupHz (s.group gi)) s.local = n)
    (hdue : (s.group gi).early (s.groupHz (s.group gi)) s.local = false) (hnew : ∀ m, (s.group gi).played = some m → m < n) :
    audPlay gi s = (s.playDests gi n (decide ((s.group gi).openAt ≤ s.local))).modGroup gi fun g =>
      g.afterPlay (s.groupHz (s.group gi)) s.now s.local n
        (decide ((s.group gi).openAt ≤ s.local) && !(s.missingSources gi n).isEmpty) := by
  subst hn
  unfold audPlay
  extract_lets g hz n stale opened dests fed missing s1 s2
  have hfresh : stale = false := by
    unfold stale
    cases hp : g.played with
    | none => rfl
    | some m => exact decide_eq_false (Int.not_le.2 (hnew m hp))
  rw [if_neg (by simp only [g, hz, hmade, hon, hdue, hfresh]; decide)]
  have hplayed : s2 = s.playDests gi n (decide ((s.group gi).openAt ≤ s.local)) := by
    unfold s2 s1 State.playDests
    by_cases ho : (s.group gi).openAt ≤ s.local
    · simp only [opened, g, ho, if_true, decide_true]
      rfl
    · simp only [opened, g, ho, if_false, decide_false]
      rfl
  have hclk := (playDests_sameGroups (s := s) (gi := gi) (n := n) (decide ((s.group gi).openAt ≤ s.local))).clk
  rw [hplayed, show State.now _ = s.now from congrArg Clk.elapsed hclk, show State.local _ = s.local from congrArg Clk.localNs hclk]
  rfl

/-- Every group with the members of `gi` plays at its rate. -/
theorem groupHz_congr {g g' : Group} (h : g'.members = g.members) : s.groupHz g' = s.groupHz g := by
  unfold State.groupHz
  rw [h]

theorem early_local (hc : (s.group gi).clock = 0) (hz : Nat) {l : Nat} (h : (s.group gi).playout * 1000 ≤ l) :
    (s.group gi).early hz l = false := by
  unfold Group.early Group.nextAt
  rw [if_pos hc, Nat.max_eq_left h]
  exact decide_eq_false (Nat.not_le.2 (Nat.mul_lt_mul_of_pos_right (Nat.lt_succ_self l) (by decide)))

theorem early_due {hz l due : Nat} {g : Group} (h : g.nextAt hz l = some due) (hdue : due < (l + 1) * m32) : g.early hz l = false := by
  unfold Group.early
  rw [h]
  exact decide_eq_false (Nat.not_le.2 hdue)

end

/-! ### Tones (R348) -/

theorem tonePhase_due {k : Nat} (hplay : (s.aud.tones.getD k {}).playing = true) (hon : (s.aud.tones.getD k {}).onMs ≠ 0)
    (hold : (s.aud.tones.getD k {}).phaseAt + (if (s.aud.tones.getD k {}).phaseOn then (s.aud.tones.getD k {}).onMs
      else (s.aud.tones.getD k {}).offMs) * 1000000 ≤ s.now) : tonePhase k s =
    s.modAud fun a => { a with
      tones := modAt a.tones k fun y => { y with
        phaseOn := !y.phaseOn
        phaseAt := y.phaseAt + (if (s.aud.tones.getD k {}).phaseOn then (s.aud.tones.getD k {}).onMs
          else (s.aud.tones.getD k {}).offMs) * 1000000 } } := by
  refine if_neg ?_
  rw [hplay, decide_eq_true hon, decide_eq_true hold]
  decide

theorem toneExpiry_due {k : Nat} (hplay : (s.aud.tones.getD k {}).playing = true) (hset : (s.aud.tones.getD k {}).duration ≠ 0)
    (hold : (s.aud.tones.getD k {}).startAt + (s.aud.tones.getD k {}).duration * nsPerSec ≤ s.now) : toneExpiry k s =
    s.modAud fun a => { a with tones := modAt a.tones k fun y => { y with playing := false } } := by
  refine if_neg ?_
  rw [hplay, decide_eq_true hset, decide_eq_true hold]
  decide

/-! ### Non-PCM data (R346) -/

section
variable {src pair reason : Nat} {p : AudPair}

/-- The pair with its indication taken, muted. -/
def State.nonPcmTaken (s : State) (src pair reason : Nat) : State :=
  s.modAud fun a => { a with
    pairs := a.pairs.map fun q =>
      if q.src = src && q.pair = pair then { q with
        found := q.found && reason ≠ 2, status := q.status && reason ≠ 1, clean := 0, muted := true } else q }

/-- The start of a fade at `f` of the play time of sample `n` of an input, now where it is in no group. -/
def State.fadeStart (s : State) (src : Nat) (n : Int) (f : Nat → Nat) : Nat := match s.groupOf src with
  | some gi => f (playAt (s.group gi) (s.groupHz (s.group gi)) n)
  | none => s.local

/-- The routes of a channel pair fade from `start`. -/
def State.fadePair (s : State) (src pair : Nat) (f : Fade) : State :=
  s.modAud fun a => { a with
    routes := a.routes.map fun r => if r.source = src && r.srcCh / 2 = pair then { r with npFade := some f } else r }

/-- A non-PCM mute counts at an input and at its group. -/
def State.countNonPcm (s : State) (src : Nat) (group : Option Nat) : State :=
  match group with
  | some gi => (s.modAudCtr src fun c => { c with nonPcm := satAdd32 c.nonPcm 1 }).modAudCtr (0xA100 + gi)
      fun c => { c with nonPcm := satAdd32 c.nonPcm 1 }
  | none => s.modAudCtr src fun c => { c with nonPcm := satAdd32 c.nonPcm 1 }

/-- The indication that a reason names stands in the pair. -/
theorem indication_stands (h : (reason = 2 ∧ p.found = true) ∨ (reason = 1 ∧ p.status = true)) :
    (if reason = 2 then p.found else decide (reason = 1) && p.status) = true := by
  obtain ⟨rfl, hf⟩ | ⟨rfl, hs⟩ := h
  · exact hf
  · exact hs

theorem audNonPcm_again (hp : s.aud.pairs.find? (fun p => p.src = src && p.pair = pair) = some p)
    (h : (reason = 2 ∧ p.found = true) ∨ (reason = 1 ∧ p.status = true)) (hm : p.muted = true) :
    audNonPcm src pair reason s = s.nonPcmTaken src pair reason := by
  unfold audNonPcm
  rw [hp]
  exact (if_neg (by rw [indication_stands h]; decide)).trans (if_pos hm)

theorem audNonPcm_first (hp : s.aud.pairs.find? (fun p => p.src = src && p.pair = pair) = some p)
    (h : (reason = 2 ∧ p.found = true) ∨ (reason = 1 ∧ p.status = true)) (hm : p.muted = false) : audNonPcm src pair reason s =
    (((s.nonPcmTaken src pair reason).fadePair src pair
      { down := true, start := s.fadeStart src (if reason = 2 then p.burstN else p.statusN) fun l => l - 1000000 }).countNonPcm src
        (s.groupOf src)).evtAudio src 4 reason pair 0 := by
  unfold audNonPcm
  rw [hp]
  refine (if_neg (by rw [indication_stands h]; decide)).trans ((if_neg (by rw [hm]; decide)).trans ?_)
  extract_lets start s1 count s2
  have hgroup : s2.groupOf src = s.groupOf src := (modAudCtr_sameGroups s1 src count).groupOf src
  have hstart : start = s.fadeStart src (if reason = 2 then p.burstN else p.statusN) fun l => l - 1000000 := rfl
  rw [hgroup, ← hstart]
  clear_value start
  cases s.groupOf src with
  | none => rfl
  | some gi => rfl

theorem audNonPcmClear_due (hp : s.aud.pairs.find? (fun p => p.src = src && p.pair = pair) = some p) (hm : p.muted = true)
    (hclean : 32768 ≤ p.clean) : audNonPcmClear src pair s =
    ((s.modAud fun a => { a with
      pairs := a.pairs.map fun q => if q.src = src && q.pair = pair then { q with muted := false } else q }).fadePair src pair
        { down := false, start := s.fadeStart src p.lastN fun l => l }).evtAudio src 5 0 pair 0 := by
  unfold audNonPcmClear
  rw [hp]
  exact (if_neg (by rw [hm, decide_eq_true hclean]; decide)).trans rfl

end

/-! ### The steering limit (R345) -/

theorem steerLimit_reached {gi since : Nat} (hmade : (s.group gi).made = true) (hc : (s.group gi).clock ≠ 0)
    (hat : (s.group gi).limitAt = some since) (hold : since + nsPerSec ≤ s.now) (hnew : (s.group gi).limit = false) :
    steerLimit gi true s = (s.modGroup gi fun g => { g with limit := true }).evtAudio (0xA100 + gi) 6 0
      (unsigned 32 (s.group gi).ppb) (s.audFill (s.group gi) (s.group gi).clock) := by
  have hheld : (s.group gi).limitAt.any (fun t => decide (t + nsPerSec ≤ s.now)) = true := by
    rw [hat, Option.any_some, decide_eq_true hold]
  refine (if_neg ?_).trans ((if_neg (by decide)).trans (if_neg (by rw [hnew]; decide)))
  rw [hheld, hmade, decide_eq_true hc]
  decide

theorem steerLimit_left {gi : Nat} (hmade : (s.group gi).made = true) (hc : (s.group gi).clock ≠ 0)
    (hshort : ∀ since, (s.group gi).limitAt = some since → s.now < since + nsPerSec) :
    steerLimit gi false s = s.modGroup gi fun g => { g with limit := false } := by
  have hheld : (s.group gi).limitAt.any (fun t => decide (t + nsPerSec ≤ s.now)) = false := by
    cases hat : (s.group gi).limitAt with
    | none => rfl
    | some since => rw [Option.any_some, decide_eq_false (Nat.not_le.2 (hshort since hat))]
  refine (if_neg ?_).trans (if_pos rfl)
  rw [hheld, hmade, decide_eq_true hc]
  decide

end

/-! ### The rows -/

theorem exec_frameSyncEdge (t k : Nat) (slots : List Int) (s : State) :
    exec (.frameSyncEdge t k slots) s = .next (settle (audFrameSync k slots (s.tick t))) := rfl
theorem exec_samplePlayTime (t gi : Nat) (s : State) : exec (.samplePlayTime t gi) s = .next (settle (audPlay gi (s.tick t))) := rfl
theorem exec_tonePhaseChange (t k : Nat) (s : State) : exec (.tonePhaseChange t k) s = .next (settle (tonePhase k (s.tick t))) := rfl
theorem exec_toneDurationExpiry (t k : Nat) (s : State) :
    exec (.toneDurationExpiry t k) s = .next (settle (toneExpiry k (s.tick t))) := rfl
theorem exec_nonPcmDetect (t src pair reason : Nat) (s : State) :
    exec (.nonPcmDetect t src pair reason) s = .next (settle (audNonPcm src pair reason (s.tick t))) := rfl
theorem exec_nonPcmClear (t src pair : Nat) (s : State) :
    exec (.nonPcmClear t src pair) s = .next (settle (audNonPcmClear src pair (s.tick t))) := rfl
theorem exec_steerLimit (t gi : Nat) (reached : Bool) (s : State) :
    exec (.steerLimit t gi reached) s = .next (settle (steerLimit gi reached (s.tick t))) := rfl

/-- Settles O38: each event from its meaning on the ticked state. -/
theorem audioEvents : Obligations.AudioEvents := by
  unfold Obligations.AudioEvents
  refine ⟨?frame, ?play, ?phase, ?expiry, ?detect, ?clear, ?limit⟩
  case frame =>
    rintro t k slots s0 s p rfl rfl hk hon hin hgood hpow
    have h : HearsFrames (s0.tick t) k := ⟨hk, hon, hin, hgood, hpow⟩
    refine ⟨(s0.tick t).heardFrame k, rfl, ?_⟩
    rintro vs words rfl rfl
    refine ⟨fun hnone => ?_, ?_⟩
    · rw [exec_frameSyncEdge, audFrameSync_alone h hnone]
      rfl
    · rintro gi g hsome rfl
      refine ⟨fun hc => ?_, fun hc => ?_⟩
      · rw [exec_frameSyncEdge, audFrameSync_grouped h hsome]
        unfold State.countRef State.frameNo
        rw [if_neg hc, if_neg hc]
        rfl
      · rw [exec_frameSyncEdge, audFrameSync_grouped h hsome]
        unfold State.countRef State.frameNo
        rw [if_pos hc, if_pos hc]
        rfl
  case play =>
    rintro t gi s0 s g n rfl rfl hmade hpow hlocal hforeign hnew opened dests fed missing rfl rfl rfl rfl
    rw [exec_samplePlayTime]
    have hplay : ((s0.tick t).group gi).playNow ((s0.tick t).groupHz ((s0.tick t).group gi)) (s0.tick t).local = n ∧
        ((s0.tick t).group gi).early ((s0.tick t).groupHz ((s0.tick t).group gi)) (s0.tick t).local = false := by
      unfold Group.playNow
      by_cases hc : ((s0.tick t).group gi).clock = 0
      · obtain ⟨hl, rfl⟩ := hlocal hc
        exact ⟨if_pos hc, early_local hc _ hl⟩
      · obtain ⟨rfl, due, hnext, hdue⟩ := hforeign hc
        exact ⟨if_neg hc, early_due hnext hdue⟩
    rw [audPlay_due hmade hpow hplay.1 hplay.2 hnew]
    refine congrArg (fun u => Host.Outcome.next (settle u)) (modGroup_congr _ _ _ _ ?_)
    have hsame := ((playDests_sameGroups (s := s0.tick t) (gi := gi) (n := n) (decide (((s0.tick t).group gi).openAt ≤ (s0.tick t).local))).group gi).2
    rw [groupHz_congr hsame.symm]
    rfl
  case phase =>
    rintro t k s0 s x rfl rfl hplay hon hold
    rw [exec_tonePhaseChange, tonePhase_due hplay hon hold]
  case expiry =>
    rintro t k s0 s x rfl rfl hplay hset hold
    rw [exec_toneDurationExpiry, toneExpiry_due hplay hset hold]
  case detect =>
    rintro t src pair reason s0 s p s1 rfl hp hind rfl
    refine ⟨fun hm => ?_, fun hm => ?_⟩
    · rw [exec_nonPcmDetect, audNonPcm_again hp hind hm]
      rfl
    · rw [exec_nonPcmDetect, audNonPcm_first hp hind hm]
      unfold State.fadeStart State.countNonPcm
      cases (s0.tick t).groupOf src with
      | none => rfl
      | some gi => rfl
  case clear =>
    rintro t src pair s0 s p rfl hp hm hclean
    rw [exec_nonPcmClear, audNonPcmClear_due hp hm hclean]
    rfl
  case limit =>
    rintro t gi s0 s g rfl rfl hmade hc
    refine ⟨fun since hat hold hnew => ?_, fun hshort => ?_⟩
    · rw [exec_steerLimit, steerLimit_reached hmade hc hat hold hnew]
    · rw [exec_steerLimit, steerLimit_left hmade hc hshort]

end Sys2Proof.Machine
end

section
/-! PROOF. Clock monitors, PORST_B, warm resets and READY (spec/22 R485-R499), case by case, and the statement that gathers them. -/
namespace Sys2Proof.Machine

section
variable {s u : State}

/-! ### Clock findings (R485-R489) -/

/-- A finding on a clock has been logged and is held. -/
def State.noteFinding (s : State) (input kind freq : Nat) : State :=
  (s.logOnly (0x0C00 + kind) 0 [input, sat32 freq]).modClk fun c => { c with
    faults := (input, s.now) :: c.faults.filter fun f => f.1 ≠ input }

/-- What a finding does once it is held. -/
def State.actOnFinding (s : State) (input kind : Nat) : State :=
  match input with
  | 0 => s.loseRef
  | 1 => s
  | 2 => { s with hif := { s.hif with pcieUp := false, enable := false } }
  | _ => s.forEach (if 8 ≤ input then [input - 8] else (List.range 8).filter fun k =>
      (s.audPort k).enable && (s.audPort k).master && (s.audPort k).clock = input - 2) fun k s => s.audClockFault k kind

theorem clockFinding_acts {input kind freq : Nat} (hw : s.watched input = true) (hlo : 1 ≤ kind) (hhi : kind ≤ 3) :
    clockFinding input kind freq s = (s.noteFinding input kind freq).actOnFinding input kind :=
  (if_neg (by simp [hw, Nat.not_lt.2 hhi, Nat.one_le_iff_ne_zero.1 hlo])).trans rfl

/-- A finding on an audio clock faults the ports that it clocks. -/
theorem actOnFinding_audio {input kind : Nat} (h : 3 ≤ input) : s.actOnFinding input kind =
    s.forEach (if 8 ≤ input then [input - 8] else (List.range 8).filter fun k =>
      (s.audPort k).enable && (s.audPort k).master && (s.audPort k).clock = input - 2) fun k s => s.audClockFault k kind := by
  obtain ⟨n, rfl⟩ := Nat.exists_eq_add_of_le' h
  rfl

/-- The finding on an input is forgotten. -/
def State.dropFinding (s : State) (input : Nat) : State := s.modClk fun c => { c with faults := c.faults.filter fun f => f.1 ≠ input }

/-- What the end of a finding does once it is forgotten. -/
def State.actOnGood (s : State) (input : Nat) : State :=
  match input with
  | 0 => if s.hoop.awaitRef then (s.regainRef.modHoop fun h => { h with awaitRef := false }).boot false else s.regainRef
  | 2 => { s with hif := { s.hif with pcieUp := s.domainOn 19 } }
  | _ => s

theorem clockGood_due {input : Nat} {f : Nat × Nat} (hf : s.clk.faults.find? (fun f => f.1 = input) = some f)
    (hold : f.2 + 10000000 ≤ s.now) : clockGood input s = (s.dropFinding input).actOnGood input := by
  unfold clockGood
  rw [hf]
  exact (if_neg (Nat.not_lt.2 hold)).trans rfl

theorem actOnGood_other {input : Nat} (h0 : input ≠ 0) (h2 : input ≠ 2) : s.actOnGood input = s := by
  unfold State.actOnGood
  split
  · contradiction
  · contradiction
  · rfl

theorem clockBanner_due (hlost : s.clk.refLost = true) (hold : s.clk.refLostAt + nsPerSec ≤ s.now) :
    clockBanner s = (s.modClk fun c => { c with clockFault := true }).bannersEndSr := by
  refine if_pos ?_
  rw [hlost, decide_eq_true hold]
  rfl

theorem refclkRecovery_due {since : Nat} (hgood : s.clk.refGoodAt = some since) (hold : since + nsPerSec ≤ s.now) :
    refclkRecovery s = s.modClk fun c => { c with refGoodAt := none, clockFault := false } := by
  unfold refclkRecovery
  rw [hgood]
  exact if_pos hold

/-! ### The boot ROM (R497, Table 22-4) -/

/-- A board configuration changes the Hoop's scrub interval, its heap, its rails and its guard regions alone. -/
theorem configured_keeps (h : Hoop) (b : List Byte) : ∃ scrub heap rails guard,
    h.configured b = { h with scrubHours := scrub, heapGib := heap, pmbus := rails, boardGuard := guard } := by
  unfold Hoop.configured
  split <;> exact ⟨_, _, _, _, rfl⟩

/-- `u` differs from `s` at most in what the boot ROM sets: the clock, the Hoop, the host interface, the outputs and the free values. -/
def BootOnly (s u : State) : Prop := u = { s with clk := u.clk, hoop := u.hoop, hif := u.hif, out := u.out, free := u.free }

theorem BootOnly.trans {v : State} (h1 : BootOnly s u) (h2 : BootOnly u v) : BootOnly s v := by
  unfold BootOnly at *
  rw [h2, h1]

theorem OnlyHoop.bootOnly (h : OnlyHoop s u) : BootOnly s u := by
  unfold BootOnly
  rw [h]

/-- `u` is what the boot ROM makes of `s`: local time is loaded, and the Hoop is released now. -/
structure Boots (s u : State) : Prop where
  rest : BootOnly s u
  clk : u.clk = s.loadLocal.clk
  awaitRef : u.hoop.awaitRef = s.hoop.awaitRef
  releasedAt : u.hoop.releasedAt = s.now

theorem raiseIrq_bootOnly (s : State) (c : Nat) : BootOnly s (s.raiseIrq c) := by
  unfold State.raiseIrq
  split
  · rfl
  · dsimp only
    split <;> rfl

theorem failTrial_awaitRef (s : State) (result : Nat) : (s.failTrial result).hoop.awaitRef = s.hoop.awaitRef := by
  obtain ⟨m, l, n, h⟩ := record_hoop s 0x0A03 0
    [s.hoop.running, (s.hoop.slots.getD s.hoop.running {}).version, (s.hoop.slots.getD s.hoop.running {}).arb]
  exact (congrArg Hoop.awaitRef h :)

/-- A trial that has failed before the slot is chosen, or none. -/
def State.trialEnds (s : State) (trialFailed : Bool) : State := if trialFailed then s.failTrial 3 else s

theorem trialEnds_onlyHoop (b : Bool) : OnlyHoop s (s.trialEnds b) := by
  cases b with
  | false => rfl
  | true => exact (record_onlyHoop s _ _ _).trans rfl

theorem trialEnds_awaitRef (b : Bool) : (s.trialEnds b).hoop.awaitRef = s.hoop.awaitRef := by
  cases b with
  | false => rfl
  | true => exact failTrial_awaitRef s 3

/-- The Hoop as the boot ROM starts it at `now`, before its board configuration. -/
def Hoop.released (h : Hoop) (now : Nat) : Hoop :=
  { h with
    keys := if h.otp.lifecycle = 2 then List.replicate 5 none else h.flashKeys
    debugOpen := h.otp.lifecycle ≠ 1, releasedAt := now, samplerSinceReset := false }

/-- The Hoop that runs slot `i` from `now`. -/
def Hoop.runs (h : Hoop) (now i : Nat) : Hoop :=
  { (h.released now).configured (h.slots.getD i {}).bytes with
    running := i
    upd := if h.upd.st = .trial then { h.upd with trialUntil := now + 60 * nsPerSec } else h.upd
    fwHoop := (h.slots.getD i {}).version, fwBobbin := (h.slots.getD i {}).version }

theorem configured_released (h : Hoop) (now : Nat) (b : List Byte) : ((h.released now).configured b).releasedAt = now ∧
    ((h.released now).configured b).debugOpen = decide (h.otp.lifecycle ≠ 1) ∧
    ((h.released now).configured b).awaitRef = h.awaitRef := by
  obtain ⟨_, _, _, _, hc⟩ := configured_keeps (h.released now) b
  rw [hc]
  exact ⟨rfl, rfl, rfl⟩

theorem runs_keeps (h : Hoop) (now i : Nat) : (h.runs now i).running = i ∧ (h.runs now i).fwHoop = (h.slots.getD i {}).version ∧
    (h.runs now i).releasedAt = now ∧ (h.runs now i).debugOpen = decide (h.otp.lifecycle ≠ 1) ∧ (h.runs now i).awaitRef = h.awaitRef :=
  ⟨rfl, rfl, configured_released h now (h.slots.getD i {}).bytes⟩

/-- The state in which slot `i` runs. -/
def State.runsSlot (s : State) (i : Nat) : State :=
  { s with hoop := s.hoop.runs s.now i, hif := { s.hif with hoopState := 1 } }

/-- `v` is `s` with another local time, which is not established. -/
structure SetsLocal (s v : State) : Prop where
  eq : v = { s with clk := v.clk }
  hoop : v.hoop = s.hoop
  hif : v.hif = s.hif
  io : v.io = s.io
  slots : ∀ i, v.slotOk i = s.slotOk i
  now : v.now = s.now
  stitch : v.clk.stitch = s.clk.stitch
  refLost : v.clk.refLost = s.clk.refLost
  established : v.clk.established = false

theorem withLocal_setsLocal (s : State) (l b : Nat) :
    SetsLocal s { s with clk := { s.clk with localNs := l, boundary := b, established := false } } :=
  ⟨rfl, rfl, rfl, rfl, fun _ => rfl, rfl, rfl, rfl, rfl⟩

theorem loadLocal_setsLocal (s : State) : SetsLocal s s.loadLocal := withLocal_setsLocal s _ _

section
variable {v : State}

theorem SetsLocal.rest (h : SetsLocal s v) : BootOnly s v := by
  unfold BootOnly
  rw [h.eq]

theorem SetsLocal.runsSlot_boots (h : SetsLocal s v) (hclk : v.clk = s.loadLocal.clk) (i : Nat) : Boots s (v.runsSlot i) := by
  obtain ⟨-, -, hreleased, -, hawait⟩ := runs_keeps v.hoop v.now i
  exact ⟨h.rest.trans rfl, hclk, hawait.trans (congrArg Hoop.awaitRef h.hoop), hreleased.trans h.now⟩

end

/-- A record changes nothing that the boot ROM has set. -/
theorem Boots.record (h : Boots s u) (c o : Nat) (a : List Nat) : Boots s (u.record c o a) := by
  obtain ⟨m, l, n, hh⟩ := record_hoop u c o a
  have honly := record_onlyHoop u c o a
  generalize u.record c o a = v at hh honly
  exact ⟨h.rest.trans honly.bootOnly, (congrArg State.clk honly).trans h.clk, (congrArg Hoop.awaitRef hh).trans h.awaitRef,
    (congrArg Hoop.releasedAt hh).trans h.releasedAt⟩

/-- The state in which no slot runs, before the interrupt that says so. -/
def State.panicking (s : State) : State :=
  { s with
    hoop := (s.hoop.released s.now).configured []
    hif := { s.hif with hoopState := 0, panic := true, panicCode := Config.freeNat s.free % m32 }, free := s.free + 1 }

theorem SetsLocal.panicking_boots {v : State} (h : SetsLocal s v) (hclk : v.clk = s.loadLocal.clk) : Boots s v.panicking := by
  obtain ⟨hreleased, -, hawait⟩ := configured_released v.hoop v.now []
  exact ⟨h.rest.trans rfl, hclk, hawait.trans (congrArg Hoop.awaitRef h.hoop), hreleased.trans h.now⟩

/-- An interrupt changes nothing that the boot ROM has set. -/
theorem Boots.raiseIrq (h : Boots s u) (c : Nat) : Boots s (u.raiseIrq c) := by
  have hhoop := raiseIrq_hoop u c
  have hclk := (raiseIrq_delivers u c).clk_eq
  have honly := raiseIrq_bootOnly u c
  generalize u.raiseIrq c = v at hhoop hclk honly
  exact ⟨h.rest.trans honly, hclk.trans h.clk, (congrArg Hoop.awaitRef hhoop).trans h.awaitRef,
    (congrArg Hoop.releasedAt hhoop).trans h.releasedAt⟩

theorem panics_hif : (s.panicking.raiseIrq 9).hif.hoopState = 0 ∧ (s.panicking.raiseIrq 9).hif.panic = true :=
  have h := raiseIrq_mode s.panicking 9
  ⟨(congrArg Hif.hoopState h :), (congrArg Hif.panic h :)⟩

/-- The boot ROM once local time is loaded: the slot named runs, or the other with a record, or none. -/
def State.bootRom (s : State) : State :=
  let named := s.hoop.bootSlot
  let slot := if s.slotOk named then named else 1 - named
  let bad := s.hoop.slots.getD named {}
  if s.slotOk named || s.slotOk (1 - named) then
    (s.runsSlot slot).when (slot ≠ named) (·.record 0x0A03 0 [named, bad.version, bad.arb])
  else s.panicking.raiseIrq 9

theorem boot_eq (b : Bool) : s.boot b = (s.trialEnds b).loadLocal.bootRom := by
  unfold State.boot State.trialEnds
  generalize (if b = true then s.failTrial 3 else s).loadLocal = v
  unfold State.bootRom
  refine if_congr Iff.rfl ?_ ?_
  · rfl
  · rfl

theorem bootRom_named (h : s.slotOk s.hoop.bootSlot = true) : s.bootRom = s.runsSlot s.hoop.bootSlot := by
  unfold State.bootRom State.when
  simp only [h, if_true, Bool.true_or, ne_eq, not_true, decide_false, Bool.false_eq_true, if_false]

theorem bootRom_other (hbad : s.slotOk s.hoop.bootSlot = false) (hok : s.slotOk (1 - s.hoop.bootSlot) = true) :
    ∃ a, s.bootRom = (s.runsSlot (1 - s.hoop.bootSlot)).record 0x0A03 0 a := by
  have hne : 1 - s.hoop.bootSlot ≠ s.hoop.bootSlot := fun heq => by
    rw [heq, hbad] at hok
    cases hok
  unfold State.bootRom State.when
  simp only [hbad, hok, hne, Bool.false_or, Bool.false_eq_true, if_false, if_true, ne_eq, not_false_eq_true, decide_true]
  exact ⟨_, rfl⟩

theorem bootRom_panics (hbad : s.slotOk s.hoop.bootSlot = false) (hother : s.slotOk (1 - s.hoop.bootSlot) = false) :
    s.bootRom = s.panicking.raiseIrq 9 := by
  unfold State.bootRom
  simp only [hbad, hother, Bool.or_false, Bool.false_eq_true, if_false]

theorem SetsLocal.bootRom_boots {v : State} (h : SetsLocal s v) (hclk : v.clk = s.loadLocal.clk) : Boots s v.bootRom := by
  cases hnamed : v.slotOk v.hoop.bootSlot with
  | true => exact bootRom_named hnamed ▸ h.runsSlot_boots hclk _
  | false =>
    cases hother : v.slotOk (1 - v.hoop.bootSlot) with
    | true =>
      obtain ⟨a, ha⟩ := bootRom_other hnamed hother
      exact ha ▸ (h.runsSlot_boots hclk _).record _ _ _
    | false => exact bootRom_panics hnamed hother ▸ (h.panicking_boots hclk).raiseIrq 9

theorem OnlyHoop.loadLocal_clk (h : OnlyHoop s u) : u.loadLocal.clk = s.loadLocal.clk := by
  have hclk : u.clk = s.clk := by rw [h]
  unfold State.loadLocal State.rtc
  rw [hclk]

/-- What the boot ROM leaves, with or without a trial that has failed. -/
theorem boot_boots (b : Bool) : Boots s (s.boot b) := by
  have honly := trialEnds_onlyHoop (s := s) b
  have hboot := (loadLocal_setsLocal (s.trialEnds b)).bootRom_boots rfl
  rw [← boot_eq] at hboot
  refine ⟨honly.bootOnly.trans hboot.rest, hboot.clk.trans ?_, hboot.awaitRef.trans (trialEnds_awaitRef b),
    hboot.releasedAt.trans honly.now_eq⟩
  exact honly.loadLocal_clk

theorem boot_named (h : s.slotOk s.hoop.bootSlot = true) : s.boot false = s.loadLocal.runsSlot s.hoop.bootSlot := by
  have hs := loadLocal_setsLocal s
  have hok : s.loadLocal.slotOk s.loadLocal.hoop.bootSlot = true := by rw [hs.hoop, hs.slots, h]
  rw [boot_eq, show s.trialEnds false = s from rfl, bootRom_named hok, hs.hoop]

/-- The slot that is not named runs where the one named cannot. -/
theorem boot_other (hbad : s.slotOk s.hoop.bootSlot = false) (hok : s.slotOk (1 - s.hoop.bootSlot) = true) :
    (s.boot false).hif.hoopState = 1 ∧ (s.boot false).hoop.running = 1 - s.hoop.bootSlot := by
  have hs := loadLocal_setsLocal s
  obtain ⟨a, ha⟩ := bootRom_other (s := s.loadLocal) (by rw [hs.hoop, hs.slots, hbad]) (by rw [hs.hoop, hs.slots, hok])
  have honly := record_onlyHoop (s.loadLocal.runsSlot (1 - s.loadLocal.hoop.bootSlot)) 0x0A03 0 a
  obtain ⟨m, l, n, hh⟩ := record_hoop (s.loadLocal.runsSlot (1 - s.loadLocal.hoop.bootSlot)) 0x0A03 0 a
  rw [← ha] at honly hh
  rw [boot_eq, show s.trialEnds false = s from rfl]
  refine ⟨(congrArg (·.hif.hoopState) honly).trans rfl, (congrArg Hoop.running hh).trans ?_⟩
  exact congrArg (fun h : Hoop => 1 - h.bootSlot) hs.hoop

/-- No slot runs where none can. -/
theorem boot_panics (hbad : s.slotOk s.hoop.bootSlot = false) (hother : s.slotOk (1 - s.hoop.bootSlot) = false) :
    (s.boot false).hif.hoopState = 0 ∧ (s.boot false).hif.panic = true := by
  have hs := loadLocal_setsLocal s
  rw [boot_eq, show s.trialEnds false = s from rfl,
    bootRom_panics (s := s.loadLocal) (by rw [hs.hoop, hs.slots, hbad]) (by rw [hs.hoop, hs.slots, hother])]
  exact panics_hif

/-! ### The release of PORST_B (R497) -/

/-- The electrodes start as R461 says. -/
def State.powerUpTouch (s : State) (ref : List (Option Nat)) : State :=
  s.modIo fun x => { x with electrodes := x.electrodes.mapIdx fun i e => e.powerUp (ref.getD i none) }

/-- PORST_B is low: the Hoop is down, has not panicked and does not wait for REFCLK. -/
structure UnderPorst (s : State) : Prop where
  down : s.hif.hoopState = 0
  quiet : s.hif.panic = false
  free : s.hoop.awaitRef = false

theorem UnderPorst.test (h : UnderPorst s) : ¬(s.hif.hoopState ≠ 0 || s.hif.panic || s.hoop.awaitRef) = true := by
  simp [h.down, h.quiet, h.free]

theorem porstRelease_boots (h : UnderPorst s) (href : s.clk.refLost = false) :
    porstRelease s = (s.boot false).powerUpTouch s.hoop.otp.touchRef := by
  refine (if_neg h.test).trans ?_
  rw [href]
  rfl

theorem porstRelease_waits (h : UnderPorst s) (href : s.clk.refLost = true) :
    porstRelease s = (s.modHoop fun h => { h with awaitRef := true }).powerUpTouch s.hoop.otp.touchRef := by
  refine (if_neg h.test).trans ?_
  rw [href]
  rfl

/-- `u` differs from `s` at most in the host interface, the clock, the Hoop and the console. -/
def StartOnly (s u : State) : Prop := u = { s with hif := u.hif, clk := u.clk, hoop := u.hoop, io := u.io }

theorem StartOnly.trans {v : State} (h1 : StartOnly s u) (h2 : StartOnly u v) : StartOnly s v := by
  unfold StartOnly at *
  rw [h2, h1]

theorem SetsLocal.startOnly (h : SetsLocal s u) : StartOnly s u := by
  unfold StartOnly
  rw [h.eq]

theorem runsSlot_startOnly (s : State) (i : Nat) : StartOnly s (s.runsSlot i) := rfl

theorem powerUpTouch_startOnly (s : State) (ref : List (Option Nat)) : StartOnly s (s.powerUpTouch ref) := rfl

/-- What the start of slot `i` after the release of PORST_B leaves. -/
theorem startSlot_startOnly (i : Nat) (ref : List (Option Nat)) : StartOnly s ((s.loadLocal.runsSlot i).powerUpTouch ref) :=
  (loadLocal_setsLocal s).startOnly.trans ((runsSlot_startOnly _ i).trans (powerUpTouch_startOnly _ ref))

/-! ### READY (R497-R499) -/

/-- The state in which READY is set. -/
def State.readied (s : State) : State :=
  { s with
    hif := { s.hif with ready := true, hoopState := 2 }
    grd := s.guardPrograms
    ses := { s.ses with
      spiStream := { opened := true }, safetyStream := { opened := true }
      heldEvents := s.ses.heldEvents.map fun e => { e with stitch := s.stitch32 }
      heldUntil := s.now + 60 * nsPerSec, heldGivenPcie := false }
    nrg := { s.nrg with lastRail := s.now }
    pwr := { s.pwr with scrubAt := s.now }
    hoop := { s.hoop with
      bobbinOkSince := s.now, trippedReport := none
      sampler := if s.hoop.sampler.st = .frozen && !s.hoop.sampler.copyFailed && s.hoop.flashPresent
        then { s.hoop.sampler with st := .copying } else s.hoop.sampler } }

/-- The state in which the interrupt of READY and the held events have been raised. -/
def State.heldRaised (s : State) : State :=
  (s.readied.raiseIrq 10).forEach (s.ses.heldEvents.map fun e => { e with stitch := s.stitch32 }) fun e s => s.raise e.op e.source e.data

/-- A report of a thermal trip that the reset followed. -/
def State.tripReported (s : State) (r : Option (Nat × Int × Nat)) : State := match r with
  | some (i, mC, n) => s.evtThermal i 7 mC n
  | none => s

/-- Start-up can finish. -/
structure StartsUp (s : State) : Prop where
  starting : s.hif.hoopState = 1
  quiet : s.hif.panic = false
  waiting : s.hif.ready = false
  tested : s.hoop.bist.diePending = false
  clocked : s.clk.refLost = false

theorem deviceReady_readies (h : StartsUp s) : deviceReady s = s.heldRaised.tripReported s.hoop.trippedReport := by
  refine (if_neg (by simp [h.starting, h.quiet, h.waiting, h.tested, h.clocked])).trans ?_
  rfl

theorem raiseHeld_delivers (s : State) (c : Nat) (l : List Event) :
    Delivers s ((s.raiseIrq c).forEach l fun e s => s.raise e.op e.source e.data) ∧
      ((s.raiseIrq c).forEach l fun e s => s.raise e.op e.source e.data).hif.mode = s.hif.mode := by
  constructor
  · refine (raiseIrq_delivers s c).trans (Delivers.forEach (fun e u => ?_) l _)
    exact raise_delivers u e.op e.source e.data
  · refine (forEach_mode _ (fun e u => ?_) l).trans (raiseIrq_mode s c)
    exact raise_mode u e.op e.source e.data

theorem heldRaised_delivers : Delivers s.readied s.heldRaised ∧ s.heldRaised.hif.mode = s.readied.hif.mode :=
  raiseHeld_delivers s.readied 10 _

theorem heldRaised_none (h : s.ses.heldEvents = []) : s.heldRaised = s.readied.raiseIrq 10 := by
  unfold State.heldRaised
  rw [h]
  rfl

theorem tripReported_delivers (r : Option (Nat × Int × Nat)) : Delivers s (s.tripReported r) ∧ (s.tripReported r).hif.mode = s.hif.mode := by
  unfold State.tripReported
  cases r with
  | none => exact ⟨Delivers.refl s, rfl⟩
  | some x => exact ⟨raiseOnce_delivers _ _ _ _ _, raiseOnce_mode _ _ _ _ _⟩

theorem raiseIrq_sets (c : Nat) : (s.raiseIrq c).hif.irqStatus.testBit c = true := by
  have hset : (s.hif.irqStatus ||| 2 ^ c).testBit c = true := by
    rw [Nat.testBit_or, Nat.testBit_two_pow_self, Bool.or_true]
  unfold State.raiseIrq
  split
  · assumption
  · dsimp only
    split <;> exact hset

theorem warmReset_coincides (hst : s.hif.hoopState = 1) (hat : s.hoop.releasedAt = s.now) : warmReset s = s :=
  if_pos (by simp [hst, hat])

end

/-! ### The rows -/

theorem exec_clockMonitorFinding (t input kind freq : Nat) (s : State) :
    exec (.clockMonitorFinding t input kind freq) s = .next (settle (clockFinding input kind freq (s.tick t))) := rfl
theorem exec_clockGoodAgain (t input : Nat) (s : State) :
    exec (.clockGoodAgain t input) s = .next (settle (clockGood input (s.tick t))) := rfl
theorem exec_clockFaultBanner (t : Nat) (s : State) : exec (.clockFaultBanner t) s = .next (settle (clockBanner (s.tick t))) := rfl
theorem exec_refclkRecoveryEnd (t : Nat) (s : State) : exec (.refclkRecoveryEnd t) s = .next (settle (refclkRecovery (s.tick t))) := rfl
theorem exec_porstRelease (t : Nat) (s : State) : exec (.porstRelease t) s = .next (settle (porstRelease (s.tick t))) := rfl
theorem exec_deviceReady (t : Nat) (s : State) : exec (.deviceReady t) s = .next (settle (deviceReady (s.tick t))) := rfl

/-- Settles O41: findings and READY from their meanings, the resets from what the boot ROM leaves. -/
theorem clockAndResetEvents : Obligations.ClockAndResetEvents := by
  unfold Obligations.ClockAndResetEvents
  refine ⟨?finding, ?good, ?banner, ?recovery, ?porst, ?fallback, ?release, ?lost, ?coincide, ?warm, ?ready⟩
  case finding =>
    rintro t input kind freq s0 s s1 rfl hw hlo hhi rfl
    rw [exec_clockMonitorFinding, clockFinding_acts hw hlo hhi]
    refine ⟨?_, ?_, ?_, ?_, ?_⟩
    · rintro rfl
      rfl
    · rintro rfl
      rfl
    · rintro rfl
      rfl
    · intro hinput
      rw [actOnFinding_audio (by omega), if_neg (by omega)]
      simp only [Bool.and_assoc]
      rfl
    · intro hinput
      rw [actOnFinding_audio (by omega), if_pos hinput]
      rfl
  case good =>
    rintro t input s0 s f s1 rfl hf hold rfl
    rw [exec_clockGoodAgain, clockGood_due hf hold]
    refine ⟨?_, ?_, ?_, ?_⟩
    · rintro rfl hfree
      exact congrArg (fun u => Host.Outcome.next (settle u)) (if_neg (Bool.eq_false_iff.1 hfree))
    · rintro rfl hawait
      have hb := boot_boots (s := ((s0.tick t).dropFinding 0).regainRef.modHoop fun h => { h with awaitRef := false }) false
      have hs := loadLocal_setsLocal (((s0.tick t).dropFinding 0).regainRef.modHoop fun h => { h with awaitRef := false })
      exact ⟨_, congrArg (fun u => Host.Outcome.next (settle u)) (if_pos hawait), hb.awaitRef, hb.releasedAt,
        (congrArg Clk.refLost hb.clk).trans hs.refLost, (congrArg Clk.established hb.clk).trans hs.established⟩
    · rintro rfl
      rfl
    · intro h0 h2
      rw [actOnGood_other h0 h2]
      rfl
  case banner =>
    rintro t s0 s rfl hlost hold
    rw [exec_clockFaultBanner, clockBanner_due hlost hold]
  case recovery =>
    rintro t s0 s since rfl hgood hold
    rw [exec_refclkRecoveryEnd, refclkRecovery_due hgood hold]
  case porst =>
    rintro t s0 s u rfl rfl
    rw [exec_porstAssert]
    rfl
  case fallback =>
    rintro t s0 s rfl hdown hquiet hfree href hbad
    refine ⟨((s0.tick t).boot false).powerUpTouch (s0.tick t).hoop.otp.touchRef, ?_, boot_other hbad, boot_panics hbad⟩
    rw [exec_porstRelease, porstRelease_boots ⟨hdown, hquiet, hfree⟩ href]
  case release =>
    rintro t s0 s rfl hdown hquiet hfree href hok
    have hs := loadLocal_setsLocal (s0.tick t)
    obtain ⟨hrun, hfw, hreleased, hdebug, -⟩ := runs_keeps (s0.tick t).loadLocal.hoop (s0.tick t).loadLocal.now (s0.tick t).hoop.bootSlot
    refine ⟨_, by rw [exec_porstRelease, porstRelease_boots ⟨hdown, hquiet, hfree⟩ href, boot_named hok], ?_, rfl, hrun,
      hfw.trans ?_, hreleased.trans hs.now, hdebug.trans ?_, ?_, startSlot_startOnly _ _⟩
    · exact congrArg (fun h : Hif => { h with hoopState := 1 }) hs.hif
    · exact congrArg (fun h : Hoop => (h.slots.getD (s0.tick t).hoop.bootSlot {}).version) hs.hoop
    · exact congrArg (fun h : Hoop => decide (h.otp.lifecycle ≠ 1)) hs.hoop
    · exact congrArg (fun x : Io => { x with
        electrodes := x.electrodes.mapIdx fun i (e : Electrode) => e.powerUp ((s0.tick t).hoop.otp.touchRef.getD i none) }) hs.io
  case lost =>
    rintro t s0 s rfl hdown hquiet hfree href
    rw [exec_porstRelease, porstRelease_waits ⟨hdown, hquiet, hfree⟩ href]
    rfl
  case coincide =>
    rintro t s0 s rfl hst hat
    rw [exec_warmReset, warmReset_coincides hst hat]
  case warm =>
    rintro t s0 s rfl hup hfirst
    have hb := boot_boots (s := (s0.tick t).sysKeeps) ((s0.tick t).hoop.upd.st = .trial)
    have hs := loadLocal_setsLocal (s0.tick t).sysKeeps
    have hrest := hb.rest
    refine ⟨_, by rw [exec_warmReset, warmReset_boots hup hfirst], (congrArg Clk.stitch hb.clk).trans hs.stitch,
      (congrArg Clk.elapsed hb.clk).trans hs.now, (congrArg Clk.established hb.clk).trans hs.established, ?_⟩
    generalize (s0.tick t).sysKeeps.boot _ = u at hrest
    rw [hrest]
    exact ⟨rfl, rfl, rfl, rfl, rfl, rfl, rfl, rfl, rfl⟩
  case ready =>
    rintro t s0 s rfl hst hquiet hready hdie href
    have hheld := heldRaised_delivers (s := s0.tick t)
    have htrip := tripReported_delivers (s := (s0.tick t).heldRaised) (s0.tick t).hoop.trippedReport
    have hd := hheld.1.trans htrip.1
    have hmode := htrip.2.trans hheld.2
    refine ⟨_, by rw [exec_deviceReady, deviceReady_readies ⟨hst, hquiet, hready, hdie, href⟩], ready_of_mode hmode,
      hoopState_of_mode hmode, hd.clk_eq, hd.lay_eq, hd.heads_eq, hd.mem_eq, fun hnone htripped => ?_⟩
    have hraised : (s0.tick t).heldRaised.tripReported (s0.tick t).hoop.trippedReport = (s0.tick t).readied.raiseIrq 10 := by
      rw [htripped]
      exact heldRaised_none hnone
    have hses : ((s0.tick t).readied.raiseIrq 10).ses = (s0.tick t).readied.ses := by rw [raiseIrq_bootOnly (s0.tick t).readied 10]
    rw [hraised, hses]
    exact ⟨raiseIrq_sets 10, rfl, rfl, rfl⟩

end Sys2Proof.Machine
end
